-- ==== Sys2Proof/Word.lean ====
section
/-! DEFINITION. The word types of the block and their plainest arithmetic.
The spec's machine words: bytes, 32-bit lanes, 64-bit scalar words; see 00 R7 and 03 R55. -/

namespace Sys2Proof

/-- One byte (00 R7). -/
abbrev Byte := BitVec 8

/-- One vector lane (03 Table 3-1). -/
abbrev Lane := BitVec 32

/-- One 64-bit word: a scalar register, a predicate, a CCB register. -/
abbrev Word := BitVec 64

/-- Bits [55:0] of an instruction word: everything but the opcode (06 R162). -/
abbrev Low56 := BitVec 56

/-- A program counter: bits [21:3] of an offset in the core's own local SRAM (03 Table 3-13). -/
abbrev Pc := BitVec 19

end Sys2Proof
end

