-- ==== Sys2Proof/Syntax.lean ====
section
/-! DEFINITION. The commands of the block: one constructor for each row of spec/opcode_table.json, with its operands.
An instruction of a core is the command "context `c` issues this instruction": the constructor gives the opcode and
`w` gives bits [55:0] of the word (06 R162), so reserved fields, the predicate header and every operand are there. -/

namespace Sys2Proof

/-- A logical core of a compute die (01 R24, R26). -/
structure CoreId where
  die : Fin 48
  core : Fin 256
  deriving DecidableEq, Repr

/-- A context of a logical core (03 R55). -/
structure CtxId where
  die : Fin 48
  core : Fin 256
  ctx : Fin 2
  deriving DecidableEq, Repr

/-- The key of a core: die * 256 + logical core, the module-wide logical core number (R26). -/
def CoreId.key (k : CoreId) : Nat := k.die.val * 256 + k.core.val

def CtxId.key (c : CtxId) : Nat := c.die.val * 256 + c.core.val

def CtxId.coreId (c : CtxId) : CoreId := ⟨c.die, c.core⟩

/-- Who makes an access that is not an instruction's own: a program in context `c`, the host, or the die supervisor of die
`d`, 48 the MMC (02 Table 2-4). -/
inductive Requester where
  | prog (c : CtxId)
  | host
  | supervisor (d : Nat)
  deriving DecidableEq, Repr

/-- Who sends a Chabohar message (15 R480, R482): a node of bus A (0) or B (1), a UDP address and port, a PCIe mailbox, or
the MMC behind a Felun port. -/
inductive Client where
  | can (bus node : Nat)
  | udp (addr port : Nat)
  | pcie (mailbox : Nat)
  | felun (port : Nat)
  deriving DecidableEq, Repr

/-- What a CAN port measures (21 R638): the levels of an idle bus in mV; the dominant differential of a frame of its own;
the lowest and highest differential on a falling edge of bus traffic. -/
inductive CanMeasure where
  | levels (canh canl : Int)
  | dominant (mv : Int)
  | edge (low high : Int)
  deriving DecidableEq, Repr

/-- What the voters of a unit read in a start (17 R550): its own supervisor, then the voters facing N, E, S, W, in the first
test and in the retest. A verdict is the list of defects it holds, as locators, empty for pass; `none` is no reading. -/
structure UnitTest where
  unit : Word
  first : List (Option (List Word))
  again : List (Option (List Word))
  deriving DecidableEq, Repr

/-- What the margin sweep found for a region (17 R554): H at 1.20 and 1.45 GHz in mV, the highest clock in MHz whose step 0
passed (1,200 when none did), and whether step 0 failed at 1.20 GHz. -/
structure Margin where
  region : Fin 192
  h120 : Nat
  h145 : Nat
  ceiling : Nat
  step0 : Bool
  deriving DecidableEq, Repr

/-- What the host returned for a page of the host pool (08 R268): its 262,144 payload bytes and 8,192 scale bytes, empty while they have
not come, and the granules of them that came as poison. -/
structure HostPage where
  bytes : List (BitVec 8)
  bad : List Nat
  deriving DecidableEq, Repr

/-- What the physical world gives a start (17): the phase it has reached when the command ends; whether power came on anew and
whether it returned after a shutdown; three samples of the place pins; the feeds that qualified; whether the calendar
survived and the retained store passes its CRC; how each slot's flash pages read (0 at once, 1 at the second read, 2 not at
all); the fuse bits that do not blow; dies that fail by measurement, with reason and phase; die-to-die lanes that fail to
train; the tested units that did not pass at once with every voter; the stopped cores that fail a re-test; the sweep of the
regions that did not pass every step; and the dies whose field map reads bad in both copies. -/
structure StartIn where
  last : Fin 9
  power : Bool
  returned : Bool
  pins : List (BitVec 20)
  feeds : BitVec 8
  calKept : Bool
  retained : Bool
  pages : List Nat
  unblown : BitVec 64
  dead : List (Fin 48 × Nat × Word × Nat)
  lanes : List Word
  units : List UnitTest
  fails : List (Nat × Nat)
  margins : List Margin
  mapLost : List (Fin 48)
  deriving DecidableEq, Repr

/-- The commands, in the order of spec/opcode_table.json. -/
inductive Instr where
  /-- NOP (R178): The context issues an instruction with no effect. -/
  | nop (c : CtxId) (w : Low56)
  /-- FENCE (R71): The context stops issuing until the conditions selected by the scope mask hold; with mask bit 3 it returns the remote-error count. -/
  | fence (c : CtxId) (w : Low56)
  /-- FENCE_COMPLETE (R190): The conditions of a waiting FENCE come to hold; the FENCE completes and the context leaves Waiting. -/
  | fenceComplete (c : CtxId)
  /-- ISYNC (R64): The context waits for its earlier stores to be written, then invalidates the instruction buffer. -/
  | isync (c : CtxId) (w : Low56)
  /-- TRAP (R73): The context raises the trap exception, cause 0x0A. -/
  | trap (c : CtxId) (w : Low56)
  /-- ERET (R74): The handler clears INH and continues at the address held in a register. -/
  | eret (c : CtxId) (w : Low56)
  /-- HALT (R178): The context completes its earlier work and enters Halted, with CTX_PC at the next word. -/
  | halt (c : CtxId) (w : Low56)
  /-- RDGTC (R178): The die's GTC value is read into a register. -/
  | rdgtc (c : CtxId) (w : Low56)
  /-- RDID (R178): The place, die, logical core and context are read into a register. -/
  | rdid (c : CtxId) (w : Low56)
  /-- ADD (R178): Scalar add modulo 2^64. -/
  | add (c : CtxId) (w : Low56)
  /-- SUB (R178): Scalar subtract modulo 2^64. -/
  | sub (c : CtxId) (w : Low56)
  /-- MUL (R178): Low 64 bits of the scalar product. -/
  | mul (c : CtxId) (w : Low56)
  /-- MULHU (R178): High 64 bits of the unsigned scalar product. -/
  | mulhu (c : CtxId) (w : Low56)
  /-- DIVU (R178): Unsigned scalar divide in the core's one divider. -/
  | divu (c : CtxId) (w : Low56)
  /-- DIVS (R178): Signed scalar divide, rounding toward zero. -/
  | divs (c : CtxId) (w : Low56)
  /-- REMU (R178): Unsigned scalar remainder. -/
  | remu (c : CtxId) (w : Low56)
  /-- REMS (R178): Signed scalar remainder, with the sign of ra. -/
  | rems (c : CtxId) (w : Low56)
  /-- AND (R178): Scalar bitwise and. -/
  | and (c : CtxId) (w : Low56)
  /-- OR (R178): Scalar bitwise or. -/
  | or (c : CtxId) (w : Low56)
  /-- XOR (R178): Scalar bitwise exclusive or. -/
  | xor (c : CtxId) (w : Low56)
  /-- SHL (R178): Scalar shift left by a register amount. -/
  | shl (c : CtxId) (w : Low56)
  /-- SHR (R178): Scalar logical shift right by a register amount. -/
  | shr (c : CtxId) (w : Low56)
  /-- SRA (R178): Scalar arithmetic shift right by a register amount. -/
  | sra (c : CtxId) (w : Low56)
  /-- MIN (R178): Signed scalar minimum. -/
  | min (c : CtxId) (w : Low56)
  /-- MAX (R178): Signed scalar maximum. -/
  | max (c : CtxId) (w : Low56)
  /-- ADDI (R170): Scalar add of a sign-extended immediate. -/
  | addi (c : CtxId) (w : Low56)
  /-- ANDI (R170): Scalar and with a sign-extended immediate. -/
  | andi (c : CtxId) (w : Low56)
  /-- ORI (R170): Scalar or with a sign-extended immediate. -/
  | ori (c : CtxId) (w : Low56)
  /-- XORI (R170): Scalar exclusive or with a sign-extended immediate. -/
  | xori (c : CtxId) (w : Low56)
  /-- SHLI (R170): Scalar shift left by an immediate amount. -/
  | shli (c : CtxId) (w : Low56)
  /-- SHRI (R170): Scalar logical shift right by an immediate amount. -/
  | shri (c : CtxId) (w : Low56)
  /-- SRAI (R170): Scalar arithmetic shift right by an immediate amount. -/
  | srai (c : CtxId) (w : Low56)
  /-- LIW (R178): A register is loaded with a sign-extended 47-bit immediate. -/
  | liw (c : CtxId) (w : Low56)
  /-- LIP (R178): A place is inserted into bits [63:40] of a register. -/
  | lip (c : CtxId) (w : Low56)
  /-- SEL (R179): One of two registers is selected by a predicate bit. -/
  | sel (c : CtxId) (w : Low56)
  /-- CLZ (R178): Leading zeros of a register are counted. -/
  | clz (c : CtxId) (w : Low56)
  /-- POPC (R178): Ones in a register are counted. -/
  | popc (c : CtxId) (w : Low56)
  /-- MINU (R178): Unsigned scalar minimum. -/
  | minu (c : CtxId) (w : Low56)
  /-- MAXU (R178): Unsigned scalar maximum. -/
  | maxu (c : CtxId) (w : Low56)
  /-- LD (R172): A scalar load of 1, 2, 4 or 8 bytes is made, near or far. -/
  | ld (c : CtxId) (w : Low56)
  /-- ST (R172): A scalar store of 1, 2, 4 or 8 bytes is made, near or far. -/
  | st (c : CtxId) (w : Low56)
  /-- LDP (R178): A predicate is loaded from local SRAM. -/
  | ldp (c : CtxId) (w : Low56)
  /-- STP (R178): A predicate is stored to local SRAM. -/
  | stp (c : CtxId) (w : Low56)
  /-- VLD (R148): A 256-byte vector load with its poison bits. -/
  | vld (c : CtxId) (w : Low56)
  /-- VST (R167): A 256-byte vector store of the enabled lanes. -/
  | vst (c : CtxId) (w : Low56)
  /-- J (R180): An unconditional branch. -/
  | j (c : CtxId) (w : Low56)
  /-- JAL (R180): A branch that saves the return offset. -/
  | jal (c : CtxId) (w : Low56)
  /-- JR (R180): A branch to a register target. -/
  | jr (c : CtxId) (w : Low56)
  /-- JALR (R180): A branch to a register target that saves the return offset. -/
  | jalr (c : CtxId) (w : Low56)
  /-- BC (R180): A conditional branch on the comparison of two registers. -/
  | bc (c : CtxId) (w : Low56)
  /-- PCMP (R181): A predicate is set from the comparison of two registers. -/
  | pcmp (c : CtxId) (w : Low56)
  /-- PCMPI (R181): A predicate is set from the comparison of a register with an immediate. -/
  | pcmpi (c : CtxId) (w : Low56)
  /-- PAND (R178): Predicate and. -/
  | pand (c : CtxId) (w : Low56)
  /-- POR (R178): Predicate or. -/
  | por (c : CtxId) (w : Low56)
  /-- PXOR (R178): Predicate exclusive or. -/
  | pxor (c : CtxId) (w : Low56)
  /-- PANDN (R178): Predicate and-not. -/
  | pandn (c : CtxId) (w : Low56)
  /-- PFROMG (R178): A predicate is copied from a scalar register. -/
  | pfromg (c : CtxId) (w : Low56)
  /-- PTOG (R178): A predicate is copied to a scalar register. -/
  | ptog (c : CtxId) (w : Low56)
  /-- PCNT (R178): The ones of a predicate are counted. -/
  | pcnt (c : CtxId) (w : Low56)
  /-- PFIRST (R178): The index of the lowest set bit of a predicate is found. -/
  | pfirst (c : CtxId) (w : Low56)
  /-- VADD (R103): Vector floating-point add. -/
  | vadd (c : CtxId) (w : Low56)
  /-- VSUB (R103): Vector floating-point subtract. -/
  | vsub (c : CtxId) (w : Low56)
  /-- VMUL (R103): Vector floating-point multiply. -/
  | vmul (c : CtxId) (w : Low56)
  /-- VFMA (R103): Vector fused multiply-add. -/
  | vfma (c : CtxId) (w : Low56)
  /-- VMIN (R103): Vector floating-point minimum. -/
  | vmin (c : CtxId) (w : Low56)
  /-- VMAX (R103): Vector floating-point maximum. -/
  | vmax (c : CtxId) (w : Low56)
  /-- VIADD (R178): Vector INT32 add, wrapping or saturating. -/
  | viadd (c : CtxId) (w : Low56)
  /-- VISUB (R178): Vector INT32 subtract, wrapping or saturating. -/
  | visub (c : CtxId) (w : Low56)
  /-- VAND (R178): Vector bitwise and. -/
  | vand (c : CtxId) (w : Low56)
  /-- VOR (R178): Vector bitwise or. -/
  | vor (c : CtxId) (w : Low56)
  /-- VXOR (R178): Vector bitwise exclusive or. -/
  | vxor (c : CtxId) (w : Low56)
  /-- VSHL (R178): Vector shift left. -/
  | vshl (c : CtxId) (w : Low56)
  /-- VSHR (R178): Vector logical shift right. -/
  | vshr (c : CtxId) (w : Low56)
  /-- VSRA (R178): Vector arithmetic shift right. -/
  | vsra (c : CtxId) (w : Low56)
  /-- VBADD (R152): Vector bore-24 lane add, clipping on overflow. -/
  | vbadd (c : CtxId) (w : Low56)
  /-- VFCMP (R181): Vector FP32 compare into a predicate. -/
  | vfcmp (c : CtxId) (w : Low56)
  /-- VICMP (R181): Vector INT32 compare into a predicate. -/
  | vicmp (c : CtxId) (w : Low56)
  /-- VSEL (R178): Vector select by a predicate. -/
  | vsel (c : CtxId) (w : Low56)
  /-- VCVT (R184): Vector conversion between formats, with scales or exponent bytes taken from or written to a scalar register. -/
  | vcvt (c : CtxId) (w : Low56)
  /-- VPACK (R153): Two FP32 registers are packed as a 16-bit row pair. -/
  | vpack (c : CtxId) (w : Low56)
  /-- VMOV (R178): Vector copy. -/
  | vmov (c : CtxId) (w : Low56)
  /-- VBCAST (R178): One lane is broadcast to every lane. -/
  | vbcast (c : CtxId) (w : Low56)
  /-- VSPLAT (R178): A scalar is broadcast to every lane. -/
  | vsplat (c : CtxId) (w : Low56)
  /-- VSEGB (R178): One lane is broadcast within each segment. -/
  | vsegb (c : CtxId) (w : Low56)
  /-- VPERM (R178): A fixed permutation of lanes, chosen by the selector. -/
  | vperm (c : CtxId) (w : Low56)
  /-- VEXT (R178): One lane is extracted to a scalar register. -/
  | vext (c : CtxId) (w : Low56)
  /-- VINS (R161): A scalar is inserted into one lane. -/
  | vins (c : CtxId) (w : Low56)
  /-- VSMPL (R158): A sample is drawn by prefix sums against a threshold. -/
  | vsmpl (c : CtxId) (w : Low56)
  /-- VBEXP (R124): Block exponent bytes are formed into a scalar register. -/
  | vbexp (c : CtxId) (w : Low56)
  /-- VRSUM (R150): Full or segment sum over the fixed tree. -/
  | vrsum (c : CtxId) (w : Low56)
  /-- VRMAX (R150): Full or segment maximum. -/
  | vrmax (c : CtxId) (w : Low56)
  /-- VRMIN (R150): Full or segment minimum. -/
  | vrmin (c : CtxId) (w : Low56)
  /-- VEXP2 (R151): Vector exp2. -/
  | vexp2 (c : CtxId) (w : Low56)
  /-- VLOG2 (R151): Vector log2. -/
  | vlog2 (c : CtxId) (w : Low56)
  /-- VRCP (R151): Vector reciprocal. -/
  | vrcp (c : CtxId) (w : Low56)
  /-- VRSQ (R151): Vector reciprocal square root. -/
  | vrsq (c : CtxId) (w : Low56)
  /-- VSEGMAX (R155): The pending segment maximum of online softmax is updated. -/
  | vsegmax (c : CtxId) (w : Low56)
  /-- VOSMC (R155): The softmax correction is applied and the running maximum is advanced. -/
  | vosmc (c : CtxId) (w : Low56)
  /-- VOSM (R155): Softmax probabilities are formed and the running sum is updated. -/
  | vosm (c : CtxId) (w : Low56)
  /-- VTOPK (R156): The k largest lanes are selected with their indices. -/
  | vtopk (c : CtxId) (w : Low56)
  /-- VTOPKM (R156): Two top-k registers are merged. -/
  | vtopkm (c : CtxId) (w : Low56)
  /-- VRNDU (R157): Random U32 values are drawn from the Philox generator. -/
  | vrndu (c : CtxId) (w : Low56)
  /-- VRNDF (R157): Random FP32 values in (0, 1] are drawn. -/
  | vrndf (c : CtxId) (w : Low56)
  /-- VRNDM (R157): A random predicate mask is drawn against a threshold. -/
  | vrndm (c : CtxId) (w : Low56)
  /-- VECTOR_COMPLETE (R149): A vector instruction writes its result after its latency and raises its flags. -/
  | vectorComplete (c : CtxId) (n : Nat)
  /-- MMA (R136): A normal-mode multiply-accumulate operation is queued on an engine. -/
  | mma (c : CtxId) (w : Low56)
  /-- MMX (R144): An exact-mode multiply-accumulate into a long-bore block is queued. -/
  | mmx (c : CtxId) (w : Low56)
  /-- LBM (R145): A long-bore merge is queued. -/
  | lbm (c : CtxId) (w : Low56)
  /-- LBR (R146): A long-bore readout into an FP32 tile is queued. -/
  | lbr (c : CtxId) (w : Low56)
  /-- TZ (R133): A clear of 1 to 3 tiles is queued. -/
  | tz (c : CtxId) (w : Low56)
  /-- LBTR (R186): The tag word of a tile is read into a scalar register once the tile is free. -/
  | lbtr (c : CtxId) (w : Low56)
  /-- LBTW (R186): The tag word of a tile is written from a scalar register once the tile is free. -/
  | lbtw (c : CtxId) (w : Low56)
  /-- ENGINE_OP_START (R61): At an operation boundary the engine chooses a ready queue head and starts it, or discards a head that can never become ready with a stream fault. -/
  | engineOpStart (k : CoreId) (e : Fin 4)
  /-- ENGINE_OP_WRITE (R133): An engine operation writes the last element of its destination and raises its flags. -/
  | engineOpWrite (k : CoreId) (e : Fin 4)
  /-- SARM (R200): A stream slot is armed from a descriptor, or the descriptor is refused. -/
  | sarm (c : CtxId) (w : Low56)
  /-- SRARM (R221): A drone stream queues one further pass with new bases. -/
  | srarm (c : CtxId) (w : Low56)
  /-- SCLOSE (R223): A stream is closed and its state discarded. -/
  | sclose (c : CtxId) (w : Low56)
  /-- SHEAD (R209): The program takes the head tile or a free position of a slot, stalling until one exists. -/
  | shead (c : CtxId) (w : Low56)
  /-- SREL (R209): Held tiles are handed back to a stream. -/
  | srel (c : CtxId) (w : Low56)
  /-- SSTAT (R178): The status word of a slot is returned. -/
  | sstat (c : CtxId) (w : Low56)
  /-- SWAIT (R210): The context stalls until every transfer the slot has issued has completed. -/
  | swait (c : CtxId) (w : Low56)
  /-- VOPEN (R72): A valve of the own core is opened with release semantics. -/
  | vopen (c : CtxId) (w : Low56)
  /-- VCLOSE (R278): A valve of the own core is closed. -/
  | vclose (c : CtxId) (w : Low56)
  /-- VWAIT (R279): The context waits for a valve to open, closing it at the wake when C = 1. -/
  | vwait (c : CtxId) (w : Low56)
  /-- VTEST (R178): The state of a valve is read. -/
  | vtest (c : CtxId) (w : Low56)
  /-- VSETR (R282): A remote valve set is queued as a remote write with release semantics. -/
  | vsetr (c : CtxId) (w : Low56)
  /-- HVSET (R288): A host valve is opened, after earlier aperture writes have been posted; MSI-X is sent when NOTIFY is 1. -/
  | hvset (c : CtxId) (w : Low56)
  /-- HVCLR (R287): A host valve is closed. -/
  | hvclr (c : CtxId) (w : Low56)
  /-- HVWAIT (R287): The context waits for a host valve to open. -/
  | hvwait (c : CtxId) (w : Low56)
  /-- HVTEST (R178): The state of a host valve is read. -/
  | hvtest (c : CtxId) (w : Low56)
  /-- TCADD (R281): An amount is added to an own tally counter, or refused on wrap with cause 0x07. -/
  | tcadd (c : CtxId) (w : Low56)
  /-- TCWAIT (R280): The context waits until a tally counter reaches a threshold. -/
  | tcwait (c : CtxId) (w : Low56)
  /-- TCRD (R178): A tally counter is read. -/
  | tcrd (c : CtxId) (w : Low56)
  /-- TCADDR (R282): An add to a tally counter of another core is queued as a remote write with release semantics. -/
  | tcaddr (c : CtxId) (w : Low56)
  /-- FSEND (R237): Up to 64 bytes are copied into the fipple send queue, with an optional valve opening at the destination. -/
  | fsend (c : CtxId) (w : Low56)
  /-- FSENDR (R237): The 8 bytes of a register are sent on the fipple path. -/
  | fsendr (c : CtxId) (w : Low56)
  /-- CCB_START (R83): Start command: the instruction buffer is invalidated and the context enters Running. -/
  | ccbStart (c : CtxId)
  /-- CCB_HALT (R83): Halt command: issue stops, waits are abandoned, and the context enters Halted. -/
  | ccbHalt (c : CtxId)
  /-- CCB_STEP (R192): Step command: one instruction is issued and the context returns to Halted. -/
  | ccbStep (c : CtxId)
  /-- CCB_CLEAR_EXCEPTION (R83): Clear-exception command: the exception registers are cleared and a Stopped context enters Halted. -/
  | ccbClearException (c : CtxId)
  /-- CCB_CONTEXT_RESET (R86): Context reset command: one context is reset to the state of Table 3-15. -/
  | ccbContextReset (c : CtxId)
  /-- CCB_CORE_RESET (R84): Core reset command: the core is reset, valves are closed and counters cleared. -/
  | ccbCoreReset (k : CoreId)
  /-- CCB_CORE_RESET_ZERO_FILL (R84): Core reset command that then zero-fills all 4 MiB of local SRAM. -/
  | ccbCoreResetZeroFill (k : CoreId)
  /-- CTX_SPLIT_WRITE (R57): A write to CCB_CTX_SPLIT is applied, or refused when its values are out of range. -/
  | ctxSplitWrite (k : CoreId) (v : Word)
  /-- REGISTER_WRITE (R9): A write to a register that has no row of its own, applied under its access code. -/
  | registerWrite (who : Requester) (addr : BitVec 40) (v : Word)
  /-- SUPERVISOR_STOP_REPORT (R77): The die supervisor reads the CCB of a stopped core and sends a fault event to the MMC. -/
  | supervisorStopReport (c : CtxId)
  /-- STREAM_REQUEST_ISSUE (R214): The stream controller issues one tile request per cycle by context alternation and slot round robin. -/
  | streamRequestIssue (k : CoreId)
  /-- STREAM_RESPONSE_LAND (R208): A tile response lands in the ring, converted if needed, and tiles are presented in order. -/
  | streamResponseLand (id : Nat)
  /-- TILE_REQUEST_TIMEOUT (R215): A tile request reaches its tier timeout; the entry is freed and the tile fails as poison. -/
  | tileRequestTimeout (id : Nat)
  /-- STORE_WRITE (R213): A STORE stream writes a handed-over tile to its destination. -/
  | storeWrite (id piece : Nat)
  /-- STORE_WRITE_ACK (R228): The acknowledgement of a STORE write or push arrives, or reports a failure. -/
  | storeWriteAck (id : Nat)
  /-- PUSH_TILE_SEND (R217): A SEND or REDUCE pushes a tile while it holds a credit. -/
  | pushTileSend (k : CoreId) (n : Fin 16)
  /-- PUSHED_TILE_ARRIVE (R218): A pushed tile lands at its sequence position, or is dropped without a credit. -/
  | pushedTileArrive (id : Nat)
  /-- PUSH_CREDIT_ARRIVE (R217): A push credit reaches a producer and is taken, banked or dropped. -/
  | pushCreditArrive (id : Nat)
  /-- REDUCE_SUM (R232): A REDUCE node adds a pair of child tiles and presents or pushes the sum. -/
  | reduceSum (k : CoreId) (n : Fin 16)
  /-- ROTATE_FORWARD (R235): A ROTATE stream forwards a present tile to the downstream core's half. -/
  | rotateForward (k : CoreId)
  /-- ROTATE_TILE_ARRIVE (R235): A forwarded rotation tile lands in a free half. -/
  | rotateTileArrive (id : Nat)
  /-- STREAM_WATCHDOG_EXPIRY (R225): A peer-stalled stream has made no progress for STREAM_WDT and faults with reason 0x09. -/
  | streamWatchdogExpiry (k : CoreId) (n : Fin 16)
  /-- FIPPLE_QUEUE_SEND (R238): The fipple send queue sends one entry every 2 cycles. -/
  | fippleQueueSend (k : CoreId)
  /-- FIPPLE_DELIVERY (R239): A fipple delivery is written in one bank access and then opens the named valve. -/
  | fippleDelivery (id : Nat)
  /-- FAR_LOAD_RESPONSE (R173): The response to a far load arrives and writes the destination register. -/
  | farLoadResponse (id : Nat)
  /-- REMOTE_WRITE_ACK (R174): The acknowledgement of a remote write arrives; errors add to the remote-error count. -/
  | remoteWriteAck (id : Nat)
  /-- REQUEST_TIMEOUT (R245): A tracked request reaches its tier timeout and ends as failed. -/
  | requestTimeout (id : Nat)
  /-- REMOTE_SIGNAL_SEND (R282): A waiting remote signal is sent once its covered writes are acknowledged, carrying an error mark when one failed. -/
  | remoteSignalSend (id : Nat)
  /-- VALVE_OPEN_ARRIVE (R278): A remote valve set reaches its core and opens the valve, after closes in the same cycle. -/
  | valveOpenArrive (id : Nat)
  /-- TALLY_ADD_ARRIVE (R281): A remote tally add reaches its core and applies, or is refused on wrap. -/
  | tallyAddArrive (id : Nat)
  /-- SYNC_OPEN_VALVE (R292): SYNC_CMD opens a valve of the core. -/
  | syncOpenValve (k : CoreId) (host : Bool) (v : BitVec 6)
  /-- SYNC_CLOSE_VALVE (R292): SYNC_CMD closes a valve of the core. -/
  | syncCloseValve (k : CoreId) (v : BitVec 6)
  /-- SYNC_ADD_COUNTER (R292): SYNC_CMD adds SYNC_ARG to a tally counter. -/
  | syncAddCounter (k : CoreId) (host : Bool) (t : BitVec 6)
  /-- HV_OPEN_WRITE (R289): A write of 1 to HV_STATE.OPEN opens a host valve after earlier posted writes. -/
  | hvOpenWrite (h : Fin 256)
  /-- HV_CLOSE_WRITE (R287): A write of 1 to HV_STATE.CLOSE closes a host valve. -/
  | hvCloseWrite (h : Fin 256)
  /-- LENDING_START (R295): A core whose waits have passed LEND_THRESH starts lending and gates its engines. -/
  | lendingStart (k : CoreId)
  /-- VALVE_WATCHDOG_SCAN (R297): The die supervisor checks every waiting context at least every 100 µs. -/
  | valveWatchdogScan (d : Fin 48)
  /-- CENSUS_CMD (R299): A write to CENSUS_CMD starts a hang census. -/
  | censusCmd (v : BitVec 8)
  /-- CENSUS_REQUEST_RECEIVE (R299): A census request arrives and is taken, dropped for another ID, or ignored with no job. -/
  | censusRequestReceive (port : Fin 48)
  /-- CENSUS_SNAPSHOT (R299): Die supervisors freeze issue, copy every core record and halt every context. -/
  | censusSnapshot
  /-- CENSUS_RECORDS_WRITE (R302): Core records, host-valve records and edges are written to the census area. -/
  | censusRecordsWrite
  /-- CENSUS_PROBE_RECEIVE (R301): A probe arrives and is followed along the snapshot, forwarded, or ended. -/
  | censusProbeReceive (port : Fin 48)
  /-- CENSUS_REPORT_RECEIVE (R301): A probe report returns to the origin's MMC and a cycle record is written. -/
  | censusReportReceive (port : Fin 48)
  /-- CENSUS_COMPLETE (R299): The census header is completed with STATUS 2 or 3, and census-done is raised. -/
  | censusComplete
  /-- POOL_ALLOC (R267): Pool command ALLOC allocates and zero-fills COUNT Free pages. -/
  | poolAlloc (w0 : Low56) (w1 w2 w3 : Word)
  /-- POOL_FREE (R264): Pool command FREE frees a page, and its forwarder if any. -/
  | poolFree (w0 : Low56) (w1 w2 w3 : Word)
  /-- POOL_SETFL (R267): Pool command SETFL sets PIN and RDONLY on a Resident page. -/
  | poolSetfl (w0 : Low56) (w1 w2 w3 : Word)
  /-- POOL_MOVE (R268): Pool command MOVE starts a live page move. -/
  | poolMove (w0 : Low56) (w1 w2 w3 : Word)
  /-- POOL_EVICT (R270): Pool command EVICT moves chosen candidates to the host pool. -/
  | poolEvict (w0 : Low56) (w1 w2 w3 : Word)
  /-- POOL_READ (R267): Pool command READ returns a page entry. -/
  | poolRead (w0 : Low56) (w1 w2 w3 : Word)
  /-- POOL_OLDEST (R267): Pool command OLDEST reports the eviction candidates without moving them. -/
  | poolOldest (w0 : Low56) (w1 w2 w3 : Word)
  /-- POOL_MOVE_SWITCH (R268): After copy and recopy, the move holds new requests, copies the remaining dirty granules and switches to the destination. -/
  | poolMoveSwitch (data : HostPage)
  /-- POOL_MOVE_FAIL (R271): A copy write fails; the source stays Resident and the destination returns to Free. -/
  | poolMoveFail
  /-- POOL_AUTO_EVICT (R272): The MMC evicts from a die whose Free count fell below LOW. -/
  | poolAutoEvict (d : Fin 48)
  /-- POOL_RANGE_WRITE (R258): A write to a pool range object is applied or refused. -/
  | poolRangeWrite (which : Fin 4) (d : Fin 48) (v : BitVec 32)
  /-- HOT_BANK_WINDOW (R52): At the end of each 1 ms window, bank counts are judged and a hot-bank event may be raised. -/
  | hotBankWindow (d : Fin 48)
  /-- HASH_SEED_WRITE (R49): A new hash seed is accepted and the stacked tier is zero-filled. -/
  | hashSeedWrite (v : Word)
  /-- HASH_SEED_FILL_DONE (R49): The zero fill after a seed write completes and waiting stacked-tier accesses resume. -/
  | hashSeedFillDone
  /-- PLACE_OVERRIDE_WRITE (R46): A write to PLACE_OVERRIDE is stored, or refused when bits [23:19] are set. -/
  | placeOverrideWrite (v : BitVec 24)
  /-- PLACE_PIN_SAMPLE (R47): The MMC samples the place pins once per second and reports a change. -/
  | placePinSample (pins : BitVec 20)
  /-- ROUTER_FORWARD (R319): A router output chooses and forwards one whole packet by urgency, the W3 cap and deficit round robin. -/
  | routerForward (gx gy : Fin 28) (out : Fin 5) (parity : List (Fin 34 × BitVec 4))
  /-- HEAD_URGENT (R320): A head that has waited AGE_CYCLES becomes urgent. -/
  | headUrgent (gx gy : Fin 28) (input : Fin 5) (cls : Fin 6) (part : Fin 2)
  /-- FABRIC_CREDIT_RETURN (R314): A flit credit returns to the sender 4 cycles after the flit leaves the buffer. -/
  | fabricCreditReturn (gx gy : Fin 28) (input : Fin 32) (cls : Fin 6) (part : Fin 2)
  /-- D2D_FLIT_RECEIVE (R324): A die-to-die flit is CRC-checked and replayed when it fails. -/
  | d2dFlitReceive (d : Fin 49) (port lane : Fin 4) (ok : Bool)
  /-- FABRIC_WEIGHTS_WRITE (R322): New arbitration weights are accepted or refused and take effect within 10 µs. -/
  | fabricWeightsWrite (v : Word)
  /-- MARKER_RECOGNISED (R345): A marker is recognised on a lane and drives the alignment machine. -/
  | markerRecognised (port : Fin 48) (l : Fin 16) (pos : Nat) (bytes : List (BitVec 8))
  /-- CODEWORD_RECEIVE (R340): A codeword is descrambled and decoded, and its flits are delivered or discarded. -/
  | codewordReceive (port : Fin 48) (lanes : List (List (Fin 4))) (errs : List Nat)
  /-- SIGNAL_DETECT_HELD (R349): Signal detect held for 1 ms on a half ends training step 1. -/
  | signalDetectHeld (port : Fin 48) (lanes : BitVec 16)
  /-- RECEIVER_STEP_TIMEOUT (R349): Step 2 times out; lanes not locked become bad and the step repeats. -/
  | receiverStepTimeout (port : Fin 48) (locked : BitVec 16)
  /-- ALIGNMENT_TIMEOUT (R349): Step 3 has not locked within 2 ms and the port returns to step 2. -/
  | alignmentTimeout (port : Fin 48)
  /-- HANDSHAKE_TIMEOUT (R349): Step 4 has not finished within 1 ms and the port returns to step 3. -/
  | handshakeTimeout (port : Fin 48)
  /-- PORT_FAILED_TIMEOUT (R349): A port not Up within 1 s of leaving step 1 enters Failed. -/
  | portFailedTimeout (port : Fin 48)
  /-- FAILED_PORT_RESTART (R349): A Failed port restarts training from step 1 once every second. -/
  | failedPortRestart (port : Fin 48)
  /-- LINK_INIT_SEND (R350): A LINK_INIT link-control flit is sent every 1 µs during the handshake. -/
  | linkInitSend (port : Fin 48)
  /-- LINK_INIT_RECEIVE (R351): A peer LINK_INIT is checked and sets the port Up, Restricted or Mismatch, resuming or resetting replay. -/
  | linkInitReceive (port : Fin 48)
  /-- LANE_BAD (R366): A lane becomes bad by signal loss, missed markers or its symbol error rate, and degrade begins. -/
  | laneBad (port : Fin 48) (l : Fin 16) (lost : Fin 3)
  /-- DEGRADE_SEND (R366): A DEGRADE flit is sent every 1 µs until the peer requests the same half. -/
  | degradeSend (port : Fin 48)
  /-- DEGRADE_RECEIVE (R366): A peer DEGRADE request is matched and both ends retrain in 8-lane mode. -/
  | degradeReceive (port : Fin 48)
  /-- FLIT_TRANSMIT (R364): In each flit slot the transmitter sends the first eligible flit by the priority order. -/
  | flitTransmit (port : Fin 48)
  /-- DATA_FLIT_RECEIVE (R359): A data flit is accepted or discarded, acknowledgement and credit fields are applied, and failed flits are counted. -/
  | dataFlitReceive (port : Fin 48)
  /-- NAK_RECEIVE (R360): A NAK makes the transmitter resend every unacknowledged flit after the named one. -/
  | nakReceive (port : Fin 48)
  /-- NAK_RETRY_TIMEOUT (R360): The expected flit has not arrived within 2 µs of a NAK, so the NAK is sent again. -/
  | nakRetryTimeout (port : Fin 48)
  /-- FELUN_READ (R357): A READ packet is served and answered with RDATA. -/
  | felunRead (port : Fin 48)
  /-- FELUN_RDATA (R358): An RDATA answer matches its tag and returns data to the requester. -/
  | felunRdata (port : Fin 48)
  /-- FELUN_WRITE (R357): A WRITE packet is written and answered with ACK. -/
  | felunWrite (port : Fin 48)
  /-- FELUN_PUSH (R357): A PUSH packet lands a tile in a RECV or REDUCE slot and is answered. -/
  | felunPush (port : Fin 48)
  /-- FELUN_FIPPLE (R357): A FIPPLE packet delivers bytes and opens a valve, then is answered. -/
  | felunFipple (port : Fin 48)
  /-- FELUN_VSET (R357): A VSET packet opens a valve and is answered. -/
  | felunVset (port : Fin 48)
  /-- FELUN_TADD (R357): A TADD packet adds to a tally counter and is answered. -/
  | felunTadd (port : Fin 48)
  /-- FELUN_CREDIT (R356): A CREDIT packet carries push credits to a producer. -/
  | felunCredit (port : Fin 48)
  /-- FELUN_ACK (R358): An ACK answer matches its tag and completes a request. -/
  | felunAck (port : Fin 48)
  /-- FELUN_MGMT (R498): A MGMT packet carries a Chabohar PDU between MMCs. -/
  | felunMgmt (port : Fin 48)
  /-- FELUN_CENSUS (R499): A CENSUS packet carries a census request, probe or report. -/
  | felunCensus (port : Fin 48)
  /-- PACKET_FORWARD (R370): A packet for another place is routed to a port group, or answered or dropped as unreachable. -/
  | packetForward (port : Fin 48) (vc : Fin 7)
  /-- TAG_TIMEOUT (R358): A tag is freed TIMEOUT_REMOTE after its packet was sent. -/
  | tagTimeout (port : Fin 48) (tag : BitVec 12)
  /-- PORT_IMBALANCE_WINDOW (R374): At the end of each 1 ms window, port bytes are judged and a port-imbalance event may be raised. -/
  | portImbalanceWindow
  /-- TSYNC_SEND (R522): One TSYNC flit is sent per marker period. -/
  | tsyncSend (port : Fin 48)
  /-- TSYNC_RECEIVE (R522): A TSYNC flit gives a stamp pair from which θ is computed. -/
  | tsyncReceive (port : Fin 48)
  /-- TIME_LOOP_UPDATE (R523): Every 16 marker periods, a follower sets ρ from the mean θ, or steps while Idle. -/
  | timeLoopUpdate
  /-- PORT_ROLE_WRITE (R368): A role is written while no job runs and the port retrains within 1 ms. -/
  | portRoleWrite (port : Fin 48) (role : BitVec 8)
  /-- PORT_RETRAIN (R367): PORT_CMD 1 retrains the port in 16-lane mode. -/
  | portRetrain (port : Fin 48)
  /-- PORT_DISABLE (R379): PORT_CMD 2 darkens the port's transmitter. -/
  | portDisable (port : Fin 48)
  /-- PORT_ENABLE (R379): PORT_CMD 3 enables the port again. -/
  | portEnable (port : Fin 48)
  /-- FP_RETRAIN (R367): A write of FP_LINK_CTL.RETRAIN retrains from step 2 in 16-lane mode. -/
  | fpRetrain (port : Fin 48)
  /-- FP_TXOFF (R378): A write of FP_LINK_CTL.TXOFF darkens or enables the transmitter. -/
  | fpTxoff (port : Fin 48) (off : Bool)
  /-- FELUN_WEIGHTS_WRITE (R379): New Felun arbitration settings are accepted or refused and take effect within 10 µs. -/
  | felunWeightsWrite (v : Word)
  /-- ZMAP_NZ_WRITE (R379): A write of NZ is accepted only when ZMAP holds each coordinate once. -/
  | zmapNzWrite (nz : BitVec 16)
  /-- PGREQ_ISSUE (R388): The mouthpiece requests the next run of tiles once credits and tags allow. -/
  | pgreqIssue (port : Fin 48)
  /-- PGTILE_RECEIVE (R389): A PGTILE is checked for epoch and sequence, decoded, and written to its destinations. -/
  | pgtileReceive (port : Fin 48)
  /-- MOUTHPIECE_COPY_WRITE (R400): A tile copy is written to a RECV ring or to memory, and is acknowledged or counted. -/
  | mouthpieceCopyWrite (port : Fin 48) (id : Nat)
  /-- PGERR_RECEIVE (R392): A PGERR makes the covered tiles be asked for once more, or become lasting. -/
  | pgerrReceive (port : Fin 48)
  /-- CTAB_RECEIVE (R396): A CTAB packet loads a code table, valid or invalid. -/
  | ctabReceive (port : Fin 48)
  /-- PGRANT_SEND (R390): In push mode a PGRANT with the cumulative grant is sent when GRANTED has grown, or every 100 µs. -/
  | pgrantSend (port : Fin 48)
  /-- MOUTHPIECE_CREDIT (R387): A RECV credit reaches the mouthpiece and is counted, reset by generation, or dropped. -/
  | mouthpieceCredit (id : Nat)
  /-- PAGE_RETRY_TIMEOUT (R392): A tile not landed within PAGE_RETRY is asked for once more. -/
  | pageRetryTimeout (port : Fin 48) (pseq : Nat)
  /-- TILE_LASTING_TIMEOUT (R392): A tile not landed within TIMEOUT_REMOTE becomes lasting and is written as poison. -/
  | tileLastingTimeout (port : Fin 48) (pseq : Nat)
  /-- EGRESS_POLL (R410): The bell reads PI every 1 µs and takes new egress entries, sending GPAGE packets. -/
  | egressPoll (port : Fin 48)
  /-- GACK_RECEIVE (R411): A GACK completes a gradient page; STATUS is written and DONE_VALVE opens. -/
  | gackReceive (port : Fin 48)
  /-- GRADIENT_RETRY_TIMEOUT (R412): A page without a GACK within PAGE_RETRY is sent once more, or ends lasting at TIMEOUT_REMOTE. -/
  | gradientRetryTimeout (port : Fin 48) (idx : Nat)
  /-- PLAN_START (R386): PLAN_CMD 1 starts every Weight port's walk at pass 0 in bank 0. -/
  | planStart
  /-- PLAN_STOP (R386): PLAN_CMD 2 stops the walks. -/
  | planStop
  /-- SWAP_CMD (R405): A hot swap to the standby banks is accepted for pass P, or refused. -/
  | swapCmd (p : BitVec 16)
  /-- EPOCH_CMD (R408): An advance of the placement epoch is accepted; mouthpieces and bells stop. -/
  | epochCmd (e : BitVec 16)
  /-- EPOCH_ADVANCE_COMPLETE (R408): Outstanding requests have drained; PEPOCH is set and the walks and bells resume. -/
  | epochAdvanceComplete
  /-- CHUNK_QUEUE_POLL (R427): The bell reads the chunk queue's PI every 50 ns and sends accepted chunks or refuses entries. -/
  | chunkQueuePoll (port : Fin 48)
  /-- CHUNK_LAND (R434): A CHUNK packet is checked, unpacked, written with its record, opens its valve and is answered. -/
  | chunkLand (port : Fin 48)
  /-- CHUNK_ACK_RECEIVE (R431): A chunk acknowledgement ends the entry; STATUS is written and DONE_VALVE opens. -/
  | chunkAckReceive (port : Fin 48)
  /-- CHUNK_ACK_TIMEOUT (R432): A chunk without an acknowledgement within TIMEOUT_REMOTE ends with 0x04. -/
  | chunkAckTimeout (port : Fin 48) (idx : Nat)
  /-- BAR0_ACCESS (R447): A BAR0 access to a reserved offset or of a wrong size is refused and counted. -/
  | bar0Access (link : Fin 2) (off : BitVec 28) (size : Nat) (wr : Option Word)
  /-- BAR2_READ (R449): A host read through BAR2 completes under Table 14-2. -/
  | bar2Read (link : Fin 2) (x : BitVec 38) (n : Nat)
  /-- BAR2_WRITE (R449): A host write through BAR2 is written, discarded, or written as poison. -/
  | bar2Write (link : Fin 2) (x : BitVec 38) (data : List (BitVec 8)) (ep : Bool)
  /-- PCIE_LINK_LOSS (R445): A PCIe link is lost; aperture requests fail, DMA halts, copies stop, and host-link-down is raised. -/
  | pcieLinkLoss (link : Fin 2)
  /-- PCIE_LINK_UP (R445): A link returns to L0 with bus mastering enabled. -/
  | pcieLinkUp (link : Fin 2) (rate : BitVec 16) (width : BitVec 8) (fmask : Bool)
  /-- PCIE_LINK_TRAIN_FAIL (R443): A partner that does not negotiate flit mode leaves the link out of L0. -/
  | pcieLinkTrainFail (link : Fin 2)
  /-- PCIE_FUNCTION_RESET (R446): PERST#, hot reset or FLR resets one link's function, its DMA channels and its queues. -/
  | pcieFunctionReset (link : Fin 2)
  /-- APERTURE_COMPLETION (R452): A host read completion for the aperture arrives, or fails as poison. -/
  | apertureCompletion (i : Nat) (outcome : Fin 4) (data : List (BitVec 8)) (bad : List Nat)
  /-- APERTURE_WRITE_ACK (R452): The Data Link Layer acknowledges an aperture write TLP, acknowledging the write to its requester. -/
  | apertureWriteAck (ref : Nat)
  /-- APERTURE_TIMEOUT (R452): An aperture read without a completion within TIMEOUT_HOST delivers poison. -/
  | apertureTimeout (i : Nat)
  /-- LQ_DOORBELL (R454): A doorbell write advances LQ_PI and opens LQ_VALVE, or is refused. -/
  | lqDoorbell (link : Fin 2) (q : Fin 128) (v : BitVec 32)
  /-- LQ_CHEAD_WRITE (R456): The host reports consumed completion entries, freeing room for copies. -/
  | lqCheadWrite (q : Fin 128) (v : BitVec 32)
  /-- LQ_CI_STORE (R455): The consuming program advances the queue's CI. -/
  | lqCiStore (k : CoreId) (q : Fin 128) (v : BitVec 32)
  /-- LQ_CPI_STORE (R456): The program publishes completions, which the hub is to copy to the host. -/
  | lqCpiStore (k : CoreId) (q : Fin 128) (v : BitVec 32)
  /-- COMPLETION_COPY (R456): The hub copies completion records to the host ring when room exists, advances HCOPY and signals MSI-X. -/
  | completionCopy (q : Fin 128)
  /-- LQ_CFG_WRITE (R453): A launch-queue configuration is accepted or refused. -/
  | lqCfgWrite (q : Fin 128) (w0 w1 w2 w3 : Word)
  /-- DMA_DOORBELL (R458): A DMA_PI write posts descriptors, or is refused when it runs too far ahead. -/
  | dmaDoorbell (c : Fin 16) (v : BitVec 32)
  /-- DMA_DESCRIPTOR_EXECUTE (R458): A channel reads its next descriptor and starts moving data. -/
  | dmaDescriptorExecute (c : Fin 16) (words : List Word)
  /-- DMA_DESCRIPTOR_COMPLETE (R459): A descriptor ends: STATUS and DONE are written, CI advances, VALVE opens and MSI-X is sent. -/
  | dmaDescriptorComplete (c : Fin 16) (data scales : List (BitVec 8)) (bad : List Nat) (refused : Bool)
  /-- DMA_ENABLE (R458): DMA_CTL.EN = 1 enables a channel or clears Halted. -/
  | dmaEnable (c : Fin 16)
  /-- DMA_DISABLE (R458): DMA_CTL.EN = 0 disables a channel after its current descriptor. -/
  | dmaDisable (c : Fin 16)
  /-- MSIX_SEND (R461): A pending MSI-X message is sent once its link and vector allow. -/
  | msixSend (link : Fin 2) (vec : BitVec 8)
  /-- MB_SUBMIT (R497): MB_DB with LEN 16 to 4,096 submits a PDU to a mailbox. -/
  | mbSubmit (m : Fin 16) (len : BitVec 13)
  /-- MB_RELEASE (R497): MB_DB with LEN 0 releases the response. -/
  | mbRelease (m : Fin 16)
  /-- CHB_READ (R472): READ service returns one object value. -/
  | chbRead
  /-- CHB_WRITE (R472): WRITE service sets an object value after access, role and range checks. -/
  | chbWrite
  /-- DESCRIBE (R472): DESCRIBE service returns type, access and length of an object. -/
  | describe
  /-- SEG_INIT (R486): A segmented read or write transfer is opened. -/
  | segInit
  /-- SEG_BLOCK (R488): A block of a segmented write is received and acknowledged, or discarded. -/
  | segBlock
  /-- SEG_ACK (R487): A client acknowledgement advances NEXT of a segmented read. -/
  | segAck
  /-- SEG_ABORT (R489): A client abort ends a transfer at once. -/
  | segAbort
  /-- SEG_TIMEOUT (R489): No progress within SEG_TIMEOUT causes a resend, and within 4 × SEG_TIMEOUT an abort. -/
  | segTimeout
  /-- SUBSCRIBE (R491): A session's outcome mask is set. -/
  | subscribe
  /-- EVENT_ACK (R491): A subscriber acknowledges an event. -/
  | eventAck
  /-- EVENT_RETRY (R491): An unacknowledged event is resent after EVENT_RETRY, up to 4 times. -/
  | eventRetry
  /-- HEARTBEAT (R494): A HEARTBEAT is sent on each enabled CAN bus every 1 s. -/
  | heartbeat
  /-- OPEN (R475): OPEN service assigns a SID and returns nonces, or refuses. -/
  | openSession
  /-- PROOF (R475): PROOF service checks the client proof and grants the role, or discards the SID. -/
  | proof
  /-- CLOSE (R479): CLOSE service closes the session. -/
  | close
  /-- PROOF_TIMEOUT (R475): A SID without PROOF within 5 s is discarded. -/
  | proofTimeout
  /-- SESSION_IDLE_TIMEOUT (R479): A session without an accepted message for SESSION_IDLE closes. -/
  | sessionIdleTimeout
  /-- SESSION_LOCKOUT_END (R476): The 10 s lockout of a carrier after 16 refused proofs ends. -/
  | sessionLockoutEnd
  /-- COMMAND_DONE_TIMER (R470): A CMD action not finished within 50 ms is answered with 0x01, and command-done is raised when it ends. -/
  | commandDoneTimer
  /-- RWP_PERSIST (R468): An accepted RWP value is written to flash within 1 s. -/
  | rwpPersist
  /-- MKEY_WRITE (R480): A management key slot is written, closing its sessions, or refused if no role-3 slot would remain. -/
  | mkeyWrite
  /-- JOB_START (R469): JOB_CMD 1 takes Idle to Running and writes CTX_SPLIT_DEFAULT into every CCB. -/
  | jobStart
  /-- JOB_STOP (R469): JOB_CMD 2 halts every running context and enters Stopping. -/
  | jobStop
  /-- JOB_STOPPING_DONE (R469): Every context is Halted or Stopped and Stopping reaches Idle. -/
  | jobStoppingDone
  /-- JOB_CLEAR (R469): JOB_CMD 3 takes Halted to Idle. -/
  | jobClear
  /-- RESET_WARM_START (R501): RESET_CMD 1 is answered and a warm start begins within 10 ms. -/
  | resetWarmStart
  /-- RESET_COLD_START (R501): RESET_CMD 2 is answered and a cold start begins within 10 ms. -/
  | resetColdStart
  /-- FEED_QUALIFY_BEGIN (R503): A feed in range with correct polarity enters Qualifying. -/
  | feedQualifyBegin (f : Fin 8) (mv : Nat)
  /-- FEED_QUALIFY_TIMER (R503): The qualification timer expires and the feed becomes Present. -/
  | feedQualifyTimer (f : Fin 8)
  /-- FEED_QUALIFY_FAIL (R503): A qualifying feed leaves its range and returns to Absent or Reversed. -/
  | feedQualifyFail (f : Fin 8) (mv : Nat) (reversed : Bool)
  /-- FEED_VOLTAGE_LOW (R503): A Present feed falls below 46.0 V and becomes Absent. -/
  | feedVoltageLow (f : Fin 8) (mv : Nat)
  /-- FEED_REVERSED (R503): A reversed feed is detected; its front end stays open. -/
  | feedReversed (f : Fin 8)
  /-- FEED_OVER_VOLTAGE (R503): A feed above 60.0 V opens its eFuse. -/
  | feedOverVoltage (f : Fin 8) (mv : Nat)
  /-- FEED_OVER_VOLTAGE_CLEAR (R503): An over-voltage feed returns to at most 58.0 V and requalifies. -/
  | feedOverVoltageClear (f : Fin 8) (mv : Nat)
  /-- FEED_TRIP (R503): Over-current, short-circuit or open return opens the eFuse. -/
  | feedTrip (f : Fin 8)
  /-- FEED_TRIP_RETRY (R503): 1 s after a trip the feed requalifies, unless it has tripped twice. -/
  | feedTripRetry (f : Fin 8)
  /-- POWER_CAP_ENFORCE (R505): Input power above EFF_CAP steps region clocks down on its timers. -/
  | powerCapEnforce (mw : Nat) (top : Fin 192)
  /-- BREATH_HOLD_EXIT (R513): Enough stable feeds and the 12 V bus allow exit; regulators return to their run set points. -/
  | breathHoldExit (bus : Nat)
  /-- REGION_UNGATE (R513): A region is ungated at its staggered time after exit, and issue resumes. -/
  | regionUngate (r : Fin 192)
  /-- BH_MAX_EXPIRY (R514): Breath-hold has lasted BH_MAX and the module leaves it under a power cap. -/
  | bhMaxExpiry
  /-- POWER_LOSS_SHUTDOWN (R515): The 12 V bus below 10.8 V starts a shutdown with events, a POWER_LOSS record and rails off. -/
  | powerLossShutdown (bus : Nat)
  /-- REGULATOR_UPDATE (R507): Every 1 µs the regulator steers the lowest sensor to its target voltage. -/
  | regulatorUpdate (r : Fin 192) (sensor : Fin 32) (v ma : Nat)
  /-- MARGIN_STEP_DOWN (R507): A region without margin for 100 µs is stepped down 50 MHz and a margin event is raised. -/
  | marginStepDown (r : Fin 192)
  /-- DROOP_STRETCH (R508): A sensor below its droop threshold stretches its cluster's DCO to 7/8. -/
  | droopStretch (r : Fin 192) (sensor : Fin 32) (v : Nat)
  /-- STRETCH_END (R508): The DCO returns to full frequency 64 cycles after the last low reading. -/
  | stretchEnd (d : Fin 48) (cluster : Fin 16)
  /-- VMIN_FLASH_COPY (R509): A new VMIN_EVER is copied into flash within 10 s. -/
  | vminFlashCopy (d : Fin 48)
  /-- RAIL_WARNING (R510): A rail above its warning level draws the response of Table 16-4. -/
  | railWarning (rail : Fin 7) (i : Fin 192) (ma : Nat)
  /-- RAIL_TRIP (R510): A rail above its trip level is gated or turned off with its fault outcome. -/
  | railTrip (rail : Fin 7) (i : Fin 192) (ma : Nat)
  /-- RAIL_TRIP_RESUME (R510): 100 µs after a VDD_LOGIC trip the region resumes one step lower. -/
  | railTripResume (r : Fin 192)
  /-- PLL_LOCK_LOSS (R519): A die loses its reference or PLL lock and a module-removing die-clock fault is raised. -/
  | pllLockLoss (d : Fin 48)
  /-- DCO_LOCK_LOSS (R519): A cluster DCO loses lock; its cores stop with cause 0x0C. -/
  | dcoLockLoss (d : Fin 48) (c : Fin 16)
  /-- GTC_REFERENCE_EDGE (R520): Each reference edge advances every GTC copy by 10 ns times (1 + ρ). -/
  | gtcReferenceEdge
  /-- GTC_STEP_WRITE (R521): A GTC_STEP write is applied at the next edge while Starting or Idle, or ignored and counted. -/
  | gtcStepWrite (v : Word)
  /-- CALENDAR_TICK (R527): The calendar counts a tick, with trim ticks deleted or inserted. -/
  | calendarTick
  /-- CAL_WRITE (R526): A write to CAL sets the calendar at the next tick. -/
  | calWrite (v : BitVec 48)
  /-- PTP_MESSAGE_RECEIVE (R528): A PTP event message updates the master offset, calendar, trim and PTP_GTC_OFFSET. -/
  | ptpMessageReceive (domain : BitVec 8) (offset : Int) (tai utc : Nat) (drift : Option Int)
  /-- REGION_IDLE_ENTRY (R529): A region with no activity for 16 cycles enters Idle. -/
  | regionIdleEntry (r : Fin 192)
  /-- REGION_WAKE (R529): A wake request or activity returns a region to Run from Idle, Doze or Retain. -/
  | regionWake (r : Fin 192)
  /-- REGION_DOZE_ENTRY (R529): After DOZE_AFTER with its condition held, a region stops its DCOs and lends. -/
  | regionDozeEntry (r : Fin 192)
  /-- REGION_RETAIN_ENTRY (R529): After RETAIN_AFTER in Doze, core state moves to retention and logic is turned off. -/
  | regionRetainEntry (r : Fin 192)
  /-- REGION_OFF (R529): REGION_CMD 2 turns a region's rail off. -/
  | regionOff (r : Fin 192)
  /-- REGION_ON (R529): REGION_CMD 1 brings a region to Run and zero-fills its cores. -/
  | regionOn (r : Fin 192)
  /-- LENDING_GRANT_UPDATE (R532): Every 10 µs the die supervisor computes the lent pool and sets region clocks. -/
  | lendingGrantUpdate (d : Fin 48)
  /-- THROTTLE_UPDATE (R533): Every 100 µs each cluster's cap follows the throttle law. -/
  | throttleUpdate (d : Fin 48) (readings : List Int)
  /-- THERMAL_CRITICAL_GATE (R534): A sensor above 115 °C gates its cluster's compute. -/
  | thermalCriticalGate (d : Fin 48) (c : Fin 16) (readings : List Int)
  /-- THERMAL_UNGATE (R534): Every sensor of the cluster below 105 °C ungates it. -/
  | thermalUngate (d : Fin 48) (c : Fin 16) (readings : List Int)
  /-- THERMAL_SHUTDOWN (R534): A sensor above 125 °C for 100 µs turns off every compute die's rails. -/
  | thermalShutdown (d : Fin 48) (c : Fin 16) (readings : List Int)
  /-- COOLANT_SAMPLE (R537): Every 100 ms the coolant is measured, sensors are judged and COOLING_STATE rises. -/
  | coolantSample (v : List Int)
  /-- COOLING_RESTORED (R537): A state's conditions have been clear for 60 s and COOLING_STATE falls. -/
  | coolingRestored
  /-- COOLANT_SENSOR_FAULT (R536): A sensor whose wiring is open or shorted is marked faulty within 1 s. -/
  | coolantSensorFault (k : Fin 5)
  /-- COLD_START (R543): A cold start runs phases C0 to C8 and reaches Idle or Removed. -/
  | coldStart (x : StartIn)
  /-- WARM_START (R543): A warm start runs phases C1 to C8 with kept state. -/
  | warmStart (x : StartIn)
  /-- MMC_WATCHDOG_EXPIRY (R541): The MMC watchdog expires and causes a warm start, a cold start, or recovery mode. -/
  | mmcWatchdogExpiry
  /-- STAGED_REREAD (R615): Within 2 s of C8 the MMC re-reads the inactive slot and sets STAGE_STATE. -/
  | stagedReread
  /-- PERIOD_END (R571): At each period end, PERIOD, LANES and RETRY records are written. -/
  | periodEnd
  /-- ERRORS_FLUSH (R572): Changed error-table entries are written as ERRORS records on FLUSH_S or on a lasting count. -/
  | errorsFlush
  /-- HEALTH_FLUSH (R582): HEALTH_FLUSH writes every changed entry and closes the open period. -/
  | healthFlush (v : BitVec 8)
  /-- SUMMARY_SNAPSHOT (R574): A lifetime snapshot is written at C8, after 24 h of powered time, or after a VMIN_EVER rewrite. -/
  | summarySnapshot (d : Fin 49)
  /-- RING_RECORD_WRITE (R576): A ring record is written, read back, rewritten once on failure, and old blocks are erased ahead. -/
  | ringRecordWrite (ok1 ok2 : Bool) (erases : Nat)
  /-- FAULT_RECORD_WRITE (R571): A FAULT record is written within 1 s of a job-stopping or module-removing event. -/
  | faultRecordWrite
  /-- JOB_STOPPING_EVENT (R587): A job-stopping event freezes issue, copies core records, halts the job and stops walks and bells. -/
  | jobStoppingEvent (code : BitVec 16) (a8 : BitVec 8) (a16 : BitVec 16) (data : Word)
  /-- MODULE_REMOVING_EVENT (R588): A module-removing event makes the module Removed and its ports Restricted. -/
  | moduleRemovingEvent (code : BitVec 16) (a8 : BitVec 8) (a16 : BitVec 16) (data : Word)
  /-- FENCE_DIE_WRITE (R595): A write to FENCE_DIE is stored for the next cold start, or refused. -/
  | fenceDieWrite (v : BitVec 8)
  /-- BUNDLE_UPLOAD (R614): A bundle is received into the inactive slot with authority and block checks. -/
  | bundleUpload
  /-- BUNDLE_CHAIN_RECEIVE (R616): A chained bundle from a neighbour's MMC is received over VC5. -/
  | bundleChainReceive
  /-- CHAIN_ORIGIN (R616): CHAIN_CMD 1 makes this module the origin of a chain. -/
  | chainOrigin
  /-- CHAIN_STOP (R627): CHAIN_CMD 2 stops forwarding. -/
  | chainStop
  /-- CHAIN_FORWARD (R618): A verified block of a chain is forwarded to the + neighbour of a covered axis. -/
  | chainForward (axis : Fin 3)
  /-- CHAIN_RETRY (R618): A busy or failed chain transfer is retried on its timer, or the chain fails for that axis. -/
  | chainRetry (axis : Fin 3)
  /-- ACTIVATE_COMMIT (R620): ACTIVATE_CMD 1 verifies the staged slot and commits it. -/
  | activateCommit
  /-- ACTIVATE_COMMIT_WARM (R620): ACTIVATE_CMD 2 verifies and commits, then starts a warm start. -/
  | activateCommitWarm
  /-- ACTIVATION_VERIFY_DONE (R620): The slot copy check ends and the commit record is written, or the bundle is refused. -/
  | activationVerifyDone
  /-- CAN_FRAME_RECEIVE (R492): A CAN FD frame carrying one PDU is received, ignored, or counted as a node conflict. -/
  | canFrameReceive (bus : Fin 2) (kind : Fin 4) (id : BitVec 11) (data : List (BitVec 8))
  /-- CAN_BUS_OFF (R492): Fault confinement takes a bus off; it is counted and raised. -/
  | canBusOff (bus : Fin 2)
  /-- CAN_LINE_MEASURE (R638): Every 1 ms of idle bus the line levels are measured; wiring faults are reported, transmitters disabled or lines swapped. -/
  | canLineMeasure (bus : Fin 2) (m : CanMeasure)
  /-- UDP_DATAGRAM_RECEIVE (R495): A UDP datagram carrying a PDU is received or discarded. -/
  | udpDatagramReceive (addr : BitVec 128) (sport dport : BitVec 16) (data : List (BitVec 8))
  /-- ETH_LINK_CHANGE (R639): The 1000BASE-T link comes up or goes down. -/
  | ethLinkChange (up : Bool)
  /-- UART_FRAME_RECEIVE (R642): A UART frame is sampled into the FIFO, or counted as a glitch, break, framing error or overrun. -/
  | uartFrameReceive (samples : BitVec 30) (early : Bool) (taken : Nat)
  /-- UART_FRAME_SEND (R641): A console byte is sent as an 8N1 frame. -/
  | uartFrameSend (b : BitVec 8)
  /-- UART_BAUD_WRITE (R650): A new UART_BAUD takes effect at the next frame boundary of each direction. -/
  | uartBaudWrite (v : BitVec 32)
  /-- MARKER_MISSED (R346): On a lane, the marker slot due one spacing after the last one passes without a recognised marker, or with an MSEQ that is not one higher. -/
  | markerMissed (port : Fin 48) (l : Fin 16)
  /-- RECEIVER_CONVERGED (R349): CDR locks and the equaliser converges on every lane that has signal detect, which ends training step 2 and starts alignment. -/
  | receiverConverged (port : Fin 48)
  /-- ENDPOINT_REQUEST_ARRIVE (R313): A W0, W2R or W2D write packet reaches its destination endpoint (core bank port, stacked-tier bank, hub or Felun attachment) and is served, refused under pool or region rules, or taken into a Felun transmit buffer with a tag. -/
  | endpointRequestArrive (id piece : Nat)
  /-- CAN_BUS_OFF_RECOVERY (R492): After bus-off, the controller completes the standard recovery sequence and rejoins the bus. -/
  | canBusOffRecovery (bus : Fin 2)
  /-- TAP_TCK_EDGE (R640): A TCK edge, or TRST#, on D1 advances the hub's IEEE 1149.1 TAP, which always selects the bypass register. -/
  | tapTckEdge (rising tms tdi trst : Bool)
  /-- SLAAC_ADDRESS_ACQUIRE (R495): While SLAAC is 1, the management port forms or drops SLAAC IPv6 addresses from the advertisements it receives, and updates IPV6_ADDRS. -/
  | slaacAddressAcquire (pfx : BitVec 64) (drop : Bool)
  deriving DecidableEq, Repr

end Sys2Proof
end

