-- ==== Sys2Proof/Decode.lean ====
section
/-! DEFINITION. The command that a word spells by the table's bits. spec/opcode_table.json gives no row any bits (every
"fields" list is empty), so no word spells a command. -/

namespace Sys2Proof

/-- The command of the row whose bits a word of `nbits` bits matches: none of the rows has bits. -/
def decodeTableWord (_nbits _w : Nat) : Option Instr := none

end Sys2Proof
end

