-- ==== Sys2Proof/Config.lean ====
section
/-! DEFINITION. What the spec fixes for the module as a whole, and the free values: constants with no body, one for
each value the spec leaves open. Nothing can be proved about such a constant, so a claim holds for every value. -/

namespace Sys2Proof.Config

/-- Compute dies on a module (01 R16). -/
abbrev nDies : Nat := 48
/-- Logical cores on a die (01 R24). -/
abbrev nCores : Nat := 256
/-- Felun ports (11). -/
abbrev nPorts : Nat := 48

/-- The lane that VCVT or a converting stream writes for a NaN or infinite source element when the program hands it a
reduced byte of 1 to 254: R125 gives lanes of finite elements only (log 13). The argument is the source's bits. -/
opaque boreNonFinite : Nat → BitVec 24

/-- The sum VBADD writes when an operand lane is not a sign-extended 24-bit number: R152 takes only such lanes
(log 17). The arguments are the two lanes. -/
opaque boreBadSum : Nat → Nat → BitVec 32

/-- Whether a fused multiply-add of infinity, zero and a NaN addend raises NV: R103 and Table 4-9 do not say, and IEEE
754-2019 leaves it to the implementation (log 37). The arguments are the three operands. -/
opaque fmaInvalid : Nat → Nat → Nat → Bool

/-- Word `i` of an engine queue view entry that holds the instruction word `w` (0 for none): the spec places the entries
and does not give their layout (log 18). -/
opaque queueView : Nat → Nat → BitVec 64

/-- What performance counter `i` reads: the spec lists the kinds and does not say which counter stands where (log 19).
The arguments are the counter and the two issue counts. -/
opaque perfCounter : Nat → Nat → Nat → BitVec 64

/-- How a code reads an error pattern that it is not said to detect (more than two bits of a (72,64) codeword, more than two
symbols of a (144,128) codeword, 08 R249): `none`, detected and not corrected; `some m`, taken for a clean codeword or for the
correctable error `m` (log 39). The arguments: local SRAM or stacked tier, and the pattern. -/
opaque eccBeyond : Bool → Nat → Option Nat

/-- The window that MMX leaves in element `e` of a long-bore block where the element is poisoned: the spec states no word there, and
lets every result bit depend on the operands alone (04 R89, log 16). The arguments: all that the operation reads, and e. -/
opaque poisonWindow : List Nat → Nat → BitVec 192

/-- A value that the hardware draws at random (a nonce, a salt, a tag): the n-th draw of a run (log 14). -/
opaque freshRandom : Nat → BitVec 128

/-- A measured value the spec gives no number for (a voltage, a current, a temperature, a rate): the object, its index
and the n-th reading (log 15). -/
opaque measured : Nat → Nat → Nat → BitVec 64

/-- A 32-bit value whose n-th use the spec leaves open (log 16). -/
opaque freeLane : Nat → BitVec 32

/-! The cryptographic functions that chapters 15 and 20 name by their standards (log 31): what the standards compute is no
part of the spec, so every claim holds whatever they give. -/

/-- SHA-384 of a byte string. -/
opaque sha384 : List (BitVec 8) → List (BitVec 8)
/-- HMAC-SHA-384: key, message. -/
opaque hmac384 : List (BitVec 8) → List (BitVec 8) → List (BitVec 8)
/-- HKDF-Extract: salt, input keying material. -/
opaque hkdfExtract : List (BitVec 8) → List (BitVec 8) → List (BitVec 8)
/-- HKDF-Expand: pseudorandom key, info, length. -/
opaque hkdfExpand : List (BitVec 8) → List (BitVec 8) → Nat → List (BitVec 8)
/-- AES-256-GCM: the encryption of a body, or the decryption of one: key, nonce, text. -/
opaque gcmCrypt : List (BitVec 8) → List (BitVec 8) → List (BitVec 8) → List (BitVec 8)
/-- AES-256-GCM's tag: key, nonce, additional data, ciphertext. -/
opaque gcmTag : List (BitVec 8) → List (BitVec 8) → List (BitVec 8) → List (BitVec 8) → List (BitVec 8)
/-- Whether a signature verifies: algorithm (1 ECDSA P-384, 2 ML-DSA-87), key, digest, signature. -/
opaque verifies : Nat → List (BitVec 8) → List (BitVec 8) → List (BitVec 8) → Bool

end Sys2Proof.Config
end

