-- ==== Sys2Proof/Machine/Bits.lean ====
section
/-! DEFINITION. Bit fields, sign extension and byte order, used by every family. -/

namespace Sys2Proof.Machine

/-- Bits [hi:lo] of a natural number. -/
def bitsOf (n hi lo : Nat) : Nat := n / 2 ^ lo % 2 ^ (hi + 1 - lo)

/-- Bit `i` of a natural number. -/
def bitOf (n i : Nat) : Bool := n.testBit i

/-- A Bool as the number 0 or 1. -/
def b2n (b : Bool) : Nat := if b then 1 else 0

/-- `n` with bits [lo + w - 1 : lo] replaced by `v mod 2^w`. -/
def setBits (n lo w v : Nat) : Nat :=
  n / 2 ^ (lo + w) * 2 ^ (lo + w) + v % 2 ^ w * 2 ^ lo + n % 2 ^ lo

/-- The two's-complement reading of the low `w` bits of `n`. -/
def signed (w n : Nat) : Int :=
  let m := n % 2 ^ w
  if m < 2 ^ (w - 1) then (m : Int) else (m : Int) - 2 ^ w

/-- The low `w` bits of an integer, as a number (two's complement). -/
def wrap (w : Nat) (i : Int) : Nat := (i % (2 ^ w : Int)).toNat

/-- A 32-bit immediate sign-extended to 64 bits (06 R170). -/
def sext32 (n : Nat) : Word := (BitVec.ofNat 32 n).signExtend 64

/-- The number that a little-endian list of bytes holds (00 R7). -/
def leNat : List Byte → Nat
  | [] => 0
  | b :: bs => b.toNat + 256 * leNat bs

/-- The `k` bytes of a number, least significant first (00 R7). -/
def leBytes : Nat → Nat → List Byte
  | 0, _ => []
  | k + 1, n => BitVec.ofNat 8 n :: leBytes k (n / 256)

/-- The number of ones among the low `w` bits. -/
def popCount : Nat → Nat → Nat
  | 0, _ => 0
  | w + 1, n => b2n (n.testBit w) + popCount w n

/-- The index of the lowest set bit among bits `i .. i + fuel - 1`, or `none`. -/
def lowestSet : Nat → Nat → Nat → Option Nat
  | 0, _, _ => none
  | fuel + 1, i, n => if n.testBit i then some i else lowestSet fuel (i + 1) n

/-- Leading zeros of a `w`-bit number; `w` for 0 (06 Table 6-7 CLZ). -/
def leadingZeros (w n : Nat) : Nat := if n % 2 ^ w = 0 then w else w - 1 - (n % 2 ^ w).log2

/-- The list of the first `n` values of `f`. -/
def tabulate {α : Type} (n : Nat) (f : Nat → α) : List α := (List.range n).map f

/-- A number built from `n` fields of `w` bits, field 0 least significant. -/
def packFields (w : Nat) : List Nat → Nat
  | [] => 0
  | x :: xs => x % 2 ^ w + 2 ^ w * packFields w xs

/-- Field `i` of `w` bits of a packed number. -/
def fieldAt (w n i : Nat) : Nat := n / 2 ^ (w * i) % 2 ^ w

/-- A list padded with `d`, or cut, to length `n`. -/
def fitTo {α : Type} (d : α) (n : Nat) (l : List α) : List α :=
  l.take n ++ List.replicate (n - l.length) d

/-- The greatest `r` of the `fuel` low bits with `r * r ≤ n`, built bit by bit (no well-founded recursion). -/
def isqrtAux : Nat → Nat → Nat → Nat
  | 0, _, r => r
  | f + 1, n, r =>
    let c := r + 2 ^ f
    if c * c ≤ n then isqrtAux f n c else isqrtAux f n r

/-- The integer square root. -/
def isqrt (n : Nat) : Nat := isqrtAux (n.log2 / 2 + 1) n 0

/-- The number at `n` bytes from place `i` of a byte string, little-endian. -/
def natAt (bs : List (BitVec 8)) (i n : Nat) : Nat := leNat ((bs.drop i).take n)

/-! ### Fault locators as the outside may name them (01 R28 to R32) -/

/-- The classes of Table 1-7 with their die, physical core and bank, Table 1-8 among them. -/
def classOk (cls die pcore bank : Nat) : Bool :=
  let cluster := decide (pcore < 272) && pcore % 17 == 0
  match cls with
  | 1 => decide (die < 48) && decide (pcore < 272) && (decide (bank < 16) || bank == 31)
  | 2 => decide (die < 48) && cluster && (decide (bank < 8) || bank == 31)
  | 3 => decide (die < 48) && decide (pcore < 272) && (decide (bank < 8) || bank == 31)
  | 4 => decide (die < 48) && cluster && (decide (bank < 4) || bank == 31)
  | 5 => decide (die < 48) && pcore == 511 && (decide (bank < 16) || bank == 31)
  | 6 => die == 48 && pcore == 511 && (decide (bank < 9) || (decide (12 ≤ bank) && decide (bank < 15)) || bank == 31)
  | 7 => die == 63 && pcore == 511 && (decide (bank < 10) || bank == 31)
  | 8 => decide (die < 48) && pcore == 511 && (decide (1 ≤ bank ∧ bank ≤ 4) || bank == 31)
  | _ => false

/-- The levels below the bank, none filled under one that is not resolved (R30 to R32). -/
def levelsOk (cls bank sub col bit : Nat) : Bool :=
  if cls ≤ 2 then
    (bank != 31 || sub == 63) && (sub != 63 || col == 1023) && (col != 1023 || bit == 255) &&
      (bit == 255 || (if cls = 1 then decide (bit < 72) else decide (bit < 144) && bit % 4 == 0))
  else
    sub == 63 && bit == 255 &&
      (col == 1023 || (cls == 5 && bank == 5 && decide (col < 32)) || (cls == 8 && decide (col < 4)))

/-- A fault locator that some unit of the module can hold: zero, or valid with the fields of Tables 1-6 to 1-8. -/
def locatorOk (w : Word) : Bool :=
  let n := w.toNat
  let cls := bitsOf n 62 58
  let bank := bitsOf n 42 38
  n == 0 || (n.testBit 63 && n % 2 ^ 14 == 0 && classOk cls (bitsOf n 57 52) (bitsOf n 51 43) bank &&
    levelsOk cls bank (bitsOf n 37 32) (bitsOf n 31 22) (bitsOf n 21 14))

/-- A valid locator of class `cls` in bank `lo` to `hi`. -/
def locatorIn (cls lo hi : Nat) (w : Word) : Bool :=
  locatorOk w && bitsOf w.toNat 62 58 == cls && decide (lo ≤ bitsOf w.toNat 42 38 ∧ bitsOf w.toNat 42 38 ≤ hi)

end Sys2Proof.Machine
end

