-- ==== Sys2Proof/Machine/Num.lean ====
section
/-! DEFINITION. Chapter 04: number formats, exact values and the one rounding every operation uses.
A finite value is exact: a sign, a natural mantissa and a power of two (R92, R103). -/

namespace Sys2Proof.Machine

/-- A value of any floating-point format (R92, R93): every NaN is quiet and carries no payload. -/
inductive Val where
  | nan
  | inf (neg : Bool)
  /-- (-1)^neg * m * 2^e; a zero mantissa keeps its sign. -/
  | fin (neg : Bool) (m : Nat) (e : Int)
  deriving DecidableEq, Repr

/-- The parameters of a floating-point format (Tables 4-2 and 4-3). -/
structure FloatFmt where
  ebits : Nat
  mbits : Nat
  bias : Nat
  /-- the largest finite value is `maxM * 2^maxE`. -/
  maxM : Nat
  maxE : Int
  hasInf : Bool
  /-- the canonical NaN encoding, where the format has one. -/
  nanBits : Option Nat
  deriving DecidableEq, Repr

def fmtFP32 : FloatFmt := ⟨8, 23, 127, 2 ^ 24 - 1, 104, true, some 0x7FC00000⟩
def fmtBF16 : FloatFmt := ⟨8, 7, 127, 255, 120, true, some 0x7FC0⟩
def fmtFP16 : FloatFmt := ⟨5, 10, 15, 2047, 5, true, some 0x7E00⟩
def fmtE4M3 : FloatFmt := ⟨4, 3, 7, 14, 5, false, some 0x7F⟩
def fmtE5M2 : FloatFmt := ⟨5, 2, 15, 7, 13, true, some 0x7E⟩
def fmtE3M2 : FloatFmt := ⟨3, 2, 3, 7, 2, false, none⟩
def fmtE2M3 : FloatFmt := ⟨2, 3, 1, 15, -1, false, none⟩
def fmtE2M1 : FloatFmt := ⟨2, 1, 1, 3, 1, false, none⟩

/-- The element width of a format in bits. -/
def FloatFmt.width (f : FloatFmt) : Nat := 1 + f.ebits + f.mbits

/-- What an encoding denotes (R92, Table 4-3). -/
def FloatFmt.decode (f : FloatFmt) (bits : Nat) : Val :=
  let neg := bits.testBit (f.width - 1)
  let ex := bits / 2 ^ f.mbits % 2 ^ f.ebits
  let man := bits % 2 ^ f.mbits
  if f.hasInf && ex == 2 ^ f.ebits - 1 then
    if man = 0 then .inf neg else .nan
  else if !f.hasInf && f.nanBits.isSome && ex == 2 ^ f.ebits - 1 && man == 2 ^ f.mbits - 1 then .nan
  else if ex = 0 then .fin neg man (1 - (f.bias : Int) - f.mbits)
  else .fin neg (man + 2 ^ f.mbits) ((ex : Int) - f.bias - f.mbits)

/-- Rounding modes (Table 4-5). -/
inductive RMode where
  | rne | rtz
  /-- stochastic, with the generator word `r` of the element (R106). -/
  | sr (r : Nat)
  deriving DecidableEq, Repr

/-- The sticky flags one operation raises (Table 4-9), as the bits of CTX_FLAGS. -/
abbrev Flags := BitVec 12

def flNV : Flags := 0x001
def flDZ : Flags := 0x002
def flOF : Flags := 0x004
def flUF : Flags := 0x008
def flNX : Flags := 0x010
def flSAT : Flags := 0x100
def flSPILL : Flags := 0x200
def flSCNAN : Flags := 0x400
def flBCLAMP : Flags := 0x800
def flNone : Flags := 0

/-- A positive magnitude `m * 2^e`; `sticky` says the true value lies strictly between `m` and `m + 1` units. -/
structure Mag where
  m : Nat
  e : Int
  sticky : Bool
  deriving DecidableEq, Repr

/-- A magnitude rounded to a multiple of `2^q`: the multiple, and whether it is inexact (R102, R106).
Under SR the part below the last place, as a fraction cut to 32 bits, is added to the generator's word. -/
def roundAt (rm : RMode) (x : Mag) (q : Int) : Nat × Bool :=
  if q ≤ x.e then (x.m * 2 ^ (x.e - q).toNat, x.sticky)
  else
    let k := (q - x.e).toNat
    let hi := x.m / 2 ^ k
    let rem := x.m % 2 ^ k
    let inexact := rem != 0 || x.sticky
    let up := match rm with
      | .rtz => false
      | .rne => 2 ^ k < 2 * rem || (2 * rem == 2 ^ k && (x.sticky || hi % 2 == 1))
      | .sr r => 2 ^ 32 ≤ rem * 2 ^ 32 / 2 ^ k + r % 2 ^ 32
    (if up then hi + 1 else hi, inexact)

/-- Whether `a * 2^ea` lies above `b * 2^eb`. -/
def dyGt (a : Nat) (ea : Int) (b : Nat) (eb : Int) : Bool :=
  let lo := min ea eb
  decide (b * 2 ^ (eb - lo).toNat < a * 2 ^ (ea - lo).toNat)

/-- The encoding of a finite `n * 2^q` that the format holds exactly (`q` at or above the format's least quantum). -/
def FloatFmt.encodeFin (f : FloatFmt) (neg : Bool) (n : Nat) (q : Int) : Nat :=
  let qmin : Int := 1 - (f.bias : Int) - f.mbits
  let s := b2n neg * 2 ^ (f.width - 1)
  if n = 0 then s
  else
    -- bring the mantissa to mbits + 1 bits where it is longer (a carry out of rounding)
    let extra := n.log2 - f.mbits
    let n := n / 2 ^ extra
    let q := q + extra
    if n < 2 ^ f.mbits then s + n * 2 ^ (q - qmin).toNat
    else s + ((q - qmin).toNat + 1) * 2 ^ f.mbits + (n - 2 ^ f.mbits)

def FloatFmt.maxBits (f : FloatFmt) (neg : Bool) : Nat := f.encodeFin neg f.maxM f.maxE

/-- The encoding of an infinity, or of the largest finite value where the format has none. -/
def FloatFmt.infBits (f : FloatFmt) (neg : Bool) : Nat :=
  if f.hasInf then b2n neg * 2 ^ (f.width - 1) + (2 ^ f.ebits - 1) * 2 ^ f.mbits else f.maxBits neg

/-- The canonical NaN; formats without one write 0 (R93, R159). -/
def FloatFmt.canonNan (f : FloatFmt) : Nat := f.nanBits.getD 0

/-- What rounding one magnitude gives: the rounded multiple, its quantum, whether it is inexact, tiny (R103) and
whether it overflows (R104). -/
structure Rounded where
  n : Nat
  q : Int
  inexact : Bool
  tiny : Bool
  ovf : Bool
  deriving DecidableEq, Repr

/-- One rounding to a format's precision (R103, R104): the tininess and overflow tests round with the same mode and
generator word, with an unbounded exponent range. Under RNE a magnitude of at least the largest finite plus half an
ulp overflows, as R104 says: this matters for E4M3 alone, whose largest mantissa is even (DEDUCED, log 12). -/
def FloatFmt.round (f : FloatFmt) (rm : RMode) (x : Mag) : Rounded :=
  let qmin : Int := 1 - (f.bias : Int) - f.mbits
  let qu : Int := x.e + (x.m.log2 : Int) - f.mbits
  let ru := roundAt rm x qu
  let tiny := dyGt (2 ^ f.mbits) qmin ru.1 qu
  let tie := match rm with
    | .rne => !dyGt (2 * f.maxM + 1) (f.maxE - 1) x.m x.e
    | _ => false
  let ovf := dyGt ru.1 qu f.maxM f.maxE || tie
  if qu < qmin then
    let rd := roundAt rm x qmin
    ⟨rd.1, qmin, rd.2, tiny, ovf⟩
  else ⟨ru.1, qu, ru.2, tiny, ovf⟩

/-- A nonzero magnitude delivered in a format with infinities or E4M3: Table 4-6's first rows, or R103 with `sat`
false. Answers the encoding and the flags. -/
def FloatFmt.deliver (f : FloatFmt) (rm : RMode) (sat : Bool) (neg : Bool) (x : Mag) : Nat × Flags :=
  let r := f.round rm x
  if r.ovf then
    if !f.hasInf then (f.maxBits neg, flOF ||| flNX ||| flSAT)
    else if sat then
      (f.maxBits neg, flOF ||| flNX ||| (if rm = .rtz then flNone else flSAT))
    else if rm = .rtz then (f.maxBits neg, flOF ||| flNX)
    else (f.infBits neg, flOF ||| flNX)
  else
    -- a value above the largest finite that does not overflow rounds to it
    (f.encodeFin neg r.n r.q,
      (if r.inexact then flNX else flNone) ||| (if r.inexact && r.tiny then flUF else flNone))

/-- A value converted to a floating-point format (Table 4-6; exact values raise no flag). -/
def FloatFmt.encode (f : FloatFmt) (rm : RMode) (sat : Bool) : Val → Nat × Flags
  | .nan => (f.canonNan, flNone)
  | .inf neg =>
    if !f.hasInf then (f.maxBits neg, flSAT)
    else if sat then (f.maxBits neg, flSAT) else (f.infBits neg, flNone)
  | .fin neg m e =>
    if m = 0 then (b2n neg * 2 ^ (f.width - 1), flNone)
    else f.deliver rm sat neg ⟨m, e, false⟩

/-- A value that an instruction of chapter 05 computes, rounded once to FP32 or BF16 (R103): no saturation. -/
def FloatFmt.result (f : FloatFmt) (rm : RMode) (v : Val) : Nat × Flags := f.encode rm false v

/-- The sum of two values, exact (R103): an exact zero sum of unlike signs is +0, of two negative zeros is -0. -/
def Val.add (a b : Val) : Val × Flags :=
  match a, b with
  | .nan, _ => (.nan, flNone)
  | _, .nan => (.nan, flNone)
  | .inf s, .inf t => if s = t then (.inf s, flNone) else (.nan, flNV)
  | .inf s, .fin _ _ _ => (.inf s, flNone)
  | .fin _ _ _, .inf t => (.inf t, flNone)
  | .fin s m e, .fin t n f =>
    let lo := min e f
    let x : Int := (if s then -1 else 1) * (m * 2 ^ (e - lo).toNat : Nat)
    let y : Int := (if t then -1 else 1) * (n * 2 ^ (f - lo).toNat : Nat)
    let z := x + y
    if z = 0 then (.fin (s && t) 0 lo, flNone) else (.fin (decide (z < 0)) z.natAbs lo, flNone)

/-- The negation of a value. -/
def Val.neg : Val → Val
  | .nan => .nan
  | .inf s => .inf (!s)
  | .fin s m e => .fin (!s) m e

/-- The exact product (R103). -/
def Val.mul (a b : Val) : Val × Flags :=
  match a, b with
  | .nan, _ => (.nan, flNone)
  | _, .nan => (.nan, flNone)
  | .inf s, .inf t => (.inf (s != t), flNone)
  | .inf s, .fin t n _ => if n = 0 then (.nan, flNV) else (.inf (s != t), flNone)
  | .fin s m _, .inf t => if m = 0 then (.nan, flNV) else (.inf (s != t), flNone)
  | .fin s m e, .fin t n f => (.fin (s != t) (m * n) (e + f), flNone)

/-- The order of two values that are not NaN, -0 below +0 (R103): whether `a` lies strictly below `b`. -/
def Val.below (a b : Val) : Bool :=
  let key (v : Val) : Int × Nat × Int :=
    match v with
    | .nan => (0, 0, 0)
    | .inf s => (if s then -3 else 3, 0, 0)
    | .fin s m e => (if m = 0 then (if s then -1 else 1) else (if s then -2 else 2), m, e)
  let ka := key a
  let kb := key b
  if ka.1 ≠ kb.1 then decide (ka.1 < kb.1)
  else if ka.1 = 2 then dyGt kb.2.1 kb.2.2 ka.2.1 ka.2.2
  else if ka.1 = -2 then dyGt ka.2.1 ka.2.2 kb.2.1 kb.2.2
  else false

/-- IEEE 754-2019 minimum (R103). -/
def Val.minimum (a b : Val) : Val :=
  match a, b with
  | .nan, _ => .nan
  | _, .nan => .nan
  | _, _ => if Val.below b a then b else a

/-- IEEE 754-2019 maximum (R103). -/
def Val.maximum (a b : Val) : Val :=
  match a, b with
  | .nan, _ => .nan
  | _, .nan => .nan
  | _, _ => if Val.below a b then b else a

/-- IEEE 754-2019 comparison of values that are not NaN, -0 equal to +0 (R181). -/
def Val.cmpLt (a b : Val) : Bool :=
  match a, b with
  | .fin _ 0 _, .fin _ 0 _ => false
  | _, _ => Val.below a b

/-- Whether two values are equal under R181. -/
def Val.cmpEq (a b : Val) : Bool :=
  match a, b with
  | .nan, _ => false
  | _, .nan => false
  | _, _ => !Val.cmpLt a b && !Val.cmpLt b a

/-! ### Philox4x32-10 (R107) -/

/-- One round of the generator on (counter, key). -/
def philoxRound (c : Nat × Nat × Nat × Nat) (k : Nat × Nat) : Nat × Nat × Nat × Nat :=
  let p0 := 0xD2511F53 * c.1
  let p1 := 0xCD9E8D57 * c.2.2.1
  (Nat.xor (Nat.xor (p1 / 2 ^ 32) c.2.1) k.1, p1 % 2 ^ 32,
   Nat.xor (Nat.xor (p0 / 2 ^ 32) c.2.2.2) k.2, p0 % 2 ^ 32)

/-- `n` rounds, the key stepping after each (R107). -/
def philoxRounds : Nat → Nat × Nat × Nat × Nat → Nat × Nat → Nat × Nat × Nat × Nat
  | 0, c, _ => c
  | n + 1, c, k =>
    philoxRounds n (philoxRound c k) ((k.1 + 0x9E3779B9) % 2 ^ 32, (k.2 + 0xBB67AE85) % 2 ^ 32)

/-- The generator's word r for a seed, an element index and a purpose (R107); indexes count modulo 2^64. -/
def philoxWord (seed index purpose : Nat) : Nat :=
  (philoxRounds 10 (index % 2 ^ 32, index / 2 ^ 32 % 2 ^ 32, purpose, 0)
    (seed % 2 ^ 32, seed / 2 ^ 32 % 2 ^ 32)).1

/-- The rounding mode of element `e` of an instruction with mode field `rm` (R102, R108). -/
def rmodeFor (rm seed base e : Nat) : RMode :=
  if rm = 0 then .rne else if rm = 1 then .rtz else .sr (philoxWord seed (base + e) 0)

/-! ### exp2, log2, reciprocal, reciprocal square root (R151) -/

/-- floor(ln 2 * 2^320). -/
def ln2Fix : Nat :=
  1480553391661173448385607439722553250922680800745876974795605978609098082859138712941075737848984

/-- The Taylor sum of e^t for t at 320 fractional bits: terms from index `i` on (R151). -/
def expTerms : Nat → Nat → Nat → Nat → Nat → Nat
  | 0, _, _, _, acc => acc
  | fuel + 1, i, t, term, acc => expTerms fuel (i + 1) t (term * t / 2 ^ 320 / i) (acc + term)

/-- 2^f for a fraction `f / 2^320` below 1, at 320 fractional bits; 80 terms leave an error below 2^-300. -/
def exp2Frac (f : Nat) : Nat := expTerms 80 1 (f * ln2Fix / 2 ^ 320) (2 ^ 320) 0

/-- A magnitude known at 320 fractional bits with a relative error below 2^-200, not exact: its low bits are cut off
and the cut is kept as `sticky`. -/
def cutMag (n : Nat) (e : Int) : Mag := ⟨n / 2 ^ 40, e + 40, true⟩

/-- 2^x for a finite x (R151): exact when x is an integer. Beyond the exponents FP32 can round to, any magnitude
past them rounds alike, so the exponent is cut at 4,096. -/
def exp2Mag (neg : Bool) (m : Nat) (e : Int) : Mag :=
  -- x = ip + frac, with frac at 320 fractional bits; bits below 2^-320 are kept as inexactness
  let scaled : Nat := if 0 ≤ e + 320 then m * 2 ^ (e + 320).toNat else m / 2 ^ (-(e + 320)).toNat
  let big := decide (2 ^ 332 ≤ scaled)
  if big then (if neg then ⟨1, -4096, true⟩ else ⟨1, 4096, true⟩)
  else
    let exactInt := if 0 ≤ e then true else m % 2 ^ (-e).toNat == 0
    if exactInt then
      let k : Nat := scaled / 2 ^ 320
      ⟨1, if neg then -(k : Int) else (k : Int), false⟩
    else if neg then
      -- -x = -(ip + 1) + (1 - frac); the cut of frac keeps the error below 2^-300
      let ip : Nat := scaled / 2 ^ 320
      let fr : Nat := 2 ^ 320 - scaled % 2 ^ 320
      cutMag (exp2Frac (fr - 1)) (-(ip : Int) - 1 - 320)
    else
      cutMag (exp2Frac (scaled % 2 ^ 320)) (Int.ofNat (scaled / 2 ^ 320) - 320)

/-- Terms z^(2i+1)/(2i+1) of atanh z at 320 fractional bits. -/
def atanhTerms : Nat → Nat → Nat → Nat → Nat → Nat
  | 0, _, _, _, acc => acc
  | fuel + 1, i, z2, p, acc => atanhTerms fuel (i + 1) z2 (p * z2 / 2 ^ 320) (acc + p / (2 * i + 1))

/-- log2 y for y = `m / 2^k`, 2^k ≤ m < 2^(k+1), at 320 fractional bits (R151). -/
def log2Frac (m k : Nat) : Nat :=
  let z := (m - 2 ^ k) * 2 ^ 320 / (m + 2 ^ k)
  2 * atanhTerms 110 0 (z * z / 2 ^ 320) z 0 * 2 ^ 320 / ln2Fix

/-- exp2 of a value, rounded to FP32 (R151). -/
def fpExp2 (rm : RMode) (v : Val) : Nat × Flags :=
  match v with
  | .nan => (0x7FC00000, flNone)
  | .inf true => (0, flNone)
  | .inf false => (0x7F800000, flNone)
  | .fin neg m e => if m = 0 then (0x3F800000, flNone) else fmtFP32.deliver rm false false (exp2Mag neg m e)

/-- log2 of a value, rounded to FP32 (R151). -/
def fpLog2 (rm : RMode) (v : Val) : Nat × Flags :=
  match v with
  | .nan => (0x7FC00000, flNone)
  | .inf true => (0x7FC00000, flNV)
  | .inf false => (0x7F800000, flNone)
  | .fin neg m e =>
    if m = 0 then (0xFF800000, flDZ)
    else if neg then (0x7FC00000, flNV)
    else
      let k := m.log2
      let i : Int := (k : Int) + e
      if m = 2 ^ k then
        if i = 0 then (0, flNone) else fmtFP32.deliver rm false (decide (i < 0)) ⟨i.natAbs, 0, false⟩
      else
        let t : Int := i * 2 ^ 320 + log2Frac m k
        fmtFP32.deliver rm false (decide (t < 0)) (cutMag (t.natAbs) (-320))

/-- The reciprocal of a value, rounded to FP32 (R151). -/
def fpRcp (rm : RMode) (v : Val) : Nat × Flags :=
  match v with
  | .nan => (0x7FC00000, flNone)
  | .inf neg => (b2n neg * 2 ^ 31, flNone)
  | .fin neg m e =>
    if m = 0 then (fmtFP32.infBits neg, flDZ)
    else fmtFP32.deliver rm false neg ⟨2 ^ 160 / m, -e - 160, 2 ^ 160 % m != 0⟩

/-- The reciprocal square root of a value, rounded to FP32 (R151). -/
def fpRsq (rm : RMode) (v : Val) : Nat × Flags :=
  match v with
  | .nan => (0x7FC00000, flNone)
  | .inf false => (0, flNone)
  | .inf true => (0x7FC00000, flNV)
  | .fin neg m e =>
    if m = 0 then (fmtFP32.infBits neg, flDZ)
    else if neg then (0x7FC00000, flNV)
    else
      -- an even exponent, then an integer square root with 160 fractional bits
      let m' := if e % 2 = 0 then m else 2 * m
      let e' := if e % 2 = 0 then e else e - 1
      let q := 2 ^ 320 / m'
      let r := isqrt q
      fmtFP32.deliver rm false false ⟨r, -(e' / 2) - 160, r * r * m' != 2 ^ 320⟩

/-! ### FP32 arithmetic on bit patterns -/

/-- An FP32 pattern as a value. -/
def f32 (n : Nat) : Val := fmtFP32.decode n

/-- Two patterns of a format added, subtracted or multiplied, rounded once (R103). -/
def fpAdd (f : FloatFmt) (rm : RMode) (a b : Nat) : Nat × Flags :=
  let r := Val.add (f.decode a) (f.decode b)
  let o := f.result rm r.1
  (o.1, r.2 ||| o.2)

def fpSub (f : FloatFmt) (rm : RMode) (a b : Nat) : Nat × Flags :=
  let r := Val.add (f.decode a) (f.decode b).neg
  let o := f.result rm r.1
  (o.1, r.2 ||| o.2)

def fpMul (f : FloatFmt) (rm : RMode) (a b : Nat) : Nat × Flags :=
  let r := Val.mul (f.decode a) (f.decode b)
  let o := f.result rm r.1
  (o.1, r.2 ||| o.2)

/-- Fused multiply-add, one rounding (06 VFMA). -/
def fpFma (f : FloatFmt) (rm : RMode) (a b c : Nat) : Nat × Flags :=
  let p := Val.mul (f.decode a) (f.decode b)
  let r := Val.add p.1 (f.decode c)
  let o := f.result rm r.1
  let nv := if f.decode c = .nan ∧ Config.fmaInvalid a b c = false then flNone else p.2
  (o.1, nv ||| r.2 ||| o.2)

/-- Minimum and maximum (R103): exact, no flag. -/
def fpMin (f : FloatFmt) (a b : Nat) : Nat := (f.encode .rne false (Val.minimum (f.decode a) (f.decode b))).1

def fpMax (f : FloatFmt) (a b : Nat) : Nat := (f.encode .rne false (Val.maximum (f.decode a) (f.decode b))).1

/-- The codes of Table 6-13 as VFCMP reads them: `none` where the code is illegal. -/
def fpCond (cond : Nat) (a b : Val) : Option Bool :=
  let un := a = .nan || b = .nan
  let lt := !un && Val.cmpLt a b
  let gt := !un && Val.cmpLt b a
  let eq := !un && Val.cmpEq a b
  match cond with
  | 0 => some eq
  | 1 => some (!eq)
  | 2 => some lt
  | 3 => some (!un && !lt)
  | 6 => some (!un && !gt)
  | 7 => some gt
  | 10 => some un
  | 11 => some (!un)
  | _ => none

/-- The codes of Table 6-13 as integer comparisons of `w`-bit numbers: `none` where the code is illegal. -/
def intCond (w cond a b : Nat) : Option Bool :=
  let sa := signed w a
  let sb := signed w b
  match cond with
  | 0 => some (a == b)
  | 1 => some (a != b)
  | 2 => some (decide (sa < sb))
  | 3 => some (decide (sb ≤ sa))
  | 4 => some (decide (a < b))
  | 5 => some (decide (b ≤ a))
  | 6 => some (decide (sa ≤ sb))
  | 7 => some (decide (sb < sa))
  | 8 => some (decide (a ≤ b))
  | 9 => some (decide (b < a))
  | _ => none

end Sys2Proof.Machine
end

