-- ==== Sys2Proof/Machine/Formats.lean ====
section
/-! DEFINITION. The sixteen format codes of Table 4-1, their elements, and conversion (R95 to R105, R124 to R128,
R159). Elements are packed from bit 0 upward, which is R97's packing for every width. -/

namespace Sys2Proof.Machine

/-- The floating-point element format of a code, where it has one (Table 4-1). -/
def codeFloat : Nat → Option FloatFmt
  | 0x0 => some fmtFP32
  | 0x1 => some fmtBF16
  | 0x2 => some fmtFP16
  | 0x3 => some fmtE4M3
  | 0x4 => some fmtE5M2
  | 0x5 => some fmtE4M3
  | 0x6 => some fmtE5M2
  | 0x7 => some fmtE3M2
  | 0x8 => some fmtE2M3
  | 0x9 => some fmtE2M1
  | _ => none

/-- Element bits (Table 4-1); 0 for the reserved code. -/
def codeBits : Nat → Nat
  | 0x0 => 32 | 0x1 => 16 | 0x2 => 16 | 0x3 => 8 | 0x4 => 8 | 0x5 => 8 | 0x6 => 8 | 0x7 => 6 | 0x8 => 6
  | 0x9 => 4 | 0xA => 8 | 0xB => 8 | 0xC => 4 | 0xD => 32 | 0xE => 24 | _ => 0

/-- The formats that carry an E8M0 scale (R96). -/
def isMx (c : Nat) : Bool := decide (0x5 ≤ c) && decide (c ≤ 0xA)

/-- The integer formats (R100). -/
def isIntFmt (c : Nat) : Bool := c == 0xB || c == 0xC || c == 0xD

/-- Codes that VCVT and streams convert between: all but the reserved one (Table 4-1). -/
def isConvFmt (c : Nat) : Bool := decide (c ≤ 0xE)

/-- Codes the engines take (R91). -/
def isEngineFmt (c : Nat) : Bool := decide (1 ≤ c) && decide (c ≤ 0xC)

/-- emax of R105. -/
def mxEmax : Nat → Int
  | 0x5 => 8 | 0x6 => 15 | 0x7 => 4 | 0x8 => 2 | 0x9 => 2 | _ => 0

/-- Elements that share one scale: 64 for MXFP4 in a tile or a register (R98, R105), else 32. -/
def mxGroup (c : Nat) : Nat := if c = 0x9 then 64 else 32

/-- One source element: its value, whether it is poisoned, and its bits. -/
structure Elem where
  v : Val
  poison : Bool
  raw : Nat
  deriving DecidableEq, Repr

/-- The value of an element's bits in its format, before any scale. -/
def elemVal (c bits : Nat) : Val :=
  match codeFloat c with
  | some f => f.decode bits
  | none =>
    let i := signed (codeBits c) bits
    .fin (decide (i < 0)) i.natAbs (if c = 0xA then -6 else 0)

/-- A value times a power of two. -/
def Val.scale (v : Val) (k : Int) : Val :=
  match v with
  | .fin s m e => .fin s m (e + k)
  | x => x

/-- An element of an MX block with scale byte `sc` (R95, R96). -/
def mxVal (c sc bits : Nat) : Val :=
  if sc = 0xFF then .nan else (elemVal c bits).scale ((sc : Int) - 127)

/-- A bore-24 lane's value (R101, R128). -/
def boreVal (b m lane : Nat) : Val :=
  if b = 0xFF then .nan
  else if b = 0 then .fin false 0 0
  else
    let i := signed 24 lane
    .fin (decide (i < 0)) i.natAbs ((b : Int) - 127 - 8 + 14 * m)

/-- A finite value rounded to an integer under a mode (R104): the magnitude and whether it is inexact. -/
def roundToInt (rm : RMode) (m : Nat) (e : Int) : Nat × Bool := if m = 0 then (0, false) else roundAt rm ⟨m, e, false⟩ 0

/-- A value converted to a `w`-bit integer (Table 4-6). -/
def encodeInt (rm : RMode) (w : Nat) (v : Val) : Nat × Flags :=
  let hi : Int := 2 ^ (w - 1) - 1
  let lo : Int := -(2 ^ (w - 1) : Int)
  match v with
  | .nan => (0, flNV)
  | .inf neg => (wrap w (if neg then lo else hi), flNV ||| flSAT)
  | .fin neg m e =>
    let r := roundToInt rm m e
    let i : Int := if neg then -(r.1 : Int) else (r.1 : Int)
    if i < lo then (wrap w lo, flNV ||| flSAT)
    else if hi < i then (wrap w hi, flNV ||| flSAT)
    else (wrap w i, if r.2 then flNX else flNone)

/-- One element of an MX block already divided by its scale (R105): clipped to the largest finite, raising SAT and NX. -/
def encodeMxElem (c : Nat) (rm : RMode) (v : Val) : Nat × Flags :=
  match v with
  | .fin neg m e =>
    if m = 0 then (b2n neg * 2 ^ (codeBits c - 1) * b2n (c != 0xA), flNone)
    else
      match codeFloat c with
      | some f =>
        let r := f.round rm ⟨m, e, false⟩
        if r.ovf then (f.maxBits neg, flSAT ||| flNX)
        else (f.encodeFin neg r.n r.q,
          (if r.inexact then flNX else flNone) ||| (if r.inexact && r.tiny then flUF else flNone))
      | none =>
        let r := roundAt rm ⟨m, e + 6, false⟩ 0
        if 127 < r.1 then (wrap 8 (if neg then -127 else 127), flSAT ||| flNX)
        else (wrap 8 (if neg then -(r.1 : Int) else (r.1 : Int)), if r.2 then flNX else flNone)
  | _ => (0, flNone)

/-- floor(log2) of a nonzero finite magnitude. -/
def floorLog2 (m : Nat) (e : Int) : Int := (m.log2 : Int) + e

/-- The largest floor(log2) among finite nonzero values, if any. -/
def maxLog2 : List Val → Option Int
  | [] => none
  | v :: vs =>
    let r := maxLog2 vs
    match v with
    | .fin _ m e =>
      if m = 0 then r
      else match r with
        | none => some (floorLog2 m e)
        | some k => some (max k (floorLog2 m e))
    | _ => r

/-- Payload bytes of a tile that a format uses (Table 4-4): MXFP6 leaves 1,024 bytes of padding. -/
def payloadUsed (c : Nat) : Nat := if codeBits c = 6 then 3072 else 4096

def Val.isFinite : Val → Bool
  | .fin _ _ _ => true
  | _ => false

/-- The scale byte of a block of finite values (R105). -/
def mxScaleByte (c : Nat) (vs : List Val) : Nat :=
  match maxLog2 vs with
  | none => 0x7F
  | some k => (max (k - mxEmax c + 127) 0).toNat

/-- One MX block converted (R105, R159): its scale byte, its elements, its flags. `rm` gives each element's mode. -/
def encodeMxBlock (c : Nat) (rm : Nat → RMode) (base : Nat) (es : List Elem) : Nat × List Nat × Flags :=
  if es.any (fun e => e.poison) then (0xFF, es.map (fun _ => 0), flNone)
  else if es.any (fun e => !e.v.isFinite) then (0xFF, es.map (fun _ => 0), flSCNAN)
  else
    let sc := mxScaleByte c (es.map (fun e => e.v))
    let outs := es.zipIdx.map (fun p => encodeMxElem c (rm (base + p.2)) (p.1.v.scale (127 - (sc : Int))))
    (sc, outs.map (fun o => o.1), outs.foldl (fun f o => f ||| o.2) flNone)

/-- A finite element converted to a bore-24 lane under a reduced byte `b` of 1 to 254 (R125). A clamped lane raises NX beside
BCLAMP where the rounding before the clamp was inexact (DESIGN CHOICE, log 76). -/
def encodeBore (b : Nat) (e : Elem) : Nat × Flags :=
  if e.poison then (0, flNone)
  else if b = 0 || b == 0xFF then (0, flNone)
  else
    match e.v with
    | .fin neg m ex =>
      let r := roundToInt .rne m (ex + 8 - ((b : Int) - 127))
      if 512 ≤ r.1 then (wrap 24 (if neg then -511 else 511), flBCLAMP ||| (if r.2 then flNX else flNone))
      else (wrap 24 (if neg then -(r.1 : Int) else (r.1 : Int)), if r.2 then flNX else flNone)
    | _ => ((Config.boreNonFinite e.raw).toNat, flNone)

/-- A bore-24 exponent byte of a block of FP32 or BF16 values (R124). -/
def boreByte (vs : List Val) : Nat :=
  if vs.any (fun v => !v.isFinite) then 0xFF
  else match maxLog2 vs with
    | none => 0
    | some k => (max k (-126) + 127).toNat

/-- A list cut into groups of `n` (`fuel` groups at most). -/
def groupsOf {α : Type} : Nat → Nat → List α → List (List α)
  | 0, _, _ => []
  | fuel + 1, n, l => if l.isEmpty then [] else l.take n :: groupsOf fuel n (l.drop n)

/-- The result of converting a list of elements: the target's elements, the scale bytes of MX groups, the flags. -/
structure Converted where
  elems : List Nat
  scales : List Nat
  flags : Flags
  deriving DecidableEq, Repr

/-- A poisoned element's pattern in a format: the canonical NaN, or 0 where there is none (R159). -/
def poisonElem (c : Nat) : Nat :=
  match codeFloat c with
  | some f => if isMx c then 0 else f.canonNan
  | none => 0

/-- Elements converted into a non-MX, non-bore format (Table 4-6). -/
def encodePlain (c : Nat) (rm : RMode) (sat : Bool) (e : Elem) : Nat × Flags :=
  if e.poison then (poisonElem c, flNone)
  else match codeFloat c with
    | some f => f.encode rm sat e.v
    | none => encodeInt rm (codeBits c) e.v

/-- Conversion of a list of elements into format `c` (R104, R105, R125): `bs` are the reduced bytes of bore-24
blocks, `rm` the mode of each element in destination order. -/
def convertElems (c : Nat) (rm : Nat → RMode) (sat : Bool) (bs : List Nat) (es : List Elem) : Converted :=
  if isMx c then
    let n := mxGroup c
    let outs := (groupsOf es.length n es).zipIdx.map (fun p => encodeMxBlock c rm (p.2 * n) p.1)
    ⟨(outs.map (fun o => o.2.1)).flatten, outs.map (fun o => o.1), outs.foldl (fun f o => f ||| o.2.2) flNone⟩
  else
    let outs := es.zipIdx.map (fun p =>
      if c = 0xE then encodeBore (bs.getD (p.2 / 32) 0) p.1 else encodePlain c (rm p.2) sat p.1)
    ⟨outs.map (fun o => o.1), [], outs.foldl (fun f o => f ||| o.2) flNone⟩

/-- The elements that a packed source holds, with one scale or bore-24 byte and count per 32 (R96, R97, R101):
`poisonAt k` says whether element `k` is poisoned. Reading a block with scale 0xFF raises SCNAN (Table 4-9). -/
def sourceElems (c n : Nat) (packed : Nat) (w : Nat) (scales ms : List Nat) (poisonAt : Nat → Bool) : List Elem :=
  tabulate n (fun k =>
    let bits := fieldAt w packed k % 2 ^ codeBits c
    let v :=
      if isMx c then mxVal c (scales.getD (k / 32) 0) bits
      else if c = 0xE then boreVal (scales.getD (k / 32) 0) (ms.getD (k / 32) 0) bits
      else elemVal c bits
    ⟨v, poisonAt k, bits⟩)

/-- SCNAN for consuming MX blocks of scale 0xFF, poisoned blocks apart (Table 4-9, R159). -/
def sourceFlags (c : Nat) (scales : List Nat) (poisonBlk : Nat → Bool) : Flags :=
  if isMx c && scales.zipIdx.any (fun p => p.1 == 0xFF && !poisonBlk p.2) then flSCNAN else flNone

end Sys2Proof.Machine
end

