-- ==== Sys2Proof/Machine/Sparse.lean ====
section
/-! DEFINITION. Sparse plain data: lists of (key, value) pairs with rising keys that never list the default, so equal
contents are equal lists. Registers, objects, tiles and memory are all held this way. -/

namespace Sys2Proof.Machine

/-- The value at key `k`, the default `d` where nothing is listed. -/
def aget {α : Type} (d : α) (m : List (Nat × α)) (k : Nat) : α :=
  match m with
  | [] => d
  | (j, v) :: r => if j = k then v else aget d r k

/-- An entry put before the first one with a larger key. -/
def ains {α : Type} (k : Nat) (v : α) : List (Nat × α) → List (Nat × α)
  | [] => [(k, v)]
  | (j, u) :: r => if k < j then (k, v) :: (j, u) :: r else (j, u) :: ains k v r

/-- The entries of other keys than `k`. -/
def adel {α : Type} (m : List (Nat × α)) (k : Nat) : List (Nat × α) := m.filter (fun p => decide (p.1 ≠ k))

/-- `m` with `v` at key `k`; writing the default removes the entry, so the canonical form is kept. -/
def aset {α : Type} [DecidableEq α] (d : α) (m : List (Nat × α)) (k : Nat) (v : α) : List (Nat × α) :=
  if v = d then adel m k else ains k v (adel m k)

/-- `m` with the value at `k` changed by `f`. -/
def amod {α : Type} [DecidableEq α] (d : α) (m : List (Nat × α)) (k : Nat) (f : α → α) : List (Nat × α) :=
  aset d m k (f (aget d m k))

/-- The entries with a key below `lo` or at least `hi`: everything in [lo, hi) back at the default. -/
def aclear {α : Type} (m : List (Nat × α)) (lo hi : Nat) : List (Nat × α) :=
  m.filter (fun p => decide (p.1 < lo) || decide (hi ≤ p.1))

/-- Keys rise strictly from above `lo` (as a Bool, so that it can be computed). -/
def akeysFrom {α : Type} : List (Nat × α) → Option Nat → Bool
  | [], _ => true
  | (k, _) :: r, lo => (match lo with | none => true | some l => decide (l < k)) && akeysFrom r (some k)

/-- The canonical form: keys strictly rising, no entry equal to the default. -/
def awf {α : Type} [DecidableEq α] (d : α) (m : List (Nat × α)) : Bool :=
  akeysFrom m none && m.all (fun p => decide (p.2 ≠ d))

/-- Consecutive keys from `k` on, set to the values of a list. -/
def asetRun {α : Type} [DecidableEq α] (d : α) (m : List (Nat × α)) (k : Nat) : List α → List (Nat × α)
  | [] => m
  | v :: vs => asetRun d (aset d m k v) (k + 1) vs

/-- The values at keys `k .. k + n - 1`. -/
def agetRun {α : Type} (d : α) (m : List (Nat × α)) (k n : Nat) : List α := tabulate n (fun i => aget d m (k + i))

/-! ### Bytes -/

/-- An unlisted byte reads as zero: the spec zero-fills both SRAM tiers before anything can read them (R84, R275). -/
abbrev memDefault : BitVec 8 := 0

/-- One byte of a memory. -/
def memByte (m : List Host.Cell) (a : Nat) : BitVec 8 := aget memDefault m a

/-- `n` bytes from `a` on. -/
def memBytes (m : List Host.Cell) (a n : Nat) : List (BitVec 8) := agetRun memDefault m a n

/-- Consecutive bytes stored from `a` on. -/
def memStore (m : List Host.Cell) (a : Nat) (bs : List (BitVec 8)) : List Host.Cell := asetRun memDefault m a bs

/-- The canonical form of a memory: addresses strictly rising, no entry equal to what an unlisted byte reads as. -/
def Memory.wf (m : List Host.Cell) : Bool := awf memDefault m

end Sys2Proof.Machine
end

