-- ==== Sys2Proof/Machine/Types.lean ====
section
/-! DEFINITION. Plain data of the module's units beyond the cores: census, fabric, Felun ports, mouthpieces and bells,
host interface and Chabohar. Each structure has a value `zero`: the unit right after a start. -/

namespace Sys2Proof.Machine

/-! ### Hang census (09 R299 to R302) -/

/-- The census of this job, and the core and host-valve records last copied (R299, R587). -/
structure Census where
  trigger : Nat
  startT : Nat
  startCal : Nat
  snapFirst : Nat
  snapLast : Nat
  dieMask : Nat
  /-- copied core records by core key: 128 words each (Table 9-13); a core with no record reads zero. -/
  recs : List (Nat × List Word)
  /-- copied host-valve records by number: 4 words each (Table 9-11). -/
  hvs : List (Nat × List Word)
  copied : Bool
  /-- the records are taken from R587 or R588, not from a census freeze. -/
  fromStop : Bool
  written : Bool
  /-- probes this module originated that have no outcome yet, by origin node. -/
  waiting : List Word
  /-- (origin, node) pairs already forwarded here (R301). -/
  passed : List (Word × Word)
  /-- cycle records: length, time found, members. -/
  cycles : List (Nat × Nat × List Word)
  sent : Nat
  received : Nat
  endT : Nat
  deriving DecidableEq, Repr

def Census.zero : Census := ⟨0, 0, 0, 0, 0, 0, [], [], false, false, false, [], [], [], 0, 0, 0⟩

/-! ### Felun packets (11) -/

/-- A Felun packet (Tables 11-9, 12-2): the header's fields, bytes 32 to 63 of the first flit as four words, the content
from byte 64 on, and the poisoned 64-byte granules of it (bit 0 is bytes 0 to 63 of the packet). -/
structure Packet where
  vc : Nat
  opc : Nat
  dplace : Nat
  splace : Nat
  pidx : Nat
  tag : Nat
  rport : Nat
  addr : Nat
  len : Nat
  status : Nat
  sdie : Nat
  slcore : Nat
  sctx : Nat
  spc : Nat
  valve : Nat
  sendt : Nat
  hdr : List Word
  content : List (BitVec 8)
  psn : Nat
  /-- the error mark of a signal (09 R283): Table 11-9 has no bit for it, so it travels beside the header (log 24). -/
  mark : Bool
  deriving DecidableEq, Repr

def Packet.zero : Packet :=
  { vc := 0, opc := 0, dplace := 0, splace := 0, pidx := 0, tag := 0, rport := 0, addr := 0, len := 0, status := 0,
    sdie := 0, slcore := 0, sctx := 0, spc := 0, valve := 63, sendt := 0, hdr := [], content := [], psn := 0,
    mark := false }

/-! ### The on-wafer fabric (10) -/

/-- An endpoint: its grid point and its endpoint number there (R308). -/
structure Endp where
  x : Nat
  y : Nat
  n : Nat
  deriving DecidableEq, Repr

/-- A packet of the fabric (R309): the leg of the transfer it is (the wafer request tag, log 25), its class (0 W0, 1 W1, 2 W2R,
3 W2D, 4 W3, 5 W4), its flits, source, destination and poison bits; `posted`: no command waits for it, its endpoint consumes it
as it comes; the grid point and input it stands at (0 to 3 from north, east, south, west; 4 local; 5 + e endpoint e); its
waypoint and phase; since when it stands there, and urgent (R320); its flits that are still to come over a die-to-die lane
(R324). -/
structure FabPkt where
  ref : Nat
  cls : Nat
  len : Nat
  src : Endp
  dst : Endp
  psn : Nat
  posted : Bool
  gx : Nat
  gy : Nat
  input : Nat
  way : Option (Nat × Nat)
  phase : Nat
  since : Nat
  urgent : Bool
  coming : Nat
  deriving DecidableEq, Repr

/-- The arbiter of one router output (R319): deficits of W0, W1, W2R, W2D, W4; the input served last in each class; the
times at which W3 flits were sent. -/
structure Arb where
  deficit : List Nat
  last : List Nat
  w3 : List Nat
  deriving DecidableEq, Repr

def Arb.zero : Arb := ⟨[0, 0, 0, 0, 0], [4, 4, 4, 4, 4], []⟩

/-- One die-to-die lane in one direction (R324): the next sequence number, failures of the flit in hand, and the times of
its recent lasting counts. -/
structure D2dLane where
  seq : Nat
  fails : Nat
  lasting : List Nat
  down : Bool
  /-- transient and lasting replays since cold start. -/
  trans : Nat
  last : Nat
  /-- the sender's replay buffer: for each flit that has not passed its CRC yet, oldest first, the packet it belongs to. -/
  buf : List Nat
  deriving DecidableEq, Repr

def D2dLane.zero : D2dLane := ⟨0, 0, [], false, 0, 0, []⟩

/-- A Felun packet on the wafer, between the port it came in by and its endpoint or the port it leaves by (R317): its stage: 0
a request on its way to its endpoint; 1 a packet on its way to the attachment of port `out`, for VC code `vc` there; 2 an answer
on its way to the attachment of port `out` that holds its tag (11 R358); 3 a request whose page is in host memory, and that waits
for the link. -/
structure Inb where
  id : Nat
  port : Nat
  stage : Nat
  out : Nat
  vc : Nat
  pkt : Packet
  deriving DecidableEq, Repr

structure Fabric where
  /-- packets in the routers' and endpoints' inputs; of one partition, oldest first. -/
  pkts : List FabPkt
  /-- packets at their source endpoints, not injected yet, oldest first. -/
  wait : List FabPkt
  /-- by (gy * 28 + gx) * 5 + output. -/
  arbs : List (Nat × Arb)
  /-- Felun packets on the wafer. -/
  inb : List Inb
  /-- W4 requests in the queues of their responders, oldest first (R316). -/
  w4q : List FabPkt
  /-- flits of each partition in use or not yet credited, by ((gy * 28 + gx) * 32 + input) * 12 + class * 2 + partition (input 5 + e: endpoint e). -/
  used : List (Nat × Nat)
  /-- by (die * 4 + port) * 4 + lane; ports N, E, S, W. -/
  d2d : List (Nat × D2dLane)
  /-- the bank access counts of the current 1 ms window by die * 128 + bank, and consecutive hot windows (R52). -/
  bankWin : List (Nat × Nat)
  hotRun : List (Nat × Nat)
  /-- stacked-tier accesses wait for the zero fill of a new hash seed (R49). -/
  seedFill : Bool
  deriving DecidableEq, Repr

def Fabric.zero : Fabric :=
  { pkts := [], wait := [], arbs := [], inb := [], w4q := [], used := [], d2d := [], bankWin := [], hotRun := [], seedFill := false }

/-! ### Tags of Felun ports (11) -/

/-- What a tag waits for (R358, R389, R411, R429). -/
inductive TagRef where
  | req (id : Nat)
  /-- piece `piece` of tile request `id` of slot `slot` of core `core`. -/
  | tile (core slot id piece : Nat)
  | push (core slot id : Nat)
  /-- a run of a mouthpiece: its number. -/
  | run (n : Nat)
  /-- an egress entry: its index. -/
  | gpage (n : Nat)
  /-- a chunk entry: its index. -/
  | chunk (n : Nat)
  /-- a wafer request of another module's packet cannot hold a tag; `none` frees the tag unheard. -/
  | none
  deriving DecidableEq, Repr

structure Tag where
  num : Nat
  ref : TagRef
  sendt : Nat
  deriving DecidableEq, Repr

/-- One lane of a port's receiver (R346 to R348, Table 11-18). -/
structure Lane where
  sd : Bool
  cdr : Bool
  bad : Bool
  mlock : Bool
  /-- candidate position (modulo the marker spacing), the MSEQ of its last marker, and when that arrived. -/
  cand : Option (Nat × Nat × Nat)
  /-- the last marker due on this lane was recognised and followed its predecessor. -/
  followed : Bool
  excl : List Nat
  missed : Nat
  winCorr : Nat
  curCorr : Nat
  corr : Nat
  /-- the last recognised marker: its MSEQ, the GTC at which it arrived here, its TXGTC (R345). -/
  pair : Option (Nat × Nat × Nat)
  /-- the descrambler's state, reloaded after each marker slot at the aligned position (R343). -/
  scram : Nat
  deriving DecidableEq, Repr

def Lane.zero : Lane := ⟨false, false, false, false, none, false, [], 0, 0, 0, 0, none, 0⟩

/-- A flit in the replay buffer or being resent (R359): its number, the frame's fields, and how often it was sent. -/
structure TxFlit where
  seq : Nat
  vcc : Nat
  sop : Bool
  eop : Bool
  pkt : Packet
  idx : Nat
  deriving DecidableEq, Repr

/-- A flit frame (Tables 11-6 to 11-8): type, VC code, packet edges, valid bytes, poison bits, credit returns, payload,
sequence number, acknowledged number, and 0 acknowledgement, 1 NAK, 2 none. -/
structure Frame where
  ft : Nat
  vcc : Nat
  sop : Bool
  eop : Bool
  len : Nat
  psn : Nat
  creds : List (Nat × Nat)
  payload : List (BitVec 8)
  seq : Nat
  ackseq : Nat
  ak : Nat
  deriving DecidableEq, Repr

/-- A Felun port Fn (11 R349 to R379). -/
structure Port where
  /-- 0 Off, 1 Training, 2 Up, 3 Mismatch, 4 Failed, 5 Restricted. -/
  st : Nat
  step : Nat
  /-- when the port entered its step, and when it entered Failed. -/
  stepAt : Nat
  mode : Nat
  txoff : Bool
  peerPlace : Nat
  peerPort : Nat
  peerRole : Nat
  peerGidx : Nat
  incarn : Nat
  peerIncarn : Nat
  /-- the incarnation numbers of the previous handshake, own and peer. -/
  hsOwn : Nat
  hsPeer : Nat
  leftUp : Option Nat
  leftStep1 : Option Nat
  /-- the peer's LINK_INIT has passed (SEEN is set in ours); the peer has reported ours seen; ours with SEEN was sent. -/
  seen : Bool
  peerSeen : Bool
  sentSeen : Bool
  /-- 0 SEARCH, 1 CONFIRM, 2 LOCKED; n of Table 11-3. -/
  align : Nat
  confirm : Nat
  lanes : List (Nat × Lane)
  /-- the last 64 codewords, newest first: uncorrectable or not. -/
  words : List Bool
  /-- requested half: own and the peer's (0 none, 1 lanes 0 to 7, 2 lanes 8 to 15). -/
  want : Nat
  peerWant : Nat
  /-- the half that the last marker slot sent requested. -/
  shown : Nat
  txSeq : Nat
  rxSeq : Nat
  replay : List TxFlit
  /-- flits of the replay buffer still to be resent, from its end. -/
  resend : Nat
  resendFor : Option Nat
  /-- a NAK was sent for this number at this time and the expected flit has not come. -/
  nak : Option (Nat × Nat)
  nakDue : Bool
  /-- failures of the flit that is expected. -/
  rxFails : Nat
  /-- good frames that have arrived and are not handled yet, and link-control payloads waiting to be sent. -/
  frames : List Frame
  lcq : List (List (BitVec 8))
  /-- the number of the next own marker; codeword slots since the last marker slot; the frames of the codeword in hand;
  scrambler states of lanes 0 to 15; the PAM4 levels of the slot last sent, active lane by active lane (R338 to R344). -/
  mseq : Nat
  slot : Nat
  fill : List (List (BitVec 8))
  scram : List Nat
  out : List (List (Fin 4))
  lasting : List Nat
  overruns : List Nat
  /-- flits of the packet being received on each VC code, in order. -/
  rxPart : List (Nat × List (BitVec 8))
  rxPsn : List (Nat × Nat)
  rxq : List Packet
  /-- packets waiting to be sent, per VC code, and how many flits of the first have gone. -/
  txq : List (Nat × List Packet)
  txSent : List (Nat × Nat)
  headSince : List (Nat × Nat)
  credits : List (Nat × Nat)
  freed : List (Nat × Nat)
  deficit : List (Nat × Nat)
  /-- the half of VC1 (code 1 or 2) whose packet went last. -/
  vc1Last : Nat
  /-- flit slots in which VC4 and VC5 flits went, of the last 1,024, and the count of flit slots. -/
  vc4 : List Nat
  vc5 : List Nat
  slots : Nat
  tags : List Tag
  tagLru : List Nat
  /-- payload bytes sent and received in the current window, and runs of windows above and not above (R374). -/
  winTx : Nat
  winRx : Nat
  aboveRun : Nat
  belowRun : Nat
  raised : Bool
  /-- twice θ of recent periods, newest first, and the peer's TIME_ROOT, TIME_SYNC and DIST (16 R522). -/
  thetas : List Int
  peerRoot : Nat
  peerSync : Nat
  peerDist : Nat
  /-- the peer's marker last recognised: MSEQ, its arrival here, its TXGTC (R345). -/
  lastPair : Option (Nat × Nat × Nat)
  deriving DecidableEq, Repr

def Port.zero : Port :=
  { st := 0, step := 1, stepAt := 0, mode := 0, txoff := false, peerPlace := 0, peerPort := 0, peerRole := 0, peerGidx := 0,
    incarn := 0, peerIncarn := 0, hsOwn := 0, hsPeer := 0, leftUp := none, leftStep1 := none, seen := false,
    peerSeen := false, sentSeen := false, align := 0, confirm := 0, lanes := [], words := [], want := 0, peerWant := 0, shown := 0,
    txSeq := 0, rxSeq := 0, replay := [], resend := 0, resendFor := none, nak := none, nakDue := false, rxFails := 0,
    frames := [], lcq := [], mseq := 0, slot := 0, fill := [], scram := [], out := [], lasting := [],
    overruns := [], rxPart := [], rxPsn := [], rxq := [], txq := [], txSent := [], headSince := [], credits := [],
    freed := [], deficit := [], vc1Last := 0, vc4 := [], vc5 := [], slots := 0, tags := [], tagLru := [],
    winTx := 0, winRx := 0, aboveRun := 0, belowRun := 0, raised := false, thetas := [], peerRoot := 0xFFFFFF, peerSync := 0,
    peerDist := 0, lastPair := none }

/-! ### Mouthpieces and bells (12, 13) -/

/-- One PGREQ outstanding: its number and the stream positions of its tiles that have not landed (R388, R389, R391). -/
structure Run where
  num : Nat
  tiles : List Nat
  deriving DecidableEq, Repr

/-- What a plan entry said when the walk took it (Table 12-3): the page, COMP, the bank's weight epoch, and the destination
records with their numbers. A bank that is written later changes no tile already taken (R406). -/
structure PlanRec where
  pageId : Nat
  comp : Bool
  wepoch : Nat
  dests : List (Nat × BitVec 64)
  deriving DecidableEq, Repr

/-- A tile of the plan for which space is reserved and that has not landed (R388, R390): its stream position, bank, entry, what
that entry said, pass and tile, for each destination record of a RECV the arm generation and tile number it takes there, when it was first
asked for, and whether it was asked for twice (R392). -/
structure Granted where
  pseq : Nat
  bank : Nat
  planix : Nat
  plan : PlanRec
  pass : Nat
  tile : Nat
  seqs : List (Nat × Nat × Nat)
  firstAsk : Option Nat
  second : Bool
  deriving DecidableEq, Repr

/-- One copy of a landed tile on its way to a destination (R400): the tile's stream position, and whether it waits for the link of a
page in host memory. -/
structure Copy where
  id : Nat
  pseq : Nat
  away : Bool
  dkind : Nat
  addr : Nat
  slot : Nat
  gen : Nat
  seq : Nat
  payload : List (BitVec 8)
  scales : List (BitVec 8)
  poison : List (Nat × Word)
  scalePoison : List (Nat × Word)
  failed : Bool
  deriving DecidableEq, Repr

/-- The credits of one receiving core and slot (R387): count, arm generation, next tile number. -/
structure Pair where
  core : Nat
  slot : Nat
  credits : Nat
  gen : Nat
  next : Nat
  deriving DecidableEq, Repr

/-- A code table (R395, R396): valid, four-bit class, lengths. -/
structure CodeTable where
  valid : Bool
  four : Bool
  lens : List Nat
  deriving DecidableEq, Repr

/-- A mouthpiece (12). -/
structure Mouth where
  running : Bool
  stalled : Bool
  active : Nat
  /-- next tile of the walk: entry, index among its wanted tiles, pass, stream position. -/
  entry : Nat
  index : Nat
  pass : Nat
  pseq : Nat
  granted : Nat
  grantedSent : Nat
  lastGrant : Nat
  runs : List Run
  grants : List Granted
  copies : List Copy
  pairs : List Pair
  tables : List (Nat × CodeTable)
  nextRun : Nat
  /-- a swap is pending on this port: the pass at which the standby bank takes over. -/
  swapAt : Option Nat
  deriving DecidableEq, Repr

def Mouth.zero : Mouth :=
  { running := false, stalled := false, active := 0, entry := 0, index := 0, pass := 0, pseq := 0, granted := 0,
    grantedSent := 0, lastGrant := 0, runs := [], grants := [], copies := [], pairs := [], tables := [],
    nextRun := 0, swapAt := none }

/-- A plan bank as loaded (R385): the words of entries (two each) and of destination records. -/
structure Bank where
  entries : List (Nat × Word)
  dests : List (Nat × Word)
  deriving DecidableEq, Repr

def Bank.zero : Bank := ⟨[], []⟩

/-- A gradient page or a chunk that a bell has taken (R411, R429): its index, the words of the entry, first send, poison, resend, and
the status once it is known. -/
structure BellEntry where
  idx : Nat
  words : List Nat
  sendt : Nat
  poisoned : Bool
  resent : Bool
  status : Option Nat
  deriving DecidableEq, Repr

/-- A bell: its two queues (12 R409, 13 R427). -/
structure Bell where
  stopped : Bool
  gPi : Nat
  gCi : Nat
  gTaken : Nat
  gOpen : List BellEntry
  cPi : Nat
  cCi : Nat
  cTaken : Nat
  cOpen : List BellEntry
  deriving DecidableEq, Repr

def Bell.zero : Bell := ⟨false, 0, 0, 0, [], 0, 0, 0, []⟩

/-! ### Host interface (14) -/

/-- A PCIe link and its function (R443 to R446, R461). -/
structure PcieLink where
  up : Bool
  busMaster : Bool
  flit : Bool
  rate : Nat
  width : Nat
  /-- MSI-X table words by vector * 2 + word (bit 32 of word 1 masks the vector), pending vectors, and the function mask. -/
  table : List (Nat × Word)
  pend : List Nat
  fmask : Bool
  /-- messages sent, newest first (the host's view of the interrupts). -/
  sent : List Nat
  deriving DecidableEq, Repr

/-- A link with its function at reset. -/
def PcieLink.zero : PcieLink := ⟨false, false, false, 0, 0, [], [], false, []⟩

/-- A launch queue (R453 to R456). -/
structure LaunchQ where
  pi : Nat
  ci : Nat
  cpi : Nat
  hcopy : Nat
  chead : Nat
  waitHost : Bool
  /-- the CPI advance that is being copied, the next record to copy, and the copies not yet acknowledged. -/
  batch : Nat
  copied : Nat
  copying : List Nat
  deriving DecidableEq, Repr

def LaunchQ.zero : LaunchQ := ⟨0, 0, 0, 0, 0, false, 0, 0, []⟩

/-- A DMA channel (R458): its registers and the descriptor it executes. -/
structure Dma where
  link : Nat
  haltErr : Bool
  en : Bool
  rbase : Word
  rsize : Nat
  pi : Nat
  ci : Nat
  /-- 0 Disabled, 1 Running, 2 Idle, 3 Halted. -/
  st : Nat
  desc : List Word
  deriving DecidableEq, Repr

def Dma.zero (c : Nat) : Dma := ⟨c / 8, false, false, 0, 16, 0, 0, 0, []⟩

/-- An aperture write on its way: its link, and whose it is (R452, R288). -/
structure ApWrite where
  ref : Nat
  link : Nat
  posted : Bool
  addr : Nat
  data : List (BitVec 8)
  deriving DecidableEq, Repr

/-- Who waits for an aperture read: a far load, a part of a tile request of a slot, or a Felun packet of another module. -/
inductive ApWho where
  | req (id : Nat)
  | tile (core slot id piece : Nat)
  | inb (id : Nat)
  /-- a host read through BAR2 of a page that has moved to host memory. -/
  | bar2 (size : Nat)
  deriving DecidableEq, Repr

/-- An aperture read on its way to the host (R452): who waits, its link, host address, bytes, and when it was sent. -/
structure ApRead where
  who : ApWho
  link : Nat
  addr : Nat
  size : Nat
  sentAt : Nat
  deriving DecidableEq, Repr

/-- An opening of a host valve that waits for earlier aperture writes of its context (R288): the valve, the signaller, its
send time, and the requests it waits for. -/
structure HvPend where
  h : Nat
  src : Word
  time : Nat
  covers : List Nat
  deriving DecidableEq, Repr

/-- How the last host read through a BAR completed (Table 14-2): 0 successful, 1 Unsupported Request, 2 Completer Abort;
its data and EP bit. -/
structure Cpl where
  status : Nat
  data : List (BitVec 8)
  ep : Bool
  deriving DecidableEq, Repr

structure HostIf where
  cpl : Option Cpl
  /-- a BAR2 read that waits: its offset, and when it came. -/
  rdWait : Option (Nat × Nat)
  hvPend : List HvPend
  links : List (Nat × PcieLink)
  queues : List (Nat × LaunchQ)
  dmas : List (Nat × Dma)
  apWrites : List ApWrite
  apReads : List ApRead
  deriving DecidableEq, Repr

def HostIf.zero : HostIf := ⟨none, none, [], [], [], [], [], []⟩

/-! ### Chabohar (15) -/

/-- An event as it is logged (Table 15-8). -/
structure Event where
  seq : Nat
  code : Nat
  outcome : Nat
  arg8 : Nat
  data : Word
  gtc : Nat
  cal : Nat
  arg16 : Nat
  deriving DecidableEq, Repr

/-- A kept response (R483): the request's TID, service, object and body; the answer, and the session number it names. -/
structure Kept where
  tid : Nat
  svc : Nat
  obj : Nat × Nat × Nat
  body : List (BitVec 8)
  status : Nat
  answer : List (BitVec 8)
  rsid : Nat
  deriving DecidableEq, Repr

/-- An event sent to a subscriber and not acknowledged: its number, resends, and when it was last sent. -/
structure Unacked where
  seq : Nat
  resends : Nat
  sentAt : Nat
  deriving DecidableEq, Repr

/-- A session (R475 to R480, R491). `proven` is set by PROOF. -/
structure Session where
  sid : Nat
  client : Client
  kslot : Nat
  role : Nat
  cnonce : List (BitVec 8)
  mnonce : List (BitVec 8)
  salt : Nat
  openedAt : Nat
  proven : Bool
  last : Nat
  /-- the highest counter accepted, those accepted within 64 below it, and the next counter sent. -/
  hi : Nat
  seen : List Nat
  sendCtr : Nat
  mask : Nat
  unacked : List Unacked
  deriving DecidableEq, Repr

/-- The responses kept for a client: by session number, or by the identity of a SID-0 client (R483). -/
structure Cache where
  sid : Nat
  client : Client
  kept : List Kept
  deriving DecidableEq, Repr

/-- A segmented transfer (R485 to R489). `write`: the client sends the value. -/
structure Transfer where
  tid : Nat
  sid : Nat
  client : Client
  write : Bool
  obj : Nat × Nat × Nat
  window : Nat
  start : Nat
  /-- the word past the last one that moves. -/
  stop : Nat
  crc : Nat
  /-- a read: the highest NEXT acknowledged; a write: the next word wanted. -/
  next : Nat
  /-- a read: the value as it stood, or of a value read live the words as they were sent; a write: what has arrived. -/
  data : List (BitVec 8)
  perBlock : Nat
  /-- a read: the word past the last one sent, the blocks sent again with how often, and the last (re)send. -/
  sentTo : Nat
  again : List (Nat × Nat)
  sentAt : Nat
  live : Bool
  lastProgress : Nat
  deriving DecidableEq, Repr

/-- A PCIe mailbox (Table 15-11). -/
structure Mailbox where
  req : List (Nat × Word)
  resp : List (BitVec 8)
  rlen : Nat
  ready : Bool
  busy : Bool
  /-- messages that wait for the response buffer. -/
  waiting : List (List (BitVec 8))
  deriving DecidableEq, Repr

def Mailbox.zero : Mailbox := ⟨[], [], 0, false, false, []⟩

/-- A PDU received and not yet applied; `extra`: its client had 4 requests without a response (R482). -/
structure Inbound where
  client : Client
  pdu : List (BitVec 8)
  extra : Bool
  deriving DecidableEq, Repr

/-- An action of a CMD object that has not completed (R470). -/
structure CmdAct where
  client : Client
  sid : Nat
  obj : Nat × Nat × Nat
  tid : Nat
  body : List (BitVec 8)
  since : Nat
  answered : Bool
  deriving DecidableEq, Repr

/-- Refused proofs in a row on a carrier, and when its lockout began (R476). -/
structure Lockout where
  run : Nat
  since : Option Nat
  deriving DecidableEq, Repr

def Lockout.zero : Lockout := ⟨0, none⟩

/-- A PDU the module has sent on a carrier, newest first: destination, service, status, TID, body. -/
structure Sent where
  client : Client
  sid : Nat
  svc : Nat
  status : Nat
  tid : Nat
  obj : Nat × Nat × Nat
  body : List (BitVec 8)
  /-- the message's counter in a session, and whether it is a retransmission. -/
  ctr : Option Nat
  retx : Bool
  deriving DecidableEq, Repr

structure Chb where
  events : List Event
  sessions : List Session
  nextSid : Nat
  caches : List Cache
  transfers : List Transfer
  mailboxes : List (Nat × Mailbox)
  acts : List CmdAct
  lockouts : List (Nat × Lockout)
  /-- RWP values accepted and not yet in flash, by object key (R468). -/
  unsaved : List Nat
  /-- byte strings of STR and BLOB objects that have no numeric form, by object key. -/
  blobs : List (Nat × List (BitVec 8))
  sent : List Sent
  /-- PDUs received and not yet applied, in the order they completed reception (R481). -/
  inbox : List Inbound
  /-- malformed PDUs without a response, and UDP datagrams too long (R471, R495), counted from cold start. -/
  discards : Nat
  oversize : Nat
  deriving DecidableEq, Repr

def Chb.zero : Chb := ⟨[], [], 1, [], [], [], [], [], [], [], [], [], 0, 0⟩

/-! ### Time (16 R520 to R524) -/

/-- The GTC's control: Table 16-6, a step that waits for the next edge, the fraction of a nanosecond (in 10^-12 ns), the
means of θ in a row within the lock bound, and the residual offset of each die's copy in ns, -2 to 2. -/
structure TimeSt where
  hold : Bool
  theta : Int
  rho : Int
  step : Option Int
  steps : Nat
  ignored : Nat
  dist : Nat
  parent : Nat
  frac : Nat
  good : Nat
  residual : List Int
  /-- the calendar: UTC seconds, ticks, the trim not yet applied in 10^-9 ticks, and a value that is set at the next tick. -/
  secs : Nat
  ticks : Nat
  trim : Int
  calSet : Option Nat
  /-- since when the offset from the PTP master has stayed within 10 µs (R528). -/
  ptpSince : Option Nat
  deriving DecidableEq, Repr

def TimeSt.zero : TimeSt :=
  { hold := false, theta := 0, rho := 0, step := none, steps := 0, ignored := 0, dist := 0, parent := 63, frac := 0,
    good := 0, residual := [], secs := 0, ticks := 0, trim := 0, calSet := none, ptpSince := none }

/-! ### Power (16) -/

/-- A feed (Table 16-1): 0 Absent, 1 Qualifying, 2 Present, 3 Reversed, 4 Over-voltage, 5 Tripped; when it entered that
state; the times of its failed qualifications; trips since cold start. -/
structure Feed where
  st : Nat
  since : Nat
  fails : List Nat
  trips : Nat
  deriving DecidableEq, Repr

/-- A feed at the end of a clean start. -/
def Feed.zero : Feed := ⟨2, 0, [], 0⟩

/-- A power region (R507 to R510, R529): when it entered its power state, since when the Doze condition holds, the
regulator's output and since when the lowest reading stays below target at the highest output, the highest clock until
the next start, since when its clock is above 1.20 GHz, a trip in force and the times of recent ones, held in Doze, and
the boost grant withdrawn. Voltages in 0.25 mV, clocks in MHz. -/
structure Region16 where
  since : Nat
  cond : Nat
  lowSince : Option Nat
  out : Nat
  maxF : Nat
  boostAt : Option Nat
  tripAt : Option Nat
  trips : List Nat
  latched : Bool
  withdrawn : Bool
  deriving DecidableEq, Repr

def Region16.zero : Region16 :=
  { since := 0, cond := 0, lowSince := none, out := 2940, maxF := 1450, boostAt := none, tripAt := none, trips := [],
    latched := false, withdrawn := false }

/-- A cluster (R508, R533, R534): its cap and when that last changed, a stretch and its last low reading, gated by heat,
its temperature in m°C, since when a sensor is above 125 °C, and since when it is below its region's clock. -/
structure Cluster where
  cap : Nat
  capAt : Nat
  stretch : Bool
  lastLow : Nat
  gated : Bool
  temp : Int
  hotSince : Option Nat
  slowAt : Option Nat
  deriving DecidableEq, Repr

def Cluster.zero : Cluster :=
  { cap := 1450, capAt := 0, stretch := false, lastLow := 0, gated := false, temp := 25000, hotSince := none,
    slowAt := none }

/-- A valve opening on its way to a core that sleeps: core, valve, signaller, send time. -/
structure HeldSig where
  core : Nat
  valve : Nat
  src : Word
  time : Nat
  deriving DecidableEq, Repr

structure Pwr where
  /-- dies whose VDD_ARRAY or VDD_STACK is off: their memory refuses (19 R588). -/
  darkDies : List Nat
  /-- when a die's rails went off while the module ran, for its powered time (18 R571). -/
  darkAt : List (Nat × Nat)
  /-- regions whose wake a router has requested, and the requests held for it (10 R323). -/
  wakes : List Nat
  held : List Nat
  /-- signals that the hub holds for cores whose region sleeps, oldest first (10 R323). -/
  sigs : List HeldSig
  feeds : List (Nat × Feed)
  /-- by region, and by die * 16 + cluster. -/
  regions : List (Nat × Region16)
  clusters : List (Nat × Cluster)
  /-- regions that breath-hold gates, and when the conditions of R513 first held. -/
  gated : List Nat
  exitAt : Option Nat
  /-- breath-holds that have ended: entry and exit. -/
  holds : List (Nat × Nat)
  /-- input power in mW and when it was measured, input energy in pJ, since when it is above EFF_CAP, and the last step. -/
  inputMw : Nat
  measAt : Nat
  energyPj : Nat
  excess : Option Nat
  stepAt : Nat
  /-- the flow and outlet sensors failed together (R536). -/
  limit20 : Bool
  /-- rails above their warning level, by rail * 256 + number. -/
  warned : List Nat
  /-- temperature sensors reported, by (die * 16 + cluster) * 4 + sensor. -/
  badTemp : List Nat
  /-- regions whose new VMIN_EVER is not in flash (R509). -/
  vminDue : List Nat
  /-- coolant sensors marked faulty; since when each of the eight conditions of Table 16-11 holds; since when every
  condition of each state has been clear. -/
  coolBad : List Nat
  coolOn : List (Option Nat)
  coolOff : List (Option Nat)
  /-- the flow last measured, in mL/min. -/
  flow : Nat
  deriving DecidableEq, Repr

def Pwr.zero : Pwr :=
  { darkDies := [], darkAt := [], wakes := [], held := [], sigs := [], feeds := [], regions := [], clusters := [], gated := [], exitAt := none,
    holds := [], inputMw := 0, measAt := 0, energyPj := 0, excess := none, stepAt := 0, limit20 := false, warned := [],
    badTemp := [], vminDue := [], coolBad := [], coolOn := [], coolOff := [], flow := 0 }

/-! ### Start and repair (17) -/

/-- A die found unusable (R548), 48 for a hub unit: the reason in the order of R548's list, the locator of its fault, and
the phase that found it. -/
structure BadDie where
  die : Nat
  reason : Nat
  loc : Word
  phase : Nat
  deriving DecidableEq, Repr

/-- Defect maps (R556) in flash: factory and field entries of each die, four words each, and those that a full field part
did not take; the watchdog's expiries, in ns of the GTC (negative: before the GTC began). -/
structure Boot where
  factory : List (Nat × List (List Nat))
  field : List (Nat × List (List Nat))
  temp : List (Nat × List (List Nat))
  expiries : List Int
  /-- the kind of a reset that has been answered and not yet begun: 1 warm, 2 cold (R501). -/
  due : Option Nat
  /-- physical cores that stopped with cause 0x0B or 0x0C in the last run, by die and physical core (R561). -/
  retest : List (Nat × Nat)
  /-- what the start in progress has found: unusable dies, lasting defects, and by die how many units were retested,
  transient and lasting. -/
  bad : List BadDie
  found : List Word
  tally : List (Nat × Nat × Nat × Nat)
  deriving DecidableEq, Repr

def Boot.zero : Boot := ⟨[], [], [], [], none, [], [], [], []⟩

/-! ### Firmware (20) -/

/-- A commit record (Table 20-7). -/
structure Commit where
  slot : Nat
  seq : Nat
  version : Nat
  digest : List (BitVec 8)
  gtc : Nat
  deriving DecidableEq, Repr

/-- A settings copy (R623): its version, sequence number and entries; numbers and byte strings by object key. -/
structure Settings where
  setv : Nat
  seq : Nat
  vals : List (Nat × Nat)
  blobs : List (Nat × List (BitVec 8))
  deriving DecidableEq, Repr

/-- A root slot (R608): 0 empty, 1 provisioned, 2 revoked; its key digests. -/
structure Root where
  st : Nat
  ecdsa : List (BitVec 8)
  mldsa : List (BitVec 8)
  deriving DecidableEq, Repr

/-- A delivery in progress (R614): over VC5 or not, its port, what is left of the value's words, the bytes of the unit that
hub SRAM holds, whether the authority check has passed, and whether the block in hand has mismatched once. -/
structure Delivery where
  chain : Bool
  port : Nat
  tid : Nat
  total : Nat
  got : Nat
  buf : List (BitVec 8)
  header : List (BitVec 8)
  passed : Bool
  blocks : Nat
  again : Bool
  /-- the authority words, as hub SRAM holds them. -/
  auth : List (BitVec 8)
  deriving DecidableEq, Repr

/-- The forwarding of a chain on one axis (R617, R618): 0 none, 1 sending, 2 done, 3 failed; its port; the transfer's TID;
words the peer has acknowledged; since when it answers busy; restarted. -/
structure Forward where
  st : Nat
  port : Nat
  tid : Nat
  words : Nat
  sent : Nat
  busy : Option Nat
  triedAt : Nat
  again : Bool
  /-- the peer has answered SEG_INIT. -/
  opened : Bool
  /-- when NEXT last advanced, and when words were last sent (15 R489). -/
  progressAt : Nat
  sentAt : Nat
  deriving DecidableEq, Repr

def Forward.zero : Forward := ⟨0, 0, 0, 0, 0, none, 0, false, false, 0, 0⟩

/-- The chain this module holds: origin, CHAIN_ID, the axis it came on (none at the origin), words and CRC of the value. -/
structure Chain where
  origin : Nat
  id : Nat
  axis : Option Nat
  nwords : Nat
  crc : Nat
  deriving DecidableEq, Repr

structure Fw where
  slot0 : List (BitVec 8)
  slot1 : List (BitVec 8)
  recA : Option Commit
  recB : Option Commit
  /-- 0 Empty, 1 Receiving, 2 Staged; last refusal reason; blocks written. -/
  stage : Nat
  reason : Nat
  blocks : Nat
  delivery : Option Delivery
  chain : Option Chain
  forwards : List Forward
  /-- the ACTIVATE_CMD in progress: its value. -/
  active : Option Nat
  roots : List Root
  /-- blown bits of the security version. -/
  fuses : Nat
  copyA : Option Settings
  copyB : Option Settings
  copyP : Option Settings
  /-- this start has read the inactive slot again (R615). -/
  reread : Bool
  deriving DecidableEq, Repr

def Fw.zero : Fw :=
  { slot0 := [], slot1 := [], recA := none, recB := none, stage := 0, reason := 0, blocks := 0, delivery := none,
    chain := none, forwards := [], active := none, roots := [⟨1, [], []⟩, ⟨1, [], []⟩, ⟨0, [], []⟩, ⟨0, [], []⟩],
    fuses := 0, copyA := none, copyB := none, copyP := none, reread := false }

/-! ### The boundary (21) -/

/-- The wiring tests of a CAN port (Table 21-8a): runs of bad measurements to ground and to supply, clean ones, frames
without termination, reversed edges; bus-off; lines swapped. -/
structure CanPort where
  ground : Nat
  supply : Nat
  clean : Nat
  term : Nat
  edges : Nat
  busOff : Bool
  swapped : Bool
  /-- when a node conflict was last raised, and a heartbeat last sent. -/
  conflict : Option Nat
  beat : Nat
  deriving DecidableEq, Repr

def CanPort.zero : CanPort := ⟨0, 0, 0, 0, 0, false, false, none, 0⟩

structure Bnd where
  can : List (Nat × CanPort)
  fifo : List (BitVec 8)
  /-- the rates in use. -/
  txBaud : Nat
  rxBaud : Nat
  /-- bytes sent on the console, newest first. -/
  console : List (BitVec 8)
  /-- the TAP controller's state (0 Test-Logic-Reset … 15 Update-IR), its bypass bit and TDO. -/
  tap : Nat
  bypass : Bool
  tdo : Bool
  /-- SLAAC addresses in use (15 R495). -/
  slaac : List (List (BitVec 8))
  deriving DecidableEq, Repr

def Bnd.zero : Bnd := ⟨[], [], 115200, 115200, [], 0, false, false, []⟩

/-! ### Health (18) -/

/-- An error table entry (Table 18-2); `changed` since the die's last ERRORS record (R572). -/
structure ErrEntry where
  loc : Word
  src : Nat
  c : List Nat
  first : Nat
  last : Nat
  changed : Bool
  deriving DecidableEq, Repr

/-- The live lifetime values of a die that are counted (Table 18-8). -/
structure Life where
  powered : Nat
  energy : Nat
  cold : Nat
  warm : Nat
  bh : Nat
  throttle : Nat
  boost : Nat
  tmax : Nat
  tmaxCal : Nat
  eccLocal : List Nat
  eccStack : List Nat
  fec : Nat
  felun : List Nat
  d2d : List Nat
  degrades : Nat
  lockLosses : Nat
  nt : List Nat
  marginMin : List Nat
  deriving DecidableEq, Repr

def Life.zero : Life :=
  ⟨0, 0, 0, 0, 0, 0, 0, 0, 0, [0, 0, 0, 0], [0, 0, 0, 0], 0, [0, 0], [0, 0], 0, 0, [0, 0], [255, 255, 255, 255]⟩

/-- A record of the ring (Table 18-3): its stamps and its body, as 64-bit words. -/
structure Rec where
  kind : Nat
  die : Nat
  startNo : Nat
  index : Nat
  gtc : Nat
  calv : Bool
  cal : Nat
  body : List Nat
  /-- the ring block it stands in; not set before it is written. -/
  block : Nat
  /-- its stamps are those of the previous start's end (R583), not of the write. -/
  fixed : Bool
  deriving DecidableEq, Repr

/-- A summary snapshot: its stamps, the lifetime values, the cores fenced, and the die's four VMIN_EVER records, as bytes. -/
structure Snap where
  rseq : Nat
  gtc : Nat
  calv : Bool
  cal : Nat
  life : Life
  fenced : Nat
  vmin : List Nat
  deriving DecidableEq, Repr

structure Health where
  /-- entries 0 to 959, and 960 to 1,023, of the table of each die (48 hub). -/
  exact : List (Nat × List ErrEntry)
  coarse : List (Nat × List ErrEntry)
  /-- dies that raised their ecc-trend event in this start. -/
  trended : List Nat
  /-- dies whose ERRORS record is due within 1 s (R572). -/
  due : List Nat
  /-- lifetime values as last settled, when that was, and the counters of that moment, by object key. -/
  life : List (Nat × Life)
  lifeAt : Nat
  lifeBase : List (Nat × Nat)
  /-- when the period began, its length in s, and the counters of that moment: objects, retry totals, die-to-die replays. -/
  periodStart : Nat
  periodLen : Nat
  periodBase : List (Nat × Nat)
  periodD2d : List (Nat × D2dLane)
  /-- highest temperatures (die * 32 + cluster) and lowest voltages (die * 32 + region) of the period, and each die's
  lowest cluster temperature. -/
  periodTmax : List (Nat × Nat)
  periodVmin : List (Nat × Nat)
  periodTmin : List (Nat × Nat)
  nextIndex : Nat
  /-- records that wait to be written, and the ring, oldest first. -/
  queue : List Rec
  ring : List Rec
  openBlock : Nat
  openUsed : Nat
  retired : List Nat
  snaps : List (Nat × List Snap)
  /-- when a snapshot for a VMIN_EVER rewrite was last written, by die, as time + 1. -/
  vminSnap : List (Nat × Nat)
  lastFlush : Nat
  /-- events whose FAULT record is due (R571). -/
  faults : List Event
  /-- die-to-die links that raised d2d-lane-down since cold start, by the locator's die and port (19 R595). -/
  lostLinks : List (Nat × Nat)
  deriving DecidableEq, Repr

def Health.zero : Health :=
  { exact := [], coarse := [], trended := [], due := [], life := [], lifeAt := 0, lifeBase := [], periodStart := 0,
    periodLen := 3600, periodBase := [], periodD2d := [], periodTmax := [], periodVmin := [], periodTmin := [],
    nextIndex := 0, queue := [], ring := [], openBlock := 0, openUsed := 0, retired := [], snaps := [], vminSnap := [],
    lastFlush := 0, faults := [], lostLinks := [] }

end Sys2Proof.Machine
end

