-- ==== Sys2Proof/Machine/State.lean ====
section
/-! DEFINITION. The state of the block: every register, queue, buffer, counter and mode the spec gives the module,
as plain data, and the state after reset. Sparse lists hold numbered things (registers, tiles, cores, bytes): an
unlisted number stands at the default named beside the field. -/

namespace Sys2Proof.Machine

/-! ### A context (03 Tables 3-1, 3-13) -/

/-- CTX_STAT.STATE (Table 3-13). -/
inductive CtxState where
  | halted | running | waiting | stopped
  deriving DecidableEq, Repr

/-- A scalar register and its poison bit (Table 3-1). -/
structure GReg where
  val : Word
  poison : Bool
  deriving DecidableEq, Repr

def GReg.zero : GReg := ⟨0, false⟩

/-- A vector register, lane 0 in the low bits, and its four poison bits (Table 3-1). -/
structure VReg where
  val : BitVec 2048
  poison : BitVec 4
  deriving DecidableEq, Repr

def VReg.zero : VReg := ⟨0, 0⟩

/-- An accumulator tile: 1,024 words of 32 bits, row-major; one poison bit for each half row; the tag word (R55, R117). -/
structure Tile where
  val : BitVec 32768
  poison : BitVec 64
  tag : Word
  deriving DecidableEq, Repr

def Tile.zero : Tile := ⟨0, 0, 0⟩

/-- One write that a vector instruction makes when it completes (R60, R149). -/
inductive VWrite where
  | g (rd : Nat) (r : GReg)
  | p (pd : Nat) (v : Word)
  | v (vd : Nat) (r : VReg)
  /-- row pair `rp` of tile `tile` (engine * 8 + number): 2,048 bits and four half-row poison bits. -/
  | row (tile rp : Nat) (r : VReg)
  deriving DecidableEq, Repr

/-- A vector instruction in flight: its writes, in order, and the flags it raises with them (R130). -/
structure VecPend where
  writes : List VWrite
  flags : BitVec 12
  deriving DecidableEq, Repr

/-- Where a Step stands: none; its instruction not yet tried, so that it holds CMD_BUSY; tried, and stalled at issue, so that
CMD_BUSY is 0 again; issued and not yet complete (R83, R192). -/
inductive StepMode where
  | off | armed | tried | issued
  deriving DecidableEq, Repr

/-- What a waiting context waits for (R190, Table 9-8). -/
inductive WaitFor where
  | valve (v : Nat) (closing : Bool)
  | hostValve (h : Nat)
  | tally (t : Nat) (threshold : Word)
  /-- the FENCE with its scope mask, the register it writes, and the first request number it does not wait for. -/
  | fence (mask rd upto : Nat)
  deriving DecidableEq, Repr

/-- The wait block of a context (Table 9-8). -/
structure WaitBlk where
  live : Bool
  fired : Bool
  kind : Nat
  arg : Nat
  index : Nat
  since : Nat
  thresh : Word
  pc : Pc
  deriving DecidableEq, Repr

def WaitBlk.zero : WaitBlk := ⟨false, false, 0, 0, 0, 0, 0, 0⟩

/-- One hardware context (R55, Table 3-13). -/
structure Ctx where
  st : CtxState
  stepping : StepMode
  pc : Pc
  hen : Bool
  handler : Pc
  inh : Bool
  /-- CTX_STAT.HANDLED and DISCARDED, saturating at 65,535. -/
  handled : Nat
  discarded : Nat
  excCause : Nat
  excUnit : Nat
  excSlot : Nat
  excPc : Pc
  excAddr : Word
  excLoc : Word
  /-- scalar registers g1 to g31 by number; default 0. -/
  g : List (Nat × GReg)
  /-- predicates p1 to p7 by number; default 0. -/
  p : List (Nat × Word)
  /-- vector registers by number; default 0. -/
  v : List (Nat × VReg)
  flags : BitVec 12
  wait : Option WaitFor
  waitBlk : WaitBlk
  vecPend : List VecPend
  /-- the remote-error count of R174. -/
  remErr : Nat
  /-- the poison-origin latch (R253). -/
  latch : Option Word
  /-- the first request number after the context was last started (R282). -/
  startId : Nat
  /-- places to which a remote write of the context failed that no signal covered yet (R282, R283). -/
  failedTo : List Nat
  /-- a stalled SWAIT: its slot, the first request number it does not wait for, and the tiles handed over before it
  (R210). -/
  swait : Option (Nat × Nat × Nat)
  /-- a stop that the die supervisor has not reported yet (R77). -/
  stopReport : Bool
  deriving DecidableEq, Repr

/-- A context after any reset (Table 3-15). -/
def Ctx.zero : Ctx :=
  { st := .halted, stepping := .off, pc := 0, hen := false, handler := 0, inh := false, handled := 0, discarded := 0,
    excCause := 0, excUnit := 0, excSlot := 0, excPc := 0, excAddr := 0, excLoc := 0, g := [], p := [], v := [],
    flags := 0, wait := none, waitBlk := WaitBlk.zero, vecPend := [], remErr := 0, latch := none,
    startId := 0, failedTo := [], swait := none, stopReport := false }

/-! ### Engines (03 R61, 05) -/

/-- Where an operand comes from (R137): a stream slot, or an address in the core's own local SRAM. -/
inductive OpSrc where
  | slot (n : Nat)
  | addr (off : Nat)
  deriving DecidableEq, Repr

inductive EngKind where
  | mma | mmx | lbm | lbr | tz
  deriving DecidableEq, Repr

/-- One operation of an engine queue, its register operands already read (R185). -/
structure EngOp where
  kind : EngKind
  word : Low56
  t : Nat
  u : Nat
  kt : Nat
  fA : Nat
  fB : Nat
  a : OpSrc
  b : OpSrc
  md : Nat
  anchor : Int
  sparse : Bool
  z : Bool
  h : Bool
  explicit : Bool
  n : Nat
  /-- first tile, since arm, that the operation takes from a slot source (R211), and how many. -/
  aFirst : Nat
  aCount : Nat
  bFirst : Nat
  bCount : Nat
  /-- arm generations of the slots at issue. -/
  aGen : Nat
  bGen : Nat
  deriving DecidableEq, Repr

/-- One operand tile as an engine reads it: 4,096 bytes, 128 scale bytes, the poisoned 64-byte granules of the
payload with their locators, and the poison of the sidecar's two granules (R135, R160). -/
structure OpTile where
  payload : BitVec 32768
  scales : BitVec 1024
  poison : BitVec 64
  scalePoison : BitVec 2
  loc : Word
  deriving DecidableEq, Repr

/-- A started operation with the operands it read (R136); `ctx` issued it. `discard`: its context was reset and the
result is thrown away (R86). -/
structure EngRun where
  ctx : Nat
  op : EngOp
  aTiles : List OpTile
  bTiles : List OpTile
  meta_ : List (BitVec 8)
  metaPoison : List Bool
  discard : Bool
  deriving DecidableEq, Repr

/-! ### Valves and tally counters (09) -/

/-- A valve with its record (Tables 9-5, 9-6). The waiter bits are read from the contexts. -/
structure Valve where
  isOpen : Bool
  opens : Nat
  redundant : Nat
  sigErr : Bool
  src : Word
  time : Nat
  arr : Nat
  deriving DecidableEq, Repr

/-- Closed, no signal since start: DIE reads 63 (Table 9-6). -/
def Valve.closed : Valve := ⟨false, 0, 0, false, 0xFC00000000, 0, 0⟩

/-- A tally counter with its record (Table 9-7). -/
structure Tally where
  value : Nat
  refused : Nat
  sigErr : Bool
  src : Word
  time : Nat
  deriving DecidableEq, Repr

def Tally.zero : Tally := ⟨0, 0, false, 0xFC00000000, 0⟩

/-- A host valve (Table 9-3) with its last signaller and its two stamps (Table 9-11). -/
structure HostValve where
  isOpen : Bool
  notify : Bool
  opens : Nat
  src : Word
  time : Nat
  arr : Nat
  deriving DecidableEq, Repr

def HostValve.closed : HostValve := ⟨false, false, 0, 0xFC00000000, 0, 0⟩

/-- One line of the instruction buffer (R64): which line of local SRAM it holds and the poison it was filled with. -/
structure IbufLine where
  line : Nat
  poison : Option Word
  deriving DecidableEq, Repr

/-! ### Streams (07) -/

inductive SlotState where
  | closed | active | ended | faulted
  deriving DecidableEq, Repr

/-- What an endpoint answered for one piece of a tile request, or for an index granule: refused or lost (`ok` false), or
served, with payload, scale bytes and poisoned granules (by granule index) of a read (R226, R227). -/
structure PieceAns where
  ok : Bool
  payload : List (BitVec 8)
  scales : List (BitVec 8)
  poison : List (Nat × Word)
  scalePoison : List (Nat × Word)
  deriving DecidableEq, Repr

/-- One part of a memory tile that is asked for by itself: a whole tile, or a 256-byte granule of a tile made of pieces (R201,
10 R309): its address, `none` where the index skips its piece or the index granule is poisoned (`bad`); what a write carries. -/
structure Piece where
  addr : Option Word
  bad : Bool
  /-- handed on to a Felun port or a PCIe link. -/
  away : Bool
  out : Option PieceAns
  /-- the outcome the core knows: its answer, or the failure it took at a timeout. -/
  ans : Option PieceAns
  /-- the status and content that its endpoint answered, on its way to the core or arrived there. -/
  resp : Option (Nat × PieceAns)
  /-- no answer is on its way any more: it has arrived, or there is none. -/
  got : Bool
  deriving DecidableEq, Repr

/-- A read, STORE write, push, or index read that a slot has issued and that has no outcome yet (R203, R213, R217).
`tile` is the memory tile, counted on across passes (LOAD, STORE), or the tile number (pushes, forwards). -/
structure TileReq where
  id : Nat
  tile : Nat
  /-- an index granule at this address instead of a tile. -/
  index : Option Word
  write : Bool
  pieces : List Piece
  flags : BitVec 12
  sentAt : Nat
  deriving DecidableEq, Repr

/-- An index granule that has been read for the issuing pass (R202): its address and its U32 elements, `none` where it
counts as poisoned (R227). -/
structure IdxGran where
  addr : Word
  vals : Option (List Nat)
  deriving DecidableEq, Repr

/-- A stream slot (R194, R241). Tile numbers count from 0 since the slot was armed (R197). -/
structure Slot where
  /-- the eight descriptor words; empty when nothing is armed. -/
  desc : List Word
  st : SlotState
  paused : Bool
  fault : Nat
  /-- the arm generation (R215); it survives a close. -/
  gen : Nat
  /-- tile number at which the next pass to start begins. -/
  nextBase : Nat
  queued : Option (Word × Word)
  /-- next memory tile of the issuing pass (LOAD, STORE), or tiles pushed of it. -/
  nextMem : Nat
  /-- memory tiles (LOAD) or tiles that landed and are not yet presented. -/
  landed : List Nat
  idx : List IdxGran
  presented : Nat
  taken : Nat
  released : Nat
  returned : List Nat
  handed : Nat
  acked : List Nat
  completed : Nat
  inflight : List TileReq
  /-- generations of the credits a SEND (or pushing REDUCE) holds, or that a Closed slot banks (R217). -/
  credits : List Nat
  bankOrigin : Option Word
  /-- credits outstanding and granted in all, child 0 and child 1 (a RECV uses child 0) (R216). -/
  credOut0 : Nat
  credOut1 : Nat
  granted0 : Nat
  granted1 : Nat
  /-- landed tiles of each child that are not summed yet (R232). -/
  child0 : List Nat
  child1 : List Nat
  sums : Nat
  failed : Nat
  dropped : Nat
  /-- passes in which a tile failed (Table 7-9 ERR), and passes ended since arm. -/
  failedIn : List Nat
  ended : Nat
  loc : Word
  /-- flags of conversions of ring tiles that are not complete yet (R204). -/
  pendFlags : List (Nat × BitVec 12)
  /-- GTC of the last progress, or of the start of the stall (R225). -/
  progressAt : Nat
  /-- the receiver pushed to last, the generation of the credits spent there, and the number of the next tile in that receiver's
  stream (R218); like the arm generation they survive a close. -/
  pushTo : Word
  pushGen : Nat
  pushSeq : Nat
  deriving DecidableEq, Repr

/-- A Closed slot at its Cold value (R242). -/
def Slot.closed : Slot :=
  { desc := [], st := .closed, paused := false, fault := 0, gen := 0, nextBase := 0,
    queued := none, nextMem := 0, landed := [], idx := [], presented := 0, taken := 0, released := 0, returned := [],
    handed := 0, acked := [], completed := 0, inflight := [], credits := [], bankOrigin := none, credOut0 := 0,
    credOut1 := 0, granted0 := 0, granted1 := 0, child0 := [], child1 := [], sums := 0,
    failed := 0, dropped := 0, failedIn := [], ended := 0, loc := 0, pendFlags := [], progressAt := 0, pushTo := 0, pushGen := 0,
    pushSeq := 0 }

/-- A tile request without a slot: its slot was closed or reset, or it timed out. `held`: it keeps its entry until it is
answered or times out (R86, R215). -/
structure Orphan where
  ctx : Nat
  held : Bool
  req : TileReq
  deriving DecidableEq, Repr

/-- A push on its way to a receiving slot (R217, R218), or a tile of the rotation ring (R235). -/
structure Push where
  id : Nat
  srcDie : Nat
  srcCore : Nat
  srcSlot : Nat
  dst : Word
  dstSlot : Nat
  child : Nat
  gen : Nat
  seq : Nat
  payload : List (BitVec 8)
  scales : List (BitVec 8)
  poison : List (Nat × Word)
  scalePoison : List (Nat × Word)
  failedTile : Bool
  rotate : Bool
  deriving DecidableEq, Repr

/-- A credit on its way to a producer (R216). -/
structure Credit where
  id : Nat
  origin : Word
  originSlot : Nat
  dst : Word
  dstSlot : Nat
  gen : Nat
  deriving DecidableEq, Repr

/-! ### Requests between requester and endpoint (06 R173 to R175, 09 R282) -/

inductive ReqKind where
  | load (rd sz : Nat) (sx : Bool)
  | store
  /-- FSEND or FSENDR; valve 63 is none. -/
  | fipple (valve : Nat)
  | valveSet (v : Nat)
  | tallyAdd (tc : Nat) (amount : Word)
  deriving DecidableEq, Repr

/-- Where a request stands: held back at its core, on its way, or answered at its endpoint. -/
inductive ReqStage where
  | queued
  | sent
  /-- handed on by the hub or a Felun attachment. -/
  | away
  | answered (status : Nat) (data : List (BitVec 8)) (poison : Option Word)
  deriving DecidableEq, Repr

/-- One far load or remote write of a context, from issue until its outcome reaches the context. -/
structure Req where
  id : Nat
  die : Nat
  core : Nat
  ctx : Nat
  kind : ReqKind
  addr : Word
  size : Nat
  data : List (BitVec 8)
  poison : Option Word
  pc : Pc
  sendTime : Nat
  stage : ReqStage
  errMark : Bool
  /-- for a signal: the earlier writes it covers (R282). -/
  covers : List Nat
  /-- its context was reset, or it timed out: its outcome is dropped (R86, R242, R245). -/
  dead : Bool
  /-- it timed out: a signal then changes nothing at its destination (R284). -/
  late : Bool
  /-- its answer stands at the core and travels in no packet. -/
  home : Bool
  deriving DecidableEq, Repr

/-! ### A core (03 R55) -/

/-- One logical core. Tiles, slots, valves and counters are listed by number; engine queues by engine * 2 + context;
started operations by engine, oldest first. -/
structure Core where
  c0 : Ctx
  c1 : Ctx
  brkEn : Bool
  ibufEn : Bool
  perfEn : Bool
  haltBoth : Bool
  lateDrops : Nat
  cmdRefused : Bool
  cmdBusy : Bool
  /-- writes of CCB_CTX_SPLIT rejected because a job ran (00 Table 0-3 RWL); no object of the spec shows the count (log 71). -/
  rejects : Nat
  treq0 : Nat
  treq1 : Nat
  slot0 : Nat
  acc0 : Nat
  brkPc : Pc
  /-- issued instructions of context 0 and 1 while PERF_EN is 1 (R79). -/
  perf0 : Nat
  perf1 : Nat
  /-- instruction-buffer lines, most recently used first (R64). -/
  ibuf : List IbufLine
  queues : List (Nat × List EngOp)
  runs : List (Nat × List EngRun)
  /-- the context whose operation each engine ran last (R61). -/
  lastRan : List (Nat × Nat)
  tiles : List (Nat × Tile)
  valves : List (Nat × Valve)
  tallies : List (Nat × Tally)
  syncArg : Word
  slots : List (Nat × Slot)
  /-- the context, and the slot of each context, that the stream controller served last (R214), and which context took
  the last entry above the reserves. -/
  lastCtx : Nat
  lastSlot0 : Nat
  lastSlot1 : Nat
  lastShared : Nat
  orphans : List Orphan
  /-- the slot whose tile the rotation ring took last (R236). -/
  lastRot : Nat
  /-- fenced by the die supervisor during the run (R87), with the cause it reads. -/
  fenced : Option Nat
  /-- when the core began to lend, if it lends (R295). -/
  lendSince : Option Nat
  deriving DecidableEq, Repr

/-- A core after cold or warm start (Table 3-15). -/
def Core.zero : Core :=
  { c0 := Ctx.zero, c1 := Ctx.zero, brkEn := false, ibufEn := true, perfEn := true, haltBoth := false, lateDrops := 0,
    cmdRefused := false, cmdBusy := false, rejects := 0, treq0 := 16, treq1 := 16, slot0 := 8, acc0 := 4, brkPc := 0, perf0 := 0,
    perf1 := 0, ibuf := [], queues := [], runs := [], lastRan := [], tiles := [], valves := [], tallies := [],
    syncArg := 0, slots := [], lastCtx := 1, lastSlot0 := 15, lastSlot1 := 15, lastShared := 1, orphans := [], lastRot := 15, fenced := none, lendSince := none }

/-! ### The pool (08) -/

/-- Pool page states (Table 8-4). -/
inductive PageState where
  | free | reserved | resident | moving | forwarding
  deriving DecidableEq, Repr

/-- A pool page entry (Table 8-4). -/
structure Page where
  st : PageState
  pin : Bool
  rdonly : Bool
  cls : Nat
  tenant : Nat
  object : Nat
  lastUse : Nat
  fwd : Nat
  back : Nat
  allocTime : Nat
  deriving DecidableEq, Repr

/-- A Free page: its entry is clear, BACK names no page. -/
def Page.free : Page := ⟨.free, false, false, 0, 0, 0, 0, 0, 0xFFFFFFFF, 0⟩

/-- The move in progress (R268): source and destination handles, the dirty granules, how many granules the copy has passed, the
recopy passes made, whether newly arriving requests are held, and the copy writes to host memory that its link has not acknowledged
(R271). -/
structure Move where
  src : Nat
  dst : Nat
  dirty : List Nat
  copied : Nat
  passes : Nat
  hold : Bool
  writes : List Nat
  deriving DecidableEq, Repr

/-- A move that starts. -/
def Move.start (src dst : Nat) : Move := ⟨src, dst, [], 0, 0, false, []⟩

/-- A pool command in progress: its operation, what is left to move, the pairs done, and the status it will end with. -/
structure PoolOp where
  op : Nat
  todo : List Nat
  done : List (Nat × Nat)
  status : Nat
  auto : Bool
  /-- a command that waits for the page an automatic eviction moves (R272): its OP and record. -/
  waiting : Option (Nat × List Word)
  /-- an automatic eviction that this command has made wait: the candidates it has left. -/
  resume : Option (List Nat)
  deriving DecidableEq, Repr

/-- A command that starts: its OP, candidates, and the status it ends with. -/
def PoolOp.start (op : Nat) (todo : List Nat) (status : Nat) (auto : Bool) : PoolOp := ⟨op, todo, [], status, auto, none, none⟩

/-! ### The module -/

/-- Errors of one codeword of an SRAM tier (08 R249, R250), as sets of codeword bits: wrong in the stored cells until the
codeword is written; wrong whatever is written; wrong in the sensing and read path of the next read alone. -/
structure CellErr where
  stored : Nat
  stuck : Nat
  read : Nat
  deriving DecidableEq, Repr

def CellErr.zero : CellErr := ⟨0, 0, 0⟩

/-- An error that stands in a core outside its SRAM; the physical world sets it and no command does (log 39): an uncorrectable
error in a register file, predicate file or the instruction buffer (03 cause 0x0B); in the control of an engine, or in
accumulator-tile state that poison cannot carry (cause 0x0C); word `word` of accumulator tile `tile` (engine * 8 + number)
that fails its parity check (05 R160). -/
inductive Upset where
  | regFile (core : Nat)
  | engCtl (core eng : Nat)
  | acc (core tile word : Nat)
  deriving DecidableEq, Repr

/-- Why the block stops. The spec ends every error in an effect on the state, so the model has no fault. -/
inductive Fault where
  deriving DecidableEq, Repr

/-- Why the block refuses a command. -/
inductive Refusal where
  /-- Raised by no meaning: the arm of a row that has none yet (safe: the run stops). -/
  | notModelled (mnemonic : String)
  deriving DecidableEq, Repr

/-- The state of the block. -/
structure State where
  /-- the commands that wait, first in, first out. -/
  pending : List Instr
  /-- object values by `Obj.key`; an unlisted value is the object's default. -/
  objs : List (Nat × Nat)
  /-- the global time counter (16 R518). -/
  gtc : Nat
  /-- numbers given to requests, pushes and credits, and to the draws of free values. -/
  nextId : Nat
  draws : Nat
  /-- logical cores by die * 256 + core; default `Core.zero`. -/
  cores : List (Nat × Core)
  /-- bytes of the stacked tiers and local SRAMs by MLA (02 Table 2-1), and their scale planes: the scale byte of MLA a
  stands at 2^45 + a / 32 (R246). -/
  mem : List Host.Cell
  /-- poisoned 64-byte granules by address / 64; 0 means clean, so a locator is kept as locator + 1 (R251). -/
  poison : List (Nat × Nat)
  /-- errors that stand in the codewords of the SRAM tiers, by codeword address / 8. The physical world sets them; no command
  does (log 39). -/
  cells : List (Nat × CellErr)
  /-- errors that stand in the cores' register files, engines and accumulator tiles. -/
  upsets : List Upset
  reqs : List Req
  pushes : List Push
  credits : List Credit
  hostValves : List (Nat × HostValve)
  pages : List (Nat × Page)
  move : Option Move
  poolOp : Option PoolOp
  census : Census
  fab : Fabric
  ports : List (Nat × Port)
  mouths : List (Nat × Mouth)
  /-- plan banks by port * 2 + bank. -/
  banks : List (Nat × Bank)
  bells : List (Nat × Bell)
  /-- an advance of the placement epoch that waits for outstanding requests (12 R408). -/
  epochTo : Option Nat
  hst : HostIf
  chb : Chb
  hlth : Health
  time : TimeSt
  pwr : Pwr
  boot : Boot
  fw : Fw
  bnd : Bnd
  deriving DecidableEq, Repr

/-- Objects that a clean cold start leaves at a value other than their default, by key ((area and entry) * 1024 + index) *
65536: MODULE_STATE Idle, START_KIND, START_CAUSE, START_PHASE, EFF_CAP, FEEDS_NEEDED, FEED_STATE of the eight feeds,
CORES_LOGICAL, PLACE_VALID, PLACE_PINS (place 0 with odd parity). -/
def resetObjs0 : List (Nat × Nat) :=
  [(8796093022208, 1), (8798240505856, 1), (8798307614720, 1), (8798441832448, 9), (70368811286528, 30000),
   (70368878395392, 7), (70369817919488, 130), (70369817985024, 130), (70369818050560, 130),
   (70369818116096, 130), (70369818181632, 130), (70369818247168, 130), (70369818312704, 130),
   (70369818378240, 130), (140737488355328, 12288), (153931694997504, 1), (153931762106368, 524288)]

/-- D2D_LANES of the dies: every lane between two dies is up. -/
def resetObjs1 : List (Nat × Nat) :=
  [(153967128477696, 4080), (153967128543232, 65520), (153967128608768, 65520), (153967128674304, 65520),
   (153967128739840, 65520), (153967128805376, 65520), (153967128870912, 65280), (153967128936448, 4095),
   (153967129001984, 65535), (153967129067520, 65535), (153967129133056, 65535), (153967129198592, 65535),
   (153967129264128, 65535), (153967129329664, 65295), (153967129395200, 4095), (153967129460736, 65535),
   (153967129526272, 65535), (153967129591808, 65535), (153967129657344, 65535), (153967129722880, 65535),
   (153967129788416, 65295), (153967129853952, 4095), (153967129919488, 65535), (153967129985024, 65535)]

/-- D2D_LANES of dies 24 to 47; START_NO and SVN_LEFT. -/
def resetObjs2 : List (Nat × Nat) :=
  [(153967130050560, 65535), (153967130116096, 65535), (153967130181632, 65295), (153967130247168, 4095),
   (153967130312704, 65535), (153967130378240, 65535), (153967130443776, 65535), (153967130509312, 65535),
   (153967130574848, 65535), (153967130640384, 65295), (153967130705920, 4095), (153967130771456, 65535),
   (153967130836992, 65535), (153967130902528, 65535), (153967130968064, 65535), (153967131033600, 65535),
   (153967131099136, 65295), (153967131164672, 255), (153967131230208, 61695), (153967131295744, 61695),
   (153967131361280, 61695), (153967131426816, 61695), (153967131492352, 61695), (153967131557888, 61455),
   (351846942113792, 1), (422215820509184, 64)]

/-- The block right after reset: the end of a clean cold start, no job, nothing in memory; every port trains from step 1
(log 35). -/
def State.reset : State :=
  { pending := [], objs := resetObjs0 ++ resetObjs1 ++ resetObjs2, gtc := 0, nextId := 0, draws := 0, cores := [], mem := [],
    poison := [], cells := [], upsets := [], reqs := [], pushes := [], credits := [], hostValves := [], pages := [], move := none,
    poolOp := none, census := Census.zero, fab := Fabric.zero
    ports := (List.range 48).map (fun n => (n, { Port.zero with st := 1 })), mouths := [], banks := [], bells := []
    epochTo := none, hst := HostIf.zero, chb := Chb.zero, hlth := Health.zero, time := TimeSt.zero, pwr := Pwr.zero
    boot := Boot.zero, fw := { Fw.zero with recA := some ⟨0, 0, 0, [], 0⟩ }, bnd := Bnd.zero }

end Sys2Proof.Machine
end

