-- ==== Sys2Proof/Objects.lean ====
section
/-! DEFINITION. The object dictionary's names: one constructor for every object that the tables of chapters 02 to 21
give the module (15 R466), with its code (area * 65,536 + entry), how many elements its array has, its type, its access
code (00 R9), its default and, for a BLOB that holds plain numbers, how many of which width. -/

namespace Sys2Proof

/-- The objects, in the order of the spec's object tables. -/
inductive Obj where
  | place | placeValid | placePins | placeOverride | placeChanges | hashSeed
  | hashSeedTime | bankAccess | hotBankEvents | addrErrors | addrErrorsRemote | addrErrorsHost
  | coresLogical | coresFenced | coreState | coreMap | coreStops | coreHandled
  | ctxSplitDefault | streamWdt | streamFaults | streamTileErrs | streamDrops | fippleSent
  | fippleErrs | rotateTiles | timeoutModule | timeoutRemote | timeoutHost | poolFirst
  | poolCount | hostPoolFirst | hostPoolCount | poolCmd | poolResult | poolTable
  | hostPoolTable | tenantQuota | tenantUse | poolAuto | poolAutoMask | poolFree
  | eccLocal | eccStack | poisonReads | tierFails | poolMoves | poolMoveFails
  | fwdAccesses | poolRefusals | valveWdt | lendThresh | jobMulti | censusCmd
  | censusState | censusId | censusCycles | censusDropped | censusDump | hostValves
  | wdtFires | sigErrs | tallyRefused | lendTime | ageCycles | fabricWeights
  | detour | d2dReplays | d2dLanes | meshParity | hdrDrops | urgentSends
  | regionFlits | wakeHolds | portRole | portCmd | portState | portCounters
  | laneCorr | laneOptics | felunWeights | felunAge | laneSerLimit | zmap
  | nz | imbalanceEvents | ingressMode | planCmd | planB0 | planB1
  | bankEpochs | swapCmd | swapState | planState | pepoch | epochCmd
  | wepoch | mpReqs | bellPages | pageRetry | eqBase | eqSize
  | mpCounters | bellCounters | ctabValid | cqBase | cqSize | bellChunks
  | chunkTx | chunkRx | cqState | linkState | apertureMap | scaleHost
  | vecMap | lqCfg | doorbellRefused | barRefused | linkLosses | apertureErrs
  | dmaCounters | vendor | orderCode | serial | moduleUid | hwRev
  | mac | dieUid | dieStep | mmcFwVersion | dieFwVersion | bundleVersion
  | chbVersion | assetTag | gtc | cal | calTrim | calValid
  | timeSync | moduleState | jobCmd | resetCmd | jobId | jobStartTime
  | evseq | eventLog | eventRetry | canNode | canEn | canCounters
  | udpPort | ipv6Static | slaac | ipv6Addrs | ethState | pcieTrust
  | mkey | mkeyRole | sessionIdle | sessions | segTimeout | chbCounters
  | powerCap | effCap | feedsNeeded | inputPower | energy | bhState
  | bhCount | bhMax | bhLast | feedState | feedTelem | feedEvents
  | regionRail | vminEver | vminStart | vguard | droopMargin | droopCount
  | ocCount | dieRails | dieOc | sleepDepth | dozeAfter | retainAfter
  | regionCmd | regionState | regionTime | boostEn | regionFreq | boostTime
  | timeRoot | timeState | ptpEn | ptpDomain | ptpGtcOffset | clockFaults
  | tLimit | clusterTemp | throttleTime | coolant | coolingState | startKind
  | startCause | startPhases | startPhase | mmcWdt | wdtRestarts | defectMap
  | ntVerdicts | margins | sparesUsed | ntCounts | healthSummary | summarySlots
  | healthRange | healthViewSeq | healthView | healthFlush | periodS | flushS
  | errorTable | errorOvf | retryTotals | startNo | fenceDie | degraded
  | lastStop | outcomeCounts | hostEventMask | eventMerged | trendEcc | slotInfo
  | activeSlot | commitSeq | bundle | bundleChain | stageState | chainCmd
  | chainEn | chainState | activateCmd | activateState | rootSlots | svnCount
  | svnLeft | acceptSlots | svnFailed | setv | lastMigration | recovery
  | fwCounters | uartBaud | uartCounters | uartRx | canPhy | canTerm
  | canPhyCounters
  deriving DecidableEq, Repr

/-- Types of Table 15's objects. -/
inductive ObjType where
  | u8 | u16 | u32 | u64 | s32 | s64 | bool | place | time64 | cal48 | f32 | str | blob
  deriving DecidableEq, Repr

/-- Access codes (00 R9). -/
inductive ObjAcc where
  | ro | rw | rwl | rwp | wo | cmd
  deriving DecidableEq, Repr

/-- One row of an object table. `elems` and `width` give the numbers a BLOB holds (0: it has a form of its own); `lo`
and `hi` bound a written value where the table gives a range. -/
structure ObjInfo where
  code : Nat
  count : Nat
  type : ObjType
  acc : ObjAcc
  dflt : Nat
  elems : Nat
  width : Nat
  lo : Nat
  hi : Nat
  deriving DecidableEq, Repr
/-- Rows 0 on of the object tables. -/
def Obj.table0 : List ObjInfo :=
  [⟨0x230000, 1, .place, .ro, 0, 1, 4, 0, 16777215⟩ /- PLACE -/,
   ⟨0x230001, 1, .bool, .ro, 0, 1, 1, 0, 255⟩ /- PLACE_VALID -/,
   ⟨0x230002, 1, .u32, .ro, 0, 1, 4, 0, 4294967295⟩ /- PLACE_PINS -/,
   ⟨0x230003, 1, .place, .rwp, 16777215, 1, 4, 0, 16777215⟩ /- PLACE_OVERRIDE -/,
   ⟨0x230004, 1, .u32, .ro, 0, 1, 4, 0, 4294967295⟩ /- PLACE_CHANGES -/,
   ⟨0x230010, 1, .u64, .rwl, 0, 1, 8, 0, 18446744073709551615⟩ /- HASH_SEED -/,
   ⟨0x230011, 1, .time64, .ro, 0, 1, 8, 0, 18446744073709551615⟩ /- HASH_SEED_TIME -/,
   ⟨0x230020, 48, .blob, .ro, 0, 128, 8, 0, 18446744073709551615⟩ /- BANK_ACCESS -/,
   ⟨0x230021, 48, .u32, .ro, 0, 1, 4, 0, 4294967295⟩ /- HOT_BANK_EVENTS -/,
   ⟨0x230030, 48, .u64, .ro, 0, 1, 8, 0, 18446744073709551615⟩ /- ADDR_ERRORS -/,
   ⟨0x230031, 1, .u64, .ro, 0, 1, 8, 0, 18446744073709551615⟩ /- ADDR_ERRORS_REMOTE -/,
   ⟨0x230032, 1, .u64, .ro, 0, 1, 8, 0, 18446744073709551615⟩ /- ADDR_ERRORS_HOST -/,
   ⟨0x200000, 1, .u32, .ro, 0, 1, 4, 0, 4294967295⟩ /- CORES_LOGICAL -/]

/-- Rows 13 on of the object tables. -/
def Obj.table1 : List ObjInfo :=
  [⟨0x200001, 1, .u32, .ro, 0, 1, 4, 0, 4294967295⟩ /- CORES_FENCED -/,
   ⟨0x200010, 48, .blob, .ro, 0, 256, 1, 0, 255⟩ /- CORE_STATE -/,
   ⟨0x200011, 48, .blob, .ro, 0, 256, 2, 0, 65535⟩ /- CORE_MAP -/,
   ⟨0x200020, 48, .blob, .ro, 0, 256, 4, 0, 4294967295⟩ /- CORE_STOPS -/,
   ⟨0x200021, 48, .blob, .ro, 0, 256, 4, 0, 4294967295⟩ /- CORE_HANDLED -/,
   ⟨0x200030, 1, .u64, .rwl, 269486084, 1, 8, 0, 18446744073709551615⟩ /- CTX_SPLIT_DEFAULT -/,
   ⟨0x210000, 1, .u32, .rwl, 2000, 1, 4, 1, 600000⟩ /- STREAM_WDT -/,
   ⟨0x210010, 48, .blob, .ro, 0, 256, 4, 0, 4294967295⟩ /- STREAM_FAULTS -/,
   ⟨0x210011, 48, .blob, .ro, 0, 256, 4, 0, 4294967295⟩ /- STREAM_TILE_ERRS -/,
   ⟨0x210012, 48, .blob, .ro, 0, 256, 4, 0, 4294967295⟩ /- STREAM_DROPS -/,
   ⟨0x210020, 48, .u64, .ro, 0, 1, 8, 0, 18446744073709551615⟩ /- FIPPLE_SENT -/,
   ⟨0x210021, 48, .u64, .ro, 0, 1, 8, 0, 18446744073709551615⟩ /- FIPPLE_ERRS -/,
   ⟨0x210030, 48, .u64, .ro, 0, 1, 8, 0, 18446744073709551615⟩ /- ROTATE_TILES -/]

/-- Rows 26 on of the object tables. -/
def Obj.table2 : List ObjInfo :=
  [⟨0x230100, 1, .u32, .rwl, 1000, 1, 4, 100, 10000000⟩ /- TIMEOUT_MODULE -/,
   ⟨0x230101, 1, .u32, .rwl, 10000, 1, 4, 100, 10000000⟩ /- TIMEOUT_REMOTE -/,
   ⟨0x230102, 1, .u32, .rwl, 50000, 1, 4, 100, 10000000⟩ /- TIMEOUT_HOST -/,
   ⟨0x230110, 48, .u16, .rwl, 0, 1, 2, 0, 65535⟩ /- POOL_FIRST -/,
   ⟨0x230111, 48, .u16, .rwl, 12288, 1, 2, 0, 65535⟩ /- POOL_COUNT -/,
   ⟨0x230112, 1, .u32, .rwl, 0, 1, 4, 0, 4294967295⟩ /- HOST_POOL_FIRST -/,
   ⟨0x230113, 1, .u32, .rwl, 0, 1, 4, 0, 4294967295⟩ /- HOST_POOL_COUNT -/,
   ⟨0x230120, 1, .blob, .cmd, 0, 0, 0, 0, 0⟩ /- POOL_CMD -/,
   ⟨0x230121, 1, .blob, .ro, 0, 520, 1, 0, 255⟩ /- POOL_RESULT -/,
   ⟨0x230122, 48, .blob, .ro, 0, 0, 0, 0, 0⟩ /- POOL_TABLE -/,
   ⟨0x230123, 1, .blob, .ro, 0, 0, 0, 0, 0⟩ /- HOST_POOL_TABLE -/,
   ⟨0x230124, 1, .blob, .rw, 4294967295, 2048, 4, 0, 4294967295⟩ /- TENANT_QUOTA -/,
   ⟨0x230125, 1, .blob, .ro, 0, 2048, 4, 0, 4294967295⟩ /- TENANT_USE -/]

/-- Rows 39 on of the object tables. -/
def Obj.table3 : List ObjInfo :=
  [⟨0x230126, 1, .u32, .rwl, 0, 1, 4, 0, 4294967295⟩ /- POOL_AUTO -/,
   ⟨0x230127, 1, .u8, .rwl, 29, 1, 1, 0, 255⟩ /- POOL_AUTO_MASK -/,
   ⟨0x230128, 48, .u32, .ro, 0, 1, 4, 0, 4294967295⟩ /- POOL_FREE -/,
   ⟨0x230130, 48, .blob, .ro, 0, 4, 8, 0, 18446744073709551615⟩ /- ECC_LOCAL -/,
   ⟨0x230131, 48, .blob, .ro, 0, 4, 8, 0, 18446744073709551615⟩ /- ECC_STACK -/,
   ⟨0x230132, 48, .u64, .ro, 0, 1, 8, 0, 18446744073709551615⟩ /- POISON_READS -/,
   ⟨0x230133, 1, .blob, .ro, 0, 9, 8, 0, 18446744073709551615⟩ /- TIER_FAILS -/,
   ⟨0x230134, 1, .u64, .ro, 0, 1, 8, 0, 18446744073709551615⟩ /- POOL_MOVES -/,
   ⟨0x230135, 1, .u64, .ro, 0, 1, 8, 0, 18446744073709551615⟩ /- POOL_MOVE_FAILS -/,
   ⟨0x230136, 1, .u64, .ro, 0, 1, 8, 0, 18446744073709551615⟩ /- FWD_ACCESSES -/,
   ⟨0x230137, 1, .u64, .ro, 0, 1, 8, 0, 18446744073709551615⟩ /- POOL_REFUSALS -/,
   ⟨0x220000, 1, .u32, .rwl, 2000, 1, 4, 1, 600000⟩ /- VALVE_WDT -/,
   ⟨0x220001, 1, .u32, .rwl, 20, 1, 4, 1, 10000⟩ /- LEND_THRESH -/]

/-- Rows 52 on of the object tables. -/
def Obj.table4 : List ObjInfo :=
  [⟨0x220003, 1, .bool, .rwl, 0, 1, 1, 0, 1⟩ /- JOB_MULTI -/,
   ⟨0x220004, 1, .u8, .cmd, 0, 1, 1, 0, 255⟩ /- CENSUS_CMD -/,
   ⟨0x220010, 1, .u8, .ro, 0, 1, 1, 0, 255⟩ /- CENSUS_STATE -/,
   ⟨0x220011, 1, .u64, .ro, 0, 1, 8, 0, 18446744073709551615⟩ /- CENSUS_ID -/,
   ⟨0x220012, 1, .u32, .ro, 0, 1, 4, 0, 4294967295⟩ /- CENSUS_CYCLES -/,
   ⟨0x220013, 1, .u32, .ro, 0, 1, 4, 0, 4294967295⟩ /- CENSUS_DROPPED -/,
   ⟨0x220014, 1, .blob, .ro, 0, 0, 0, 0, 0⟩ /- CENSUS_DUMP -/,
   ⟨0x220020, 1, .blob, .ro, 0, 0, 0, 0, 0⟩ /- HOST_VALVES -/,
   ⟨0x220030, 48, .u32, .ro, 0, 1, 4, 0, 4294967295⟩ /- WDT_FIRES -/,
   ⟨0x220031, 48, .u32, .ro, 0, 1, 4, 0, 4294967295⟩ /- SIG_ERRS -/,
   ⟨0x220032, 48, .u32, .ro, 0, 1, 4, 0, 4294967295⟩ /- TALLY_REFUSED -/,
   ⟨0x220033, 48, .u64, .ro, 0, 1, 8, 0, 18446744073709551615⟩ /- LEND_TIME -/,
   ⟨0x230200, 1, .u16, .rwl, 256, 1, 2, 32, 4096⟩ /- AGE_CYCLES -/]

/-- Rows 65 on of the object tables. -/
def Obj.table5 : List ObjInfo :=
  [⟨0x230201, 1, .u64, .rwl, 22481802250, 1, 8, 0, 18446744073709551615⟩ /- FABRIC_WEIGHTS -/,
   ⟨0x230202, 1, .u16, .ro, 0, 1, 2, 0, 65535⟩ /- DETOUR -/,
   ⟨0x230210, 48, .blob, .ro, 0, 8, 8, 0, 18446744073709551615⟩ /- D2D_REPLAYS -/,
   ⟨0x230211, 48, .u16, .ro, 0, 1, 2, 0, 65535⟩ /- D2D_LANES -/,
   ⟨0x230212, 49, .u64, .ro, 0, 1, 8, 0, 18446744073709551615⟩ /- MESH_PARITY -/,
   ⟨0x230213, 49, .u64, .ro, 0, 1, 8, 0, 18446744073709551615⟩ /- HDR_DROPS -/,
   ⟨0x230214, 48, .u64, .ro, 0, 1, 8, 0, 18446744073709551615⟩ /- URGENT_SENDS -/,
   ⟨0x230215, 48, .blob, .ro, 0, 4, 8, 0, 18446744073709551615⟩ /- REGION_FLITS -/,
   ⟨0x230216, 48, .u64, .ro, 0, 1, 8, 0, 18446744073709551615⟩ /- WAKE_HOLDS -/,
   ⟨0x300000, 48, .u8, .rwl, 0, 1, 1, 0, 8⟩ /- PORT_ROLE -/,
   ⟨0x300001, 48, .u8, .cmd, 0, 1, 1, 0, 255⟩ /- PORT_CMD -/,
   ⟨0x300002, 48, .u64, .ro, 0, 1, 8, 0, 18446744073709551615⟩ /- PORT_STATE -/,
   ⟨0x300003, 48, .blob, .ro, 0, 16, 8, 0, 18446744073709551615⟩ /- PORT_COUNTERS -/]

/-- Rows 78 on of the object tables. -/
def Obj.table6 : List ObjInfo :=
  [⟨0x300004, 48, .blob, .ro, 0, 16, 8, 0, 18446744073709551615⟩ /- LANE_CORR -/,
   ⟨0x300005, 48, .blob, .ro, 0, 32, 4, 0, 4294967295⟩ /- LANE_OPTICS -/,
   ⟨0x300010, 1, .u64, .rwl, 1121070687026, 1, 8, 0, 18446744073709551615⟩ /- FELUN_WEIGHTS -/,
   ⟨0x300011, 1, .u32, .rwl, 2000, 1, 4, 100, 100000⟩ /- FELUN_AGE -/,
   ⟨0x300012, 1, .u32, .rwl, 21250, 1, 4, 0, 4294967295⟩ /- LANE_SER_LIMIT -/,
   ⟨0x300020, 1, .blob, .rwl, 65535, 2048, 2, 0, 65535⟩ /- ZMAP -/,
   ⟨0x300021, 1, .u16, .rwl, 1, 1, 2, 1, 2048⟩ /- NZ -/,
   ⟨0x300030, 48, .u32, .ro, 0, 1, 4, 0, 4294967295⟩ /- IMBALANCE_EVENTS -/,
   ⟨0x310000, 48, .u8, .rwl, 0, 1, 1, 0, 1⟩ /- INGRESS_MODE -/,
   ⟨0x310001, 1, .u8, .cmd, 0, 1, 1, 0, 255⟩ /- PLAN_CMD -/,
   ⟨0x310002, 48, .blob, .rw, 0, 0, 0, 0, 0⟩ /- PLAN_B0 -/,
   ⟨0x310003, 48, .blob, .rw, 0, 0, 0, 0, 0⟩ /- PLAN_B1 -/,
   ⟨0x310004, 48, .u32, .rw, 0, 1, 4, 0, 4294967295⟩ /- BANK_EPOCHS -/]

/-- Rows 91 on of the object tables. -/
def Obj.table7 : List ObjInfo :=
  [⟨0x310005, 1, .u16, .cmd, 0, 1, 2, 0, 65535⟩ /- SWAP_CMD -/,
   ⟨0x310006, 1, .u32, .ro, 0, 1, 4, 0, 4294967295⟩ /- SWAP_STATE -/,
   ⟨0x310007, 48, .u64, .ro, 0, 1, 8, 0, 18446744073709551615⟩ /- PLAN_STATE -/,
   ⟨0x310010, 1, .u16, .ro, 0, 1, 2, 0, 65535⟩ /- PEPOCH -/,
   ⟨0x310011, 1, .u16, .cmd, 0, 1, 2, 0, 65535⟩ /- EPOCH_CMD -/,
   ⟨0x310012, 1, .u16, .ro, 0, 1, 2, 0, 65535⟩ /- WEPOCH -/,
   ⟨0x310020, 1, .u16, .rwl, 256, 1, 2, 1, 2048⟩ /- MP_REQS -/,
   ⟨0x310021, 1, .u8, .rwl, 32, 1, 1, 1, 64⟩ /- BELL_PAGES -/,
   ⟨0x310022, 1, .u32, .rwl, 1000, 1, 4, 0, 4294967295⟩ /- PAGE_RETRY -/,
   ⟨0x310030, 48, .u64, .rwl, 0, 1, 8, 0, 18446744073709551615⟩ /- EQ_BASE -/,
   ⟨0x310031, 48, .u16, .rwl, 256, 1, 2, 16, 4096⟩ /- EQ_SIZE -/,
   ⟨0x310040, 48, .blob, .ro, 0, 10, 8, 0, 18446744073709551615⟩ /- MP_COUNTERS -/,
   ⟨0x310041, 48, .blob, .ro, 0, 6, 8, 0, 18446744073709551615⟩ /- BELL_COUNTERS -/]

/-- Rows 104 on of the object tables. -/
def Obj.table8 : List ObjInfo :=
  [⟨0x310042, 48, .blob, .ro, 0, 32, 1, 0, 255⟩ /- CTAB_VALID -/,
   ⟨0x320000, 48, .u64, .rwl, 0, 1, 8, 0, 18446744073709551615⟩ /- CQ_BASE -/,
   ⟨0x320001, 48, .u16, .rwl, 256, 1, 2, 16, 4096⟩ /- CQ_SIZE -/,
   ⟨0x320002, 1, .u16, .rwl, 128, 1, 2, 1, 1024⟩ /- BELL_CHUNKS -/,
   ⟨0x320010, 48, .blob, .ro, 0, 7, 8, 0, 18446744073709551615⟩ /- CHUNK_TX -/,
   ⟨0x320011, 48, .blob, .ro, 0, 9, 8, 0, 18446744073709551615⟩ /- CHUNK_RX -/,
   ⟨0x320012, 48, .u64, .ro, 0, 1, 8, 0, 18446744073709551615⟩ /- CQ_STATE -/,
   ⟨0x400000, 2, .u32, .ro, 0, 1, 4, 0, 4294967295⟩ /- LINK_STATE -/,
   ⟨0x400010, 1, .blob, .rwl, 0, 256, 8, 0, 18446744073709551615⟩ /- APERTURE_MAP -/,
   ⟨0x400011, 2, .u64, .rwl, 0, 1, 8, 0, 18446744073709551615⟩ /- SCALE_HOST -/,
   ⟨0x400012, 1, .blob, .rwl, 0, 401, 2, 0, 65535⟩ /- VEC_MAP -/,
   ⟨0x400020, 128, .blob, .rwl, 0, 4, 8, 0, 18446744073709551615⟩ /- LQ_CFG -/,
   ⟨0x400030, 1, .u64, .ro, 0, 1, 8, 0, 18446744073709551615⟩ /- DOORBELL_REFUSED -/]

/-- Rows 117 on of the object tables. -/
def Obj.table9 : List ObjInfo :=
  [⟨0x400031, 1, .u64, .ro, 0, 1, 8, 0, 18446744073709551615⟩ /- BAR_REFUSED -/,
   ⟨0x400032, 2, .u32, .ro, 0, 1, 4, 0, 4294967295⟩ /- LINK_LOSSES -/,
   ⟨0x400033, 2, .blob, .ro, 0, 4, 8, 0, 18446744073709551615⟩ /- APERTURE_ERRS -/,
   ⟨0x400034, 16, .blob, .ro, 0, 4, 8, 0, 18446744073709551615⟩ /- DMA_COUNTERS -/,
   ⟨0x000000, 1, .str, .ro, 0, 0, 0, 0, 0⟩ /- VENDOR -/,
   ⟨0x000001, 1, .str, .ro, 0, 0, 0, 0, 0⟩ /- ORDER_CODE -/,
   ⟨0x000002, 1, .str, .ro, 0, 0, 0, 0, 0⟩ /- SERIAL -/,
   ⟨0x000003, 1, .u64, .ro, 0, 1, 8, 0, 18446744073709551615⟩ /- MODULE_UID -/,
   ⟨0x000004, 1, .u8, .ro, 0, 1, 1, 0, 255⟩ /- HW_REV -/,
   ⟨0x000005, 1, .u64, .ro, 0, 1, 8, 0, 18446744073709551615⟩ /- MAC -/,
   ⟨0x000010, 49, .u64, .ro, 0, 1, 8, 0, 18446744073709551615⟩ /- DIE_UID -/,
   ⟨0x000011, 49, .u8, .ro, 0, 1, 1, 0, 255⟩ /- DIE_STEP -/,
   ⟨0x000020, 1, .u32, .ro, 0, 1, 4, 0, 4294967295⟩ /- MMC_FW_VERSION -/]

/-- Rows 130 on of the object tables. -/
def Obj.table10 : List ObjInfo :=
  [⟨0x000021, 1, .u32, .ro, 0, 1, 4, 0, 4294967295⟩ /- DIE_FW_VERSION -/,
   ⟨0x000022, 1, .u32, .ro, 0, 1, 4, 0, 4294967295⟩ /- BUNDLE_VERSION -/,
   ⟨0x000023, 1, .u16, .ro, 1, 1, 2, 0, 65535⟩ /- CHB_VERSION -/,
   ⟨0x000030, 1, .str, .rwp, 0, 0, 0, 0, 0⟩ /- ASSET_TAG -/,
   ⟨0x010000, 1, .time64, .ro, 0, 1, 8, 0, 18446744073709551615⟩ /- GTC -/,
   ⟨0x010001, 1, .cal48, .rw, 0, 1, 8, 0, 18446744073709551615⟩ /- CAL -/,
   ⟨0x010002, 1, .s32, .rwp, 0, 1, 4, 0, 4294967295⟩ /- CAL_TRIM -/,
   ⟨0x010003, 1, .bool, .ro, 0, 1, 1, 0, 255⟩ /- CAL_VALID -/,
   ⟨0x010004, 1, .u8, .ro, 0, 1, 1, 0, 255⟩ /- TIME_SYNC -/,
   ⟨0x020000, 1, .u8, .ro, 0, 1, 1, 0, 255⟩ /- MODULE_STATE -/,
   ⟨0x020001, 1, .u8, .cmd, 0, 1, 1, 0, 255⟩ /- JOB_CMD -/,
   ⟨0x020002, 1, .u8, .cmd, 0, 1, 1, 0, 255⟩ /- RESET_CMD -/,
   ⟨0x020003, 1, .u64, .rwl, 0, 1, 8, 0, 18446744073709551615⟩ /- JOB_ID -/]

/-- Rows 143 on of the object tables. -/
def Obj.table11 : List ObjInfo :=
  [⟨0x020004, 1, .time64, .ro, 0, 1, 8, 0, 18446744073709551615⟩ /- JOB_START_TIME -/,
   ⟨0x020010, 1, .u32, .ro, 0, 1, 4, 0, 4294967295⟩ /- EVSEQ -/,
   ⟨0x020011, 1, .blob, .ro, 0, 0, 0, 0, 0⟩ /- EVENT_LOG -/,
   ⟨0x020012, 1, .u32, .rw, 200, 1, 4, 10, 10000⟩ /- EVENT_RETRY -/,
   ⟨0x700000, 2, .u8, .rwp, 0, 1, 1, 1, 126⟩ /- CAN_NODE -/,
   ⟨0x700001, 2, .bool, .rwp, 1, 1, 1, 0, 1⟩ /- CAN_EN -/,
   ⟨0x700002, 2, .blob, .ro, 0, 6, 8, 0, 18446744073709551615⟩ /- CAN_COUNTERS -/,
   ⟨0x700010, 1, .u16, .rwp, 61290, 1, 2, 0, 65535⟩ /- UDP_PORT -/,
   ⟨0x700011, 1, .blob, .rwp, 0, 40, 1, 0, 255⟩ /- IPV6_STATIC -/,
   ⟨0x700012, 1, .bool, .rwp, 1, 1, 1, 0, 1⟩ /- SLAAC -/,
   ⟨0x700013, 1, .blob, .ro, 0, 0, 0, 0, 0⟩ /- IPV6_ADDRS -/,
   ⟨0x700014, 1, .u32, .ro, 0, 1, 4, 0, 4294967295⟩ /- ETH_STATE -/,
   ⟨0x700020, 1, .bool, .rwp, 1, 1, 1, 0, 1⟩ /- PCIE_TRUST -/]

/-- Rows 156 on of the object tables. -/
def Obj.table12 : List ObjInfo :=
  [⟨0x700030, 8, .blob, .wo, 0, 32, 1, 0, 255⟩ /- MKEY -/,
   ⟨0x700031, 8, .u8, .rwp, 3, 1, 1, 0, 3⟩ /- MKEY_ROLE -/,
   ⟨0x700032, 1, .u32, .rwp, 60000, 1, 4, 1000, 3600000⟩ /- SESSION_IDLE -/,
   ⟨0x700033, 1, .blob, .ro, 0, 0, 0, 0, 0⟩ /- SESSIONS -/,
   ⟨0x700034, 1, .u32, .rwp, 200, 1, 4, 10, 10000⟩ /- SEG_TIMEOUT -/,
   ⟨0x700040, 1, .blob, .ro, 0, 10, 8, 0, 18446744073709551615⟩ /- CHB_COUNTERS -/,
   ⟨0x100000, 1, .u32, .rwp, 30000, 1, 4, 3000, 33000⟩ /- POWER_CAP -/,
   ⟨0x100001, 1, .u32, .ro, 0, 1, 4, 0, 4294967295⟩ /- EFF_CAP -/,
   ⟨0x100002, 1, .u8, .ro, 0, 1, 1, 0, 255⟩ /- FEEDS_NEEDED -/,
   ⟨0x100003, 1, .f32, .ro, 0, 1, 4, 0, 4294967295⟩ /- INPUT_POWER -/,
   ⟨0x100004, 1, .u64, .ro, 0, 1, 8, 0, 18446744073709551615⟩ /- ENERGY -/,
   ⟨0x100005, 1, .u8, .ro, 0, 1, 1, 0, 255⟩ /- BH_STATE -/,
   ⟨0x100006, 1, .u32, .ro, 0, 1, 4, 0, 4294967295⟩ /- BH_COUNT -/]

/-- Rows 169 on of the object tables. -/
def Obj.table13 : List ObjInfo :=
  [⟨0x100007, 1, .u32, .rwp, 1000, 1, 4, 20, 60000⟩ /- BH_MAX -/,
   ⟨0x100008, 1, .blob, .ro, 0, 4, 8, 0, 18446744073709551615⟩ /- BH_LAST -/,
   ⟨0x100010, 8, .u8, .ro, 0, 1, 1, 0, 255⟩ /- FEED_STATE -/,
   ⟨0x100011, 8, .blob, .ro, 0, 2, 4, 0, 4294967295⟩ /- FEED_TELEM -/,
   ⟨0x100012, 8, .blob, .ro, 0, 4, 4, 0, 4294967295⟩ /- FEED_EVENTS -/,
   ⟨0x100020, 192, .blob, .ro, 0, 4, 4, 0, 4294967295⟩ /- REGION_RAIL -/,
   ⟨0x100021, 192, .blob, .ro, 0, 32, 1, 0, 255⟩ /- VMIN_EVER -/,
   ⟨0x100022, 192, .blob, .ro, 65535, 32, 1, 0, 255⟩ /- VMIN_START -/,
   ⟨0x100023, 1, .u16, .rwl, 15, 1, 2, 5, 50⟩ /- VGUARD -/,
   ⟨0x100024, 1, .u16, .rwl, 25, 1, 2, 10, 80⟩ /- DROOP_MARGIN -/,
   ⟨0x100025, 192, .u64, .ro, 0, 1, 8, 0, 18446744073709551615⟩ /- DROOP_COUNT -/,
   ⟨0x100026, 192, .blob, .ro, 0, 2, 4, 0, 4294967295⟩ /- OC_COUNT -/,
   ⟨0x100030, 48, .blob, .ro, 0, 8, 4, 0, 4294967295⟩ /- DIE_RAILS -/]

/-- Rows 182 on of the object tables. -/
def Obj.table14 : List ObjInfo :=
  [⟨0x100031, 48, .blob, .ro, 0, 8, 4, 0, 4294967295⟩ /- DIE_OC -/,
   ⟨0x110000, 1, .u8, .rwl, 2, 1, 1, 0, 2⟩ /- SLEEP_DEPTH -/,
   ⟨0x110001, 1, .u32, .rwl, 2, 1, 4, 1, 1000000⟩ /- DOZE_AFTER -/,
   ⟨0x110002, 1, .u32, .rwl, 500, 1, 4, 10, 10000000⟩ /- RETAIN_AFTER -/,
   ⟨0x110003, 192, .u8, .cmd, 0, 1, 1, 0, 255⟩ /- REGION_CMD -/,
   ⟨0x110004, 192, .u8, .ro, 0, 1, 1, 0, 255⟩ /- REGION_STATE -/,
   ⟨0x110005, 192, .blob, .ro, 0, 5, 8, 0, 18446744073709551615⟩ /- REGION_TIME -/,
   ⟨0x110006, 1, .bool, .rwl, 1, 1, 1, 0, 1⟩ /- BOOST_EN -/,
   ⟨0x110007, 192, .u16, .ro, 1200, 1, 2, 0, 65535⟩ /- REGION_FREQ -/,
   ⟨0x110008, 192, .u64, .ro, 0, 1, 8, 0, 18446744073709551615⟩ /- BOOST_TIME -/,
   ⟨0x110010, 1, .place, .rwl, 16777215, 1, 4, 0, 16777215⟩ /- TIME_ROOT -/,
   ⟨0x110011, 1, .blob, .ro, 0, 3, 8, 0, 18446744073709551615⟩ /- TIME_STATE -/,
   ⟨0x110012, 1, .bool, .rwp, 0, 1, 1, 0, 1⟩ /- PTP_EN -/]

/-- Rows 195 on of the object tables. -/
def Obj.table15 : List ObjInfo :=
  [⟨0x110013, 1, .u8, .rwp, 0, 1, 1, 0, 255⟩ /- PTP_DOMAIN -/,
   ⟨0x110014, 1, .s64, .ro, 0, 1, 8, 0, 18446744073709551615⟩ /- PTP_GTC_OFFSET -/,
   ⟨0x110015, 48, .blob, .ro, 0, 2, 4, 0, 4294967295⟩ /- CLOCK_FAULTS -/,
   ⟨0x120000, 1, .u8, .rwl, 105, 1, 1, 85, 110⟩ /- T_LIMIT -/,
   ⟨0x120001, 48, .blob, .ro, 0, 16, 4, 0, 4294967295⟩ /- CLUSTER_TEMP -/,
   ⟨0x120002, 48, .blob, .ro, 0, 16, 8, 0, 18446744073709551615⟩ /- THROTTLE_TIME -/,
   ⟨0x120003, 1, .blob, .ro, 0, 6, 4, 0, 4294967295⟩ /- COOLANT -/,
   ⟨0x120004, 1, .u8, .ro, 0, 1, 1, 0, 255⟩ /- COOLING_STATE -/,
   ⟨0x020020, 1, .u8, .ro, 0, 1, 1, 0, 255⟩ /- START_KIND -/,
   ⟨0x020021, 1, .u8, .ro, 0, 1, 1, 0, 255⟩ /- START_CAUSE -/,
   ⟨0x020022, 1, .blob, .ro, 0, 9, 8, 0, 18446744073709551615⟩ /- START_PHASES -/,
   ⟨0x020023, 1, .u8, .ro, 0, 1, 1, 0, 255⟩ /- START_PHASE -/,
   ⟨0x020024, 1, .u32, .rwp, 2000, 1, 4, 500, 60000⟩ /- MMC_WDT -/]

/-- Rows 208 on of the object tables. -/
def Obj.table16 : List ObjInfo :=
  [⟨0x020025, 1, .u32, .ro, 0, 1, 4, 0, 4294967295⟩ /- WDT_RESTARTS -/,
   ⟨0x020030, 48, .blob, .ro, 0, 0, 0, 0, 0⟩ /- DEFECT_MAP -/,
   ⟨0x020031, 48, .blob, .ro, 0, 272, 2, 0, 65535⟩ /- NT_VERDICTS -/,
   ⟨0x020032, 48, .blob, .ro, 0, 4, 4, 0, 4294967295⟩ /- MARGINS -/,
   ⟨0x020033, 48, .blob, .ro, 0, 2, 4, 0, 4294967295⟩ /- SPARES_USED -/,
   ⟨0x020034, 1, .blob, .ro, 0, 4, 8, 0, 18446744073709551615⟩ /- NT_COUNTS -/,
   ⟨0x500000, 49, .blob, .ro, 0, 0, 0, 0, 0⟩ /- HEALTH_SUMMARY -/,
   ⟨0x500001, 49, .u16, .ro, 0, 1, 2, 0, 65535⟩ /- SUMMARY_SLOTS -/,
   ⟨0x500002, 1, .blob, .ro, 0, 4, 8, 0, 18446744073709551615⟩ /- HEALTH_RANGE -/,
   ⟨0x500003, 1, .u64, .rw, 0, 1, 8, 0, 18446744073709551615⟩ /- HEALTH_VIEW_SEQ -/,
   ⟨0x500004, 1, .blob, .ro, 0, 0, 0, 0, 0⟩ /- HEALTH_VIEW -/,
   ⟨0x500005, 1, .u8, .cmd, 0, 1, 1, 0, 255⟩ /- HEALTH_FLUSH -/,
   ⟨0x500006, 1, .u32, .rwp, 3600, 1, 4, 60, 86400⟩ /- PERIOD_S -/]

/-- Rows 221 on of the object tables. -/
def Obj.table17 : List ObjInfo :=
  [⟨0x500007, 1, .u32, .rwp, 60, 1, 4, 10, 3600⟩ /- FLUSH_S -/,
   ⟨0x500010, 49, .blob, .ro, 0, 0, 0, 0, 0⟩ /- ERROR_TABLE -/,
   ⟨0x500011, 49, .u32, .ro, 0, 1, 4, 0, 4294967295⟩ /- ERROR_OVF -/,
   ⟨0x500020, 1, .blob, .ro, 0, 64, 8, 0, 18446744073709551615⟩ /- RETRY_TOTALS -/,
   ⟨0x500030, 1, .u32, .ro, 0, 1, 4, 0, 4294967295⟩ /- START_NO -/,
   ⟨0x510000, 1, .u8, .rwp, 255, 1, 1, 0, 255⟩ /- FENCE_DIE -/,
   ⟨0x510001, 1, .bool, .ro, 0, 1, 1, 0, 255⟩ /- DEGRADED -/,
   ⟨0x510002, 1, .blob, .ro, 0, 32, 1, 0, 255⟩ /- LAST_STOP -/,
   ⟨0x510010, 1, .blob, .ro, 0, 8, 8, 0, 18446744073709551615⟩ /- OUTCOME_COUNTS -/,
   ⟨0x510011, 1, .u8, .rwp, 255, 1, 1, 0, 255⟩ /- HOST_EVENT_MASK -/,
   ⟨0x510012, 1, .u64, .ro, 0, 1, 8, 0, 18446744073709551615⟩ /- EVENT_MERGED -/,
   ⟨0x510013, 1, .u32, .rwp, 64, 1, 4, 1, 1000000⟩ /- TREND_ECC -/,
   ⟨0x600000, 1, .blob, .ro, 0, 128, 1, 0, 255⟩ /- SLOT_INFO -/]

/-- Rows 234 on of the object tables. -/
def Obj.table18 : List ObjInfo :=
  [⟨0x600001, 1, .u8, .ro, 0, 1, 1, 0, 255⟩ /- ACTIVE_SLOT -/,
   ⟨0x600002, 1, .u32, .ro, 0, 1, 4, 0, 4294967295⟩ /- COMMIT_SEQ -/,
   ⟨0x600010, 1, .blob, .wo, 0, 0, 0, 0, 0⟩ /- BUNDLE -/,
   ⟨0x600011, 1, .blob, .wo, 0, 0, 0, 0, 0⟩ /- BUNDLE_CHAIN -/,
   ⟨0x600012, 1, .u32, .ro, 0, 1, 4, 0, 4294967295⟩ /- STAGE_STATE -/,
   ⟨0x600013, 1, .u8, .cmd, 0, 1, 1, 0, 255⟩ /- CHAIN_CMD -/,
   ⟨0x600014, 1, .bool, .rwp, 1, 1, 1, 0, 1⟩ /- CHAIN_EN -/,
   ⟨0x600015, 1, .blob, .ro, 0, 48, 1, 0, 255⟩ /- CHAIN_STATE -/,
   ⟨0x600020, 1, .u8, .cmd, 0, 1, 1, 0, 255⟩ /- ACTIVATE_CMD -/,
   ⟨0x600021, 1, .u32, .ro, 0, 1, 4, 0, 4294967295⟩ /- ACTIVATE_STATE -/,
   ⟨0x600030, 1, .blob, .ro, 0, 416, 1, 0, 255⟩ /- ROOT_SLOTS -/,
   ⟨0x600031, 1, .u8, .ro, 0, 1, 1, 0, 255⟩ /- SVN_COUNT -/,
   ⟨0x600032, 1, .u8, .ro, 0, 1, 1, 0, 255⟩ /- SVN_LEFT -/]

/-- Rows 247 on of the object tables. -/
def Obj.table19 : List ObjInfo :=
  [⟨0x600033, 1, .u8, .ro, 0, 1, 1, 0, 255⟩ /- ACCEPT_SLOTS -/,
   ⟨0x600034, 1, .u64, .ro, 0, 1, 8, 0, 18446744073709551615⟩ /- SVN_FAILED -/,
   ⟨0x600040, 1, .u16, .ro, 0, 1, 2, 0, 65535⟩ /- SETV -/,
   ⟨0x600041, 1, .blob, .ro, 0, 16, 1, 0, 255⟩ /- LAST_MIGRATION -/,
   ⟨0x600050, 1, .bool, .ro, 0, 1, 1, 0, 255⟩ /- RECOVERY -/,
   ⟨0x600060, 1, .blob, .ro, 0, 8, 8, 0, 18446744073709551615⟩ /- FW_COUNTERS -/,
   ⟨0x700050, 1, .u32, .rwp, 115200, 1, 4, 9600, 3000000⟩ /- UART_BAUD -/,
   ⟨0x700051, 1, .blob, .ro, 0, 6, 8, 0, 18446744073709551615⟩ /- UART_COUNTERS -/,
   ⟨0x700052, 1, .blob, .ro, 0, 256, 1, 0, 255⟩ /- UART_RX -/,
   ⟨0x700053, 2, .u8, .ro, 0, 1, 1, 0, 255⟩ /- CAN_PHY -/,
   ⟨0x700054, 2, .bool, .rwp, 0, 1, 1, 0, 1⟩ /- CAN_TERM -/,
   ⟨0x700055, 2, .blob, .ro, 0, 4, 4, 0, 4294967295⟩ /- CAN_PHY_COUNTERS -/]

/-- The object tables, row by row, in the order of the constructors. -/
def Obj.table : List ObjInfo :=
  Obj.table0 ++ Obj.table1 ++ Obj.table2 ++ Obj.table3 ++ Obj.table4 ++ Obj.table5 ++ Obj.table6 ++ Obj.table7 ++ Obj.table8 ++ Obj.table9 ++ Obj.table10 ++ Obj.table11 ++ Obj.table12 ++ Obj.table13 ++ Obj.table14 ++ Obj.table15 ++ Obj.table16 ++ Obj.table17 ++ Obj.table18 ++ Obj.table19

/-- The row of an object. -/
def Obj.info (o : Obj) : ObjInfo := Obj.table.getD o.ctorIdx ⟨0, 0, .blob, .ro, 0, 0, 0, 0, 0⟩
/-- Objects 0 on. -/
def Obj.all0 : List Obj :=
  [.place, .placeValid, .placePins, .placeOverride, .placeChanges, .hashSeed, .hashSeedTime, .bankAccess,
   .hotBankEvents, .addrErrors, .addrErrorsRemote, .addrErrorsHost, .coresLogical, .coresFenced, .coreState, .coreMap,
   .coreStops, .coreHandled, .ctxSplitDefault, .streamWdt, .streamFaults, .streamTileErrs, .streamDrops, .fippleSent,
   .fippleErrs, .rotateTiles, .timeoutModule, .timeoutRemote, .timeoutHost, .poolFirst, .poolCount, .hostPoolFirst,
   .hostPoolCount, .poolCmd, .poolResult, .poolTable, .hostPoolTable]

/-- Objects 37 on. -/
def Obj.all1 : List Obj :=
  [.tenantQuota, .tenantUse, .poolAuto, .poolAutoMask, .poolFree, .eccLocal, .eccStack, .poisonReads,
   .tierFails, .poolMoves, .poolMoveFails, .fwdAccesses, .poolRefusals, .valveWdt, .lendThresh, .jobMulti,
   .censusCmd, .censusState, .censusId, .censusCycles, .censusDropped, .censusDump, .hostValves, .wdtFires,
   .sigErrs, .tallyRefused, .lendTime, .ageCycles, .fabricWeights, .detour, .d2dReplays, .d2dLanes,
   .meshParity, .hdrDrops, .urgentSends, .regionFlits, .wakeHolds]

/-- Objects 74 on. -/
def Obj.all2 : List Obj :=
  [.portRole, .portCmd, .portState, .portCounters, .laneCorr, .laneOptics, .felunWeights, .felunAge,
   .laneSerLimit, .zmap, .nz, .imbalanceEvents, .ingressMode, .planCmd, .planB0, .planB1,
   .bankEpochs, .swapCmd, .swapState, .planState, .pepoch, .epochCmd, .wepoch, .mpReqs,
   .bellPages, .pageRetry, .eqBase, .eqSize, .mpCounters, .bellCounters, .ctabValid, .cqBase,
   .cqSize, .bellChunks, .chunkTx, .chunkRx, .cqState]

/-- Objects 111 on. -/
def Obj.all3 : List Obj :=
  [.linkState, .apertureMap, .scaleHost, .vecMap, .lqCfg, .doorbellRefused, .barRefused, .linkLosses,
   .apertureErrs, .dmaCounters, .vendor, .orderCode, .serial, .moduleUid, .hwRev, .mac,
   .dieUid, .dieStep, .mmcFwVersion, .dieFwVersion, .bundleVersion, .chbVersion, .assetTag, .gtc,
   .cal, .calTrim, .calValid, .timeSync, .moduleState, .jobCmd, .resetCmd, .jobId,
   .jobStartTime, .evseq, .eventLog, .eventRetry, .canNode]

/-- Objects 148 on. -/
def Obj.all4 : List Obj :=
  [.canEn, .canCounters, .udpPort, .ipv6Static, .slaac, .ipv6Addrs, .ethState, .pcieTrust,
   .mkey, .mkeyRole, .sessionIdle, .sessions, .segTimeout, .chbCounters, .powerCap, .effCap,
   .feedsNeeded, .inputPower, .energy, .bhState, .bhCount, .bhMax, .bhLast, .feedState,
   .feedTelem, .feedEvents, .regionRail, .vminEver, .vminStart, .vguard, .droopMargin, .droopCount,
   .ocCount, .dieRails, .dieOc, .sleepDepth, .dozeAfter]

/-- Objects 185 on. -/
def Obj.all5 : List Obj :=
  [.retainAfter, .regionCmd, .regionState, .regionTime, .boostEn, .regionFreq, .boostTime, .timeRoot,
   .timeState, .ptpEn, .ptpDomain, .ptpGtcOffset, .clockFaults, .tLimit, .clusterTemp, .throttleTime,
   .coolant, .coolingState, .startKind, .startCause, .startPhases, .startPhase, .mmcWdt, .wdtRestarts,
   .defectMap, .ntVerdicts, .margins, .sparesUsed, .ntCounts, .healthSummary, .summarySlots, .healthRange,
   .healthViewSeq, .healthView, .healthFlush, .periodS, .flushS]

/-- Objects 222 on. -/
def Obj.all6 : List Obj :=
  [.errorTable, .errorOvf, .retryTotals, .startNo, .fenceDie, .degraded, .lastStop, .outcomeCounts,
   .hostEventMask, .eventMerged, .trendEcc, .slotInfo, .activeSlot, .commitSeq, .bundle, .bundleChain,
   .stageState, .chainCmd, .chainEn, .chainState, .activateCmd, .activateState, .rootSlots, .svnCount,
   .svnLeft, .acceptSlots, .svnFailed, .setv, .lastMigration, .recovery, .fwCounters, .uartBaud,
   .uartCounters, .uartRx, .canPhy, .canTerm, .canPhyCounters]

/-- All objects, in the order of the spec's tables. -/
def Obj.all : List Obj :=
  Obj.all0 ++ Obj.all1 ++ Obj.all2 ++ Obj.all3 ++ Obj.all4 ++ Obj.all5 ++ Obj.all6

/-- The object with a code, if there is one. -/
def Obj.find (code : Nat) : Option Obj := Obj.all.find? (fun o => o.info.code == code)

/-- Where element `sub` of array element `index` of an object stands in the object store. -/
def Obj.key (o : Obj) (index sub : Nat) : Nat := (o.info.code * 1024 + index) * 65536 + sub

end Sys2Proof
end

