-- ==== Sys2Proof/Machine/Access.lean ====
section
/-! DEFINITION. Reading and writing the parts of State: objects, cores, contexts, registers. Every register has one
home, and every read and write of it goes through the accessor here. -/

namespace Sys2Proof.Machine

/-! ### Objects -/

/-- Default roles of the ports (Table 11-11). -/
def portRoleDefault (i : Nat) : Nat :=
  if i < 16 then 1 else if i < 20 then 2 else if i < 24 then 3 else if i < 30 then 4 else if i < 36 then 5
  else if i < 42 then 6 else 7

/-- The default link and vector of interrupt source `j` (Table 14-7): module events, DMA channels, queues, host valves. -/
def vecMapDefault (j : Nat) : Nat :=
  if j = 0 then 0
  else if j < 17 then (j - 1) / 8 * 256 + j
  else if j < 145 then (j - 17) / 64 * 256 + 64 + (j - 17) % 64
  else (j - 145) / 128 * 256 + 128 + (j - 145) % 128

/-- The voters of a die that has no unconnected port but those at the wafer's edge (17 R550): bit 0 its own supervisor, bits 1
to 4 those facing N, E, S, W. -/
def votersOf (d : Nat) : Nat :=
  let site := if d < 24 then d else d + 1
  1 + (if site / 7 = 0 then 0 else 2) + (if site % 7 = 6 then 0 else 4) + (if site / 7 = 6 then 0 else 8) +
    (if site % 7 = 0 then 0 else 16)

/-- The default of one element of an object (the Default column of its table). -/
def objDflt (o : Obj) (i j : Nat) : Nat :=
  match o with
  | .poolCount => if i = 0 then 12224 else 12288
  | .portRole => portRoleDefault i
  | .mkeyRole => if i = 0 then 3 else 0
  | .coreMap => j / 16 * 17 + j % 16
  | .lqCfg => if j = 0 then i / 64 * 2 ^ 62 else 0
  | .summarySlots => 1
  | .vminStart => if j = 6 ∨ j = 7 then 255 else 0
  | .vminEver => if j = 6 ∨ j = 7 then 255 else 0
  | .vecMap => vecMapDefault j
  | .ntVerdicts => votersOf i * 256 + votersOf i
  | .margins => 0x114B4B00
  | o => o.info.dflt

/-- The value of element `j` of array element `i` of an object. -/
def State.obj (s : State) (o : Obj) (i : Nat := 0) (j : Nat := 0) : Nat := aget (objDflt o i j) s.objs (o.key i j)

/-- The same, written. -/
def State.setObj (s : State) (o : Obj) (v : Nat) (i : Nat := 0) (j : Nat := 0) : State :=
  { s with objs := aset (objDflt o i j) s.objs (o.key i j) v }

/-- The object, index and element that a key of the object store names. -/
def keyParts (k : Nat) : Option (Obj × Nat × Nat) := (Obj.find (k / 65536 / 1024)).map (fun o => (o, k / 65536 % 1024, k % 65536))

/-- The value at a key of the object store. -/
def State.keyVal (s : State) (k : Nat) : Nat :=
  match keyParts k with
  | some p => s.obj p.1 p.2.1 p.2.2
  | none => 0

/-- The same, written. -/
def State.setKeyVal (s : State) (k v : Nat) : State :=
  match keyParts k with
  | some p => s.setObj p.1 v p.2.1 p.2.2
  | none => s

/-- A counter object advanced by `n`, modulo its width. -/
def State.addObj (s : State) (o : Obj) (n : Nat) (i : Nat := 0) (j : Nat := 0) : State :=
  s.setObj o ((s.obj o i j + n) % 2 ^ (8 * o.info.width)) i j

/-- A counter object advanced by 1. -/
def State.incObj (s : State) (o : Obj) (i : Nat := 0) (j : Nat := 0) : State := s.addObj o 1 i j

/-! ### Cores and contexts -/

def State.core (s : State) (k : Nat) : Core := aget Core.zero s.cores k

def State.setCore (s : State) (k : Nat) (c : Core) : State := { s with cores := aset Core.zero s.cores k c }

def State.updCore (s : State) (k : Nat) (f : Core → Core) : State := s.setCore k (f (s.core k))

/-- Context `x` of a core. -/
def Core.ctx (c : Core) (x : Nat) : Ctx := if x = 0 then c.c0 else c.c1

def Core.setCtx (c : Core) (x : Nat) (v : Ctx) : Core := if x = 0 then { c with c0 := v } else { c with c1 := v }

def State.ctx (s : State) (k x : Nat) : Ctx := (s.core k).ctx x

def State.setCtx (s : State) (k x : Nat) (v : Ctx) : State := s.setCore k ((s.core k).setCtx x v)

def State.updCtx (s : State) (k x : Nat) (f : Ctx → Ctx) : State := s.setCtx k x (f (s.ctx k x))

/-! ### Scalar, predicate and vector registers (Table 3-1) -/

/-- A scalar register: g0 reads as zero and carries no poison. -/
def Ctx.greg (c : Ctx) (r : Nat) : GReg := if r = 0 then GReg.zero else aget GReg.zero c.g r

/-- A write to g0 is discarded. -/
def Ctx.setG (c : Ctx) (r : Nat) (v : GReg) : Ctx := if r = 0 then c else { c with g := aset GReg.zero c.g r v }

/-- A predicate: p0 reads as all ones. -/
def Ctx.preg (c : Ctx) (r : Nat) : Word := if r = 0 then BitVec.allOnes 64 else aget 0 c.p r

/-- A write to p0 is discarded. -/
def Ctx.setP (c : Ctx) (r : Nat) (v : Word) : Ctx := if r = 0 then c else { c with p := aset 0 c.p r v }

def Ctx.vreg (c : Ctx) (r : Nat) : VReg := aget VReg.zero c.v r

def Ctx.setV (c : Ctx) (r : Nat) (v : VReg) : Ctx := { c with v := aset VReg.zero c.v r v }

/-! ### Tiles, valves, counters, slots, queues -/

def Core.tile (c : Core) (n : Nat) : Tile := aget Tile.zero c.tiles n
def Core.setTile (c : Core) (n : Nat) (t : Tile) : Core := { c with tiles := aset Tile.zero c.tiles n t }
def Core.valve (c : Core) (n : Nat) : Valve := aget Valve.closed c.valves n
def Core.setValve (c : Core) (n : Nat) (v : Valve) : Core := { c with valves := aset Valve.closed c.valves n v }
def Core.tally (c : Core) (n : Nat) : Tally := aget Tally.zero c.tallies n
def Core.setTally (c : Core) (n : Nat) (v : Tally) : Core := { c with tallies := aset Tally.zero c.tallies n v }
def Core.slot (c : Core) (n : Nat) : Slot := aget Slot.closed c.slots n
def Core.setSlot (c : Core) (n : Nat) (v : Slot) : Core := { c with slots := aset Slot.closed c.slots n v }
def Core.queue (c : Core) (e x : Nat) : List EngOp := aget [] c.queues (e * 2 + x)
def Core.setQueue (c : Core) (e x : Nat) (q : List EngOp) : Core := { c with queues := aset [] c.queues (e * 2 + x) q }
def Core.run (c : Core) (e : Nat) : List EngRun := aget [] c.runs e
def Core.setRun (c : Core) (e : Nat) (q : List EngRun) : Core := { c with runs := aset [] c.runs e q }

def State.updSlot (s : State) (k n : Nat) (f : Slot → Slot) : State :=
  s.updCore k (fun c => c.setSlot n (f (c.slot n)))

/-- Which context owns a slot or a tile (R57). -/
def Core.slotOwner (c : Core) (n : Nat) : Nat := if n < c.slot0 then 0 else 1
def Core.tileOwner (c : Core) (t : Nat) : Nat := if t < c.acc0 then 0 else 1

def State.hostValve (s : State) (h : Nat) : HostValve := aget HostValve.closed s.hostValves h
def State.setHostValve (s : State) (h : Nat) (v : HostValve) : State :=
  { s with hostValves := aset HostValve.closed s.hostValves h v }

def State.page (s : State) (h : Nat) : Page := aget Page.free s.pages h
def State.setPage (s : State) (h : Nat) (p : Page) : State := { s with pages := aset Page.free s.pages h p }

def State.port (s : State) (n : Nat) : Port := aget Port.zero s.ports n
def State.setPort (s : State) (n : Nat) (p : Port) : State := { s with ports := aset Port.zero s.ports n p }
def State.updPort (s : State) (n : Nat) (f : Port → Port) : State := s.setPort n (f (s.port n))

/-- A number no request, push or credit has been given yet. -/
def State.fresh (s : State) : Nat × State := (s.nextId, { s with nextId := s.nextId + 1 })

/-- A draw of a free value: its number, and the state in which the next draw has another. -/
def State.draw (s : State) : Nat × State := (s.draws, { s with draws := s.draws + 1 })

/-! ### Time and regions -/

/-- The GTC copy of a die: the hub's within 2 ns (16 R520). -/
def State.dieGtc (s : State) (d : Nat) : Nat := ((s.gtc : Int) + s.time.residual.getD d 0).toNat

/-- The power region of a core: die * 4 + quadrant of its cluster (01, 16). -/
def regionOfCore (k : Nat) : Nat := k / 256 * 4 + (k % 256 / 16 / 4 / 2 * 2 + k % 256 / 16 % 4 / 2)

/-- The power region and the cluster of a core, by number (16). -/
def State.region16 (s : State) (r : Nat) : Region16 := aget Region16.zero s.pwr.regions r
def State.cluster (s : State) (c : Nat) : Cluster := aget Cluster.zero s.pwr.clusters c

/-- Nothing of the core computes: its region is gated by breath-hold (16 R511) or after a trip (R510) or is not in Run
(R529: its clusters are clock-gated, stopped or off), or heat gates its cluster (R534). -/
def State.gatedCore (s : State) (k : Nat) : Bool :=
  let r := regionOfCore k
  s.pwr.gated.contains r || (s.region16 r).tripAt.isSome || s.obj .regionState r != 0 || (s.cluster (k / 16)).gated

/-- The module is in breath-hold (R511), or in a power-loss shutdown (R515). -/
def State.holding (s : State) : Bool := s.obj .bhState == 1 || s.obj .bhState == 3

/-- Time since `t` that counts toward a watchdog or a sleep timer: breath-hold does not (R512). -/
def State.countedSince (s : State) (t : Nat) : Nat :=
  let part (h : Nat × Nat) : Nat := h.2 - max h.1 t
  let now := if s.obj .bhState = 1 then s.gtc - max (s.obj .bhLast 0 0) t else 0
  s.gtc - t - (s.pwr.holds.map part).sum - now

/-- The core's region is Off (16 Table 16-8): it refuses access (10 R323). -/
def State.regionOff (s : State) (k : Nat) : Bool := s.obj .regionState (regionOfCore k) == 4

/-- The core's region sleeps: it is in Idle, Doze or Retain (16 Table 16-8). -/
def State.asleep (s : State) (k : Nat) : Bool :=
  let st := s.obj .regionState (regionOfCore k)
  decide (1 ≤ st ∧ st ≤ 3)

/-- A wake request for the region of core `k`, if it sleeps (16 R529): a packet for one of its cores (10 R323), a CCB access, a
command that starts a context, an opening on which a context of it waits. -/
def State.requestWake (s : State) (k : Nat) : State :=
  let r := regionOfCore k
  if s.asleep k && !s.pwr.wakes.contains r then { s with pwr := { s.pwr with wakes := r :: s.pwr.wakes } } else s

/-! ### The place (02 R41 to R46) -/

/-- The place in use, 0xFF_FFFF while not valid (Table 2-7). -/
def State.place (s : State) : Nat := s.obj .place

/-- Whether a place names this module (R42). -/
def State.isHere (s : State) (place : Nat) : Bool := place == 0xFFFFFF || (place == s.place && s.obj .placeValid == 1)

/-- A place with a bit of [23:19] set other than 0xFF_FFFF is malformed (R42). -/
def placeMalformed (place : Nat) : Bool := place != 0xFFFFFF && decide (2 ^ 19 ≤ place)

/-! ### Fault locators (01 R28 to R32) -/

/-- A locator from its fields (Table 1-6). -/
def locator (cls die pcore bank sub col bit : Nat) : Word :=
  BitVec.ofNat 64 (2 ^ 63 + cls % 32 * 2 ^ 58 + die % 64 * 2 ^ 52 + pcore % 512 * 2 ^ 43 + bank % 32 * 2 ^ 38 +
    sub % 64 * 2 ^ 32 + col % 1024 * 2 ^ 22 + bit % 256 * 2 ^ 14)

/-- The physical core that carries a logical core (R24, R25). -/
def State.pcoreOf (s : State) (k : Nat) : Nat := s.obj .coreMap (k / 256) (k % 256)

/-- A core-logic locator, class 0x03: bank names the unit (Table 1-7), 31 none. -/
def State.coreLoc (s : State) (k unit : Nat) : Word := locator 3 (k / 256) (s.pcoreOf k) unit 63 1023 255

/-- Parity of the low `n` bits. -/
def parity (n v : Nat) : Bool := popCount n v % 2 == 1

/-- Hash base masks (Table 2-6). -/
def hashBase : List Nat := [0x11111, 0x2222, 0x4444, 0x8888, 0xF00F, 0x10FF0, 0xCC33]

/-- h of R48 for a line under seed K. -/
def hashH (seed line : Nat) : Nat :=
  packFields 1 ((hashBase.zipIdx).map (fun p =>
    let mask := packFields 1 (tabulate 17 (fun j => Nat.xor (b2n (p.1.testBit j)) (b2n (seed.testBit ((9 * p.2 + j) % 64)))))
    Nat.xor (b2n (parity 17 (Nat.land line mask))) (b2n (seed.testBit (57 + p.2)))))

/-- The bank of a stacked-tier offset (R48): 0 to 127, cluster * 8 + cluster bank. -/
def bankOf (seed off : Nat) : Nat := Nat.xor (bitsOf off 14 8) (hashH seed (bitsOf off 31 15))

end Sys2Proof.Machine
end

