-- ==== Sys2Proof/Machine/Event.lean ====
section
/-! DEFINITION. Chapters 14, 15, 18, 19: MSI-X messages, events and their numbering, the error tables. Every unit that
detects something reports it through these. -/

namespace Sys2Proof.Machine

/-! ### MSI-X (14 R461) -/

def State.link (s : State) (l : Nat) : PcieLink := aget PcieLink.zero s.hst.links l

def State.setLink (s : State) (l : Nat) (v : PcieLink) : State :=
  { s with hst := { s.hst with links := aset PcieLink.zero s.hst.links l v } }

/-- A word of the MSI-X table; after a reset every vector is masked (bit 32 of its second word). -/
def PcieLink.tword (p : PcieLink) (i : Nat) : Word :=
  match p.table.find? (fun e => e.1 == i) with
  | some e => e.2
  | none => if i % 2 = 1 then 0x100000000 else 0

def PcieLink.setTword (p : PcieLink) (i : Nat) (v : Word) : PcieLink :=
  { p with table := (i, v) :: p.table.filter (fun e => e.1 != i) }

/-- A message of this vector can be sent now. -/
def PcieLink.canSend (p : PcieLink) (vec : Nat) : Bool :=
  p.up && !p.fmask && !(p.tword (2 * vec + 1)).getLsbD 32

/-- A message on a link and vector: sent, or its pending bit set; two that wait together are one. -/
def State.sendMsi (s : State) (l vec : Nat) : State :=
  let p := s.link l
  if p.canSend vec then s.setLink l { p with sent := vec :: p.sent }
  else if p.pend.contains vec then s
  else s.setLink l { p with pend := vec :: p.pend }

/-- A message of interrupt source `j` of VEC_MAP. -/
def State.sendSource (s : State) (j : Nat) : State :=
  let v := s.obj .vecMap 0 j
  s.sendMsi (bitsOf v 8 8) (v % 256)

/-- The message of a module event: while its entry stands at its default, on both links (Table 14-7, log 21). -/
def State.sendEventMsi (s : State) : State :=
  if s.obj .vecMap 0 0 = 0 then (s.sendMsi 0 0).sendMsi 1 0 else s.sendSource 0

/-! ### Events (15 R490, R491; 19 R600 to R602) -/

/-- The outcome class of a code (Table 19-4); a core-stop is class 4 here, and its raiser says when it is 5 (R586). -/
def eventClass (code : Nat) : Nat :=
  if [0x0102, 0x0103, 0x0106, 0x0401, 0x080C, 0x0901, 0x0905, 0x090A, 0x0B07].contains code then 6
  else if [0x0105, 0x0808, 0x080B, 0x0902].contains code then 5
  else if code == 0x0301 then 4
  else if [0x0201, 0x0302, 0x0603, 0x0604, 0x0605, 0x0606].contains code then 3
  else if [0x080A, 0x0904].contains code then 2
  else if code == 0x0206 then 1
  else if [0x0101, 0x0107, 0x0109, 0x0303, 0x0501, 0x0601, 0x0602, 0x0701, 0x0804, 0x0805, 0x0807, 0x0903,
    0x090B, 0x0B01, 0x0B04, 0x0B08, 0x0B0B, 0x0B0C].contains code then 0
  else 7

/-- The 32 bytes of an event body (Table 15-8). -/
def Event.bytes (e : Event) : List (BitVec 8) :=
  leBytes 4 e.seq ++ leBytes 2 e.code ++ leBytes 1 e.outcome ++ leBytes 1 e.arg8 ++ leBytes 8 e.data.toNat ++
    leBytes 8 e.gtc ++ leBytes 6 e.cal ++ leBytes 2 e.arg16

/-- A PDU leaves for a client (15). -/
def State.sendPdu (s : State) (p : Sent) : State := { s with chb := { s.chb with sent := p :: s.chb.sent } }

/-- An event sent to one subscribed session whose mask selects its class: with a new counter; the oldest of 65 is
dropped (R491). -/
def Session.notify (x : Session) (e : Event) (now : Nat) : Session :=
  let un := x.unacked ++ [⟨e.seq, 0, now⟩]
  { x with unacked := un.drop (un.length - 64), sendCtr := x.sendCtr + 1 }

def Session.takes (x : Session) (e : Event) : Bool := x.proven && x.mask.testBit e.outcome

/-- An event of class 1, 2, 3 or 7 that repeats one less than 1 s old is merged into it (R601). -/
def State.mergesEvent (s : State) (code outcome : Nat) (data : Word) : Bool :=
  (outcome == 1 || outcome == 2 || outcome == 3 || outcome == 7) &&
  s.chb.events.any (fun e => e.code == code && e.data == data && decide (s.gtc < e.gtc + 1000000000))

/-- A session closes (R479): its number and keys, its transfers and kept responses are discarded. -/
def State.closeSession (s : State) (sid : Nat) : State :=
  { s with chb := { s.chb with
    sessions := s.chb.sessions.filter (fun (x : Session) => x.sid != sid)
    transfers := s.chb.transfers.filter (fun (t : Transfer) => t.sid != sid)
    caches := s.chb.caches.filter (fun (x : Cache) => x.sid != sid) } }

/-- A session whose counter has reached 2^64 - 1 in either direction closes (R478). -/
def State.closeWorn (s : State) (sid : Nat) : State :=
  if s.chb.sessions.any (fun (x : Session) => x.sid == sid && (decide (2 ^ 64 - 1 ≤ x.sendCtr) || decide (2 ^ 64 - 1 ≤ x.hi))) then
    s.closeSession sid
  else s

/-- The newest event, at the head of the log. -/
def State.lastEvent (s : State) : Option Event := s.chb.events.head?

/-- An event is raised: numbered, stamped, counted, logged (the PCIe event ring is the same data), queued for every
subscribed session, and signalled to the host (R490, R600). The action of its class is not taken here. -/
def State.raiseAs (s : State) (code outcome arg8 arg16 : Nat) (data : Word) : State :=
  if s.mergesEvent code outcome data then s.incObj .eventMerged
  else
    let seq := (s.obj .evseq + 1) % 2 ^ 32
    let e : Event := ⟨seq, code, outcome, arg8 % 256, data, s.gtc, s.obj .cal, arg16 % 65536⟩
    let takers := s.chb.sessions.filter (fun (x : Session) => x.takes e)
    let pdus : List Sent := takers.map (fun (x : Session) => ⟨x.client, x.sid, 0x0A, 0, seq % 65536, (0, 0, 0), e.bytes, some x.sendCtr, false⟩)
    let s := (s.setObj .evseq seq).incObj .outcomeCounts 0 outcome
    -- an event that 64 newer ones push out of a session was never acknowledged
    let lost := (takers.filter (fun (x : Session) => decide (64 ≤ x.unacked.length))).length
    let s := if lost = 0 then s else (s.addObj .chbCounters lost 0 8).addObj .retryTotals lost 0 53
    let s := { s with chb := { s.chb with
      events := (e :: s.chb.events).take 4096
      sessions := s.chb.sessions.map (fun (x : Session) => if x.takes e then x.notify e s.gtc else x)
      sent := pdus.reverse ++ s.chb.sent } }
    let s := takers.foldl (fun (t : State) (x : Session) => t.closeWorn x.sid) s
    let s := if outcome = 5 ∨ outcome = 6 then { s with hlth := { s.hlth with faults := s.hlth.faults ++ [e] } } else s
    if (s.obj .hostEventMask).testBit outcome then s.sendEventMsi else s

/-- An event of the class Table 19-4 gives its code. -/
def State.raiseEvent (s : State) (code : Nat) (arg8 arg16 : Nat) (data : Word) : State :=
  s.raiseAs code (eventClass code) arg8 arg16 data

/-! ### Error tables (18 R566 to R569) -/

/-- A saturating U32 count. -/
def sat32 (n : Nat) : Nat := min n (2 ^ 32 - 1)

def ErrEntry.bump (e : ErrEntry) (k now : Nat) : ErrEntry :=
  { e with c := e.c.set k (sat32 (e.c.getD k 0 + 1)), last := now, changed := true }

/-- A locator with a field at its not-resolved value: bit, column, subarray, bank (R568). -/
def coarsen (loc : Word) (step : Nat) : Word :=
  let n := loc.toNat
  let n := setBits n 14 8 255
  let n := if 2 ≤ step then setBits n 22 10 1023 else n
  let n := if 3 ≤ step then setBits n 32 6 63 else n
  BitVec.ofNat 64 (if 4 ≤ step then setBits n 38 5 31 else n)

/-- The table index of a locator: its die, the hub's table for 63. -/
def tableOf (loc : Word) : Nat :=
  let d := bitsOf loc.toNat 57 52
  if d = 63 then 48 else d

def hasEntry (l : List ErrEntry) (loc : Word) (src : Nat) : Bool := l.any (fun e => e.loc == loc && e.src == src)

def bumpEntry (l : List ErrEntry) (loc : Word) (src k now : Nat) : List ErrEntry :=
  l.map (fun e => if e.loc = loc ∧ e.src = src then e.bump k now else e)

/-- A count added to the table its locator names: exact, then coarser, then overflow (R567, R568). -/
def State.addToTable (s : State) (loc : Word) (src k : Nat) : State :=
  let d := tableOf loc
  let ex := aget [] s.hlth.exact d
  let co := aget [] s.hlth.coarse d
  let new (l : Word) : ErrEntry :=
    { loc := l, src := src, c := [0, 0, 0, 0].set k 1, first := s.gtc, last := s.gtc, changed := true }
  let putEx (l : List ErrEntry) : State := { s with hlth := { s.hlth with exact := aset [] s.hlth.exact d l } }
  let putCo (l : List ErrEntry) : State := { s with hlth := { s.hlth with coarse := aset [] s.hlth.coarse d l } }
  if hasEntry ex loc src then putEx (bumpEntry ex loc src k s.gtc)
  else if ex.length < 960 then putEx (ex ++ [new loc])
  else
    match [1, 2, 3, 4].find? (fun st => hasEntry (ex ++ co) (coarsen loc st) src) with
    | some st =>
      let l := coarsen loc st
      if hasEntry ex l src then putEx (bumpEntry ex l src k s.gtc) else putCo (bumpEntry co l src k s.gtc)
    | none =>
      if co.length < 64 then putCo (co ++ [new (coarsen loc 1)])
      else s.setObj .errorOvf (sat32 (s.obj .errorOvf d + 1)) d

def bumpAt (l : List Nat) (k lim : Nat) : List Nat := l.set k (min lim (l.getD k 0 + 1))

/-- The lifetime values that a count enters (Table 18-8). -/
def Life.count (x : Life) (src k : Nat) : Life :=
  match src with
  | 1 => { x with eccLocal := bumpAt x.eccLocal k (2 ^ 32 - 1) }
  | 2 => { x with eccStack := bumpAt x.eccStack k (2 ^ 32 - 1) }
  | 3 => if k < 2 then { x with d2d := bumpAt x.d2d k (2 ^ 32 - 1) } else x
  | 4 => if k < 2 then { x with felun := bumpAt x.felun k (2 ^ 32 - 1) } else x
  | 8 => if k < 2 then { x with nt := bumpAt x.nt k 65535 } else x
  | _ => x

def State.lifeOf (s : State) (d : Nat) : Life := aget Life.zero s.hlth.life d

def State.updLife (s : State) (d : Nat) (f : Life → Life) : State :=
  { s with hlth := { s.hlth with life := aset Life.zero s.hlth.life d (f (s.lifeOf d)) } }

/-- The sum of C1 over the entries of sources 1 and 2 of a die, and the locator of the entry with the highest (R585). -/
def State.eccC1 (s : State) (d : Nat) : Nat × Word :=
  let l := (aget [] s.hlth.exact d ++ aget [] s.hlth.coarse d).filter (fun e => e.src == 1 || e.src == 2)
  let top := l.foldl (fun (a : Nat × Word) e => if a.1 < e.c.getD 1 0 then (e.c.getD 1 0, e.loc) else a) (0, 0)
  ((l.map (fun e => e.c.getD 1 0)).sum, top.2)

/-- One ecc-trend event per die and start (R585). -/
def State.eccTrend (s : State) (d : Nat) : State :=
  let r := s.eccC1 d
  if s.obj .trendEcc ≤ r.1 ∧ s.hlth.trended.contains d = false then
    ({ s with hlth := { s.hlth with trended := d :: s.hlth.trended } }).raiseEvent 0x0206 0 (min r.1 65535) r.2
  else s

/-- A final outcome counted under source `src`, column `k` of Table 18-1 (R566, R567): the retry totals, and with a valid
locator the die's table and lifetime values; lasting counts make an ERRORS record due (R572). -/
def State.countErr (s : State) (loc : Word) (src k : Nat) : State :=
  let s := s.incObj .retryTotals 0 ((src - 1) * 4 + k)
  if loc.getLsbD 63 = false ∨ src = 13 ∨ src = 14 then s
  else
    let d := tableOf loc
    let s := (s.addToTable loc src k).updLife d (fun x => x.count src k)
    let s := if k = 1 ∨ k = 3 ∨ (k = 2 ∧ (src = 3 ∨ src = 5 ∨ src = 7)) then
      (if s.hlth.due.contains d then s else { s with hlth := { s.hlth with due := d :: s.hlth.due } }) else s
    if (src = 1 ∨ src = 2) ∧ k = 1 then s.eccTrend d else s

/-- A locator of a die unit, a hub unit or a module unit (Table 1-8); `col` 1,023 where no lane is known. -/
def dieUnit (d bank col : Nat) : Word := locator 5 d 511 bank 63 col 255
def hubUnit (bank : Nat) : Word := locator 6 48 511 bank 63 1023 255
def moduleUnit (bank : Nat) : Word := locator 7 63 511 bank 63 1023 255
/-- A locator of cluster logic, with ring position 0 of the cluster (Table 1-7). -/
def clusterLoc (d cluster bank : Nat) : Word := locator 4 d (cluster * 17) bank 63 1023 255

end Sys2Proof.Machine
end

