-- ==== Sys2Proof/Machine/Address.lean ====
section
/-! DEFINITION. Chapter 02: what an address names, who may reach it, and the checks every access passes (R34 to R42). -/

namespace Sys2Proof.Machine

/-- The units an MLA can name (R34, R38, Table 2-3). -/
inductive Region where
  /-- a stacked tier: die and offset. -/
  | stack (die off : Nat)
  /-- a local SRAM: core key and offset. -/
  | sram (core off : Nat)
  | ccb (core off : Nat)
  | dict (off : Nat)
  /-- Felun port control: port and offset. -/
  | port (n off : Nat)
  | hostValves (off : Nat)
  | gtc (off : Nat)
  | launch (off : Nat)
  | aperture (off : Nat)
  | reserved
  deriving DecidableEq, Repr

/-- Table 2-2: what an MLA names, before fenced dies are taken out. -/
def regionOf (mla : Nat) : Region :=
  let top := bitsOf mla 39 32
  let off := mla % 2 ^ 32
  if top < 48 then
    if off < 0xC0000000 then .stack top off
    else .sram (top * 256 + bitsOf off 29 22) (off % 2 ^ 22)
  else if top = 0x30 then
    if bitsOf off 31 24 < 48 then .ccb (bitsOf off 31 24 * 256 + bitsOf off 23 16) (off % 2 ^ 16) else .reserved
  else if top = 0x31 then
    if off < 0x01000000 then .dict off
    else if off < 0x01300000 then .port ((off - 0x01000000) / 2 ^ 16) (off % 2 ^ 16)
    else if 0x02000000 ≤ off ∧ off < 0x02001000 then .hostValves (off - 0x02000000)
    else if 0x03000000 ≤ off ∧ off < 0x03000040 then .gtc (off - 0x03000000)
    else if 0x04000000 ≤ off ∧ off < 0x10000000 then .launch (off - 0x04000000)
    else .reserved
  else if 0x40 ≤ top ∧ top < 0x80 then .aperture (mla - 0x4000000000)
  else .reserved

/-- The end of the unit (R38), as an offset in it. -/
def Region.size : Region → Nat
  | .stack _ _ => 0xC0000000
  | .sram _ _ => 2 ^ 22
  | .ccb _ _ => 2 ^ 16
  | .dict _ => 2 ^ 24
  | .port _ _ => 2 ^ 16
  | .hostValves _ => 0x1000
  | .gtc _ => 0x40
  | .launch _ => 0x0C000000
  | .aperture _ => 2 ^ 38
  | .reserved => 0

/-- The offset of the address in its unit. -/
def Region.off : Region → Nat
  | .stack _ o => o
  | .sram _ o => o
  | .ccb _ o => o
  | .dict o => o
  | .port _ o => o
  | .hostValves o => o
  | .gtc o => o
  | .launch o => o
  | .aperture o => o
  | .reserved => 0

/-- The die whose window or CCBs the address lies in. -/
def Region.die : Region → Option Nat
  | .stack d _ => some d
  | .sram k _ => some (k / 256)
  | .ccb k _ => some (k / 256)
  | _ => none

/-- The core whose window or CCB the address lies in. -/
def Region.core : Region → Nat
  | .sram k _ => k
  | .ccb k _ => k
  | _ => 0

/-- The die fenced in this start, if any (R40, R596): DETOUR holds its site; site 24 is the hub and is never fenced. -/
def State.fencedDie (s : State) : Option Nat :=
  let v := s.obj .detour
  if v.testBit 15 then
    let site := v % 64
    some (if site < 24 then site else site - 1)
  else none

/-- What an MLA names on this module: a fenced die's window and CCBs are reserved (R40). -/
def State.region (s : State) (mla : Nat) : Region :=
  let r := regionOf (mla % 2 ^ 40)
  match r.die, s.fencedDie with
  | some d, some f => if d = f then .reserved else r
  | _, _ => r

/-- Whether an access of `n` bytes lies wholly inside one unit (R38). -/
def Region.fits (r : Region) (n : Nat) : Bool := decide (r.off + n ≤ r.size)

/-- The program column of Table 2-4, CCB fields apart (Table 3-7): reading. -/
def Region.progRead : Region → Bool
  | .dict _ => false
  | .port _ _ => false
  | .reserved => false
  | _ => true

/-- The program column of Table 2-4, CCB fields apart: writing. -/
def Region.progWrite : Region → Bool
  | .dict _ => false
  | .port _ _ => false
  | .gtc _ => false
  | .reserved => false
  | _ => true

/-- The remote-module column of Table 2-4. -/
def Region.remoteReach : Region → Bool
  | .stack _ _ => true
  | .sram _ _ => true
  | _ => false

/-- The host (BAR2) column of Table 2-4. -/
def Region.hostReach : Region → Bool
  | .stack _ _ => true
  | .sram _ _ => true
  | .ccb _ _ => true
  | _ => false

/-- An effective address (R171): the offset never carries into the place. -/
def effAddr (base : Word) (off : Int) : Word :=
  let b := base.toNat
  BitVec.ofNat 64 (b / 2 ^ 40 * 2 ^ 40 + wrap 40 ((b % 2 ^ 40 : Nat) + off))

/-- The place of a global address. -/
def placeOf (a : Word) : Nat := a.toNat / 2 ^ 40

/-- The MLA of a global address. -/
def mlaOf (a : Word) : Nat := a.toNat % 2 ^ 40

/-- The MLA of offset `off` of a core's local SRAM (R34). -/
def sramMla (k off : Nat) : Nat := k / 256 * 2 ^ 32 + 0xC0000000 + k % 256 * 2 ^ 22 + off % 2 ^ 22

/-- An MLA as a global address of this module, place 0xFF_FFFF (R42). -/
def globalHere (mla : Nat) : Word := BitVec.ofNat 64 (0xFFFFFF * 2 ^ 40 + mla % 2 ^ 40)

/-- The offset in a core's own local SRAM that an MLA operand names (Table 6-2), if it lies there. -/
def ownOff (k : Nat) (a : Word) : Option Nat :=
  match regionOf (mlaOf a) with
  | .sram j off => if j = k then some off else none
  | _ => none

end Sys2Proof.Machine
end

