-- ==== Sys2Proof/Machine/Memory.lean ====
section
/-! DEFINITION. Chapter 08: the SRAM tiers as every requester reads and writes them: codes, retry, poison granules and
partial writes (R249 to R252, R651). One memory holds payload and scale plane alike. -/

namespace Sys2Proof.Machine

/-- Where the scale byte of a payload address stands (R246). -/
def scaleAddr (mla : Nat) : Nat := 2 ^ 45 + mla / 32

/-- The payload address a memory address belongs to. -/
def payloadOf (a : Nat) : Nat := if 2 ^ 45 ≤ a then (a - 2 ^ 45) * 32 else a

/-- Whether a memory address lies in a local SRAM or its scale plane. -/
def isLocal (a : Nat) : Bool := decide (0xC0000000 ≤ payloadOf a % 2 ^ 32)

/-- Bytes in a codeword: 8 under the (72,64) code, 16 under the (144,128) code (R249). -/
def cwSize (a : Nat) : Nat := if isLocal a then 8 else 16

/-- The locator of poison in a granule, if it is poisoned. -/
def State.granule (s : State) (g : Nat) : Option Word :=
  let v := aget 0 s.poison g
  if v = 0 then none else some (BitVec.ofNat 64 (v - 1))

/-- The fault locator of a codeword (R66, R250, R31), with the bit in error, 255 when it is not located. A scale codeword of the
stacked tier lies in the bank of the first payload granule of its granule's span (R247), and its column is its own position
in the scale plane's 256-byte granule; where local SRAM keeps its scale codewords the spec does not say: they take the bank
and subarray of the payload they belong to (log 39). -/
def State.cwLocator (s : State) (a bit : Nat) : Word :=
  let p := payloadOf a
  let d := p / 2 ^ 32 % 64
  if isLocal a then
    let k := d * 256 + bitsOf p 29 22
    locator 1 d (s.pcoreOf k) (bitsOf p 9 6) (bitsOf p 21 18) (bitsOf p 15 10 * 8 + bitsOf p 5 3) bit
  else
    let q := if 2 ^ 45 ≤ a then p / 2048 * 2048 else p
    let b := bankOf (s.obj .hashSeed) (q % 2 ^ 32)
    locator 2 d (b / 8 * 17) (b % 8) (bitsOf q 31 15 / 2048) (bitsOf a 7 4) bit

/-- Corrected transient, corrected lasting, uncorrected transient, uncorrected lasting: counted in ECC_LOCAL or
ECC_STACK (Table 8-9) and under source 1 or 2 of Table 18-1. -/
def State.countEcc (s : State) (a which bit : Nat) : State :=
  let d := payloadOf a / 2 ^ 32 % 64
  let s := s.countErr (s.cwLocator a bit) (if isLocal a then 1 else 2) which
  if isLocal a then s.incObj .eccLocal d which else s.incObj .eccStack d which

/-! ### The codes (R249) -/

/-- The codewords that [a, a + n) touches, from the first. -/
def cwsOf (a n : Nat) : List Nat :=
  let w := cwSize a
  let first := a / w
  let last := (a + n - 1) / w
  if n = 0 then [] else (List.range (last + 1 - first)).map (fun i => (first + i) * w)

/-- The granules that [a, a + n) touches. -/
def granulesOf (a n : Nat) : List Nat :=
  if n = 0 then [] else (List.range ((a + n - 1) / 64 + 1 - a / 64)).map (fun i => a / 64 + i)

/-- The bits of a codeword: 72, or 36 symbols of 4. -/
def cwBits (a : Nat) : Nat := if isLocal a then 72 else 144

/-- The errors of the codeword at `a`. -/
def State.cellErr (s : State) (a : Nat) : CellErr := aget CellErr.zero s.cells (a / 8)

def State.setCellErr (s : State) (a : Nat) (e : CellErr) : State := { s with cells := aset CellErr.zero s.cells (a / 8) e }

/-- What a second read finds wrong: the stored cells, and the bits that no write mends. -/
def CellErr.standing (e : CellErr) : Nat := Nat.lor e.stored e.stuck

/-- What the next read finds wrong. -/
def CellErr.first (e : CellErr) : Nat := Nat.xor e.standing e.read

/-- What is left once the codeword is written. -/
def CellErr.fresh (e : CellErr) : CellErr := { e with stored := 0, read := 0 }

/-- How a codeword reads (R249). -/
inductive CwRead where
  | clean
  /-- the code takes the bits `m` for wrong. -/
  | correctable (m : Nat)
  | uncorrectable
  deriving DecidableEq, Repr

/-- The symbols of 4 bits in which a pattern of a (144,128) codeword lies. -/
def symbolsOf (e : Nat) : List Nat := (List.range 36).filter (fun k => bitsOf e (4 * k + 3) (4 * k) != 0)

/-- The code corrects one bit, or one symbol, and detects two; a wider pattern is read as it happens. -/
def decodeCw (a e : Nat) : CwRead :=
  let e := e % 2 ^ cwBits a
  let wrong := if isLocal a then popCount 72 e else (symbolsOf e).length
  match wrong with
  | 0 => .clean
  | 1 => .correctable e
  | 2 => .uncorrectable
  | _ => match Config.eccBeyond (isLocal a) e with
    | none => .uncorrectable
    | some m => if m = 0 then .clean else .correctable m

/-- The bit that a correction is reported at: the bit, or the lowest bit of the symbol (R31). -/
def bitOfError (a m : Nat) : Nat := if isLocal a then m.log2 % 72 else m.log2 / 4 % 36 * 4

/-- Every codeword of a list holds fresh data and check bits. -/
def State.freshen (s : State) (cws : List Nat) : State :=
  cws.foldl (fun t c => t.setCellErr c (t.cellErr c).fresh) s

/-- The data of a poisoned granule of core-local SRAM, or of the stacked tier (R251): three copies of the locator, every other
byte zero. A granule that travels to another module or to host memory has the stacked tier's layout (log 24). -/
def patternBytes (inCore : Bool) (loc : Word) : List (BitVec 8) :=
  let l := leBytes 8 loc.toNat
  let z8 : List (BitVec 8) := List.replicate 8 0
  let z16 : List (BitVec 8) := List.replicate 16 0
  if inCore then l ++ z16 ++ l ++ z16 ++ l ++ z8 else l ++ z8 ++ l ++ z8 ++ l ++ z8 ++ z16

/-- The poison pattern written over a granule (R251). -/
def State.poisonGranule (s : State) (g : Nat) (loc : Word) : State :=
  { s with mem := memStore s.mem (g * 64) (patternBytes (isLocal (g * 64)) loc), poison := aset 0 s.poison g (loc.toNat + 1) }.freshen
    (cwsOf (g * 64) 64)

/-- Bits of a codeword that were taken for right although they are wrong, or the reverse: its data bytes change. Codeword bits
from 0 on are the data bits in order (log 39). -/
def State.flipData (s : State) (a m : Nat) : State :=
  if m = 0 then s
  else { s with mem := memStore s.mem a (leBytes (cwSize a) (Nat.xor (leNat (memBytes s.mem a (cwSize a))) m)) }

/-- One codeword read (Table 8-3): the state, and its locator when it stays uncorrectable. A corrected codeword is written back
and verified; an uncorrectable one is read again from the stored cells. -/
def State.readCw (s : State) (a : Nat) : State × Option Word :=
  let e := s.cellErr a
  if e = CellErr.zero then (s, none)
  else
    let s := s.setCellErr a { e with read := 0 }
    match decodeCw a e.first with
    | .clean => (s.flipData a e.first, none)
    | .correctable m =>
      let t := (s.flipData a (Nat.xor e.first m)).setCellErr a e.fresh
      (t.countEcc a (b2n (decodeCw a e.stuck != .clean)) (bitOfError a m), none)
    | .uncorrectable =>
      match decodeCw a e.standing with
      | .clean => ((s.flipData a e.standing).countEcc a 2 255, none)
      | .correctable m => (((s.flipData a (Nat.xor e.standing m)).setCellErr a e.fresh).countEcc a 2 255, none)
      | .uncorrectable =>
        let loc := s.cwLocator a 255
        ((s.countEcc a 3 255).raiseEvent 0x0201 (if isLocal a then 1 else 2) 0 loc, some loc)

/-- Codewords of one granule read in one access: where one stays uncorrectable the granule is written as poison with the
locator of the first such one. -/
def State.readCws (s : State) (g : Nat) (cws : List Nat) : State :=
  let r := cws.foldl (fun (acc : State × Option Word) c =>
    let q := acc.1.readCw c
    (q.1, match acc.2 with | some l => some l | none => q.2)) (s, none)
  match r.2 with
  | some loc => r.1.poisonGranule g loc
  | none => r.1

/-- The majority of three words, bit by bit. -/
def majority (a b c : Nat) : Nat := Nat.lor (Nat.lor (Nat.land a b) (Nat.land a c)) (Nat.land b c)

/-- The locator that a read finds in a granule of written poison (R252): enough of its codewords show syndrome P, which is to
say no error beside the pattern, and the three copies are put to the vote. -/
def State.readsPoison (s : State) (g : Nat) : Option Word :=
  match s.granule g with
  | none => none
  | some loc =>
    let a := g * 64
    let err (c : Nat) : Nat := (s.cellErr c).first % 2 ^ cwBits a
    let good := ((cwsOf a 64).filter (fun c => err c == 0)).length
    let copy (off : Nat) : Nat := Nat.xor loc.toNat (err (a + off) % 2 ^ 64)
    if (if isLocal a then 5 else 3) ≤ good then
      some (BitVec.ofNat 64 (if isLocal a then majority (copy 0) (copy 24) (copy 48) else majority (copy 0) (copy 16) (copy 32)))
    else none

/-- A granule that holds written poison is read: counted, and delivered with the locator it reads as; with too few codewords
that show P it is uncorrectable at the first codeword read (R252). -/
def State.readPoison (s : State) (g : Nat) (cws : List Nat) : State × Option Word :=
  match s.readsPoison g with
  | some loc => (s.incObj .poisonReads (payloadOf (g * 64) / 2 ^ 32 % 64), some loc)
  | none =>
    let a := cws.headD (g * 64)
    let loc := s.cwLocator a 255
    (((s.countEcc a 3 255).raiseEvent 0x0201 (if isLocal a then 1 else 2) 0 loc).poisonGranule g loc, some loc)

/-- One granule read for the bytes of [a, a + n) that lie in it: written poison is counted and delivered with its
locator; else its codewords are read (Table 8-3). -/
def State.readGranule (s : State) (g : Nat) (cws : List Nat) : State × Option Word :=
  let mine := cws.filter (fun c => c / 64 == g)
  match s.granule g with
  | some _ => s.readPoison g mine
  | none =>
    let t := s.readCws g mine
    (t, t.granule g)

/-- Accesses to stacked-tier granules of 256 bytes are counted by bank, in all and for the window (R52, R53). -/
def State.countBanks (s : State) (a n : Nat) : State :=
  if 2 ^ 45 ≤ a ∨ isLocal a ∨ n = 0 then s
  else (List.range ((a + n - 1) / 256 + 1 - a / 256)).foldl (fun (t : State) i =>
    let g := (a / 256 + i) * 256
    let d := g / 2 ^ 32 % 64
    let b := bankOf (t.obj .hashSeed) (g % 2 ^ 32)
    let t := t.incObj .bankAccess d b
    { t with fab := { t.fab with bankWin := amod 0 t.fab.bankWin (d * 128 + b) (fun v => v + 1) } }) s

/-- What a read of [a, a + n) finds: for each granule, in order, its number and its locator when it reads as poisoned. -/
def State.touch (s : State) (a n : Nat) : State × List (Nat × Option Word) :=
  let cws := cwsOf a n
  (granulesOf a n).foldl
    (fun (acc : State × List (Nat × Option Word)) g =>
      let r := acc.1.readGranule g cws
      (r.1, acc.2 ++ [(g, r.2)])) (s.countBanks a n, [])

/-- The first poisoned granule's locator. -/
def firstPoison : List (Nat × Option Word) → Option Word
  | [] => none
  | (_, some l) :: _ => some l
  | (_, none) :: r => firstPoison r

/-- A read of `n` bytes: the state after it, the bytes, and the locator of the first poisoned granule it touched. -/
def State.readMem (s : State) (a n : Nat) : State × List (BitVec 8) × Option Word :=
  let r := s.touch a n
  (r.1, memBytes r.1.mem a n, firstPoison r.2)

/-- A store of whole bytes, with no check: the bytes of [a, a + |bs|) hold `bs`. -/
def State.pokeMem (s : State) (a : Nat) (bs : List (BitVec 8)) : State := { s with mem := memStore s.mem a bs }

/-- A write inside one granule (R651): a whole-granule write makes it clean; any other write is discarded on written
poison, and reads the codewords it covers in part; every codeword it writes gets fresh check bits. -/
def State.writeGranule (s : State) (a : Nat) (bs : List (BitVec 8)) : State :=
  let g := a / 64
  let n := bs.length
  if n = 64 then ({ s.pokeMem a bs with poison := aset 0 s.poison g 0 }).freshen (cwsOf a 64)
  else match s.granule g with
    | some _ => (s.readPoison g (cwsOf a n)).1
    | none =>
      let w := cwSize a
      let partials := (cwsOf a n).filter (fun c => decide (c < a) || decide (a + n < c + w))
      let t := s.readCws g partials
      match t.granule g with
      | some _ => t
      | none => (t.pokeMem a bs).freshen (cwsOf a n)

/-- A list of bytes cut at granule edges. -/
def splitGranules : Nat → Nat → List (BitVec 8) → List (Nat × List (BitVec 8))
  | 0, _, _ => []
  | fuel + 1, a, bs =>
    if bs.isEmpty then []
    else
      let n := 64 - a % 64
      (a, bs.take n) :: splitGranules fuel (a + n) (bs.drop n)

/-- A write of any length, granule by granule (R651). -/
def State.writeMem (s : State) (a : Nat) (bs : List (BitVec 8)) : State :=
  (splitGranules (bs.length + 1) a bs).foldl (fun t p => t.writeGranule p.1 p.2) (s.countBanks a bs.length)

/-- The locator that a context's poison carries: its poison-origin latch, or one with valid 0 (R253). -/
def Ctx.poisonLoc (c : Ctx) : Word := c.latch.getD 0

/-- The latch captures the first poison the context consumes (R253). -/
def Ctx.latchPoison (c : Ctx) (loc : Option Word) : Ctx :=
  match c.latch, loc with
  | none, some l => { c with latch := some l }
  | _, _ => c

/-- All bytes and granules of [lo, hi) of memory back to zero, clean (R49, R84); only bits that no write mends stay wrong. -/
def State.zeroFill (s : State) (lo hi : Nat) : State :=
  { s with mem := aclear s.mem lo hi, poison := aclear s.poison (lo / 64) (hi / 64)
           cells := s.cells.filterMap (fun p =>
             if p.1 < lo / 8 ∨ hi / 8 ≤ p.1 then some p
             else if p.2.stuck = 0 then none else some (p.1, p.2.fresh)) }

/-- A payload range and its scale plane zero-filled (R248). -/
def State.zeroFillTier (s : State) (lo hi : Nat) : State :=
  (s.zeroFill lo hi).zeroFill (scaleAddr lo) (scaleAddr hi)

/-- The bytes of a whole number of granules with the poison of each, written: a poisoned granule is written as the
poison pattern with its locator, any other as data (R159, R226). -/
def State.writeGranules (s : State) (a : Nat) (bs : List (BitVec 8)) (loc : Nat → Option Word) : State :=
  (splitGranules (bs.length + 1) a bs).zipIdx.foldl
    (fun t p => match loc p.2 with
      | some l => t.poisonGranule (p.1.1 / 64) l
      | none => t.writeGranule p.1.1 p.1.2) (s.countBanks a bs.length)

end Sys2Proof.Machine
end

