-- ==== Sys2Proof/Machine/Route.lean ====
section
/-! DEFINITION. Chapter 11: the way of a packet out of the module: torus coordinates, port groups, the dateline, tags, and
answers (R355 to R358, R369 to R373). -/

namespace Sys2Proof.Machine

/-- A counter of FP_CNT (Table 11-17), which PORT_COUNTERS presents. -/
def State.countPort (s : State) (n i : Nat) : State := s.incObj .portCounters n i

/-- Torus coordinates of a place (R43, R369): X, Y, and Z where its pod has one. -/
def coordX (place : Nat) : Nat := bitsOf place 2 0
def coordY (place : Nat) : Nat := bitsOf place 7 3
def podOf (place : Nat) : Nat := bitsOf place 18 8
def State.coordZ (s : State) (place : Nat) : Option Nat :=
  let z := s.obj .zmap 0 (podOf place)
  if z = 0xFFFF then none else some z

/-- A port can take a packet of this VC code: Up, or Restricted for VC5 (R588, R592). -/
def Port.carries (p : Port) (vc : Nat) : Bool := p.st == 2 || (p.st == 5 && vc == 6)

/-- The ports of a role that can take a VC, in order. -/
def State.roleGroup (s : State) (role vc : Nat) : List Nat :=
  (List.range 48).filter (fun n => s.obj .portRole n == role && (s.port n).carries vc)

/-- A port's group index: its rank among the ports of its role (R369). -/
def State.groupIndex (s : State) (n : Nat) : Nat :=
  ((List.range n).filter (fun m => s.obj .portRole m == s.obj .portRole n)).length

/-- The axis (0 X, 1 Y, 2 Z) of a role, if it is a torus role. -/
def axisOf (role : Nat) : Option Nat := if 2 ≤ role ∧ role ≤ 7 then some ((role - 2) / 2) else none

/-- Axis, size and own and destination coordinates of the next hop (R370), none where the place is unreachable (R373). -/
def State.axisTo (s : State) (dplace : Nat) : Option (Nat × Nat × Nat × Nat) :=
  let own := s.place
  if s.obj .placeValid ≠ 1 then none
  else if podOf dplace ≠ podOf own ∧ (s.coordZ dplace = none ∨ s.coordZ own = none) then none
  else if coordX dplace ≠ coordX own then some (0, 8, coordX own, coordX dplace)
  else if coordY dplace ≠ coordY own then some (1, 32, coordY own, coordY dplace)
  else
    match s.coordZ own, s.coordZ dplace with
    | some a, some b => if a = b then none else some (2, s.obj .nz, a, b)
    | _, _ => none

/-- The direction on an axis (R370): VC1 goes the shorter way round, every other VC without crossing the dateline. -/
def goesPlus (vc1 : Bool) (n a b : Nat) : Bool :=
  if vc1 then decide ((b + n - a) % n ≤ n - (b + n - a) % n) else decide (a < b)

/-- A packet's next port and its VC code there (R370, R371). `from_` is the axis it arrived on. -/
def State.nextHop (s : State) (p : Packet) (from_ : Option Nat) : Option (Nat × Nat) :=
  match s.axisTo p.dplace with
  | none => none
  | some (axis, n, a, b) =>
    let vc1 := p.vc == 1 || p.vc == 2
    let plus := goesPlus vc1 n a b
    let crosses := if plus then a + 1 == n else a == 0
    let vc := if vc1 then (if crosses || (p.vc == 2 && from_ == some axis) then 2 else 1) else p.vc
    let g := s.roleGroup (2 + 2 * axis + (if plus then 0 else 1)) vc
    match g[p.pidx % g.length]? with
    | some port => some (port, vc)
    | none => none

/-- A packet put at the end of a port's transmit queue for its VC code. -/
def State.enqueueTx (s : State) (n vc : Nat) (p : Packet) : State :=
  s.updPort n (fun q =>
    let l := aget [] q.txq vc
    { q with txq := aset [] q.txq vc (l ++ [{ p with vc := vc }])
             headSince := if l.isEmpty then aset 0 q.headSince vc (s.gtc + 1) else q.headSince })

/-- A tag of a port: the number never used with the lowest number, else the one freed longest ago (R358). -/
def Port.freeTag (p : Port) : Option Nat :=
  let used := p.tags.length + p.tagLru.length
  if used < 4096 then some used else p.tagLru.head?

def Port.takeTag (p : Port) (num : Nat) (ref : TagRef) (sendt : Nat) : Port :=
  { p with tags := p.tags ++ [⟨num, ref, sendt⟩], tagLru := p.tagLru.filter (fun t => t != num) }

def Port.dropTag (p : Port) (num : Nat) : Port :=
  { p with tags := p.tags.filter (fun t => t.num != num), tagLru := p.tagLru ++ [num] }

/-- What became of a packet that needs a tag. -/
inductive SendRes where
  | sent (s : State)
  | unreachable
  | full

/-- The port-choice value of a request, a write or a signal (R370). -/
def pidxOf (die dplace : Nat) : Nat := (die + dplace) % 256

/-- A packet that expects an answer leaves (R358, R370): source place, port choice and tag are filled in. -/
def State.sendTagged (s : State) (ref : TagRef) (die : Nat) (p : Packet) : SendRes :=
  let p := { p with splace := s.place, pidx := pidxOf die p.dplace, sendt := p.sendt }
  match s.nextHop p none with
  | none => .unreachable
  | some (n, vc) =>
    match (s.port n).freeTag with
    | none => .full
    | some t =>
      let p := { p with tag := t, rport := n }
      .sent ((s.updPort n (fun q => q.takeTag t ref p.sendt)).enqueueTx n vc p)

/-- A packet that expects no answer leaves, or is dropped and counted as unreachable at the source die's port. -/
def State.sendUntagged (s : State) (die : Nat) (p : Packet) : State :=
  let p := { p with splace := s.place, pidx := pidxOf die p.dplace }
  match s.nextHop p none with
  | none => s.countPort die 13
  | some (n, vc) => s.enqueueTx n vc p

/-- The answer to a packet (R357): RDATA for a READ, else ACK; no content unless STATUS is 0. -/
def State.answerPacket (s : State) (req : Packet) (status : Nat) (content : List (BitVec 8)) (psn : Nat) : Packet :=
  let body := if status = 0 then content else []
  { Packet.zero with
    vc := 4, opc := if req.opc = 1 then 2 else 9, dplace := req.splace, splace := s.place,
    pidx := s.groupIndex req.rport, tag := req.tag, rport := req.rport, len := body.length, status := status,
    sendt := req.sendt, content := body, psn := if status = 0 then psn else 0 }

/-- Opcodes whose packets are answered (Table 11-10). -/
def answered (opc : Nat) : Bool := opc == 1 || opc == 3 || opc == 4 || opc == 5 || opc == 6 || opc == 7

/-- The poison of content as PSN bits (R355): content of more than 32 bytes starts at byte 64 of the packet. -/
def psnOf (len : Nat) (gr : List Nat) : Nat :=
  (gr.map (fun g => 2 ^ (if len ≤ 32 then g else g + 1))).sum

/-- Poisoned granules of a packet's content with the locators they carry, by granule of the content. -/
def Packet.poisoned (p : Packet) : List (Nat × Word) :=
  (List.range ((p.len + 63) / 64)).filterMap (fun g =>
    if p.psn.testBit (if p.len ≤ 32 then g else g + 1) then
      some (g, BitVec.ofNat 64 (leNat ((p.content.drop (64 * g)).take 8)))
    else none)

end Sys2Proof.Machine
end

