-- ==== Sys2Proof/Machine/Grid.lean ====
section
/-! DEFINITION. Chapter 10: grid points, endpoints, the packets of the fabric, their routes, how a packet enters the fabric and how
its endpoint consumes it (R306 to R318, R328, R332). Every transfer that another chapter starts is carried by the operations
here: `emit` sends a leg, `legFor` and `consume` take it at its endpoint (log 25). -/

namespace Sys2Proof.Machine

/-! ### The grid (R306) -/

/-- The site of a die (01 R16): site 24 is the hub, die 48. -/
def siteOf (d : Nat) : Nat := if d = 48 then 24 else if d < 24 then d else d + 1
def dieOfSite (n : Nat) : Nat := if n = 24 then 48 else if n < 24 then n else n - 1

/-- The grid point of cluster `c` of a die, as gx, gy. -/
def pointOf (d c : Nat) : Nat × Nat := (4 * (siteOf d % 7) + c % 4, 4 * (siteOf d / 7) + c / 4)

/-- The die (48 the hub) whose site holds a point. -/
def dieOfPoint (x y : Nat) : Nat := dieOfSite (y / 4 * 7 + x / 4)

/-! ### Endpoints (R308, Table 10-1) -/

/-- Endpoint `n` of cluster `c` of a die. -/
def endpAt (d c n : Nat) : Endp := ⟨(pointOf d c).1, (pointOf d c).2, n⟩

/-- A core, by the ring position of the physical core that carries it. -/
def State.coreEndp (s : State) (k : Nat) : Endp := endpAt (k / 256) (k % 256 / 16) (s.pcoreOf k % 17)

/-- Stacked-tier bank `b` (0 to 127) of a die. -/
def bankEndp (d b : Nat) : Endp := endpAt d (b / 8) (17 + b % 8)

/-- The attachment of a Felun port for region `r`: clusters 5, 6, 9, 10. -/
def attachEndp (port r : Nat) : Endp := endpAt port ([5, 6, 9, 10].getD r 5) 25

/-- A die supervisor, a PCIe link, and the MMC with the hub's registers. -/
def supEndp (d : Nat) : Endp := endpAt d 0 26
def linkEndp (l : Nat) : Endp := ⟨13 + l, 13 + l, 0⟩
def mmcEndp : Endp := ⟨14, 13, 0⟩

/-- The region of an endpoint's cluster; sources at the hub use region 0 (R311). -/
def Endp.region (e : Endp) : Nat := if dieOfPoint e.x e.y = 48 then 0 else e.y % 4 / 2 * 2 + e.x % 4 / 2

/-- Link and host address of an aperture offset, where its window is valid (14 R450). -/
def State.apTranslate (s : State) (off : Nat) : Option (Nat × Nat) :=
  let e := s.obj .apertureMap 0 (off / 2 ^ 30)
  if e.testBit 0 then some (bitsOf e 1 1, e / 2 ^ 30 * 2 ^ 30 + off % 2 ^ 30) else none

/-- The endpoint of the unit an MLA names on this module. -/
def State.endpOf (s : State) (r : Region) : Endp :=
  match r with
  | .stack d off => bankEndp d (bankOf (s.obj .hashSeed) off)
  | .sram k _ => s.coreEndp k
  | .ccb k _ => s.coreEndp k
  | .aperture off => linkEndp ((s.apTranslate off).getD (0, 0)).1
  | _ => mmcEndp

/-! ### Packets (R309) -/

/-- Flits of a packet with `n` bytes of content (Table 10-2): up to 96 bytes go with the header. -/
def flitsOf (n : Nat) : Nat := if n ≤ 96 then 1 else 1 + (n + 127) / 128

/-- Depth of a partition (Table 10-3). -/
def depthOf (cls : Nat) : Nat := if cls = 3 then 40 else 4

/-- A packet uses the detour partitions in phase 1 of a detour (R332). -/
def FabPkt.part (p : FabPkt) : Nat := if p.way.isSome && p.phase == 1 then 1 else 0

/-- The key of a partition: point, input (4 local, 5 + e endpoint e), class, partition. -/
def partKey (x y input cls part : Nat) : Nat := ((y * 28 + x) * 32 + input) * 12 + cls * 2 + part

def FabPkt.key (p : FabPkt) : Nat := partKey p.gx p.gy p.input p.cls p.part

/-! ### Routes (R310, R332) -/

/-- Whether `v` lies in the four rows or columns of a site that begin at `o`. -/
def inFour (o v : Nat) : Bool := decide (o ≤ v) && decide (v < o + 4)

/-- The row segment from `a` to `b` reaches a column of the four that begin at `o`. -/
def segMeets (o a b : Nat) : Bool := decide (min a b < o + 4) && decide (o ≤ max a b)

/-- The waypoint of a route (R332). -/
def State.waypoint (s : State) (src dst : Nat × Nat) : Option (Nat × Nat) :=
  match s.fencedDie with
  | none => none
  | some d =>
    let x0 := 4 * (siteOf d % 7)
    let y0 := 4 * (siteOf d / 7)
    if inFour y0 src.2 && segMeets x0 src.1 dst.1 then
      some (src.1, if y0 + 3 < dst.2 ∨ y0 = 0 then y0 + 4 else y0 - 1)
    else if inFour x0 dst.1 && ((decide (src.2 < y0) && decide (y0 + 3 < dst.2)) || (decide (dst.2 < y0) && decide (y0 + 3 < src.2))) then
      some (if x0 = 0 then x0 + 4 else x0 - 1, dst.2)
    else none

/-- The output of X-then-Y routing (R310): 0 north, 1 east, 2 south, 3 west, 4 local. -/
def outTo (x y dx dy : Nat) : Nat :=
  if x < dx then 1 else if dx < x then 3 else if y < dy then 2 else if dy < y then 0 else 4

/-- At its waypoint a packet enters phase 1; then the output it asks for (R332). -/
def FabPkt.atWay (p : FabPkt) : FabPkt :=
  match p.way with
  | some w => if p.phase = 0 ∧ w = (p.gx, p.gy) then { p with phase := 1 } else p
  | none => p

def FabPkt.out (p : FabPkt) : Nat :=
  let q := p.atWay
  match q.way with
  | some w => if q.phase = 0 then outTo q.gx q.gy w.1 w.2 else outTo q.gx q.gy q.dst.x q.dst.y
  | none => outTo q.gx q.gy q.dst.x q.dst.y

/-- Where an output leads: the next point and the input there; the local output leads to endpoint `n`. -/
def hopTo (x y out n : Nat) : Nat × Nat × Nat :=
  match out with
  | 0 => (x, y - 1, 2)
  | 1 => (x + 1, y, 3)
  | 2 => (x, y + 1, 0)
  | 3 => (x - 1, y, 1)
  | _ => (x, y, 5 + n)

/-- The packet after the hop. -/
def FabPkt.hop (p : FabPkt) (now : Nat) : FabPkt :=
  let q := p.atWay
  let h := hopTo q.gx q.gy q.out q.dst.n
  { q with gx := h.1, gy := h.2.1, input := h.2.2, since := now, urgent := false }

/-! ### Entering the fabric (R314, R316, R332) -/

/-- W4 requests that an endpoint has outstanding (R316): on their way, queued at their responder, or answered on the way back.
A request has an even number, its answer the odd one after it. -/
def State.w4Open (s : State) (e : Endp) : Nat :=
  (s.fab.pkts.filter (fun p => p.cls == 5 && (if p.ref % 2 = 0 then p.src == e else p.dst == e))).length +
    (s.fab.w4q.filter (fun p => p.src == e)).length +
    (s.fab.wait.filter (fun p => p.cls == 5 && p.ref % 2 == 1 && p.dst == e)).length

/-- A packet enters the fabric at its source's local input when its partition has room for it; a W4 request, when its source has
fewer than 4 outstanding. Its route is computed now; its flits are counted for the source's region. -/
def State.inject (s : State) (p : FabPkt) : Option State :=
  let key := partKey p.src.x p.src.y 4 p.cls 0
  if depthOf p.cls < aget 0 s.fab.used key + p.len then none
  else if p.cls = 5 ∧ p.ref % 2 = 0 ∧ 4 ≤ s.w4Open p.src then none
  else
    let q := { p with
      gx := p.src.x, gy := p.src.y, input := 4, way := s.waypoint (p.src.x, p.src.y) (p.dst.x, p.dst.y), phase := 0
      since := s.gtc, urgent := false, coming := 0 }
    let d := dieOfPoint p.src.x p.src.y
    let s := { s with fab := { s.fab with pkts := s.fab.pkts ++ [q], used := amod 0 s.fab.used key (fun v => v + p.len) } }
    some (if d < 48 then s.addObj .regionFlits p.len d p.src.region else s)

/-- Waiting packets enter the fabric, oldest first; none passes an earlier one of its class from its source endpoint (R328). -/
def State.flushWait (s : State) : State :=
  let r := s.fab.wait.foldl (fun (acc : State × List FabPkt) p =>
    if acc.2.any (fun q => q.src == p.src && q.cls == p.cls) then (acc.1, acc.2 ++ [p])
    else match acc.1.inject p with
      | some t => (t, acc.2)
      | none => (acc.1, acc.2 ++ [p])) ({ s with fab := { s.fab with wait := [] } }, [])
  { r.1 with fab := { r.1.fab with wait := r.2 } }

/-- A leg of a transfer leaves its source endpoint. -/
def State.emit (s : State) (ref cls len psn : Nat) (src dst : Endp) (posted : Bool) : State :=
  let p : FabPkt :=
    { ref := ref, cls := cls, len := len, src := src, dst := dst, psn := psn, posted := posted, gx := src.x, gy := src.y,
      input := 4, way := none, phase := 0, since := s.gtc, urgent := false, coming := 0 }
  ({ s with fab := { s.fab with wait := s.fab.wait ++ [p] } }).flushWait

/-- Wafer class and flits of a Felun packet (R309, R317, Table 10-4): a far load or store moves 8 bytes at most; W4 takes packets of
up to 4 flits (log 25). -/
def Packet.wafer (p : Packet) : Nat × Nat :=
  let data (cls : Nat) : Nat × Nat := if p.len ≤ 8 then (cls, 1) else (3, flitsOf p.len)
  match p.vc with
  | 3 => (if p.len ≤ 8 then 0 else 2, 1)
  | 4 => data 1
  | 5 => (4, 1)
  | 6 => (5, min 4 (flitsOf p.len))
  | _ => data 0

/-- The poison bits of a Felun packet as the wafer's header has them: one for each granule of content. -/
def Packet.waferPsn (p : Packet) : Nat := if p.len ≤ 32 then p.psn else p.psn / 2

/-- A Felun packet goes from a unit to the transmit queue of the port it leaves by: over the wafer, unless the unit is that port's
attachment (R311, R317). -/
def State.sendOut (s : State) (e : Endp) (out vc : Nat) (p : Packet) : State :=
  let att := attachEndp out e.region
  if e = att then s.enqueueTx out vc p
  else
    let f := s.fresh
    ({ f.2 with fab := { f.2.fab with inb := f.2.fab.inb ++ [Inb.mk f.1 out 1 out vc p] } } : State).emit (f.1 * 256 + 1) p.wafer.1
      p.wafer.2 p.waferPsn e att true

/-- The answer to a packet that came by port `via` leaves the unit that answers it (R357), and is dropped where its place is
unreachable (R373). While Restricted it goes back through the port unrouted (R45). -/
def State.answerFrom (s : State) (e : Endp) (req : Packet) (via status : Nat) (content : List (BitVec 8)) (psn : Nat) : State :=
  let a := s.answerPacket req status content psn
  match (if (s.port via).st = 5 then some (via, 4) else s.nextHop a none) with
  | some (out, vc) => s.sendOut e out vc a
  | none => s.countPort via 13

/-- A packet is answered at the port it came by, without content. -/
def State.answer (s : State) (req : Packet) (via status : Nat) : State := s.answerFrom (attachEndp via 0) req via status [] 0

/-- A packet for whose arrival no command waits: what it carries is done by the command that sends it (log 25). -/
def State.post (s : State) (cls len : Nat) (src dst : Endp) : State := s.fresh.2.emit (s.fresh.1 * 256) cls len 0 src dst true

/-- W4 responders answer the oldest request of their queue when nothing of theirs waits to be sent (R316). -/
def State.serveW4 (s : State) : State :=
  s.fab.w4q.foldl (fun (t : State) p =>
    if t.fab.wait.any (fun q => q.src == p.dst && q.cls == 5) then t
    else ({ t with fab := { t.fab with w4q := t.fab.w4q.filter (fun q => q.ref != p.ref) } }).emit (p.ref + 1) 5 1 0 p.dst p.src true) s

/-! ### At the endpoint (R313, R318, R328) -/

/-- An endpoint can emit a class: nothing of that class waits there. -/
def State.canEmit (s : State) (e : Endp) (cls : Nat) : Bool := !s.fab.wait.any (fun p => p.src == e && p.cls == cls)

/-- A leg that stands at its endpoint, first of its partition there. -/
def State.standing (s : State) (ref : Nat) : Option FabPkt :=
  match s.fab.pkts.find? (fun p => p.ref == ref) with
  | some p => if 5 ≤ p.input ∧ (s.fab.pkts.find? (fun q => q.key == p.key)).any (fun q => q.ref == ref) = true then some p else none
  | none => none

/-- Such a leg whose endpoint can emit the class it answers in (Table 10-3). -/
def State.legFor (s : State) (ref cls : Nat) : Option FabPkt :=
  match s.standing ref with
  | some p => if s.canEmit p.dst cls then some p else none
  | none => none

/-- A packet is consumed; its flits are credited by FABRIC_CREDIT_RETURN. -/
def State.consume (s : State) (ref : Nat) : State :=
  { s with fab := { s.fab with pkts := s.fab.pkts.filter (fun p => p.ref != ref) } }

/-! ### To an address -/

/-- Where a packet for a global address goes from `src` on die `d`: its unit here, or the attachment of its next Felun port for the
source's region (R311); none for a place that is unreachable (11 R373). -/
def State.wayTo (s : State) (src : Endp) (d : Nat) (a : Word) (vc : Nat) : Option Endp :=
  let place := placeOf a
  if s.isHere place then some (s.endpOf (s.region (mlaOf a)))
  else (s.nextHop { Packet.zero with vc := vc, dplace := place, pidx := pidxOf d place } none).map (fun h => attachEndp h.1 src.region)

end Sys2Proof.Machine
end

