-- ==== Sys2Proof/Machine/StreamBase.lean ====
section
/-! DEFINITION. Chapter 07: the fields of a descriptor, what a slot holds, credits, and the order in which tiles are
presented and freed. Every stream command is built from these. -/

namespace Sys2Proof.Machine

/-! ### Descriptor fields (Table 7-3) -/

def Slot.word (s : Slot) (i : Nat) : Nat := (s.desc.getD i 0).toNat
def Slot.kind (s : Slot) : Nat := bitsOf (s.word 0) 63 60
def Slot.pat (s : Slot) : Nat := bitsOf (s.word 0) 59 58
def Slot.drone (s : Slot) : Bool := bitOf (s.word 0) 57
def Slot.conv (s : Slot) : Bool := bitOf (s.word 0) 56
def Slot.fsrc (s : Slot) : Nat := bitsOf (s.word 0) 55 52
def Slot.fdst (s : Slot) : Nat := bitsOf (s.word 0) 51 48
def Slot.rm (s : Slot) : Nat := bitsOf (s.word 0) 47 46
def Slot.sat (s : Slot) : Bool := bitOf (s.word 0) 45
def Slot.ps (s : Slot) : Nat := bitsOf (s.word 0) 44 42
def Slot.ring (s : Slot) : Nat := bitsOf (s.word 0) 41 35
def Slot.cons (s : Slot) : Nat := bitsOf (s.word 0) 34 32
def Slot.count (s : Slot) : Nat := bitsOf (s.word 0) 31 0
def Slot.ringBase (s : Slot) : Nat := bitsOf (s.word 1) 39 0
def Slot.peerSlot (s : Slot) : Nat := bitsOf (s.word 7) 63 60
def Slot.peerChild (s : Slot) : Nat := bitsOf (s.word 7) 59 59
def Slot.outLocal (s : Slot) : Bool := bitOf (s.word 7) 58
def Slot.c0slot (s : Slot) : Nat := bitsOf (s.word 7) 57 54
def Slot.c1slot (s : Slot) : Nat := bitsOf (s.word 7) 53 50
def Slot.peerk (s : Slot) : Nat := bitsOf (s.word 7) 49 48
def Slot.evalve (s : Slot) : Nat := bitsOf (s.word 7) 45 40
def Slot.n0 (s : Slot) : Nat := bitsOf (s.word 7) 31 16
def Slot.group (s : Slot) : Nat := bitsOf (s.word 7) 15 8

/-- Inbound kinds (Table 7-1); a REDUCE that pushes to a parent is outbound for R220 (R233). -/
def Slot.inbound (s : Slot) : Bool :=
  s.kind == 0 || s.kind == 2 || s.kind == 5 || (s.kind == 4 && s.outLocal)

/-- Whether the slot holds a stream. -/
def Slot.armed (s : Slot) : Bool := s.st != .closed

/-- MLA of ring position `p` (R196). -/
def Slot.posMla (s : Slot) (p : Nat) : Nat := s.ringBase + p * 4096

/-- Ring position of tile `n` (R197, R232, R234). -/
def Slot.posOf (s : Slot) (n : Nat) : Nat :=
  if s.kind = 4 then n % (s.ring / 2)
  else if s.kind = 5 then (n / s.group % 2) * s.group + n % s.group
  else n % s.ring

/-- Tiles present and not yet taken (inbound), or free positions to hand out (outbound): SLOT_STAT.PRESENT. -/
def Slot.present (s : Slot) : Nat :=
  if s.st = .closed then 0
  else if s.inbound then s.presented - s.taken
  else if s.kind = 4 then 0
  else s.ring - (s.taken - s.completed)

/-- Tiles taken and not given back (R209). -/
def Slot.held (s : Slot) : Nat :=
  if s.inbound then s.taken - s.released - s.returned.length else if s.kind = 4 then 0 else s.taken - s.handed

/-- Tiles the program holds (Table 7-9): none of a stream bound to an engine. -/
def Slot.progHeld (s : Slot) : Nat := if s.cons = 0 then s.held else 0

/-- Ring positions are freed in tile order: `released` moves over every consecutive returned tile (R209). -/
def advanceOver : Nat → Nat → List Nat → Nat × List Nat
  | 0, n, l => (n, l)
  | fuel + 1, n, l => if l.contains n then advanceOver fuel (n + 1) (l.erase n) else (n, l)

/-- An inbound stream's tiles returned by their consumer (R209, R211). -/
def Slot.giveBack (s : Slot) (first n : Nat) : Slot :=
  let l := s.returned ++ (List.range n).map (fun i => first + i)
  let r := advanceOver l.length s.released l
  { s with released := r.1, returned := r.2 }

/-- The core and slot that a "core, global" word names on this module: its core key (Table 7-2). -/
def coreOfWord (a : Word) : Option Nat :=
  match regionOf (mlaOf a) with
  | .sram k _ => some k
  | _ => none

/-- The identity a core has as a credit origin: its window's base with the place left out when it is this module. -/
def State.originOf (s : State) (a : Word) : Word :=
  let base := mlaOf a / 2 ^ 22 * 2 ^ 22
  if s.isHere (placeOf a) then globalHere base else BitVec.ofNat 64 (placeOf a * 2 ^ 40 + base)

/-- The slot number that stands for a mouthpiece where a credit goes to a port (R387). -/
abbrev mouthSlot : Nat := 64

/-- `n` credits sent to the producer at `dst`, slot `dslot`, on behalf of slot `n` of core `k` (R216). -/
def State.sendCredits (s : State) (k slot : Nat) (dst : Word) (dslot gen : Nat) : Nat → State
  | 0 => s
  | n + 1 =>
    let f := s.fresh
    let src := s.coreEndp k
    let go (t : State) (e : Endp) : State :=
      ({ t with credits := t.credits ++ [Credit.mk f.1 (globalHere (sramMla k 0)) slot dst dslot gen] }).emit (f.1 * 256) 4 1 0 src e false
    let t :=
      if dslot = mouthSlot then go f.2 (attachEndp (dst.toNat % 64) src.region)
      else if placeMalformed (placeOf dst) then s.incObj .addrErrors (k / 256)
      else match s.wayTo src (k / 256) dst 5 with
        | some e => go f.2 e
        | none => s.countPort (k / 256) 13
    t.sendCredits k slot dst dslot gen n

/-- Credits are granted up to one for each free position, and never past the tiles of the started passes (R216); a
paused stream grants none (R230). -/
def State.topUpCredits (s : State) (k slot : Nat) : State :=
  let sl := (s.core k).slot slot
  if sl.paused || !(sl.st == .active || sl.st == .ended) then s
  else if sl.kind = 2 then
    let goal := min sl.nextBase (sl.released + sl.ring)
    let n := goal - sl.granted0
    let t := s.updSlot k slot (fun x => { x with granted0 := x.granted0 + n, credOut0 := x.credOut0 + n })
    t.sendCredits k slot (BitVec.ofNat 64 (sl.word 2)) (if sl.peerk = 1 then mouthSlot else sl.peerSlot) sl.gen n
  else if sl.kind = 4 then
    let half := sl.ring / 2
    let free0 := if sl.outLocal then sl.released else sl.completed
    let n0 := min sl.nextBase (free0 + half) - sl.granted0
    let n1 := min sl.nextBase (sl.sums + half) - sl.granted1
    let t := s.updSlot k slot (fun x =>
      { x with granted0 := x.granted0 + n0, credOut0 := x.credOut0 + n0,
               granted1 := x.granted1 + n1, credOut1 := x.credOut1 + n1 })
    (t.sendCredits k slot (BitVec.ofNat 64 (sl.word 2)) sl.c0slot sl.gen n0).sendCredits k slot
      (BitVec.ofNat 64 (sl.word 4)) sl.c1slot sl.gen n1
  else s

/-- A request for a tile that has a piece to ask for holds one of the core's entries (R213); a push holds none. -/
def TileReq.holdsEntry (t : TileReq) : Bool := t.pieces.any (fun p => p.addr.isSome)

/-- Where a piece goes: its address, or for a push the receiver. -/
def TileReq.target (t : TileReq) (p : Piece) : Option Word :=
  match p.addr with
  | some a => some a
  | none => if t.write then t.index else none

/-- Every real piece of a request has its outcome. -/
def TileReq.allAnswered (t : TileReq) : Bool := t.pieces.all (fun p => (t.target p).isNone || p.ans.isSome)

/-! ### Peer stalls (R224, R225) -/

/-- An Active, unpaused stream waits on another party. -/
def Slot.peerStalled (x : Slot) : Bool :=
  x.st == .active && !x.paused &&
  match x.kind with
  | 0 => !x.inflight.isEmpty
  | 1 => !x.inflight.isEmpty
  | 2 => decide (0 < x.credOut0)
  | 3 => !x.inflight.isEmpty || (decide (x.nextMem < x.handed) && x.credits.isEmpty)
  | 4 => decide (0 < x.credOut0 + x.credOut1) ||
      (!x.outLocal && (!x.inflight.isEmpty || (decide (x.nextMem < x.sums) && x.credits.isEmpty)))
  | 5 =>
    -- it waits for its upstream core or for an acknowledgement, not for its own program or engine to free a half (R224)
    decide (x.presented < x.nextBase) &&
      decide ((x.presented / x.group - 1) * x.group ≤ x.released)
  | _ => false

/-- The no-progress time of slot `n` begins anew: a tile was presented, a request issued, a response, credit or
acknowledgement received. -/
def State.progress (s : State) (k n : Nat) : State :=
  s.updSlot k n (fun x => { x with progressAt := s.dieGtc (k / 256) })

/-- It begins when the slot enters a peer stall that it did not stand in before. -/
def State.noteStall (s : State) (k n : Nat) (before : Bool) : State :=
  if ((s.core k).slot n).peerStalled && !before then s.progress k n else s

/-! ### Ring tiles and memory tiles (R205) -/

/-- Elements in a tile of a format. -/
def tileElems (f : Nat) : Nat :=
  if codeBits f = 32 then 1024 else if codeBits f = 16 then 2048 else if codeBits f = 4 then 8192 else 4096

/-- Memory tiles that make one ring tile, and ring tiles that one memory tile makes; one of the two is 1. -/
def Slot.up (x : Slot) : Nat := if x.conv then max 1 (tileElems x.fdst / tileElems x.fsrc) else 1
def Slot.down (x : Slot) : Nat := if x.conv then max 1 (tileElems x.fsrc / tileElems x.fdst) else 1

/-- Memory tiles in one pass. -/
def Slot.memPerPass (x : Slot) : Nat := x.count * x.up / x.down

/-- The queued pass starts (R221): its bases replace the old ones, its tiles follow on. -/
def Slot.startPass (x : Slot) : Slot :=
  match x.queued with
  | none => x
  | some (d, i) =>
    { x with
      desc := (x.desc.set 2 d).set 4 i, queued := none, idx := [], nextBase := x.nextBase + x.count
      st := if x.st = .ended then .active else x.st }

/-- The passes started so far have issued their last request, or have received or granted their last credit. -/
def Slot.passIssued (x : Slot) : Bool :=
  match x.kind with
  | 0 => decide (x.nextBase / x.count * x.memPerPass ≤ x.nextMem)
  | 1 => decide (x.nextBase / x.count * x.memPerPass ≤ x.nextMem)
  | 2 => decide (x.nextBase ≤ x.granted0)
  | 3 => decide (x.nextBase ≤ x.nextMem + x.credits.length)
  | 4 => decide (x.nextBase ≤ x.granted0) && decide (x.nextBase ≤ x.granted1)
  | _ => decide (x.nextBase ≤ x.presented)

/-- A queued pass is started as soon as that holds, and a receiver grants its credits. -/
def State.startQueued (s : State) (k n : Nat) : State :=
  let x := (s.core k).slot n
  if x.queued.isSome && (x.st == .active || x.st == .ended) && (x.passIssued || x.st == .ended) then
    let b := x.peerStalled
    ((s.updSlot k n Slot.startPass).topUpCredits k n).noteStall k n b
  else s

/-- Tiles of a slot given back, the credits that this frees, and a queued pass that these let start (R209, R216, R221). -/
def State.returnTiles (s : State) (k slot first n : Nat) : State :=
  let b := ((s.core k).slot slot).peerStalled
  (((s.updSlot k slot (fun x => x.giveBack first n)).topUpCredits k slot).startQueued k slot).noteStall k slot b

/-- The slots a context owns (R57). -/
def Core.slotsOf (c : Core) (x : Nat) : List Nat := (List.range 16).filter (fun n => c.slotOwner n == x)

/-- The owning context stops: its streams set PAUSED (R230). -/
def Core.pauseStreams (c : Core) (x : Nat) : Core :=
  (c.slotsOf x).foldl
    (fun d n => if (d.slot n).armed then d.setSlot n { d.slot n with paused := true } else d) c

/-- The context enters Running: its paused streams resume, and freed positions are credited (R230). -/
def State.resumeStreams (s : State) (k x : Nat) : State :=
  ((s.core k).slotsOf x).foldl
    (fun t n =>
      let sl := (t.core k).slot n
      if sl.paused then
        (((t.updSlot k n (fun y => { y with paused := false })).topUpCredits k n).startQueued k n).noteStall k n false
      else t) s

/-- SLOT_STAT (Table 7-9). -/
def Slot.stat (s : Slot) : Word :=
  let stn := match s.st with | .closed => 0 | .active => 1 | .ended => 2 | .faulted => 3
  BitVec.ofNat 64 (s.fault % 256 * 2 ^ 56 + s.progHeld % 256 * 2 ^ 48 + s.present % 256 * 2 ^ 40 +
    s.inflight.length % 256 * 2 ^ 32 + s.ended % 2 ^ 16 * 2 ^ 16 + b2n (s.failedIn.any (fun q => decide (s.ended ≤ q + 1))) * 128 +
    b2n s.queued.isSome * 64 + b2n s.paused * 32 + b2n (decide (4 ≤ s.cons) && s.armed) * 16 +
    b2n (s.drone && s.armed) * 8 + stn)

/-- A stream fault of slot `n`, reason `r` (Table 7-4): it is counted, recorded, and for the reasons of R229 the slot
enters Faulted. Reason 0x0B concerns no slot. -/
def State.noteFault (s : State) (k n r : Nat) : State :=
  let s := s.incObj .streamFaults (k / 256) (k % 256)
  if r = 0xB then s
  else s.updSlot k n (fun x => { x with
    fault := r, st := if r = 2 ∨ r = 3 ∨ r = 7 ∨ r = 8 ∨ r = 9 then .faulted else x.st })

end Sys2Proof.Machine
end

