-- ==== Sys2Proof/Machine/Ops.lean ====
section
/-! DEFINITION. The operations every instruction shares: taking an exception, stopping, halting, waiting and waking,
and the issue of one instruction (03 R59 to R87, 06 R163 to R192). -/

namespace Sys2Proof.Machine

/-- What one command answers. -/
abbrev Out := Host.Outcome State Fault Refusal

/-! ### Exceptions (R73 to R78) -/

/-- The handler class of Table 3-5. -/
def handlerClass (cause : Nat) : Bool := cause == 2 || cause == 5 || cause == 6 || cause == 0xA

/-- Core scope (Table 3-5). -/
def coreScope (cause : Nat) : Bool := cause == 0xB || cause == 0xC

/-- One exception as it is recorded (Table 3-13). -/
structure Exc where
  cause : Nat
  unit : Nat
  slot : Nat
  pc : Pc
  addr : Word
  loc : Word
  deriving DecidableEq, Repr

def Ctx.record (c : Ctx) (e : Exc) : Ctx :=
  { c with excCause := e.cause, excUnit := e.unit, excSlot := e.slot, excPc := e.pc, excAddr := e.addr, excLoc := e.loc,
           swait := none }

/-- A wait ends without acquiring: LIVE and the waiter bits clear, the other fields of the block stay (R291). -/
def Ctx.endWait (c : Ctx) : Ctx := { c with wait := none, waitBlk := { c.waitBlk with live := false } }

/-- Lending ends: its time enters LEND_TIME (R296). -/
def State.endLend (s : State) (k : Nat) : State :=
  match (s.core k).lendSince with
  | none => s
  | some t => (s.updCore k (fun c => { c with lendSince := none })).addObj .lendTime (s.gtc - t) (k / 256)

/-- The queued engine operations of a context, over all engines. -/
def Core.queued (c : Core) (x : Nat) : List EngOp := (List.range 4).flatMap (fun e => c.queue e x)

/-- All queued operations of a context taken away. -/
def Core.dropQueues (c : Core) (x : Nat) : Core := (List.range 4).foldl (fun d e => d.setQueue e x []) c

/-- The tiles a discarded operation had taken go back to their slots, unread (DEDUCED, log 20), unless the slot was
armed again since. -/
def State.returnOpTiles (s : State) (k : Nat) (o : EngOp) : State :=
  let give (t : State) (src : OpSrc) (gen first n : Nat) : State :=
    match src with
    | .slot i => if ((t.core k).slot i).gen = gen ∧ ((t.core k).slot i).armed then t.returnTiles k i first n else t
    | .addr _ => t
  give (give s o.a o.aGen o.aFirst o.aCount) o.b o.bGen o.bFirst o.bCount

/-- The part of a stop that R75 asks for: queued operations discarded and counted, streams paused, the wait ended, the
stop counted and signalled (R77). -/
def State.stopCtx (s : State) (k x : Nat) : State :=
  let ops := (s.core k).queued x
  let s := s.endLend k
  let s := ops.foldl (fun t o => t.returnOpTiles k o) s
  let s := s.updCore k (fun c =>
    let c := (c.dropQueues x).pauseStreams x
    { c.setCtx x { (c.ctx x).endWait with
        st := .stopped, stepping := .off, stopReport := true,
        discarded := min 65535 ((c.ctx x).discarded + ops.length) } with
      cmdBusy := if (c.ctx x).stepping = .armed then false else c.cmdBusy })
  s.incObj .coreStops (k / 256) (k % 256)

/-- Vector results in flight are written (R60). -/
def Core.applyWrite (c : Core) (x : Nat) (w : VWrite) : Core :=
  match w with
  | .g rd r => c.setCtx x ((c.ctx x).setG rd r)
  | .p pd v => c.setCtx x ((c.ctx x).setP pd v)
  | .v vd r => c.setCtx x ((c.ctx x).setV vd r)
  | .row t rp r =>
    let u := c.tile t
    let v := (u.val.toNat : Nat)
    c.setTile t { u with
      val := BitVec.ofNat 32768 (setBits v (rp * 2048) 2048 r.val.toNat)
      poison := BitVec.ofNat 64 (setBits u.poison.toNat (rp * 4) 4 r.poison.toNat) }

/-- One vector result written, its flags raised (R130). -/
def Core.applyVec (c : Core) (x : Nat) (p : VecPend) : Core :=
  let c := p.writes.foldl (fun d w => d.applyWrite x w) c
  c.setCtx x { c.ctx x with flags := (c.ctx x).flags ||| p.flags }

/-- Every vector result of a context in flight is written, oldest first. -/
def Core.flushVec (c : Core) (x : Nat) : Core :=
  let ps := (c.ctx x).vecPend
  let d := ps.foldl (fun d p => d.applyVec x p) c
  d.setCtx x { d.ctx x with vecPend := [] }

/-- The Halt of Table 3-14: issue stops, in-flight work completes, queued operations stay, a wait is abandoned (R191). -/
def State.haltCtx (s : State) (k x : Nat) : State :=
  let c := s.ctx k x
  if c.st = .running ∨ c.st = .waiting then
    (if c.st = .waiting then s.endLend k else s).updCore k (fun d =>
      let d := d.flushVec x
      { (d.setCtx x { (d.ctx x).endWait with st := .halted, stepping := .off, swait := none }) with
          cmdBusy := if c.stepping = .armed then false else d.cmdBusy })
  else s

/-- TAKING AN EXCEPTION of context scope in context `x` of core `k` (R73 to R76). A stopped context keeps its first
record. With HEN 1, INH 0 and a cause of handler class the context goes on at its handler; a handler-class cause while
INH is 1 is recorded as the double exception; every other case stops the context, and the other context is halted when
HALT_BOTH is 1. A step ends (R192). -/
def State.takeException (s : State) (k x : Nat) (e : Exc) : State :=
  let c := s.ctx k x
  if c.st = .stopped then s
  else if handlerClass e.cause && c.hen && !c.inh then
    let s := if c.st = .waiting then s.endLend k else s
    let s := s.updCore k (fun d => { d with cmdBusy := if c.stepping = .armed then false else d.cmdBusy })
    let s := s.updCtx k x (fun c => { (c.record e).endWait with
      inh := true, pc := c.handler, handled := min 65535 (c.handled + 1), stepping := .off,
      st := if c.st = .halted ∨ c.stepping ≠ .off then .halted else .running })
    s.incObj .coreHandled (k / 256) (k % 256)
  else
    let e := if handlerClass e.cause && c.inh then { e with cause := 0xD, loc := 0 } else e
    let s := (s.updCtx k x (fun c => c.record e)).stopCtx k x
    if (s.core k).haltBoth then s.haltCtx k (1 - x) else s

/-- An exception of core scope (causes 0x0B and 0x0C): both contexts record it and stop; a context that is already
Stopped keeps its own record (R76). EXC_PC holds each context's next instruction. -/
def State.takeCoreException (s : State) (k cause unit : Nat) (loc : Word) : State :=
  let one (t : State) (x : Nat) : State :=
    let c := t.ctx k x
    if c.st = .stopped then t
    else (t.updCtx k x (fun d => d.record ⟨cause, unit, 0, d.pc, 0, loc⟩)).stopCtx k x
  one (one s 0) 1

/-- RETURN FROM AN EXCEPTION (R74, ERET): INH clears, the poison-origin latch clears (R253), issue goes on at `pc`. -/
def State.exceptionReturn (s : State) (k x : Nat) (pc : Pc) : State :=
  s.updCtx k x (fun c => { c with inh := false, latch := none, pc := pc })

/-! ### Completion -/

/-- Whether a context has a result in flight that a Step must wait for (R83, R192): a vector result or a far load. -/
def State.resultPending (s : State) (k x : Nat) : Bool :=
  !(s.ctx k x).vecPend.isEmpty ||
  s.reqs.any (fun r => decide (r.die * 256 + r.core = k) && decide (r.ctx = x) && !r.dead &&
    (match r.kind with | .load _ _ _ => true | _ => false))

/-- A Step whose instruction has issued ends once nothing of it is in flight: the context returns to Halted (R83). -/
def State.settleStep (s : State) (k x : Nat) : State :=
  if (s.ctx k x).stepping = .issued ∧ (s.ctx k x).st = .running ∧ s.resultPending k x = false then
    s.updCtx k x (fun c => { c with st := .halted, stepping := .off })
  else s

/-- An instruction has issued: the pc moves on (R164), and a Step notes it. -/
def State.finish (s : State) (k x : Nat) (pc : Pc) : State :=
  let s := s.updCtx k x (fun c => { c with pc := pc, stepping := if c.stepping = .off then .off else .issued })
  s.settleStep k x

/-- CMD_BUSY of a Step ends with its issue, or as soon as the instruction stalls or waits (R83). -/
def Core.stepIssued (c : Core) (x : Nat) : Core :=
  if (c.ctx x).stepping = .armed then { c with cmdBusy := false } else c

/-- A Step that has been tried holds CMD_BUSY no more. -/
def Core.stepTried (c : Core) (x : Nat) : Core :=
  if (c.ctx x).stepping = .armed then (c.stepIssued x).setCtx x { c.ctx x with stepping := .tried } else c

/-- A context enters Waiting: its wait block takes the wait (R190, R291). -/
def State.enterWait (s : State) (k x : Nat) (f : WaitFor) (kind arg index : Nat) (thresh : Word) : State :=
  let now := s.dieGtc (k / 256)
  (s.updCore k (fun d => d.stepIssued x)).updCtx k x (fun c => { c with
    st := .waiting, wait := some f, waitBlk := ⟨true, false, kind, arg, index, now, thresh, c.pc⟩,
    stepping := if c.stepping = .off then .off else .issued })

/-- A wait completes: the instruction is done, the context runs on, or is Halted when it was stepped (R190). A region that
sleeps is asked to wake (16 R529). -/
def State.completeWait (s : State) (k x : Nat) : State :=
  let s := ((s.requestWake k).endLend k).updCtx k x (fun c => { c.endWait with st := .running, pc := c.pc + 1 })
  s.settleStep k x

/-! ### The node identity and the last-signaller word (Table 9-6) -/

/-- LS_SRC of a core's context: place, die, logical core, context, kind, pc. -/
def State.lsSrc (s : State) (k x kind : Nat) (pc : Pc) : Word :=
  let place := if s.obj .placeValid = 1 then s.place else 0xFFFFFF
  BitVec.ofNat 64 (place % 2 ^ 24 * 2 ^ 40 + k / 256 % 64 * 2 ^ 34 + k % 256 * 2 ^ 26 + x % 2 * 2 ^ 25 +
    kind % 16 * 2 ^ 21 + pc.toNat * 4)

/-- LS_SRC of the host (kind 5) or of a die supervisor or the MMC (kind 6): DIE 48 (R292). -/
def State.lsHub (s : State) (kind : Nat) : Word :=
  let place := if s.obj .placeValid = 1 then s.place else 0xFFFFFF
  BitVec.ofNat 64 (place % 2 ^ 24 * 2 ^ 40 + 48 * 2 ^ 34 + kind % 16 * 2 ^ 21)

/-! ### The scoreboard (R60) -/

/-- A register that an instruction reads or writes. -/
inductive RegRef where
  | g (n : Nat) | p (n : Nat) | v (n : Nat) | tile (n : Nat)
  deriving DecidableEq, Repr

/-- The register a result in flight will write. -/
def VWrite.ref : VWrite → RegRef
  | .g r _ => .g r
  | .p r _ => .p r
  | .v r _ => .v r
  | .row t _ _ => .tile t

/-- Destinations of a context that are not written yet: vector results and far loads in flight. -/
def State.inFlight (s : State) (k x : Nat) : List RegRef :=
  (s.ctx k x).vecPend.flatMap (fun p => p.writes.map VWrite.ref) ++
  s.reqs.filterMap (fun r =>
    if r.die * 256 + r.core = k ∧ r.ctx = x ∧ r.dead = false then
      (match r.kind with | .load rd _ _ => some (.g rd) | _ => none)
    else none)

/-- Tiles a queued or running engine operation will write (R62). -/
def EngOp.dests (e : Nat) (o : EngOp) : List Nat :=
  match o.kind with
  | .mma => [e * 8 + o.t]
  | .mmx => [e * 8 + o.t, e * 8 + o.t + 1, e * 8 + o.t + 2]
  | .lbm => [e * 8 + o.t, e * 8 + o.t + 1, e * 8 + o.t + 2]
  | .lbr => [e * 8 + o.u]
  | .tz => (List.range o.n).map (fun i => e * 8 + o.t + i)

/-- Tiles an operation reads besides its destination. -/
def EngOp.sources (e : Nat) (o : EngOp) : List Nat :=
  match o.kind with
  | .lbm => [e * 8 + o.u, e * 8 + o.u + 1, e * 8 + o.u + 2]
  | .lbr => [e * 8 + o.t, e * 8 + o.t + 1, e * 8 + o.t + 2]
  | _ => []

/-- Busy tiles (R62): destinations of queued or running operations of either context. -/
def Core.busyTiles (c : Core) : List Nat :=
  (List.range 4).flatMap (fun e =>
    (c.queue e 0 ++ c.queue e 1 ++ (c.run e).map (fun r => r.op)).flatMap (EngOp.dests e))

/-- An instruction waits at issue while a register it names has a write in flight, or a tile it names is busy. -/
def State.hazardOn (s : State) (k x : Nat) (rs : List RegRef) : Bool :=
  let fl := s.inFlight k x
  let busy := (s.core k).busyTiles
  rs.any (fun r => r != .g 0 && r != .p 0 && (fl.contains r || (match r with | .tile n => busy.contains n | _ => false)))

/-! ### Issue -/

/-- What the body of an instruction answers. -/
inductive Body where
  /-- it issues; the pc moves to the next word. -/
  | done (s : State)
  /-- it issues; the pc moves to `pc`. -/
  | jump (s : State) (pc : Pc)
  /-- it has no effect; the exception is taken at this instruction. -/
  | trap (s : State) (cause unit slot : Nat) (addr loc : Word)
  /-- it stalls in Running and issues later (R190). -/
  | stall
  /-- the same, and the state notes what it waits for. -/
  | stalled (s : State)
  /-- it enters Waiting (R190). -/
  | wait (s : State)
  /-- it sets pc and state itself (ERET, HALT). -/
  | own (s : State)

/-- A line of the instruction buffer is used: it becomes the most recently used; a new line takes the place of the
least recently used of its set's 4 ways (R64). -/
def ibufUse (ls : List IbufLine) (l : IbufLine) : List IbufLine :=
  let rest := ls.filter (fun m => decide (m.line ≠ l.line))
  let sameSet := rest.filter (fun m => m.line % 64 == l.line % 64)
  let victim := if 4 ≤ sameSet.length then (sameSet.getLast?).map (fun m => m.line) else none
  l :: rest.filter (fun m => victim != some m.line)

/-- A fetch through the instruction buffer of line `line` of the local SRAM (R64). -/
def State.fetchLine (s : State) (k line : Nat) : State × Option Word :=
  match (s.core k).ibuf.find? (fun m => m.line == line) with
  | some m => (s.updCore k (fun d => { d with ibuf := ibufUse d.ibuf m }), m.poison)
  | none =>
    let r := s.touch (sramMla k (line * 64)) 64
    let m : IbufLine := ⟨line, firstPoison r.2⟩
    (r.1.updCore k (fun d => { d with ibuf := ibufUse d.ibuf m }), m.poison)

/-- A fetch of 8 bytes past a disabled instruction buffer (R64). -/
def State.fetchDirect (s : State) (k off : Nat) : State × Option Word :=
  let r := s.touch (sramMla k off) 8
  (r.1, firstPoison r.2)

/-- Fetching at the pc (R64): the poison with which the instruction reaches issue, and the state with the buffer as the
fetch leaves it. -/
def State.fetch (s : State) (k x : Nat) : State × Option Word :=
  let off := (s.ctx k x).pc.toNat * 8
  if (s.core k).ibufEn then s.fetchLine k (off / 64) else s.fetchDirect k off

/-- A context can issue: Running, its Step not spent. -/
def Core.canIssue (c : Core) (x : Nat) : Bool :=
  (c.ctx x).st == .running && (c.ctx x).stepping != .issued

/-- The predicate mask M (R165): `w` is the instruction's low 56 bits. -/
def Ctx.mask (c : Ctx) (w : Low56) : Word :=
  let p := c.preg (bitsOf w.toNat 55 53)
  if bitOf w.toNat 52 then ~~~p else p

/-- A Step's CMD_BUSY ends with this attempt (R83). -/
def State.noteStep (s : State) (k x : Nat) : State := s.updCore k (fun d => d.stepTried x)

/-- An instruction has issued: CMD_BUSY of a Step ends, and the context's issue count advances while PERF_EN is 1 (R79). -/
def State.countIssue (s : State) (k x : Nat) : State :=
  s.updCore k (fun d =>
    let d := d.stepIssued x
    if d.perfEn then (if x = 0 then { d with perf0 := d.perf0 + 1 } else { d with perf1 := d.perf1 + 1 }) else d)

/-- What the body of an instruction leaves: `s` is the state before it, `pc` the instruction's own place. -/
def Body.land (b : Body) (s : State) (k x : Nat) (pc : Pc) : State :=
  match b with
  | .done t => (t.countIssue k x).finish k x (pc + 1)
  | .jump t dest => (t.countIssue k x).finish k x dest
  | .trap t cause unit slot addr loc => (t.noteStep k x).takeException k x ⟨cause, unit, slot, pc, addr, loc⟩
  | .stall => s.noteStep k x
  | .stalled t => t.noteStep k x
  | .wait t => t.countIssue k x
  | .own t => t.countIssue k x

/-- The errors that stand in cores, `u` apart: it has been detected. -/
def State.clearUpset (s : State) (u : Upset) : State := { s with upsets := s.upsets.filter (fun v => v != u) }

/-- Accumulator words that fail their parity check are found when the words are read (05 R160): `mark tile word` poisons the half
row, and each counts against a locator of class 0x03, bank 2 + engine. -/
def State.accCheck (s : State) (k : Nat) (hit : Nat → Nat → Bool) (mark : Nat → Nat → Core → Core) : State :=
  s.upsets.foldl (fun t u =>
    match u with
    | .acc c n w =>
      if c = k ∧ hit n w = true then
        ((t.clearUpset u).countErr (t.coreLoc k (2 + n / 8)) 16 0).updCore k (mark n w)
      else t
    | _ => t) s

/-- Tiles read as tiles: the half row of a failing word is poisoned in its tile. -/
def State.accRead (s : State) (k : Nat) (tiles : List Nat) : State :=
  s.accCheck k (fun n _ => tiles.contains n) (fun n w d =>
    d.setTile n { d.tile n with poison := (d.tile n).poison ||| BitVec.ofNat 64 (2 ^ (w / 16)) })

/-- The long-bore block at tiles n to n + 2 read: the half row of the failing window is poisoned in the block's tag (R117). -/
def State.accReadBlock (s : State) (k n : Nat) : State :=
  s.accCheck k (fun m _ => decide (n ≤ m) && decide (m ≤ n + 2)) (fun m w d =>
    d.setTile n { d.tile n with tag := (d.tile n).tag ||| BitVec.ofNat 64 (2 ^ (32 + ((m - n) * 1024 + w) / 6 / 16)) })

/-- Words [lo, hi) of a tile are written with fresh parity. -/
def State.accWritten (s : State) (k n lo hi : Nat) : State :=
  { s with upsets := s.upsets.filter (fun u =>
      match u with
      | .acc c m w => !(c == k && m == n && decide (lo ≤ w) && decide (w < hi))
      | _ => true) }

/-- The issue of one instruction by context `c` (R59 to R64, R163 to R166): a context that cannot issue does nothing; an error
in a register file, predicate file or the instruction buffer stops the core with cause 0x0B (Table 3-5); a breakpoint
precedes everything else, then the poison of the fetched word, then legality, then predication (vector instructions always
execute), then hazards, then the instruction's own effect. -/
def issue (c : CtxId) (w : Low56) (vector : Bool) (legal : State → Bool) (hazard : State → Bool)
    (body : State → Body) (s0 : State) : Out :=
  let k := c.key
  let x := c.ctx.val
  let core := s0.core k
  let cx := core.ctx x
  if core.canIssue x = false || s0.gatedCore k then .next s0
  else if s0.upsets.contains (.regFile k) then
    .next ((s0.clearUpset (.regFile k)).takeCoreException k 0xB 0 (s0.coreLoc k 0))
  else if core.brkEn && cx.pc == core.brkPc && cx.stepping == .off then
    .next (s0.takeException k x ⟨9, 0, 0, cx.pc, 0, 0⟩)
  else
    let f := s0.fetch k x
    let s := f.1
    match f.2 with
    | some loc =>
      .next ((s.noteStep k x).takeException k x ⟨5, 0, 0, cx.pc, globalHere (sramMla k (cx.pc.toNat * 8)), loc⟩)
    | none =>
      if legal s = false then .next ((s.noteStep k x).takeException k x ⟨1, 0, 0, cx.pc, 0, 0⟩)
      else if (s.inFlight k x).contains (.p (bitsOf w.toNat 55 53)) then .next (s.noteStep k x)
      else if !vector && !(cx.mask w).getLsbD 0 then .next ((s.countIssue k x).finish k x (cx.pc + 1))
      else if hazard s then .next (s.noteStep k x)
      else .next ((body s).land s k x cx.pc)

end Sys2Proof.Machine
end

