-- ==== Sys2Proof/Machine/Operands.lean ====
section
/-! DEFINITION. Chapter 06: the fields of the eleven formats (Tables 6-3 to 6-5), legality of a word (R163), and operand
values with their poison (R58, R169, R170, R183). `w` is bits [55:0] of the instruction word. -/

namespace Sys2Proof.Machine

/-- Bits [hi:lo] of the word. -/
def fld (w : Low56) (hi lo : Nat) : Nat := bitsOf w.toNat hi lo

/-- A mask of bits [hi:lo]. -/
def maskOf (fs : List (Nat × Nat)) : Nat := (fs.map (fun f => 2 ^ (f.1 + 1) - 2 ^ f.2)).foldl Nat.lor 0

/-- Every bit of [51:0] outside the named fields is zero (R163). -/
def namedOnly (fs : List (Nat × Nat)) (w : Low56) : Bool :=
  decide (Nat.lor (w.toNat % 2 ^ 52) (maskOf fs) = maskOf fs)

/-- pr and pn both zero (R168). -/
def plainHeader (w : Low56) : Bool := fld w 55 52 == 0

/-! ### Formats X, S, L, M, B, P, T, Y, F (Table 6-3) -/

def fRd (w : Low56) : Nat := fld w 51 47
def fRa (w : Low56) : Nat := fld w 46 42
def fRb (w : Low56) : Nat := fld w 41 37
def fRc (w : Low56) : Nat := fld w 36 32
def fImm (w : Low56) : Word := sext32 (fld w 31 0)
def fImm47 (w : Low56) : Word := (BitVec.ofNat 47 (fld w 46 0)).signExtend 64
def fXmask (w : Low56) : Nat := fld w 19 16
def fSz (w : Low56) : Nat := fld w 41 40
def fSx (w : Low56) : Bool := fld w 39 39 == 1
def fOff (w : Low56) : Int := signed 32 (fld w 31 0)
def fCondB (w : Low56) : Nat := fld w 36 33
def fTarget (w : Low56) : Pc := BitVec.ofNat 19 (fld w 18 0)
def fPd (w : Low56) : Nat := fld w 51 49
def fPra (w : Low56) : Nat := fld w 48 44
def fPcond (w : Low56) : Nat := fld w 43 40
def fPrb (w : Low56) : Nat := fld w 39 35
def fPa (w : Low56) : Nat := fld w 34 32
def fPb (w : Low56) : Nat := fld w 31 29
def fSlot (w : Low56) : Nat := fld w 51 48
def fTra (w : Low56) : Nat := fld w 47 43
def fTrb (w : Low56) : Nat := fld w 42 38
def fTrd (w : Low56) : Nat := fld w 37 33
def fTn (w : Low56) : Nat := fld w 32 27 + 1
def fYv (w : Low56) : Nat := fld w 51 46
def fYra (w : Low56) : Nat := fld w 45 41
def fYrb (w : Low56) : Nat := fld w 40 36
def fYh (w : Low56) : Nat := fld w 35 28
def fYtc (w : Low56) : Nat := fld w 27 24
def fYc (w : Low56) : Bool := fld w 23 23 == 1
def fFra (w : Low56) : Nat := fld w 51 47
def fFrb (w : Low56) : Nat := fld w 46 42
def fFlen (w : Low56) : Nat := fld w 41 39 + 1
def fFv (w : Low56) : Nat := fld w 38 33

/-- A value of a scalar register as instructions read it. -/
def State.g (s : State) (c : CtxId) (r : Nat) : GReg := (s.ctx c.key c.ctx.val).greg r

/-- A scalar register written. -/
def State.setG (s : State) (c : CtxId) (r : Nat) (v : GReg) : State := s.updCtx c.key c.ctx.val (fun x => x.setG r v)

def State.pr (s : State) (c : CtxId) (r : Nat) : Word := (s.ctx c.key c.ctx.val).preg r

def State.setP (s : State) (c : CtxId) (r : Nat) (v : Word) : State := s.updCtx c.key c.ctx.val (fun x => x.setP r v)

/-- The locator that EXC_LOC holds for a poison use: what the latch holds (R78, R253). -/
def State.latchLoc (s : State) (c : CtxId) : Word := (s.ctx c.key c.ctx.val).poisonLoc

/-- Poison use by an instruction, no address involved (R58). -/
def poisonUse (s : State) (c : CtxId) (unit : Nat) : Body := .trap s 5 unit 0 0 (s.latchLoc c)

/-- The hazard of an instruction on the registers it names (R60). -/
def waitsOn (c : CtxId) (rs : List RegRef) (s : State) : Bool := s.hazardOn c.key c.ctx.val rs

/-- All ones or zero. -/
def spread (b : Bool) : Word := if b then BitVec.allOnes 64 else 0

end Sys2Proof.Machine
end

