-- ==== Sys2Proof/Machine/Flags.lean ====
section
/-! DEFINITION. The sticky flags of CTX_FLAGS (Table 4-9): raised by the instruction's context alone (R130), cleared by
writing one. -/

namespace Sys2Proof.Machine

/-- Flags raised in a context (R130). -/
def State.raise (s : State) (k x : Nat) (f : Flags) : State := s.updCtx k x (fun c => { c with flags := c.flags ||| f })

/-- CTX_FLAGS as it is read: reserved bits are zero (Table 4-9). -/
def flagsRead (f : Flags) : Word := (f &&& 0xF1F).zeroExtend 64

/-- A W1C write to CTX_FLAGS (Table 4-9). -/
def Ctx.clearFlags (c : Ctx) (v : Word) : Ctx := { c with flags := c.flags &&& ~~~(v.truncate 12) }

end Sys2Proof.Machine
end

