-- ==== Sys2Proof/Machine/CcbRegs.lean ====
section
/-! DEFINITION. Chapter 03: the registers of the core control block (Tables 3-6 to 3-13, 7-8, 9-4) as they are read, and
the plain writes to them. -/

namespace Sys2Proof.Machine

def Ctx.stNum (c : Ctx) : Nat :=
  match c.st with | .halted => 0 | .running => 1 | .waiting => 2 | .stopped => 3

/-- STATE as CTX_STAT shows it: a core fenced during the run reads 3 (R87). -/
def Core.stNum (c : Core) (x : Nat) : Nat := if c.fenced.isSome then 3 else (c.ctx x).stNum

/-- The windows of a context can be used (R80). -/
def Core.windowOpen (c : Core) (x : Nat) : Bool := c.stNum x == 0 || c.stNum x == 3

/-- CCB_ID (Table 3-8). -/
def State.ccbId (s : State) (k : Nat) : Word :=
  let p := s.pcoreOf k
  BitVec.ofNat 64 (k / 256 * 2 ^ 42 + k % 256 * 2 ^ 34 + p % 512 * 2 ^ 25 + k % 256 / 16 * 2 ^ 21 + p % 17 * 2 ^ 16 +
    s.obj .dieStep (k / 256) % 256)

/-- CCB_STAT (Table 3-10). -/
def Core.ccbStat (c : Core) : Word :=
  let bit (x n : Nat) : Nat := b2n (c.stNum x == n)
  BitVec.ofNat 64 (c.lateDrops % 2 ^ 32 * 2 ^ 32 + b2n c.cmdRefused * 32 + b2n c.cmdBusy * 16 +
    (bit 1 3 * 2 + bit 0 3) * 4 + (bit 1 1 + bit 1 2) * 2 + (bit 0 1 + bit 0 2))

/-- CTX_STAT (Table 3-13). -/
def Core.ctxStat (c : Core) (x : Nat) : Word :=
  let d := c.ctx x
  BitVec.ofNat 64 (d.handled % 2 ^ 16 * 2 ^ 48 + d.discarded % 2 ^ 16 * 2 ^ 32 + b2n d.inh * 8 + c.stNum x)

/-- EXC_CAUSE (Table 3-13). -/
def Core.excCauseWord (c : Core) (x : Nat) : Word :=
  let d := c.ctx x
  let cause := match c.fenced with | some f => f | none => d.excCause
  BitVec.ofNat 64 (d.excSlot % 16 * 2 ^ 16 + d.excUnit % 256 * 256 + cause % 256)

def pcWord (p : Pc) : Word := BitVec.ofNat 64 (p.toNat * 8)

/-- The waiters of a valve or counter, context 0 first (Tables 9-5, 9-7, R291). -/
def Core.waitsValve (c : Core) (v : Nat) : List (Bool × Bool) :=
  [c.c0, c.c1].map (fun d => match d.wait with | some (.valve n cl) => (n == v, n == v && cl) | _ => (false, false))

def Core.waitsTally (c : Core) (t : Nat) : List Bool :=
  [c.c0, c.c1].map (fun d => match d.wait with | some (.tally n _) => n == t | _ => false)

/-- VALVE_STATE (Table 9-5). -/
def Core.valveState (c : Core) (v : Nat) : Word :=
  let x := c.valve v
  let ws := c.waitsValve v
  let w0 := ws.getD 0 (false, false)
  let w1 := ws.getD 1 (false, false)
  BitVec.ofNat 64 (x.opens % 2 ^ 16 * 2 ^ 48 + min x.redundant 255 * 2 ^ 40 + b2n x.sigErr * 128 + b2n w1.2 * 32 +
    b2n w0.2 * 16 + b2n w1.1 * 8 + b2n w0.1 * 4 + b2n x.isOpen)

/-- TC_STAT (Table 9-7). -/
def Core.tcStat (c : Core) (t : Nat) : Word :=
  let x := c.tally t
  let ws := c.waitsTally t
  BitVec.ofNat 64 (min x.refused 255 * 256 + b2n x.sigErr * 4 + b2n (ws.getD 1 false) * 2 + b2n (ws.getD 0 false))

/-- WAIT_OBJ (Table 9-8). -/
def WaitBlk.word (b : WaitBlk) : Word :=
  BitVec.ofNat 64 (b2n b.live * 2 ^ 63 + b2n b.fired * 2 ^ 62 + b.kind % 8 * 2 ^ 59 + b.arg % 16 * 2 ^ 55 + b.index % 256)

/-- The context block of a CCB (Table 3-6). -/
def Core.ctxWord (c : Core) (x off : Nat) : Word :=
  let d := c.ctx x
  match off with
  | 0x00 => BitVec.ofNat 64 (b2n d.hen)
  | 0x08 => c.ctxStat x
  | 0x10 => pcWord d.pc
  | 0x18 => pcWord d.handler
  | 0x20 => c.excCauseWord x
  | 0x28 => pcWord d.excPc
  | 0x30 => d.excAddr
  | 0x38 => d.excLoc
  | 0x40 => flagsRead d.flags
  | _ => 0

/-- The synchronisation block (Table 9-4); `off` counts from 0x8000. -/
def Core.syncWord (c : Core) (off : Nat) : Word :=
  if off < 0x600 then
    let v := c.valve (off / 0x20)
    match off % 0x20 with
    | 0x00 => c.valveState (off / 0x20)
    | 0x08 => v.src
    | 0x10 => BitVec.ofNat 64 v.time
    | 0x18 => BitVec.ofNat 64 v.arr
    | _ => 0
  else if off < 0x800 then
    let n := (off - 0x600) / 0x20
    let t := c.tally n
    match (off - 0x600) % 0x20 with
    | 0x00 => BitVec.ofNat 64 t.value
    | 0x08 => t.src
    | 0x10 => BitVec.ofNat 64 t.time
    | 0x18 => c.tcStat n
    | _ => 0
  else if off < 0x880 then
    let b := (c.ctx ((off - 0x800) / 0x40)).waitBlk
    match (off - 0x800) % 0x40 with
    | 0x00 => b.word
    | 0x08 => BitVec.ofNat 64 b.since
    | 0x10 => b.thresh
    | 0x18 => pcWord b.pc
    | _ => 0
  else if off = 0xF08 then c.syncArg
  else 0

/-- Ring tiles that a slot has issued since it was armed: asked for (LOAD), handed over (R210), pushed, or landed. -/
def Slot.issuedTiles (s : Slot) : Nat :=
  match s.kind with
  | 0 => s.nextMem * s.down / s.up
  | 1 => s.handed
  | 3 => s.handed
  | 4 => if s.outLocal then s.presented + s.landed.length else s.nextMem
  | _ => s.presented + s.landed.length

/-- A slot block (Table 7-8). -/
def Slot.regWord (s : Slot) (off : Nat) : Word :=
  if off < 0x40 then s.desc.getD (off / 8) 0
  else match off with
    | 0x40 => s.stat
    | 0x48 =>
      let cur := s.ended * s.count
      let issued := s.issuedTiles
      let done := if s.inbound then s.presented else s.completed
      BitVec.ofNat 64 ((issued - cur) % 2 ^ 32 * 2 ^ 32 + (done - cur) % 2 ^ 32)
    | 0x50 => BitVec.ofNat 64 (s.failed % 2 ^ 32 * 2 ^ 32 + s.dropped % 2 ^ 32)
    | 0x58 => s.loc
    | 0x60 =>
      BitVec.ofNat 64 ((if s.kind = 2 ∨ s.kind = 4 then s.credOut0 + s.credOut1 else s.credits.length) % 256)
    | _ => 0

/-- A word of a CCB as host, die supervisor or MMC reads it, and as a program does where Table 3-7 lets it: reserved
offsets read zero, windows only while their context is Halted or Stopped (R79, R80). R79 gives the place of the vector
poison bits and not their order: the four of vi stand at bits 4i to 4i + 3 of the context's 128 (DESIGN CHOICE, log 72). -/
def State.ccbRead (s : State) (k off : Nat) : Word :=
  let c := s.core k
  if off = 0x0000 then s.ccbId k
  else if off = 0x0008 then
    BitVec.ofNat 64 (b2n c.brkEn * 8 + b2n c.ibufEn * 4 + b2n c.perfEn * 2 + b2n c.haltBoth)
  else if off = 0x0010 then c.ccbStat
  else if off = 0x0020 then BitVec.ofNat 64 (c.treq1 * 2 ^ 24 + c.treq0 * 2 ^ 16 + c.slot0 * 2 ^ 8 + c.acc0)
  else if off = 0x0028 then pcWord c.brkPc
  else if 0x100 ≤ off ∧ off < 0x200 then c.ctxWord ((off - 0x100) / 0x80) ((off - 0x100) % 0x80)
  else if 0x400 ≤ off ∧ off < 0x500 then
    -- 0 after a start, until a context has issued (Table 3-15)
    if c.perf0 = 0 ∧ c.perf1 = 0 then 0 else Config.perfCounter ((off - 0x400) / 8) c.perf0 c.perf1
  else if 0x1000 ≤ off ∧ off < 0x1200 then
    let x := (off - 0x1000) / 0x100
    if c.windowOpen x then ((c.ctx x).greg ((off - 0x1000) % 0x100 / 8)).val else 0
  else if 0x1200 ≤ off ∧ off < 0x1280 then
    let x := (off - 0x1200) / 0x40
    if c.windowOpen x then (c.ctx x).preg ((off - 0x1200) % 0x40 / 8) else 0
  else if 0x1280 ≤ off ∧ off < 0x1290 then
    let x := (off - 0x1280) / 8
    if c.windowOpen x then
      BitVec.ofNat 64 (packFields 1 (tabulate 32 (fun i => b2n ((c.ctx x).greg i).poison)))
    else 0
  else if 0x1300 ≤ off ∧ off < 0x1320 then
    let x := (off - 0x1300) / 0x10
    let half := (off - 0x1300) % 0x10 / 8
    if c.windowOpen x then
      BitVec.ofNat 64 (packFields 4 (tabulate 16 (fun i => ((c.ctx x).vreg (16 * half + i)).poison.toNat)))
    else 0
  else if 0x2000 ≤ off ∧ off < 0x6000 then
    let x := (off - 0x2000) / 0x2000
    let r := (off - 0x2000) % 0x2000
    if c.windowOpen x then BitVec.ofNat 64 (fieldAt 64 ((c.ctx x).vreg (r / 256)).val.toNat (r % 256 / 8)) else 0
  else if 0x8000 ≤ off ∧ off < 0x9000 then c.syncWord (off - 0x8000)
  else if 0x9000 ≤ off ∧ off < 0x9800 then (c.slot ((off - 0x9000) / 0x80)).regWord ((off - 0x9000) % 0x80)
  else if 0xA000 ≤ off ∧ off < 0xA400 then
    let e := (off - 0xA000) / 0x100
    let x := (off - 0xA000) % 0x100 / 0x80
    let i := (off - 0xA000) % 0x80 / 0x10
    Config.queueView (match (c.queue e x)[i]? with | some o => o.word.toNat + 1 | none => 0) (off % 0x10 / 8)
  else 0

/-- A write to a window, while its context lets it; else the write is ignored and refused (R80). -/
def Core.windowWrite (c : Core) (x : Nat) (f : Ctx → Ctx) : Core :=
  if c.windowOpen x then c.setCtx x (f (c.ctx x)) else { c with cmdRefused := true }

/-- The plain registers of a context block written (Table 3-13). A write of CTX_PC while the context is Running or Waiting is
ignored; R82 does not say whether it counts as refused, and the model leaves CMD_REFUSED as it is (DESIGN CHOICE, log 73). -/
def Core.ctxWrite (c : Core) (x off : Nat) (v : Word) : Core :=
  let d := c.ctx x
  match off with
  | 0x00 => c.setCtx x { d with hen := v.getLsbD 0 }
  | 0x10 => if c.windowOpen x then c.setCtx x { d with pc := BitVec.ofNat 19 (bitsOf v.toNat 21 3) } else c
  | 0x18 => c.setCtx x { d with handler := BitVec.ofNat 19 (bitsOf v.toNat 21 3) }
  | 0x40 => c.setCtx x (d.clearFlags v)
  | _ => c

/-- A write to a CCB register that has no command of its own (R9, R79, R80): the writable fields change, everything else
is ignored. -/
def Core.plainWrite (c : Core) (off : Nat) (v : Word) : Core :=
  let n := v.toNat
  if off = 0x0008 then
    { c with brkEn := n.testBit 3, ibufEn := n.testBit 2, perfEn := n.testBit 1, haltBoth := n.testBit 0 }
  else if off = 0x0010 then { c with cmdRefused := c.cmdRefused && !n.testBit 5 }
  else if off = 0x0028 then { c with brkPc := BitVec.ofNat 19 (bitsOf n 21 3) }
  else if 0x100 ≤ off ∧ off < 0x200 then c.ctxWrite ((off - 0x100) / 0x80) ((off - 0x100) % 0x80) v
  else if 0x1000 ≤ off ∧ off < 0x1200 then
    let r := (off - 0x1000) % 0x100 / 8
    c.windowWrite ((off - 0x1000) / 0x100) (fun d => d.setG r ⟨v, (d.greg r).poison⟩)
  else if 0x1200 ≤ off ∧ off < 0x1280 then
    c.windowWrite ((off - 0x1200) / 0x40) (fun d => d.setP ((off - 0x1200) % 0x40 / 8) v)
  else if 0x1280 ≤ off ∧ off < 0x1290 then
    c.windowWrite ((off - 0x1280) / 8) (fun d =>
      (List.range 32).foldl (fun e i => e.setG i ⟨(e.greg i).val, n.testBit i⟩) d)
  else if 0x1300 ≤ off ∧ off < 0x1320 then
    let half := (off - 0x1300) % 0x10 / 8
    c.windowWrite ((off - 0x1300) / 0x10) (fun d =>
      (List.range 16).foldl (fun e i =>
        e.setV (16 * half + i) ⟨(e.vreg (16 * half + i)).val, BitVec.ofNat 4 (fieldAt 4 n i)⟩) d)
  else if 0x2000 ≤ off ∧ off < 0x6000 then
    let r := (off - 0x2000) % 0x2000
    c.windowWrite ((off - 0x2000) / 0x2000) (fun d =>
      let y := d.vreg (r / 256)
      d.setV (r / 256) ⟨BitVec.ofNat 2048 (setBits y.val.toNat (64 * (r % 256 / 8)) 64 n), y.poison⟩)
  else if off = 0x8F08 then { c with syncArg := v }
  else c

end Sys2Proof.Machine
end

