-- ==== Sys2Proof/Machine/Ccb.lean ====
section
/-! DEFINITION. Chapter 03: the commands of CCB_CMD (Table 3-14), the resets of Table 3-15, and the division of the core
between its contexts (R57). -/

namespace Sys2Proof.Machine

/-- A job runs in the module states Running, Stopping and Halted (15 R469). -/
def State.jobRuns (s : State) : Bool := decide (2 ≤ s.obj .moduleState ∧ s.obj .moduleState ≤ 4)

/-- A refused command or write: no effect but CMD_REFUSED (R83). -/
def State.refuseCmd (s : State) (k : Nat) : State := s.updCore k (fun c => { c with cmdRefused := true })

/-- A command is accepted when no other is in progress and its required state holds (R83); a core fenced during the run
refuses the commands that R87 names. -/
def Core.accepts (c : Core) (fencedOk required : Bool) : Bool :=
  !c.cmdBusy && (fencedOk || c.fenced.isNone) && required

/-- The context is Halted or Stopped. -/
def Core.quiet (c : Core) (x : Nat) : Bool := (c.ctx x).st == .halted || (c.ctx x).st == .stopped

/-- Start (Table 3-14): the buffer is invalidated, the poison-origin latch cleared (R253), lending ends (R296), paused
streams resume (R230), the context runs at CTX_PC. -/
def ccbStart (k x : Nat) (s : State) : State :=
  let c := s.core k
  if c.accepts false ((c.ctx x).st == .halted && (c.ctx x).excCause == 0) then
    let id := s.nextId
    let s := ((s.requestWake k).endLend k).updCore k (fun d =>
      ({ d with ibuf := [] }).setCtx x { d.ctx x with st := .running, latch := none, startId := id, failedTo := [] })
    s.resumeStreams k x
  else s.refuseCmd k

def execCcbStart (c : CtxId) (s : State) : Out := .next (ccbStart c.key c.ctx.val s)

/-- Halt (Table 3-14). A Halt is accepted while a Step waits, because CMD_BUSY is then 0 (R83). -/
def ccbHalt (k x : Nat) (s : State) : State :=
  let c := s.core k
  if c.accepts true ((c.ctx x).st == .running || (c.ctx x).st == .waiting) then
    s.haltCtx k x
  else s.refuseCmd k

def execCcbHalt (c : CtxId) (s : State) : Out := .next (ccbHalt c.key c.ctx.val s)

/-- Step (R192): the context runs for one instruction; CMD_BUSY holds until that instruction has issued. -/
def ccbStep (k x : Nat) (s : State) : State :=
  let c := s.core k
  if c.accepts false ((c.ctx x).st == .halted) then
    (((s.requestWake k).endLend k).updCore k (fun d =>
      ({ d with cmdBusy := true }).setCtx x { d.ctx x with st := .running, stepping := .armed })).resumeStreams k x
  else s.refuseCmd k

def execCcbStep (c : CtxId) (s : State) : Out := .next (ccbStep c.key c.ctx.val s)

/-- Clear exception: the exception registers and INH become 0, the streams stay paused, the context is Halted. -/
def ccbClear (k x : Nat) (s : State) : State :=
  let c := s.core k
  if c.accepts false ((c.ctx x).st == .stopped) then
    s.updCtx k x (fun d => { d with
      excCause := 0, excUnit := 0, excSlot := 0, excPc := 0, excAddr := 0, excLoc := 0, inh := false, st := .halted })
  else s.refuseCmd k

def execCcbClearException (c : CtxId) (s : State) : Out := .next (ccbClear c.key c.ctx.val s)

/-- A slot at its Cold value (R242); the arm generation (R215) and the numbering toward a receiver (R218) go on. -/
def Slot.cleared (s : Slot) : Slot :=
  { Slot.closed with gen := s.gen, pushTo := s.pushTo, pushGen := s.pushGen, pushSeq := s.pushSeq }

/-- A slot is closed and its transfers become orphans: tile requests hold their entries until answered (R86, R223). FAULT stays
until SARM clears it (Table 7-9). -/
def Core.closeSlot (c : Core) (n : Nat) : Core :=
  let sl := c.slot n
  let x := c.slotOwner n
  { c.setSlot n { sl.cleared with fault := sl.fault } with
    orphans := c.orphans ++ sl.inflight.map (fun t => Orphan.mk x t.holdsEntry t) }

/-- The same by a context reset: the slot block takes its Cold value (R242), and conversions still on their way raise no flag. -/
def Core.resetSlot (c : Core) (n : Nat) : Core :=
  let sl := c.slot n
  let x := c.slotOwner n
  { c.setSlot n sl.cleared with
    orphans := c.orphans ++ sl.inflight.map (fun t => Orphan.mk x t.holdsEntry { t with flags := 0 }) }

/-- What a context reset leaves of one context (Table 3-15): HANDLED and DISCARDED stay, discarded operations counted. -/
def Ctx.reset (c : Ctx) (dropped : Nat) : Ctx :=
  { Ctx.zero with handled := c.handled, discarded := min 65535 (c.discarded + dropped), stopReport := c.stopReport }

/-- The requests of a reset context: what is not sent yet is taken back, what is sent loses its outcome (R86, R242). -/
def dropReqs (k x : Nat) (rs : List Req) : List Req :=
  (rs.filter (fun r => !(decide (r.die * 256 + r.core = k) && decide (r.ctx = x) && r.stage == .queued))).map
    (fun r => if r.die * 256 + r.core = k ∧ r.ctx = x then { r with dead := true } else r)

/-- A context reset (Table 3-15, R85, R86): valves, counters, local SRAM and the other context are untouched. -/
def resetCtx (k x : Nat) (s : State) : State :=
  let s := { s with reqs := dropReqs k x s.reqs }
  s.updCore k (fun c =>
    let n := (c.queued x).length
    let c := c.dropQueues x
    let c := (List.range 4).foldl (fun d e =>
      d.setRun e ((d.run e).map (fun r => if r.ctx = x then { r with discard := true } else r))) c
    let c := (List.range 32).foldl (fun d t => if d.tileOwner (t % 8) = x then d.setTile t Tile.zero else d) c
    let c := (c.slotsOf x).foldl (fun d i => d.resetSlot i) c
    let c := { c with orphans := c.orphans.map (fun (o : Orphan) => if o.ctx = x then { o with req := { o.req with flags := 0 } } else o) }
    c.setCtx x ((c.ctx x).reset n))

/-- Context reset command. -/
def ccbContextReset (k x : Nat) (s : State) : State :=
  let c := s.core k
  if c.accepts true (c.quiet x) then resetCtx k x s else s.refuseCmd k

def execCcbContextReset (c : CtxId) (s : State) : Out := .next (ccbContextReset c.key c.ctx.val s)

/-- A core reset (Table 3-15): both contexts, every tile and slot, valves closed, counters 0, buffer invalid, LATE_DROPS 0;
a lending core stops lending, its time counted (09 R296). -/
def resetCore (k : Nat) (s : State) : State :=
  ((resetCtx k 1 (resetCtx k 0 (s.endLend k))).updCore k (fun c =>
    { c with valves := [], tallies := [], ibuf := [], lateDrops := 0, tiles := [] }))

/-- Core reset is accepted with both contexts quiet and no job running (R83, R85). -/
def ccbCoreReset (fill : Bool) (k : Nat) (s : State) : State :=
  let c := s.core k
  if c.accepts false (c.quiet 0 && c.quiet 1 && !s.jobRuns) then
    let t := resetCore k s
    if fill then t.zeroFillTier (sramMla k 0) (sramMla k 0 + 2 ^ 22) else t
  else s.refuseCmd k

def execCcbCoreReset (k : CoreId) (s : State) : Out := .next (ccbCoreReset false k.key s)

/-- Core reset with zero fill: then all 4 MiB and their scale plane hold zero (R84, R248). -/
def execCcbCoreResetZeroFill (k : CoreId) (s : State) : Out := .next (ccbCoreReset true k.key s)

/-- A write to CCB_CTX_SPLIT (R57, Table 3-12): RWL, rejected and counted while a job runs (00 Table 0-3), refused out of
range; either sets CMD_REFUSED. -/
def ctxSplitWrite (k : Nat) (v : Word) (s : State) : State :=
  let t1 := bitsOf v.toNat 30 24
  let t0 := bitsOf v.toNat 22 16
  let s0 := bitsOf v.toNat 12 8
  let a0 := bitsOf v.toNat 3 0
  if s.jobRuns then (s.refuseCmd k).updCore k (fun c => { c with rejects := c.rejects + 1 })
  else if decide (64 < t0 + t1) || decide (8 < a0) || decide (16 < s0) then s.refuseCmd k
  else s.updCore k (fun c => { c with treq0 := t0, treq1 := t1, slot0 := s0, acc0 := a0 })

def execCtxSplitWrite (k : CoreId) (v : Word) (s : State) : Out := .next (ctxSplitWrite k.key v s)

/-- A write to CCB_CMD (Tables 3-11, 3-14): an OP that is not listed is refused, and any OP while CMD_BUSY is 1 (R83). -/
def ccbCmd (k : Nat) (v : Word) (s : State) : State :=
  let x := bitsOf v.toNat 8 8
  match bitsOf v.toNat 3 0 with
  | 0x0 => if (s.core k).cmdBusy then s.refuseCmd k else s
  | 0x1 => ccbStart k x s
  | 0x2 => ccbHalt k x s
  | 0x3 => ccbStep k x s
  | 0x4 => ccbClear k x s
  | 0x5 => ccbContextReset k x s
  | 0x6 => ccbCoreReset false k s
  | 0x7 => ccbCoreReset true k s
  | _ => s.refuseCmd k

end Sys2Proof.Machine
end

