-- ==== Sys2Proof/Machine/LoadStore.lean ====
section
/-! DEFINITION. The scalar and vector loads and stores, opcodes 0x30 to 0x35 (Table 6-8, R171 to R175, R148): near
accesses take effect at issue, far ones become requests that later commands serve and answer. -/

namespace Sys2Proof.Machine

/-- The CCB words a program may read (Table 3-7, R241, R293): `own` says it is the program's own core. -/
def progCcbRead (own : Bool) (x off : Nat) : Bool :=
  let ctxBase := 0x100 + x * 0x80
  off == 0x0000 || off == 0x0010 || off == 0x0108 || off == 0x0188 ||
  -- valves, counters, wait blocks and SYNC words of any core
  (decide (0x8000 ≤ off ∧ off < 0x8600)) || (decide (0x8600 ≤ off ∧ off < 0x8800)) ||
  (decide (0x8800 ≤ off ∧ off < 0x8820)) || (decide (0x8840 ≤ off ∧ off < 0x8860)) || off == 0x8F00 || off == 0x8F08 ||
  (own && (off == ctxBase || off == ctxBase + 0x18 || off == ctxBase + 0x20 || off == ctxBase + 0x28 ||
    off == ctxBase + 0x30 || off == ctxBase + 0x38 || off == ctxBase + 0x40 ||
    decide (0x400 ≤ off ∧ off < 0x500) ||
    -- slot blocks, their reserved words apart
    (decide (0x9000 ≤ off ∧ off < 0x9800) && decide (off % 0x80 < 0x68))))

/-- The CCB words a program may write (Table 3-7). -/
def progCcbWrite (own : Bool) (x off : Nat) : Bool :=
  let ctxBase := 0x100 + x * 0x80
  own && (off == ctxBase || off == ctxBase + 0x18 || off == ctxBase + 0x40)

/-- What the checks of R172 find for a scalar access: near, far, or the cause of a precise exception. -/
inductive Reach where
  | near (off : Nat)
  | far
  | bad (cause : Nat)
  deriving DecidableEq, Repr

/-- The checks at issue (R37, R38, R42, R172): `write` a store, `n` its bytes. An address on another module is sent
unchecked, its alignment apart. -/
def State.reach (s : State) (c : CtxId) (a : Word) (n : Nat) (write : Bool) : Reach :=
  let place := placeOf a
  let mis := a.toNat % n != 0
  if placeMalformed place then .bad 2
  else if s.isHere place then
    let r := s.region (mlaOf a)
    match r with
    | .ccb k off =>
      if n ≠ 8 then .bad 2
      else if mis then .bad 3
      else if (if write then progCcbWrite (k == c.key) c.ctx.val off else progCcbRead (k == c.key) c.ctx.val off) then .far
      else .bad 4
    | .sram k off =>
      if mis then .bad 3 else if k = c.key then .near off else .far
    | .launch off =>
      -- LQ_CI and LQ_CPI are stored to by a program on LQ_CORE alone (14 R455)
      if mis then .bad 3
      else if write && decide (off < 0x8000) && (off % 0x100 == 8 || off % 0x100 == 0x10) &&
          bitsOf (s.obj .lqCfg (off / 0x100) 0) 55 40 != c.key then .bad 4
      else .far
    | .aperture off =>
      -- a window that is not valid is an address error, decided at issue (14 R450)
      if (s.obj .apertureMap 0 (off / 2 ^ 30)).testBit 0 = false then .bad 2
      else if mis then .bad 3 else .far
    | r =>
      if !(if write then r.progWrite else r.progRead) || !r.fits n then .bad 2
      else if mis then .bad 3 else .far
  else if mis then .bad 3
  else .far

/-- A precise memory exception; an address error is counted for the requester's die (R39, Table 2-7). -/
def memTrap (s : State) (c : CtxId) (unit cause : Nat) (a : Word) : Body :=
  let s := if cause = 2 then s.incObj .addrErrors c.die.val else s
  .trap s cause unit 0 a 0

/-- The unanswered far loads, and the unacknowledged remote writes, of a context (R175). -/
def State.farLoads (s : State) (c : CtxId) : List Req :=
  s.reqs.filter (fun r => decide (r.die * 256 + r.core = c.key) && decide (r.ctx = c.ctx.val) && !r.dead &&
    (match r.kind with | .load _ _ _ => true | _ => false))

def State.remoteWrites (s : State) (c : CtxId) : List Req :=
  s.reqs.filter (fun r => decide (r.die * 256 + r.core = c.key) && decide (r.ctx = c.ctx.val) && !r.dead &&
    (match r.kind with | .load _ _ _ => false | _ => true))

def State.updReq (s : State) (id : Nat) (f : Req → Req) : State :=
  { s with reqs := s.reqs.map (fun r => if r.id = id then f r else r) }

def Req.key (r : Req) : Nat := r.die * 256 + r.core

/-- Far loads and stores travel in W0, deliveries and signals in W3 (Table 10-3); between modules loads on VC2, stores on VC1, the
others on VC4 (Table 11-10; VC codes). -/
def Req.cls (r : Req) : Nat := match r.kind with | .load _ _ _ => 0 | .store => 0 | _ => 4
def Req.vc (r : Req) : Nat := match r.kind with | .load _ _ _ => 3 | .store => 1 | _ => 5

/-- A request leaves its core: to its unit on this module, or to the Felun port it goes by; where there is no way, its failure
stands at the core at once. -/
def State.launch (s : State) (r : Req) : State :=
  let src := s.coreEndp r.key
  match s.wayTo src r.die r.addr r.vc with
  | some e => (s.updReq r.id (fun q => { q with stage := .sent })).emit (r.id * 256) r.cls 1 (b2n r.poison.isSome) src e false
  | none => s.updReq r.id (fun q => { q with stage := .answered 3 [] none, home := true })

/-- A request put on its way by a context (R173, R174), or held back at its core. -/
def State.addReq (s : State) (c : CtxId) (kind : ReqKind) (addr : Word) (size : Nat) (data : List (BitVec 8))
    (poison : Option Word) (stage : ReqStage) (covers : List Nat) : State :=
  let f := s.fresh
  let r : Req :=
    { id := f.1, die := c.die.val, core := c.core.val, ctx := c.ctx.val, kind := kind, addr := addr, size := size,
      data := data, poison := poison, pc := (s.ctx c.key c.ctx.val).pc, sendTime := s.dieGtc c.die.val, stage := stage,
      errMark := false, covers := covers, dead := false, late := false, home := false }
  let t : State := { f.2 with reqs := f.2.reqs ++ [r] }
  if stage = .sent then t.launch r else t

/-- A far load to another module waits for an earlier unacknowledged far store of its context that touches a granule it
reads (R173). -/
def State.storeAhead (s : State) (c : CtxId) (a : Word) (n : Nat) : Bool :=
  !s.isHere (placeOf a) &&
  (s.remoteWrites c).any (fun r => decide (placeOf r.addr = placeOf a) &&
    (match r.kind with | .store => true | _ => false) &&
    (granulesOf (mlaOf r.addr) r.size).any (fun g => (granulesOf (mlaOf a) n).contains g))

/-- The value a load delivers from its bytes: zero- or sign-extended (Table 6-8). -/
def loadValue (n : Nat) (sx : Bool) (bs : List (BitVec 8)) : Word :=
  let v := leNat bs
  if sx then BitVec.ofInt 64 (signed (8 * n) v) else BitVec.ofNat 64 v

/-- LD. -/
def execLd (c : CtxId) (w : Low56) (s : State) : Out :=
  let n := 2 ^ fSz w
  issue c w false (fun _ => namedOnly [(51, 39), (31, 0)] w && !(fSx w && fSz w == 3))
    (waitsOn c [.g (fRd w), .g (fRa w)])
    (fun s =>
      let b := s.g c (fRa w)
      if b.poison then poisonUse s c 0
      else
        let a := effAddr b.val (fOff w)
        match s.reach c a n false with
        | .bad cause => memTrap s c 0 cause a
        | .near off =>
          let r := s.readMem (sramMla c.key off) n
          let s := r.1.updCtx c.key c.ctx.val (fun x => x.latchPoison r.2.2)
          .done (s.setG c (fRd w) ⟨loadValue n (fSx w) r.2.1, r.2.2.isSome⟩)
        | .far =>
          if 8 ≤ (s.farLoads c).length || s.storeAhead c a n then .stall
          else .done (s.addReq c (.load (fRd w) (fSz w) (fSx w)) a n [] none .sent [])) s

/-- A store to the own local SRAM: a poisoned value writes the poison pattern over the granule (R58). -/
def State.storeNear (s : State) (c : CtxId) (off : Nat) (bs : List (BitVec 8)) (poison : Bool) : State :=
  let a := sramMla c.key off
  if poison then s.poisonGranule (a / 64) (s.latchLoc c) else s.writeMem a bs

/-- ST. -/
def execSt (c : CtxId) (w : Low56) (s : State) : Out :=
  let n := 2 ^ fSz w
  issue c w false (fun _ => namedOnly [(51, 40), (31, 0)] w) (waitsOn c [.g (fRd w), .g (fRa w)])
    (fun s =>
      let b := s.g c (fRa w)
      let v := s.g c (fRd w)
      if b.poison then poisonUse s c 0
      else
        let a := effAddr b.val (fOff w)
        match s.reach c a n true with
        | .bad cause => memTrap s c 0 cause a
        | .near off => .done (s.storeNear c off (leBytes n v.val.toNat) v.poison)
        | .far =>
          if 32 ≤ (s.remoteWrites c).length then .stall
          else .done (s.addReq c .store a n (leBytes n v.val.toNat) (if v.poison then some (s.latchLoc c) else none)
            .sent [])) s

/-- An MLA operand inside the own local SRAM, aligned to `n` (Table 6-2). -/
def ownAccess (c : CtxId) (a : Word) (n : Nat) : Reach :=
  match ownOff c.key a with
  | none => .bad 2
  | some off => if off % n ≠ 0 then .bad 3 else .near off

/-- LDP: a poisoned granule is a poison use, as the source of a predicate write. -/
def execLdp (c : CtxId) (w : Low56) (s : State) : Out :=
  issue c w false (fun _ => namedOnly [(49, 42), (31, 0)] w) (waitsOn c [.p (fRd w % 8), .g (fRa w)])
    (fun s =>
      let b := s.g c (fRa w)
      if b.poison then poisonUse s c 0
      else
        let a := effAddr b.val (fOff w)
        match ownAccess c a 8 with
        | .near off =>
          let r := s.readMem (sramMla c.key off) 8
          match r.2.2 with
          | some loc => .trap (r.1.updCtx c.key c.ctx.val (fun x => x.latchPoison (some loc))) 5 0 0
              (globalHere (sramMla c.key off)) loc
          | none => .done (r.1.setP c (fRd w % 8) (BitVec.ofNat 64 (leNat r.2.1)))
        | .bad cause => memTrap s c 0 cause (globalHere (mlaOf a))
        | .far => memTrap s c 0 2 (globalHere (mlaOf a))) s

/-- STP. -/
def execStp (c : CtxId) (w : Low56) (s : State) : Out :=
  issue c w false (fun _ => namedOnly [(49, 42), (31, 0)] w) (waitsOn c [.p (fRd w % 8), .g (fRa w)])
    (fun s =>
      let b := s.g c (fRa w)
      if b.poison then poisonUse s c 0
      else
        let a := effAddr b.val (fOff w)
        match ownAccess c a 8 with
        | .near off => .done (s.storeNear c off (leBytes 8 (s.pr c (fRd w % 8)).toNat) false)
        | .bad cause => memTrap s c 0 cause (globalHere (mlaOf a))
        | .far => memTrap s c 0 2 (globalHere (mlaOf a))) s

/-- Lane `i` of a vector value. -/
def lane (v : BitVec 2048) (i : Nat) : Nat := fieldAt 32 v.toNat i

/-- A vector value from 64 lanes. -/
def ofLanes (l : List Nat) : BitVec 2048 := BitVec.ofNat 2048 (packFields 32 l)

/-- A result put in flight (R149): VECTOR_COMPLETE writes it. -/
def State.pend (s : State) (c : CtxId) (p : VecPend) : State :=
  s.updCtx c.key c.ctx.val (fun x => { x with vecPend := x.vecPend ++ [p] })

/-- The masked merge of R167: lane `i` is written where bit `i` of M is 1; a group is poisoned when a written lane of it
is, or an unwritten lane was. -/
def mergeLanes (m : Word) (old new : VReg) : VReg :=
  let wr (q : Nat) : Nat := fieldAt 16 m.toNat q
  { val := ofLanes (tabulate 64 (fun i => if m.getLsbD i then lane new.val i else lane old.val i))
    poison := BitVec.ofNat 4 (packFields 1 (tabulate 4 (fun q =>
      b2n ((wr q != 0 && new.poison.getLsbD q) || (wr q != 0xFFFF && old.poison.getLsbD q))))) }

/-- VLD: 256 bytes and their four poison bits. -/
def execVld (c : CtxId) (w : Low56) (s : State) : Out :=
  issue c w true (fun _ => namedOnly [(51, 42), (31, 0)] w) (waitsOn c [.v (fRd w), .g (fRa w)])
    (fun s =>
      let b := s.g c (fRa w)
      if b.poison then poisonUse s c 1
      else
        let a := effAddr b.val (fOff w)
        match ownAccess c a 256 with
        | .near off =>
          let m := (s.ctx c.key c.ctx.val).mask w
          let base := sramMla c.key off
          if m = 0 then .done s
          else
            let r := s.touch base 256
            let new : VReg := ⟨BitVec.ofNat 2048 (leNat (memBytes r.1.mem base 256)),
              BitVec.ofNat 4 (packFields 1 (r.2.map (fun p => b2n p.2.isSome)))⟩
            let old := (r.1.ctx c.key c.ctx.val).vreg (fRd w)
            let t := r.1.updCtx c.key c.ctx.val (fun x => x.latchPoison (firstPoison r.2))
            .done (t.pend c ⟨[.v (fRd w) (mergeLanes m old new)], flNone⟩)
        | .bad cause => memTrap s c 1 cause (globalHere (mlaOf a))
        | .far => memTrap s c 1 2 (globalHere (mlaOf a))) s

/-- One group of 16 lanes stored: a poisoned group with an enabled lane poisons its granule (R58, R167); a group with
every lane enabled is one whole-granule write. -/
def storeGroup (c : CtxId) (off : Nat) (m : Word) (v : VReg) (s : State) (q : Nat) : State :=
  let a := sramMla c.key off + 64 * q
  let en := fieldAt 16 m.toNat q
  if en = 0 then s
  else if v.poison.getLsbD q then s.poisonGranule (a / 64) (s.latchLoc c)
  else if en = 0xFFFF then s.writeMem a (leBytes 64 (fieldAt 512 v.val.toNat q))
  else (List.range 16).foldl
    (fun t i => if en.testBit i then t.writeMem (a + 4 * i) (leBytes 4 (lane v.val (16 * q + i))) else t) s

/-- VST: the bytes of enabled lanes. -/
def execVst (c : CtxId) (w : Low56) (s : State) : Out :=
  issue c w true (fun _ => namedOnly [(51, 42), (31, 0)] w) (waitsOn c [.v (fRd w), .g (fRa w)])
    (fun s =>
      let b := s.g c (fRa w)
      if b.poison then poisonUse s c 1
      else
        let a := effAddr b.val (fOff w)
        match ownAccess c a 256 with
        | .near off =>
          let x := s.ctx c.key c.ctx.val
          .done ((List.range 4).foldl (storeGroup c off (x.mask w) (x.vreg (fRd w))) s)
        | .bad cause => memTrap s c 1 cause (globalHere (mlaOf a))
        | .far => memTrap s c 1 2 (globalHere (mlaOf a))) s

end Sys2Proof.Machine
end

