-- ==== Sys2Proof/Machine/Valve.lean ====
section
/-! DEFINITION. Chapter 09: opening and closing valves and host valves, adding to tally counters, and the wakes these
bring. Every row that signals is built from these. -/

namespace Sys2Proof.Machine

/-- Context `x` waits for `f` (R190). -/
def State.waitsFor (s : State) (k x : Nat) (f : WaitFor) : Bool :=
  (s.ctx k x).st == .waiting && (s.ctx k x).wait == some f

/-- Of two contexts that wait with C = 1, the one whose wait began earlier, context 0 on a tie (R279). -/
def State.closingWaiter (s : State) (k v : Nat) : Option Nat :=
  let w0 := s.waitsFor k 0 (.valve v true)
  let w1 := s.waitsFor k 1 (.valve v true)
  if w0 && w1 then
    (if (s.ctx k 1).waitBlk.since < (s.ctx k 0).waitBlk.since then some 1 else some 0)
  else if w0 then some 0 else if w1 then some 1 else none

/-- The wakes of an open valve (R279). -/
def State.wakeValve (s : State) (k v : Nat) : State :=
  let free (t : State) (x : Nat) : State := if t.waitsFor k x (.valve v false) then t.completeWait k x else t
  let s := free (free s 0) 1
  match s.closingWaiter k v with
  | some x => (s.completeWait k x).updCore k (fun c => c.setValve v { c.valve v with isOpen := false })
  | none => s

/-- The record of a valve after an opening (R278, R283, R290). -/
def Valve.opened (x : Valve) (src : Word) (time arr : Nat) (err : Bool) : Valve :=
  { isOpen := true
    opens := if x.isOpen then x.opens else (x.opens + 1) % 65536
    redundant := if x.isOpen then min 255 (x.redundant + 1) else x.redundant
    sigErr := err, src := src, time := time, arr := arr }

/-- A signal received with an error mark is counted for the die (Table 9-15). -/
def State.countSigErr (s : State) (k : Nat) (err : Bool) : State := if err then s.incObj .sigErrs (k / 256) else s

/-- VALVE OPENING: valve `v` of core `k` opens, its record is rewritten, its waiters wake (R278, R279, R290). -/
def State.openValve (s : State) (k v : Nat) (src : Word) (time : Nat) (err : Bool) : State :=
  ((s.updCore k (fun c => c.setValve v ((c.valve v).opened src time (s.dieGtc (k / 256)) err))).countSigErr k err).wakeValve k v

/-- A valve closes; its record stays (R290). -/
def State.closeValve (s : State) (k v : Nat) : State :=
  s.updCore k (fun c => c.setValve v { c.valve v with isOpen := false })

/-- Contexts whose TCWAIT on counter `t` is satisfied wake (R280). -/
def State.wakeTally (s : State) (k t : Nat) : State :=
  let val := ((s.core k).tally t).value
  let one (u : State) (x : Nat) : State :=
    match (u.ctx k x).st, (u.ctx k x).wait with
    | .waiting, some (.tally n th) => if n = t ∧ th.toNat ≤ val then u.completeWait k x else u
    | _, _ => u
  one (one s 0) 1

/-- A TALLY ADD, refused when it would pass 2^64 - 1 (R281): the state, and whether it was refused. A refusal is counted
and raises tally-wrap; else value and record change and satisfied waiters wake. -/
def State.addTally (s : State) (k t : Nat) (amount : Word) (src : Word) (time : Nat) (err : Bool) : State × Bool :=
  let x := (s.core k).tally t
  if 2 ^ 64 ≤ x.value + amount.toNat then
    let s := s.updCore k (fun c => c.setTally t { x with refused := min 255 (x.refused + 1) })
    let s := s.incObj .tallyRefused (k / 256)
    (s.raiseEvent 0x0302 t (k % 256) (s.coreLoc k 7), true)
  else
    let y : Tally := { x with value := x.value + amount.toNat, sigErr := err, src := src, time := time }
    ((((s.updCore k (fun c => c.setTally t y)).countSigErr k err)).wakeTally k t, false)

/-! ### Host valves (R286 to R289) -/

/-- Contexts that wait on host valve `h`: core key and context. -/
def State.hostWaiters (s : State) (h : Nat) : List (Nat × Nat) :=
  s.cores.flatMap (fun e => [0, 1].filterMap (fun x =>
    if (e.2.ctx x).st = .waiting ∧ (e.2.ctx x).wait = some (.hostValve h) then some (e.1, x) else none))

/-- HV_STATE (Table 9-3). -/
def State.hvState (s : State) (h : Nat) : Word :=
  let v := s.hostValve h
  BitVec.ofNat 64 (v.opens % 65536 * 2 ^ 48 + (s.hostWaiters h).length % 65536 * 2 ^ 32 + b2n v.notify * 8 + b2n v.isOpen)

/-- A host valve opens: every waiting context wakes; an opening by a core of a closed valve with NOTIFY 1 sends its
MSI-X message (R287, R288). -/
def State.openHostValve (s : State) (h : Nat) (src : Word) (time : Nat) (byCore : Bool) : State :=
  let v := s.hostValve h
  let y : HostValve := { v with
    isOpen := true, opens := if v.isOpen then v.opens else (v.opens + 1) % 65536, src := src, time := time, arr := s.gtc }
  let s := s.setHostValve h y
  let s := if byCore && v.notify && !v.isOpen then s.sendSource (145 + h) else s
  (s.hostWaiters h).foldl (fun t w => t.completeWait w.1 w.2) s

def State.closeHostValve (s : State) (h : Nat) : State := s.setHostValve h { s.hostValve h with isOpen := false }

/-- Aperture writes of context `x` of core `k` that host valve `h` still waits for (R288): not posted on the link of the
valve's message, or not known to be behind a flushing read on another link (its acknowledgement, log 22). One that is answered has
been acknowledged by its link, or has failed. -/
def State.hvCovers (s : State) (h k x : Nat) : List Nat :=
  let l := bitsOf (s.obj .vecMap 0 (145 + h)) 8 8
  (s.reqs.filter (fun r => decide (r.die * 256 + r.core = k) && decide (r.ctx = x) &&
    (match r.kind with | .store => true | _ => false) &&
    (match r.stage with | .answered _ _ _ => false | _ => true) && s.isHere (placeOf r.addr) &&
    (match regionOf (mlaOf r.addr) with | .aperture _ => true | _ => false) &&
    !s.hst.apWrites.any (fun w => w.ref == r.id && w.posted && w.link == l))).map (fun r => r.id)

/-- HVSET, or a program store that opens (R287, R288): at once when nothing is to be waited for, else when the last
covered write is posted. -/
def State.coreOpensHost (s : State) (h k x : Nat) (pc : Pc) (time : Nat) : State :=
  let src := s.lsSrc k x 1 pc
  let cov := s.hvCovers h k x
  if cov.isEmpty then s.openHostValve h src time true
  else { s with hst := { s.hst with hvPend := s.hst.hvPend ++ [⟨h, src, time, cov⟩] } }

/-- An aperture write is posted or acknowledged: host-valve openings that waited for it alone take effect, in order. -/
def State.releaseHostValves (s : State) (ref : Nat) (posted : Option Nat) : State :=
  let step (t : State) (p : HvPend) : State :=
    let l := bitsOf (t.obj .vecMap 0 (145 + p.h)) 8 8
    let free := match posted with | some link => link == l | none => true
    let cov := if free then p.covers.filter (fun r => r != ref) else p.covers
    if cov.isEmpty then t.openHostValve p.h p.src p.time true
    else { t with hst := { t.hst with hvPend := t.hst.hvPend ++ [{ p with covers := cov }] } }
  s.hst.hvPend.foldl step { s with hst := { s.hst with hvPend := [] } }

end Sys2Proof.Machine
end

