-- ==== Sys2Proof/Machine/Stop.lean ====
section
/-! DEFINITION. Chapter 19: what job-stopping and module-removing events do (R586 to R592), and the copies of core records
that they and the hang census take (Table 9-13). -/

namespace Sys2Proof.Machine

/-- What a wait block names: state word, last signaller and its stamps (Table 9-13). -/
def State.waitedObject (s : State) (k : Nat) (b : WaitBlk) : List Word :=
  let c := s.core k
  match b.kind with
  | 1 => let v := c.valve b.index; [c.valveState b.index, v.src, BitVec.ofNat 64 v.time, BitVec.ofNat 64 v.arr]
  | 2 => let v := s.hostValve b.index; [s.hvState b.index, v.src, BitVec.ofNat 64 v.time, BitVec.ofNat 64 v.arr]
  | 3 => let t := c.tally b.index; [BitVec.ofNat 64 t.value, t.src, BitVec.ofNat 64 t.time, 0]
  | _ => [0, 0, 0, 0]

def State.waitWords (s : State) (k x : Nat) : List Word :=
  let b := (s.ctx k x).waitBlk
  [b.word, BitVec.ofNat 64 b.since, b.thresh, pcWord b.pc] ++ s.waitedObject k b

/-- A core record: 128 words (Table 9-13). -/
def State.coreRecord (s : State) (k : Nat) : List Word :=
  let c := s.core k
  fitTo 0 128
    ([s.ccbId k, c.ccbStat, c.ctxStat 0, c.ctxStat 1, pcWord c.c0.pc, pcWord c.c1.pc, BitVec.ofNat 64 (s.dieGtc (k / 256)), 0] ++
      s.waitWords k 0 ++ s.waitWords k 1 ++ (List.range 48).map c.valveState ++
      (List.range 16).map (fun t => BitVec.ofNat 64 (c.tally t).value) ++ (List.range 16).map c.tcStat)

/-- Every core record and host-valve record copied now, a fenced die's apart (Tables 9-10, 9-11, R302). Cores that
have never left their reset state are copied when the records are read, being the same. -/
def State.copyRecords (s : State) (fromStop : Bool) : State :=
  let keep (k : Nat) : Bool := match s.fencedDie with | some d => k / 256 != d | none => true
  { s with census := { s.census with
      recs := (s.cores.filter (fun e => keep e.1)).map (fun e => (e.1, s.coreRecord e.1))
      hvs := tabulate 256 (fun h =>
        let v := s.hostValve h
        (h, [s.hvState h, v.src, BitVec.ofNat 64 v.time, BitVec.ofNat 64 v.arr]))
      copied := true, fromStop := fromStop, snapFirst := s.gtc, snapLast := s.gtc } }

/-- Every Running or Waiting context of the module is halted. -/
def State.haltAll (s : State) : State :=
  s.cores.foldl (fun t e => (t.haltCtx e.1 0).haltCtx e.1 1) s

def State.mouth (s : State) (n : Nat) : Mouth := aget Mouth.zero s.mouths n
def State.setMouth (s : State) (n : Nat) (m : Mouth) : State := { s with mouths := aset Mouth.zero s.mouths n m }
def State.updMouth (s : State) (n : Nat) (f : Mouth → Mouth) : State := s.setMouth n (f (s.mouth n))
def State.bell (s : State) (n : Nat) : Bell := aget Bell.zero s.bells n
def State.setBell (s : State) (n : Nat) (b : Bell) : State := { s with bells := aset Bell.zero s.bells n b }
def State.updBell (s : State) (n : Nat) (f : Bell → Bell) : State := s.setBell n (f (s.bell n))

/-- Every mouthpiece walk stops as for PLAN_CMD 2 (12 R386). -/
def State.stopWalks (s : State) : State :=
  (List.range 48).foldl (fun t n => t.updMouth n (fun m => { m with running := false })) s

/-- Every bell stops taking egress and chunk entries. -/
def State.stopBells (s : State) : State :=
  (List.range 48).foldl (fun t n => t.updBell n (fun b => { b with stopped := true })) s

/-- An event body as LAST_STOP holds it (R589). -/
def State.setLastStop (s : State) (e : Event) : State :=
  e.bytes.zipIdx.foldl (fun t p => t.setObj .lastStop p.1.toNat 0 p.2) s

/-- A JOB-STOPPING EVENT `e` takes its class's action, in Running alone (R587, R589). `why` is 1 for a fault and 2 for a
census request, `data` what job-stopped carries. -/
def State.stopJob (s : State) (e : Event) (why : Nat) (data : Word) : State :=
  if s.obj .moduleState = 2 then
    let s := if s.census.copied then s else s.copyRecords true
    let s := (s.setObj .moduleState 4).setLastStop e
    ((s.raiseEvent 0x0105 why 0 data).haltAll.stopWalks).stopBells
  else s

/-- A MODULE-REMOVING EVENT `e` takes its class's action, in every state but Removed (R588, R589): records and halt unless
Starting, ports that are Up or Mismatch become Restricted. -/
def State.removeModule (s : State) (e : Event) : State :=
  let old := s.obj .moduleState
  if old = 5 then s
  else
    let s := if old = 0 ∨ s.census.copied then s else s.copyRecords true
    let s := (s.setObj .moduleState 5).setLastStop e
    let s := s.raiseEvent 0x0106 old 0 (BitVec.ofNat 64 e.seq)
    let s := if old = 0 then s else s.haltAll.stopWalks.stopBells
    s.ports.foldl (fun t p => if p.2.st = 2 ∨ p.2.st = 3 then t.updPort p.1 (fun q => { q with st := 5 }) else t) s

/-- An event raised and the action of its class taken (R584). A merged event takes none. -/
def State.raiseActAs (s : State) (code outcome a8 a16 : Nat) (data : Word) : State :=
  let s := s.raiseAs code outcome a8 a16 data
  match outcome, s.lastEvent with
  | 5, some e => s.stopJob e 1 (BitVec.ofNat 64 e.seq)
  | 6, some e => s.removeModule e
  | _, _ => s

def State.raiseAct (s : State) (code a8 a16 : Nat) (data : Word) : State :=
  s.raiseActAs code (eventClass code) a8 a16 data

/-- The class of a context stop's cause (R586). -/
def stopClass (cause : Nat) : Nat := if cause == 8 || cause == 0xB || cause == 0xC then 5 else 4

/-- SUPERVISOR_STOP_REPORT (R77, R586): the die supervisor reports a stop that it has not reported; causes 0x0B and 0x0C
are counted under source 15 and the core is fenced (R87). -/
def execSupervisorStopReport (c : CtxId) (s : State) : Out :=
  let k := c.key
  let x := s.ctx k c.ctx.val
  if x.stopReport = false then .next s
  else
    let s := s.updCtx k c.ctx.val (fun y => { y with stopReport := false })
    -- the report goes to the MMC in W4 (10 R316)
    let s := s.post 5 1 (supEndp c.die.val) mmcEndp
    let core := x.excCause == 0xB || x.excCause == 0xC
    let s := if core then
        -- the physical core goes out of service, once (Table 3-16)
        let s := if (s.core k).fenced.isNone then s.incObj .coresFenced else s
        (s.countErr x.excLoc 15 (x.excCause - 0xB)).updCore k (fun d => { d with fenced := some x.excCause })
      else s
    .next (s.raiseActAs 0x0301 (stopClass x.excCause) (c.ctx.val * 128 + x.excCause % 128) k x.excLoc)

/-- The body that Table 19-4 gives an event of class 5 or 6 (19 R602): the locator its row names, or a value with bit 63 zero;
ARG8 and ARG16 are zero where the row names nothing. -/
def eventBodyOk (code a8 a16 : Nat) (data : Word) : Bool :=
  let plain := !data.getLsbD 63
  let none16 := a16 == 0
  let none8 := a8 == 0 && none16
  match code with
  | 0x0102 => locatorOk data && decide (a8 ≤ 8) && none16
  | 0x0103 => locatorOk data && decide (1 ≤ a8 ∧ a8 ≤ 8) && none16
  | 0x0105 => plain && decide (1 ≤ a8 ∧ a8 ≤ 2) && none16
  | 0x0106 => plain && decide (a8 ≤ 4) && none16
  | 0x0301 => locatorOk data && decide (a16 < 12288)
  | 0x0401 => locatorIn 8 1 4 data && none8
  | 0x0808 => decide (data.toNat < 256) && decide (a8 ≤ 3) && none16
  | 0x080B => locatorIn 5 8 11 data && none8
  | 0x080C => locatorOk data && none8
  | 0x0901 => locatorIn 5 15 15 data && none8
  | 0x0902 => locatorIn 4 2 2 data && none8
  | 0x0905 => locatorIn 4 3 3 data && none16
  | 0x090A => plain && decide (1 ≤ a8 ∧ a8 ≤ 3) && none16
  | _ => plain || locatorOk data

/-- JOB_STOPPING_EVENT: a job-stopping fault is reported to the MMC, with the code and fields of Table 19-4; a core-stop of
cause 0x08, 0x0B or 0x0C is one too (R586). A code of another class, or a body that its row does not give (R602), is no such
event and has no effect. -/
def execJobStoppingEvent (code : BitVec 16) (a8 : BitVec 8) (a16 : BitVec 16) (data : Word) (s : State) : Out :=
  let n := code.toNat
  if (eventClass n = 5 ∨ (n = 0x0301 ∧ stopClass (a8.toNat % 128) = 5)) ∧ eventBodyOk n a8.toNat a16.toNat data = true then
    .next (s.raiseActAs n 5 a8.toNat a16.toNat data)
  else .next s

/-- MODULE_REMOVING_EVENT: a module-removing fault is reported to the MMC. -/
def execModuleRemovingEvent (code : BitVec 16) (a8 : BitVec 8) (a16 : BitVec 16) (data : Word) (s : State) : Out :=
  if eventClass code.toNat = 6 ∧ eventBodyOk code.toNat a8.toNat a16.toNat data = true then .next (s.raiseActAs code.toNat 6 a8.toNat a16.toNat data) else .next s

end Sys2Proof.Machine
end

