-- ==== Sys2Proof/Machine/SyncInstr.lean ====
section
/-! DEFINITION. The synchronisation and fipple instructions, opcodes 0xC0 to 0xCC, 0xD0 and 0xD1 (Table 6-12, R278 to
R288, R237). -/

namespace Sys2Proof.Machine

/-- Legality of a Y-format instruction: only the named fields, and a valve field of 0 to 47 where one is named. -/
def yLegal (fs : List (Nat × Nat)) (valve : Bool) (w : Low56) : Bool :=
  namedOnly fs w && (!valve || decide (fYv w < 48))

/-- The last-signaller word of an instruction of this context. -/
def State.lsOf (s : State) (c : CtxId) (kind : Nat) : Word := s.lsSrc c.key c.ctx.val kind (s.ctx c.key c.ctx.val).pc

/-- VOPEN: opens an own valve; every earlier load and store of the context has been made (R70, R72). -/
def execVopen (c : CtxId) (w : Low56) (s : State) : Out :=
  issue c w false (fun _ => yLegal [(51, 46)] true w) (fun _ => false)
    (fun s => .done (s.openValve c.key (fYv w) (s.lsOf c 1) (s.dieGtc c.die.val) false)) s

/-- VCLOSE. -/
def execVclose (c : CtxId) (w : Low56) (s : State) : Out :=
  issue c w false (fun _ => yLegal [(51, 46)] true w) (fun _ => false) (fun s => .done (s.closeValve c.key (fYv w))) s

/-- VWAIT: completes on an open valve, closing it when C = 1; else the context enters Waiting (R190, R279). -/
def execVwait (c : CtxId) (w : Low56) (s : State) : Out :=
  issue c w false (fun _ => yLegal [(51, 46), (23, 23)] true w) (fun _ => false)
    (fun s =>
      if ((s.core c.key).valve (fYv w)).isOpen then
        .done (if fYc w then s.closeValve c.key (fYv w) else s)
      else .wait (s.enterWait c.key c.ctx.val (.valve (fYv w) (fYc w)) 1 (b2n (fYc w)) (fYv w) 0)) s

/-- VTEST: g[rb] = 1 when open. -/
def execVtest (c : CtxId) (w : Low56) (s : State) : Out :=
  issue c w false (fun _ => yLegal [(51, 46), (40, 36)] true w) (waitsOn c [.g (fYrb w)])
    (fun s => .done (s.setG c (fYrb w) ⟨if ((s.core c.key).valve (fYv w)).isOpen then 1 else 0, false⟩)) s

/-! ### Host valves -/

/-- HVSET (R287, R288). -/
def execHvset (c : CtxId) (w : Low56) (s : State) : Out :=
  issue c w false (fun _ => yLegal [(35, 28)] false w) (fun _ => false)
    (fun s => .done (s.coreOpensHost (fYh w) c.key c.ctx.val (s.ctx c.key c.ctx.val).pc (s.dieGtc c.die.val))) s

/-- HVCLR. -/
def execHvclr (c : CtxId) (w : Low56) (s : State) : Out :=
  issue c w false (fun _ => yLegal [(35, 28)] false w) (fun _ => false) (fun s => .done (s.closeHostValve (fYh w))) s

/-- HVWAIT. -/
def execHvwait (c : CtxId) (w : Low56) (s : State) : Out :=
  issue c w false (fun _ => yLegal [(35, 28)] false w) (fun _ => false)
    (fun s =>
      if (s.hostValve (fYh w)).isOpen then .done s
      else .wait (s.enterWait c.key c.ctx.val (.hostValve (fYh w)) 2 0 (fYh w) 0)) s

/-- HVTEST. -/
def execHvtest (c : CtxId) (w : Low56) (s : State) : Out :=
  issue c w false (fun _ => yLegal [(35, 28), (40, 36)] false w) (waitsOn c [.g (fYrb w)])
    (fun s => .done (s.setG c (fYrb w) ⟨if (s.hostValve (fYh w)).isOpen then 1 else 0, false⟩)) s

/-! ### Tally counters -/

/-- TCADD: a sum above 2^64 - 1 is refused with cause 0x07 (R281). -/
def execTcadd (c : CtxId) (w : Low56) (s : State) : Out :=
  issue c w false (fun _ => yLegal [(45, 41), (27, 24)] false w) (waitsOn c [.g (fYra w)])
    (fun s =>
      let a := s.g c (fYra w)
      if a.poison then poisonUse s c 0
      else
        let r := s.addTally c.key (fYtc w) a.val (s.lsOf c 1) (s.dieGtc c.die.val) false
        if r.2 then .trap r.1 7 7 0 0 0 else .done r.1) s

/-- TCWAIT. -/
def execTcwait (c : CtxId) (w : Low56) (s : State) : Out :=
  issue c w false (fun _ => yLegal [(45, 41), (27, 24)] false w) (waitsOn c [.g (fYra w)])
    (fun s =>
      let a := s.g c (fYra w)
      if a.poison then poisonUse s c 0
      else if a.val.toNat ≤ ((s.core c.key).tally (fYtc w)).value then .done s
      else .wait (s.enterWait c.key c.ctx.val (.tally (fYtc w) a.val) 3 0 (fYtc w) a.val)) s

/-- TCRD. -/
def execTcrd (c : CtxId) (w : Low56) (s : State) : Out :=
  issue c w false (fun _ => yLegal [(40, 36), (27, 24)] false w) (waitsOn c [.g (fYrb w)])
    (fun s =>
      .done (s.setG c (fYrb w) ⟨BitVec.ofNat 64 ((s.core c.key).tally (fYtc w)).value, false⟩)) s

/-! ### Remote signals and the fipple path -/

/-- Two global addresses name the same module (R42). -/
def State.samePlace (s : State) (a b : Word) : Bool :=
  (s.isHere (placeOf a) && s.isHere (placeOf b)) || placeOf a == placeOf b

/-- Two global addresses lie in the window of the same core. -/
def State.sameCore (s : State) (a b : Word) : Bool := s.samePlace a b && mlaOf a / 2 ^ 22 == mlaOf b / 2 ^ 22

/-- A remote write that is a signal (09 "Remote signals"). -/
def ReqKind.signal : ReqKind → Bool
  | .fipple v => v != 63
  | .valveSet _ => true
  | .tallyAdd _ _ => true
  | _ => false

/-- The writes a new signal to `a` covers (R282): those to the same module that the context issued after its previous
signal there, or since it was last started, and that are not acknowledged yet. -/
def State.coversOf (s : State) (c : CtxId) (a : Word) : List Nat :=
  let ws := (s.remoteWrites c).filter (fun r => s.samePlace r.addr a)
  let last := (ws.filter (fun r => r.kind.signal)).foldl (fun m r => max m (r.id + 1)) 0
  let first := max last (s.ctx c.key c.ctx.val).startId
  (ws.filter (fun r => decide (first ≤ r.id))).map (fun r => r.id)

/-- A signal put in the context's queue of remote writes (R282, R283); it carries an error mark from the start when a
write it covers has already failed. -/
def State.addSignal (s : State) (c : CtxId) (kind : ReqKind) (a : Word) (size : Nat) (data : List (BitVec 8))
    (poison : Option Word) : State :=
  let place := if s.isHere (placeOf a) then 0xFFFFFF else placeOf a
  let mark := (s.ctx c.key c.ctx.val).failedTo.contains place
  let cov := s.coversOf c a
  let t := s.addReq c kind a size data poison .queued cov
  { t.updCtx c.key c.ctx.val (fun x => { x with failedTo := x.failedTo.filter (fun p => p != place) }) with
    reqs := t.reqs.map (fun r => if r.id = s.nextId then { r with errMark := mark } else r) }

/-- The check of a signal's or a delivery's target: a core's window on this module, or any well-formed place (R172,
Table 6-2). -/
def State.targetBad (s : State) (a : Word) (n : Nat) : Bool :=
  placeMalformed (placeOf a) ||
  (s.isHere (placeOf a) &&
    (match s.region (mlaOf a) with | .sram _ off => decide (2 ^ 22 < off + n) | _ => true))

/-- VSETR. -/
def execVsetr (c : CtxId) (w : Low56) (s : State) : Out :=
  issue c w false (fun _ => yLegal [(51, 46), (45, 41)] true w) (waitsOn c [.g (fYra w)])
    (fun s =>
      let a := s.g c (fYra w)
      if a.poison then poisonUse s c 0
      else if s.targetBad a.val 1 then memTrap s c 0 2 a.val
      else if 32 ≤ (s.remoteWrites c).length then .stall
      else .done (s.addSignal c (.valveSet (fYv w)) a.val 0 [] none)) s

/-- TCADDR. -/
def execTcaddr (c : CtxId) (w : Low56) (s : State) : Out :=
  issue c w false (fun _ => yLegal [(45, 41), (40, 36), (27, 24)] false w) (waitsOn c [.g (fYra w), .g (fYrb w)])
    (fun s =>
      let a := s.g c (fYra w)
      let b := s.g c (fYrb w)
      if a.poison || b.poison then poisonUse s c 0
      else if s.targetBad a.val 1 then memTrap s c 0 2 a.val
      else if 32 ≤ (s.remoteWrites c).length then .stall
      else .done (s.addSignal c (.tallyAdd (fYtc w) b.val) a.val 0 [] none)) s

/-- The unsent entries of a core's fipple send queue, those of one context, and whether a context can add one (R237). -/
def State.fippleQueue (s : State) (k : Nat) : List Req :=
  s.reqs.filter (fun r => decide (r.die * 256 + r.core = k) && r.stage == .queued &&
    (match r.kind with | .fipple _ => true | _ => false))

def State.fippleRoom (s : State) (k x : Nat) : Bool :=
  let q := s.fippleQueue k
  let n (y : Nat) : Nat := (q.filter (fun r => r.ctx == y)).length
  decide (n x < 4) || decide ((n 0 - 4) + (n 1 - 4) < 8)

/-- Valve field of F format: 0 to 47, or 63 for none. -/
def fLegal (fs : List (Nat × Nat)) (w : Low56) : Bool := namedOnly fs w && (decide (fFv w < 48) || fFv w == 63)

/-- A transfer that leaves its 64-byte granule (R171). -/
def crossesGranule (a : Word) (n : Nat) : Bool := decide (64 < a.toNat % 64 + n)

/-- The entry made by FSEND and FSENDR: a signal when it names a valve. -/
def State.addFipple (s : State) (c : CtxId) (a : Word) (v : Nat) (bs : List (BitVec 8)) (poison : Option Word) : State :=
  if v = 63 then s.addReq c (.fipple 63) a bs.length bs poison .queued []
  else s.addSignal c (.fipple v) a bs.length bs poison

/-- The checks that both forms make of their destination. -/
def fippleDest (s : State) (c : CtxId) (a : Word) (n : Nat) (body : Body) : Body :=
  if s.targetBad a n then memTrap s c 0 2 a
  else if a.toNat % 8 ≠ 0 ∨ crossesGranule a n then memTrap s c 0 3 a
  else if 32 ≤ (s.remoteWrites c).length || !s.fippleRoom c.key c.ctx.val then .stall
  else body

/-- FSEND: the source bytes are copied at issue; a poisoned source granule is sent as poison with the locator it holds
(R188, R237, R253). -/
def execFsend (c : CtxId) (w : Low56) (s : State) : Out :=
  issue c w false (fun _ => fLegal [(51, 47), (46, 42), (41, 39), (38, 33)] w) (waitsOn c [.g (fFra w), .g (fFrb w)])
    (fun s =>
      let a := s.g c (fFra w)
      let b := s.g c (fFrb w)
      let n := 8 * fFlen w
      if a.poison || b.poison then poisonUse s c 0
      else
        match ownAccess c a.val 8 with
        | .near off =>
          if crossesGranule a.val n then memTrap s c 0 3 (globalHere (mlaOf a.val))
          else fippleDest s c b.val n
            (let r := s.readMem (sramMla c.key off) n
             .done (r.1.addFipple c b.val (fFv w) r.2.1 r.2.2))
        | .bad cause => memTrap s c 0 cause (globalHere (mlaOf a.val))
        | .far => memTrap s c 0 2 (globalHere (mlaOf a.val))) s

/-- FSENDR: the 8 bytes of a register; len-1 must be 0. -/
def execFsendr (c : CtxId) (w : Low56) (s : State) : Out :=
  issue c w false (fun _ => fLegal [(51, 47), (46, 42), (38, 33)] w) (waitsOn c [.g (fFra w), .g (fFrb w)])
    (fun s =>
      let a := s.g c (fFra w)
      let b := s.g c (fFrb w)
      if a.poison || b.poison then poisonUse s c 0
      else fippleDest s c b.val 8 (.done (s.addFipple c b.val (fFv w) (leBytes 8 a.val.toNat) none))) s

end Sys2Proof.Machine
end

