-- ==== Sys2Proof/Machine/PoolAccess.lean ====
section
/-! DEFINITION. Chapter 08: pool pages as every access meets them (R257 to R265). -/

namespace Sys2Proof.Machine

/-- The handle of the page that an MLA lies in: a stacked page or a host page (R257). -/
def handleOf (mla : Nat) : Option Nat :=
  match regionOf mla with
  | .stack d off => some (d * 2 ^ 24 + off / 0x40000)
  | .aperture off => some (2 ^ 30 + off / 0x40000)
  | _ => none

/-- The MLA at which a page starts (R257). -/
def pageMla (h : Nat) : Nat :=
  if h < 2 ^ 30 then h / 2 ^ 24 % 64 * 2 ^ 32 + h % 2 ^ 14 * 0x40000 else 0x4000000000 + h % 2 ^ 20 * 0x40000

/-- A handle is well formed: tier 0 or 1, reserved bits zero, die and page in range. -/
def handleOk (h : Nat) : Bool :=
  if h < 2 ^ 30 then decide (h / 2 ^ 24 < 48) && decide (h % 2 ^ 24 < 12288)
  else decide (h < 2 ^ 30 + 2 ^ 20)

/-- Whether a page lies in the pool (R258). -/
def State.inPool (s : State) (h : Nat) : Bool :=
  if h < 2 ^ 30 then
    let d := h / 2 ^ 24
    let p := h % 2 ^ 24
    decide (s.obj .poolFirst d ≤ p) && decide (p < s.obj .poolFirst d + s.obj .poolCount d)
  else
    let p := h % 2 ^ 20
    decide (s.obj .hostPoolFirst ≤ p) && decide (p < s.obj .hostPoolFirst + s.obj .hostPoolCount)

/-- GTC[63:16], as stamps hold it (R260). -/
def State.stampNow (s : State) : Nat := s.gtc / 65536

/-- The granule of a page that an address lies in, as the dirty bitmap counts it: 256 payload bytes each (R268). -/
def pageGranule (mla : Nat) : Nat := mla % 0x40000 / 256

/-- A write to a moving page marks the payload and scale granules already copied (R268). -/
def State.noteDirty (s : State) (h mla n : Nat) : State :=
  match s.move with
  | some m =>
    if m.src = h then
      let gs := (List.range ((mla % 256 + n + 255) / 256)).map (fun i => pageGranule mla + i)
      let gs := gs ++ [1024 + mla % 0x40000 / 8192]
      let new := gs.filter (fun g => decide (g < m.copied) && !m.dirty.contains g)
      { s with move := some { m with dirty := m.dirty ++ new } }
    else s
  | none => s

/-- AN ACCESS MEETS THE POOL (R262, R263, R265): the state after stamping, and the MLA at which it is served, none when it
is refused (and counted). `stamp` is false for die supervisors, the MMC and move copies. -/
def State.poolAccess (s : State) (mla n : Nat) (write stamp : Bool) : State × Option Nat :=
  match handleOf mla with
  | none => (s, some mla)
  | some h =>
    if s.inPool h = false then (s, some mla)
    else
      let use (t : State) (h' mla' : Nat) : State × Option Nat :=
        let p := t.page h'
        if write && p.rdonly then (t.incObj .poolRefusals, none)
        else
          let t := if stamp then t.setPage h' { p with lastUse := t.stampNow } else t
          let t := if write then t.noteDirty h' mla' n else t
          (t, some mla')
      match (s.page h).st with
      | .resident => use s h mla
      | .moving => use s h mla
      | .forwarding =>
        let d := (s.page h).fwd
        use (s.incObj .fwdAccesses) d (pageMla d + mla % 0x40000)
      | _ => (s.incObj .poolRefusals, none)

end Sys2Proof.Machine
end

