-- ==== Sys2Proof/Machine/HostBase.lean ====
section
/-! DEFINITION. Chapter 14: launch queues, the host aperture and the hub registers as every requester reaches them
(R450 to R457). -/

namespace Sys2Proof.Machine

def State.lq (s : State) (q : Nat) : LaunchQ := aget LaunchQ.zero s.hst.queues q

def State.setLq (s : State) (q : Nat) (v : LaunchQ) : State :=
  { s with hst := { s.hst with queues := aset LaunchQ.zero s.hst.queues q v } }

/-- Fields of LQ_CFG (Table 14-3). -/
def State.lqEn (s : State) (q : Nat) : Bool := (s.obj .lqCfg q 0).testBit 63
def State.lqLink (s : State) (q : Nat) : Nat := bitsOf (s.obj .lqCfg q 0) 62 62
def State.lqIen (s : State) (q : Nat) : Bool := (s.obj .lqCfg q 0).testBit 61
def State.lqCore (s : State) (q : Nat) : Nat := bitsOf (s.obj .lqCfg q 0) 55 40
def State.lqValve (s : State) (q : Nat) : Nat := bitsOf (s.obj .lqCfg q 0) 39 34
def State.lqSize (s : State) (q : Nat) : Nat := bitsOf (s.obj .lqCfg q 0) 16 0

/-- `b - a` modulo 2^32. -/
def sub32 (b a : Nat) : Nat := (b + 2 ^ 32 - a % 2 ^ 32) % 2 ^ 32

/-- A store to LQ_CI (R455): one that does not advance CI, or advances it beyond LQ_PI, is ignored and counted. -/
def State.lqCiStore (s : State) (q v : Nat) : State :=
  let x := s.lq q
  let d := sub32 v x.ci
  if 1 ≤ d ∧ d ≤ sub32 x.pi x.ci then s.setLq q { x with ci := v % 2 ^ 32 } else s.incObj .doorbellRefused

/-- A store to LQ_CPI (R456). -/
def State.lqCpiStore (s : State) (q v : Nat) : State := s.setLq q { s.lq q with cpi := v % 2 ^ 32 }

/-- A module-side register of a launch queue (Table 14-4). -/
def State.lqRead (s : State) (off : Nat) : Nat :=
  let q := off / 0x100
  let x := s.lq q
  if 128 ≤ q then 0
  else match off % 0x100 with
    | 0x00 => x.pi
    | 0x08 => x.ci
    | 0x10 => x.cpi
    | 0x18 => x.hcopy * 2 ^ 32 + b2n x.waitHost * 2 + b2n (s.lqEn q)
    | _ => 0

/-- The GTC block (16 Table 16-6). -/
def State.gtcRead (s : State) (off : Nat) : Nat :=
  let t := s.time
  match off with
  | 0x00 => s.gtc % 2 ^ 64
  | 0x08 => b2n t.hold * 2
  | 0x10 => wrap 64 t.theta
  | 0x18 => wrap 32 t.rho
  | 0x28 => t.steps % 2 ^ 32 * 2 ^ 32 + t.dist % 256 * 2 ^ 16 + t.parent % 64 * 16 + s.obj .timeSync % 16
  | _ => 0

/-- A word of the host-valve block (R286). -/
def State.hvRead (s : State) (off : Nat) : Nat :=
  if off % 16 = 0 then (s.hvState (off / 16)).toNat else if off % 16 = 8 then (s.hostValve (off / 16)).src.toNat else 0

/-- A program's store to HV_STATE (Table 9-3): CLOSE acts before OPEN; NOTIFY is ignored. -/
def State.hvProgWrite (s : State) (h k x : Nat) (pc : Pc) (time v : Nat) : State :=
  let s := if v.testBit 1 then s.closeHostValve h else s
  if v.testBit 0 then s.coreOpensHost h k x pc time else s

/-- The host's, a die supervisor's or the MMC's write to HV_STATE: NOTIFY as well (R287, R289). -/
def State.hvHubWrite (s : State) (h kind v : Nat) : State :=
  let s := s.setHostValve h { s.hostValve h with notify := v.testBit 3 }
  let s := if v.testBit 1 then s.closeHostValve h else s
  if v.testBit 0 then s.openHostValve h (s.lsHub kind) s.gtc false else s

/-! ### The aperture (R450, R452) -/

/-- Reads of a link outstanding; each link keeps at most 2,048 (R452). -/
def State.apReadsOn (s : State) (l : Nat) : Nat := (s.hst.apReads.filter (fun r => r.link == l)).length

def State.addApRead (s : State) (w : ApWho) (l addr size : Nat) : State :=
  { s with hst := { s.hst with apReads := s.hst.apReads ++ [ApRead.mk w l addr size s.gtc] } }

/-- An aperture write is handed to its link as posted TLPs (R288, R452). -/
def State.addApWrite (s : State) (ref l addr : Nat) (bs : List (BitVec 8)) : State :=
  ({ s with hst := { s.hst with apWrites := s.hst.apWrites ++ [ApWrite.mk ref l true addr bs] } }).releaseHostValves ref (some l)

/-- Payload and scale bytes go to host memory: the payload to `ha`, the scale bytes to the link's scale region (R451). -/
def State.addApTile (s : State) (ref l ha off : Nat) (payload scales : List (BitVec 8)) : State :=
  if scales.isEmpty then s.addApWrite ref l ha payload
  else (s.addApWrite ref l ha payload).addApWrite ref l (s.obj .scaleHost l + off / 32) scales

/-- The poison patterns of the granules that [a, a + n) touches (R251, log 79). -/
def patternOver (a n : Nat) (loc : Word) : List (BitVec 8) := (granulesOf a n).flatMap (fun _ => patternBytes false loc)

/-- Bytes stored to host memory by a unit that waits for no answer (a die supervisor, the MMC, the host through a page that
has moved): handed to the link, or failed at once, and counted by kind (08 R255, R256). -/
def State.postToHost (s : State) (mla : Nat) (bs : List (BitVec 8)) : State :=
  match s.apTranslate (mla - 0x4000000000) with
  | none => s.incObj .tierFails 0 6
  | some (l, ha) => if (s.link l).up then let f := s.fresh; f.2.addApWrite f.1 l ha bs else s.incObj .tierFails 0 8

/-! ### Serving an access at its endpoint -/

/-- What an endpoint does with a request. -/
inductive Served where
  /-- served or refused here: the status of Table 11-12, the data and poison of a read. -/
  | done (s : State) (status : Nat) (data : List (BitVec 8)) (poison : Option Word)
  /-- it belongs to host memory, at this MLA. -/
  | host (s : State) (mla : Nat)

/-- A word read as the bytes asked for. -/
def wordBytes (v off n : Nat) : List (BitVec 8) := leBytes n (v / 2 ^ (8 * (off % 8)))

/-- The region of the memory behind an MLA refuses: its region is Off (10 R323) or its die's rails are off (19 R588). -/
def State.memoryOff (s : State) (r : Region) : Bool :=
  match r with
  | .stack d _ => s.pwr.darkDies.contains d
  | .sram k _ => s.regionOff k || s.pwr.darkDies.contains (k / 256)
  | .ccb k _ => s.regionOff k || s.pwr.darkDies.contains (k / 256)
  | _ => false

/-- A moving page holds newly arriving requests until the switch (R268). -/
def State.moveHolds (s : State) (r : Region) : Bool :=
  s.move.any (fun m => m.hold && (match r with
    | .stack d off => m.src == d * 2 ^ 24 + off / 0x40000
    | .aperture off => m.src == 2 ^ 30 + off / 0x40000
    | _ => false))

/-- An access waits at its endpoint: stacked-tier accesses while a new hash seed's zero fill runs (R49), and those to a page that a
move holds (R268). -/
def State.fillWaits (s : State) (r : Region) : Bool :=
  (s.fab.seedFill && (match r with | .stack _ _ => true | _ => false)) || s.moveHolds r

/-- A read of `n` bytes is served at its endpoint. `stamp` is false for die supervisors and the MMC (R265). -/
def State.serveRead (s : State) (mla n : Nat) (stamp : Bool) : Served :=
  let r := s.region mla
  if s.memoryOff r then .done s 2 [] none
  else match r with
    | .stack _ _ | .aperture _ =>
      match s.poolAccess mla n false stamp with
      | (t, none) => .done t 2 [] none
      | (t, some a) =>
        match regionOf a with
        | .aperture _ => .host t a
        | _ => let q := t.readMem a n; .done q.1 0 q.2.1 q.2.2
    | .sram _ _ => let q := s.readMem mla n; .done q.1 0 q.2.1 q.2.2
    | .ccb k off => .done s 0 (wordBytes (s.ccbRead k (off / 8 * 8)).toNat off n) none
    | .hostValves off => .done s 0 (wordBytes (s.hvRead (off / 8 * 8)) off n) none
    | .gtc off => .done s 0 (wordBytes (s.gtcRead (off / 8 * 8)) off n) none
    | .launch off => .done s 0 (wordBytes (s.lqRead (off / 8 * 8)) off n) none
    | _ => .done s 1 [] none

/-- Bytes and poison written to one of the two SRAM tiers: a poisoned value writes the poison pattern (R58). -/
def State.writeTier (s : State) (a : Nat) (bs : List (BitVec 8)) (poison : Option Word) : State :=
  match poison with
  | some loc => (granulesOf a bs.length).foldl (fun t g => t.poisonGranule g loc) (s.countBanks a bs.length)
  | none => s.writeMem a bs

/-- A write to memory is served at its endpoint: stacked tier, local SRAM or host memory. -/
def State.serveWrite (s : State) (mla : Nat) (bs : List (BitVec 8)) (poison : Option Word) (stamp : Bool) : Served :=
  let r := s.region mla
  if s.memoryOff r then .done s 2 [] none
  else match r with
    | .stack _ _ | .aperture _ =>
      match s.poolAccess mla bs.length true stamp with
      | (t, none) => .done t 2 [] none
      | (t, some a) =>
        match regionOf a with
        | .aperture _ => .host t a
        | _ => .done (t.writeTier a bs poison) 0 [] none
    | .sram _ _ => .done (s.writeTier mla bs poison) 0 [] none
    | _ => .done s 1 [] none

end Sys2Proof.Machine
end

