-- ==== Sys2Proof/Machine/Requests.lean ====
section
/-! DEFINITION. The way of a far access, a remote write and a signal from its queue to its endpoint and back (06 R173 to
R175, 07 R237 to R240, 08 R245, 09 R282 to R285, 10 R323). -/

namespace Sys2Proof.Machine

def State.findReq (s : State) (id : Nat) : Option Req := s.reqs.find? (fun r => r.id == id)

def State.dropReq (s : State) (id : Nat) : State := { s with reqs := s.reqs.filter (fun r => r.id != id) }

/-- The status that stands for a lost PCIe link, beside those of Table 11-12 (R255). -/
abbrev linkDown : Nat := 16

/-- The status that stands for a host read without a completion within TIMEOUT_HOST (R256, 14 R452). -/
abbrev hostLate : Nat := 17

/-- A request is answered at endpoint `e`: the answer is on its way back in W1. -/
def State.answerReq (s : State) (id status : Nat) (data : List (BitVec 8)) (poison : Option Word) (e : Endp) : State :=
  match s.findReq id with
  | none => s
  | some r =>
    (s.updReq id (fun q => { q with stage := .answered status data poison })).emit (id * 256 + 1) 1 1 (b2n poison.isSome) e
      (s.coreEndp r.key) false

/-- The request's leg is consumed at `e` and answered there. -/
def State.replyReq (s : State) (id status : Nat) (data : List (BitVec 8)) (poison : Option Word) (e : Endp) : State :=
  (s.consume (id * 256)).answerReq id status data poison e

/-- The tier of an address as TIER_FAILS and the timeouts count it: 0 this module, 1 another module, 2 host (R245, R256). -/
def State.tierOf (s : State) (a : Word) : Nat :=
  if s.isHere (placeOf a) = false then 1 else match regionOf (mlaOf a) with | .aperture _ => 2 | _ => 0

/-- A tier's timeout in ns (Table 8-2). -/
def State.tierTimeout (s : State) (tier : Nat) : Nat :=
  1000 * (match tier with | 0 => s.obj .timeoutModule | 1 => s.obj .timeoutRemote | _ => s.obj .timeoutHost)

/-- A failure counted by tier and kind: 0 refused, 1 timed out, 2 link down (R256). -/
def State.countTier (s : State) (a : Word) (kind : Nat) : State := s.incObj .tierFails 0 (s.tierOf a * 3 + kind)

/-- The packet that carries a request to another module (Table 11-9). -/
def Req.packet (r : Req) : Packet :=
  let p : Packet := { Packet.zero with
    dplace := placeOf r.addr, addr := mlaOf r.addr, sdie := r.die, slcore := r.core, sctx := r.ctx, spc := r.pc.toNat,
    sendt := r.sendTime, mark := r.errMark }
  let locs (n : Nat) : Nat := if r.poison.isSome then psnOf n (List.range ((n + 63) / 64)) else 0
  let body : List (BitVec 8) := match r.poison with
    | some l => fitTo 0 r.data.length (leBytes 8 l.toNat)
    | none => r.data
  match r.kind with
  | .load _ _ _ => { p with vc := 3, opc := 1, addr := mlaOf r.addr / 8 * 8, len := 8 }
  | .store => { p with vc := 1, opc := 3, len := r.size, content := body, psn := locs r.size }
  | .fipple v => { p with vc := 5, opc := 5, len := r.size, valve := v, content := body, psn := locs r.size }
  | .valveSet v => { p with vc := 5, opc := 6, valve := v }
  | .tallyAdd t n => { p with vc := 5, opc := 7, addr := mlaOf r.addr / 2 ^ 22 * 2 ^ 22 + t, len := 8,
                              content := leBytes 8 n.toNat }

/-- What an attachment does with a leg for another module (11 R358, R370): into the transmit buffer with a tag; to the attachment of
the port that is the next hop now; waiting for a tag; or unreachable. -/
inductive Handed where
  | sent (s : State)
  | moved (s : State)
  | waits
  | unreachable

/-- A leg `ref` of class `cls` that stands at the attachment `e` is handed to its Felun port; the packet names its source die. -/
def State.handOver (s : State) (ref : Nat) (leg : FabPkt) (tag : TagRef) (p : Packet) : Handed :=
  match s.wayTo leg.src p.sdie (BitVec.ofNat 64 (p.dplace * 2 ^ 40)) p.vc with
  | none => .unreachable
  | some e =>
    if e ≠ leg.dst then
      if s.canEmit leg.dst leg.cls then .moved ((s.consume ref).emit ref leg.cls leg.len leg.psn leg.dst e false) else .waits
    else match s.sendTagged tag p.sdie p with
      | .sent t => .sent (t.consume ref)
      | .unreachable => .unreachable
      | .full => .waits

/-- A request for another module at the attachment of its port. -/
def State.reqAway (s : State) (r : Req) (leg : FabPkt) : State :=
  match s.handOver (r.id * 256) leg (.req r.id) r.packet with
  | .sent t => t.updReq r.id (fun q => { q with stage := .away })
  | .moved t => t
  | .waits => s
  | .unreachable => s.replyReq r.id 3 [] none leg.dst

/-! ### Leaving the core -/

/-- The remote writes that a signal waits for: its context's earlier ones to the same module (R282). -/
def State.signalWaits (s : State) (r : Req) : Bool :=
  s.reqs.any (fun q => q.key == r.key && q.ctx == r.ctx && !q.dead && decide (q.id < r.id) && s.samePlace q.addr r.addr &&
    (match q.kind with | .load _ _ _ => false | _ => true))

/-- A request leaves its core now: on its way on this module, or to a Felun port. -/
def State.sendReq (s : State) (r : Req) : State :=
  let r := { r with sendTime := s.dieGtc r.die }
  let s := s.updReq r.id (fun q => { q with sendTime := r.sendTime })
  s.launch r

/-- REMOTE_SIGNAL_SEND: a waiting VSETR or TCADDR is sent once what it waits for is acknowledged (R282, R285). -/
def execRemoteSignalSend (id : Nat) (s : State) : Out :=
  match s.findReq id with
  | some r =>
    let signal := match r.kind with | .valveSet _ => true | .tallyAdd _ _ => true | _ => false
    if r.stage = .queued ∧ signal = true ∧ s.signalWaits r = false then .next (s.sendReq r) else .next s
  | none => .next s

/-- An entry of the fipple queue can be sent: a signal when its writes are acknowledged; none past an earlier entry or
waiting signal of the core to the same core (R240, R282). -/
def State.fippleReady (s : State) (r : Req) : Bool :=
  !(r.kind.signal && s.signalWaits r) &&
  !s.reqs.any (fun q => q.key == r.key && decide (q.id < r.id) && q.stage == .queued && s.sameCore q.addr r.addr)

/-- FIPPLE_QUEUE_SEND: the queue of core `k` sends its first entry that can be sent (R238, log 23). -/
def execFippleQueueSend (k : CoreId) (s : State) : Out :=
  match (s.fippleQueue k.key).find? (fun r => s.fippleReady r) with
  | some r =>
    let t := s.sendReq r
    let left := (t.findReq r.id).any (fun q => q.stage != .queued)
    .next (if left then t.incObj .fippleSent k.die.val else t)
  | none => .next s

/-! ### At the endpoint -/

/-- A packet for a core whose region sleeps is held, and the region's wake is requested (R323). -/
def State.holdForWake (s : State) (k id : Nat) : State :=
  let s := if s.pwr.held.contains id then s
    else ({ s with pwr := { s.pwr with held := id :: s.pwr.held } }).incObj .wakeHolds (k / 256)
  s.requestWake k

/-- The hub or a port's logic signals a valve: dropped where the region is Off, held while it sleeps (R323). -/
def State.signalCore (s : State) (k v : Nat) (src : Word) (time : Nat) : State :=
  if s.regionOff k then s
  else if s.asleep k then
    (({ s with pwr := { s.pwr with sigs := s.pwr.sigs ++ [⟨k, v, src, time⟩] } } : State).incObj .wakeHolds (k / 256)).requestWake k
  else s.openValve k v src time false

/-- The signals held for a region that has woken take effect, in their order. -/
def State.releaseSignals (s : State) (r : Nat) : State :=
  let mine := s.pwr.sigs.filter (fun g => regionOfCore g.core == r)
  mine.foldl (fun (t : State) g => t.openValve g.core g.valve g.src g.time false)
    { s with pwr := { s.pwr with sigs := s.pwr.sigs.filter (fun g => regionOfCore g.core != r) } }

/-- The last-signaller word of a request's instruction (Table 9-6). -/
def State.reqSrc (s : State) (r : Req) (kind : Nat) : Word := s.lsSrc r.key r.ctx kind r.pc

/-- An arriving delivery or signal at core `k`, whoever sent it: written, then the valve opened (R239), or the counter
added to. The status of Table 11-12. -/
def State.deliver (s : State) (k : Nat) (kind : ReqKind) (off : Nat) (bs : List (BitVec 8)) (poison : Option Word)
    (src : Word) (time : Nat) (err : Bool) : State × Nat :=
  if s.regionOff k then (s, 2)
  else match kind with
    | .fipple v =>
      let t := s.writeTier (sramMla k off) bs poison
      (if v < 48 then t.openValve k v src time err else t, 0)
    | .valveSet v => (s.openValve k v src time err, 0)
    | .tallyAdd tc n =>
      let r := s.addTally k tc n src time err
      (r.1, if r.2 then 4 else 0)
    | _ => (s, 1)

/-- A W3 packet of this module reaches its core (R239, R278, R281, R285), in the order its source sent them (10 R328). One that
its sender has given up changes nothing (R284, log 78). -/
def State.arriveSignal (s : State) (r : Req) (kind : Nat) : State :=
  match s.legFor (r.id * 256) 1 with
  | none => s
  | some leg =>
    if s.isHere (placeOf r.addr) = false then s
    else match s.region (mlaOf r.addr) with
      | .sram k off =>
        if s.asleep k then s.holdForWake k leg.ref
        else if r.late && r.kind.signal then s.replyReq r.id 2 [] none leg.dst
        else
          let t := s.deliver k r.kind off r.data r.poison (s.reqSrc r kind) r.sendTime r.errMark
          t.1.replyReq r.id t.2 [] none leg.dst
      | _ => s.replyReq r.id 1 [] none leg.dst

/-- FIPPLE_DELIVERY. -/
def execFippleDelivery (id : Nat) (s : State) : Out :=
  match s.findReq id with
  | some r =>
    let ok := match r.kind with | .fipple _ => true | _ => false
    if r.stage = .sent ∧ ok = true then .next (s.arriveSignal r 3) else .next s
  | none => .next s

/-- VALVE_OPEN_ARRIVE. -/
def execValveOpenArrive (id : Nat) (s : State) : Out :=
  match s.findReq id with
  | some r =>
    let ok := match r.kind with | .valveSet _ => true | _ => false
    if r.stage = .sent ∧ ok = true then .next (s.arriveSignal r 2) else .next s
  | none => .next s

/-- TALLY_ADD_ARRIVE. -/
def execTallyAddArrive (id : Nat) (s : State) : Out :=
  match s.findReq id with
  | some r =>
    let ok := match r.kind with | .tallyAdd _ _ => true | _ => false
    if r.stage = .sent ∧ ok = true then .next (s.arriveSignal r 2) else .next s
  | none => .next s

/-- What a store writes to host address `ha`: a poisoned value writes the poison pattern over its granule (R58, 08 R253). -/
def Req.hostWrite (r : Req) (ha : Nat) : Nat × List (BitVec 8) :=
  match r.poison with
  | none => (ha, r.data)
  | some l => (ha / 64 * 64, patternBytes false l)

/-- A far load or store goes on to host memory (R452), fails at once on a lost link (R255), or waits at the hub. -/
def State.reqToHost (s : State) (r : Req) (mla : Nat) (e : Endp) : State :=
  match s.apTranslate (mla - 0x4000000000) with
  | none => s.replyReq r.id 1 [] none e
  | some (l, ha) =>
    if (s.link l).up = false then s.replyReq r.id linkDown [] none e
    else match r.kind with
      | .load _ _ _ =>
        if 2048 ≤ s.apReadsOn l then s
        else ((s.consume (r.id * 256)).addApRead (.req r.id) l ha r.size).updReq r.id (fun q => { q with stage := .away })
      | _ => ((s.consume (r.id * 256)).updReq r.id (fun q => { q with stage := .away })).addApWrite r.id l (r.hostWrite ha).1
        (r.hostWrite ha).2

/-- A program's store to a register of this module: a CCB field, a host valve or a launch queue. -/
def State.progRegWrite (s : State) (r : Req) (reg : Region) : State :=
  let off := reg.off
  let v := leNat r.data * 2 ^ (8 * (off % 8))
  match reg with
  | .ccb k o => s.updCore k (fun c => c.plainWrite o (BitVec.ofNat 64 v))
  | .hostValves o => if o % 16 < 8 then s.hvProgWrite (o / 16) r.key r.ctx r.pc r.sendTime v else s
  | .launch o =>
    if o % 0x100 = 8 then s.lqCiStore (o / 0x100) v else if o % 0x100 = 0x10 then s.lqCpiStore (o / 0x100) v else s
  | _ => s

/-- A far load or store of this module reaches its endpoint and is served, refused or handed on. -/
def State.arriveScalar (s : State) (r : Req) : State :=
  let a := mlaOf r.addr
  match s.legFor (r.id * 256) 1 with
  | none => s
  | some leg =>
    let reg := s.region a
    let core := match reg with | .sram k _ => some k | .ccb k _ => some k | _ => none
    if core.any s.asleep then s.holdForWake (core.getD 0) leg.ref
    else if s.fillWaits reg then s
    else if s.memoryOff reg then s.replyReq r.id 2 [] none leg.dst
    else match r.kind with
      | .load _ _ _ =>
        (match s.serveRead a r.size true with
         | .done t st data p => t.replyReq r.id st data p leg.dst
         | .host t m => t.reqToHost r m leg.dst)
      | _ =>
        match reg with
        | .stack _ _ | .sram _ _ | .aperture _ =>
          (match s.serveWrite a r.data r.poison true with
           | .done t st _ _ => t.replyReq r.id st [] none leg.dst
           | .host t m => t.reqToHost r m leg.dst)
        | reg => (s.progRegWrite r reg).replyReq r.id 0 [] none leg.dst

/-! ### Back at the context -/

/-- A far load completes: the register takes the value, or a free value and poison where the access failed (R173, R254,
log 16). -/
def State.endLoad (s : State) (r : Req) (status : Nat) (data : List (BitVec 8)) (poison : Option Word) : State :=
  match r.kind with
  | .load rd sz sx =>
    if status = 0 then
      let v := loadValue (2 ^ sz) sx data
      (s.updCtx r.key r.ctx (fun x => (x.latchPoison poison).setG rd ⟨v, poison.isSome⟩)).settleStep r.key r.ctx
    else
      let d := s.draw
      let v := (Config.freeLane d.1).append (Config.freeLane (d.1 + 1))
      let s := { d.2 with draws := d.2.draws + 1 }
      (s.updCtx r.key r.ctx (fun x => (x.latchPoison (some 0)).setG rd ⟨v, true⟩)).settleStep r.key r.ctx
  | _ => s

/-- A remote write has failed (R174, R283): the context counts it, signals that cover it are marked, and a failed write
that no signal covers yet marks the next one. -/
def State.failWrite (s : State) (r : Req) : State :=
  let covered := s.reqs.any (fun q => q.covers.contains r.id)
  let place := if s.isHere (placeOf r.addr) then 0xFFFFFF else placeOf r.addr
  let s := { s with reqs := s.reqs.map (fun (q : Req) => if q.covers.contains r.id then { q with errMark := true } else q) }
  let s := s.updCtx r.key r.ctx (fun x => { x with
    remErr := x.remErr + 1
    failedTo := if covered || r.kind.signal || decide (r.id < x.startId) || x.failedTo.contains place then x.failedTo
      else place :: x.failedTo })
  match r.kind with
  | .fipple _ => s.incObj .fippleErrs r.die
  | _ => s

/-- The kind of failure a status stands for in TIER_FAILS. -/
def failKind (status : Nat) : Nat := if status = linkDown then 2 else if status = hostLate then 1 else 0

/-- An answer stands at the core: its packet, or without one. -/
def State.answerHome (s : State) (r : Req) : Bool := r.home || (s.standing (r.id * 256 + 1)).isSome

/-- FAR_LOAD_RESPONSE: an answer for a load that has timed out is discarded (R173). -/
def execFarLoadResponse (id : Nat) (s : State) : Out :=
  match s.findReq id with
  | some r =>
    (match r.kind, r.stage with
     | .load _ _ _, .answered st data poison =>
       if s.answerHome r = false then .next s else
       let s := (s.dropReq id).consume (id * 256 + 1)
       if r.dead then .next s
       else
         let s := if st = 0 then s else s.countTier r.addr (failKind st)
         .next (s.endLoad r st data poison)
     | _, _ => .next s)
  | none => .next s

/-- REMOTE_WRITE_ACK. -/
def execRemoteWriteAck (id : Nat) (s : State) : Out :=
  match s.findReq id with
  | some r =>
    (match r.kind, r.stage with
     | .load _ _ _, _ => .next s
     | _, .answered st _ _ =>
       if s.answerHome r = false then .next s else
       let s := ((s.dropReq id).consume (id * 256 + 1)).releaseHostValves id none
       if r.dead || st == 0 then .next s
       else .next ((if st = 4 then s else s.countTier r.addr (failKind st)).failWrite r)
     | _, _ => .next s)
  | none => .next s

/-- REQUEST_TIMEOUT: a far load or remote write without an answer within its tier's timeout ends as failed (R245); a load or store
that arrives later still acts at its endpoint, and its answer is discarded. -/
def execRequestTimeout (id : Nat) (s : State) : Out :=
  match s.findReq id with
  | some r =>
    let waits := match r.stage with | .queued => false | _ => !r.home
    if waits && !r.dead && decide (s.tierTimeout (s.tierOf r.addr) ≤ s.dieGtc r.die - r.sendTime) then
      let s := (s.updReq id (fun q => { q with dead := true, late := true })).countTier r.addr 1
      (match r.kind with
       | .load _ _ _ => .next (s.endLoad r 2 [] none)
       | _ => .next (s.failWrite r))
    else .next s
  | none => .next s

/-! ### SYNC_CMD and the host's openings (R289, R292) -/

/-- A write to SYNC_CMD of a core by the host (`host`), or by a die supervisor or the MMC: refused where the region is Off, and the
host's is counted (14 R449); it waits while the region sleeps (R323). -/
def syncWrite (k : Nat) (host : Bool) (s : State) (go : State → State) : Out :=
  if s.regionOff k then .next (if host then s.incObj .poolRefusals else s)
  else if s.asleep k then .next (s.holdForWake k (2 ^ 52 + k))
  else .next (go s)

/-- SYNC_OPEN_VALVE: a valve beyond 47 is refused. -/
def execSyncOpenValve (k : CoreId) (host : Bool) (v : BitVec 6) (s : State) : Out :=
  syncWrite k.key host s (fun s =>
    if v.toNat < 48 then s.openValve k.key v.toNat (s.lsHub (if host then 5 else 6)) s.gtc false else s.refuseCmd k.key)

/-- SYNC_CLOSE_VALVE; it does not say who writes, so a refusal is not counted (log 82). -/
def execSyncCloseValve (k : CoreId) (v : BitVec 6) (s : State) : Out :=
  syncWrite k.key false s (fun s => if v.toNat < 48 then s.closeValve k.key v.toNat else s.refuseCmd k.key)

/-- SYNC_ADD_COUNTER: adds SYNC_ARG; refused on wrap and for a counter beyond 15. -/
def execSyncAddCounter (k : CoreId) (host : Bool) (t : BitVec 6) (s : State) : Out :=
  syncWrite k.key host s (fun s =>
    if t.toNat < 16 then
      let r := s.addTally k.key t.toNat (s.core k.key).syncArg (s.lsHub (if host then 5 else 6)) s.gtc false
      if r.2 then r.1.refuseCmd k.key else r.1
    else s.refuseCmd k.key)

/-- HV_OPEN_WRITE: the host opens a host valve; its earlier posted writes on the link have been written (R289). -/
def execHvOpenWrite (h : Fin 256) (s : State) : Out := .next (s.openHostValve h.val (s.lsHub 5) s.gtc false)

/-- HV_CLOSE_WRITE. -/
def execHvCloseWrite (h : Fin 256) (s : State) : Out := .next (s.closeHostValve h.val)

/-- A context lends: Waiting at VWAIT, HVWAIT or TCWAIT for LEND_THRESH or longer (R295). -/
def State.lends (s : State) (k x : Nat) : Bool :=
  let c := s.ctx k x
  (match c.wait with | some (.fence _ _ _) => false | some _ => true | none => false) && c.st == .waiting &&
    decide (1000 * s.obj .lendThresh ≤ s.dieGtc (k / 256) - c.waitBlk.since)

/-- Whether a core's engines and vector unit run or hold nothing. -/
def Core.unitsIdle (c : Core) : Bool :=
  c.c0.vecPend.isEmpty && c.c1.vecPend.isEmpty && (c.queued 0).isEmpty && (c.queued 1).isEmpty &&
    (List.range 4).all (fun e => (c.run e).isEmpty)

/-- LENDING_START: both conditions of R295 hold, and the core does not lend yet. -/
def execLendingStart (k : CoreId) (s : State) : Out :=
  let c := s.core k.key
  let ok (x : Nat) : Bool := s.lends k.key x || c.quiet x
  if c.lendSince.isNone && ok 0 && ok 1 && c.unitsIdle then
    .next (s.updCore k.key (fun d => { d with lendSince := some s.gtc }))
  else .next s

end Sys2Proof.Machine
end

