-- ==== Sys2Proof/Machine/StreamTile.lean ====
section
/-! DEFINITION. Chapter 07: what a stream asks for, how a tile is converted on the way, and how tiles are presented,
completed and failed (R201 to R208, R220, R226 to R228). -/

namespace Sys2Proof.Machine

/-! ### Ring tiles and memory tiles (R205) -/

/-- The ring tiles that memory tile `g` belongs to, and the memory tiles of ring tile `n`. -/
def Slot.ringOf (x : Slot) (g : Nat) : List Nat := tabulate x.down (fun i => g * x.down / x.up + i)
def Slot.memOf (x : Slot) (n : Nat) : List Nat := tabulate x.up (fun i => n * x.up / x.down + i)

/-- Tiles of the started passes. -/
def Slot.endTile (x : Slot) : Nat := x.nextBase

/-! ### Addresses (R201 to R203) -/

def Slot.pieces (x : Slot) : Nat := if x.pat = 2 then 2 ^ x.ps else 1
def Slot.pieceBytes (x : Slot) : Nat := 4096 / x.pieces

/-- Address of memory tile `m` of the pass, or of a piece whose index element is `ix`. -/
def Slot.tileAddr (x : Slot) (m ix : Nat) : Word :=
  let base := BitVec.ofNat 64 (x.word 2)
  let s0 := signed 32 (x.word 3)
  let s1 := signed 32 (x.word 3 / 2 ^ 32)
  match x.pat with
  | 0 => effAddr base ((m : Int) * 4096)
  | 1 => effAddr base (((m % x.n0 : Nat) : Int) * s0 + ((m / x.n0 : Nat) : Int) * s1)
  | _ => effAddr base ((ix : Int) * s0)

/-- The granule of index element `j`, and where the element stands in it. -/
def Slot.indexGranule (x : Slot) (j : Nat) : Word × Nat :=
  let a := effAddr (BitVec.ofNat 64 (x.word 4)) ((j : Int) * 4)
  (BitVec.ofNat 64 (a.toNat / 64 * 64), a.toNat % 64 / 4)

/-- The check of a tile, piece or index address before its request is issued (R37 to R39, R172, R203): the fault reason.
Only the two SRAM tiers and the aperture have a scale plane (R246); tiles of any other unit are address errors. An address on
another module is sent unchecked. -/
def State.tileCheck (s : State) (a : Word) (n align : Nat) : Option Nat :=
  if placeMalformed (placeOf a) then some 2
  else if s.isHere (placeOf a) then
    let r := s.region (mlaOf a)
    if a.toNat % align ≠ 0 then some 3
    else match r with
      | .stack _ _ | .sram _ _ => if r.fits n then none else some 2
      | .aperture off => if r.fits n && (s.obj .apertureMap 0 (off / 2 ^ 30)).testBit 0 then none else some 2
      | _ => some 2
  else none

/-- What a LOAD or STORE slot asks for next. -/
inductive Plan where
  | idle
  | fault (reason : Nat)
  | index (a : Word)
  | tile (g : Nat) (ps : List Piece)
  deriving DecidableEq, Repr

def Plan.needsEntry : Plan → Bool
  | .index _ => true
  | .tile _ ps => ps.any (fun p => p.addr.isSome)
  | _ => false

/-- A part to ask for, and one that there is nothing to ask for. -/
def Piece.ask (a : Word) : Piece := ⟨some a, false, false, none, none, none, false⟩
def Piece.skip (bad : Bool) : Piece := ⟨none, bad, false, none, none, none, true⟩

/-- A piece as its index names it. -/
def Slot.pieceOf (x : Slot) (m q : Nat) : Option Piece :=
  if x.pat = 2 then
    let gr := x.indexGranule (m * x.pieces + q)
    match x.idx.find? (fun i => i.addr == gr.1) with
    | none => none
    | some i =>
      match i.vals with
      | none => some (Piece.skip true)
      | some vs =>
        let ix := vs.getD gr.2 0
        some (if ix = 2 ^ 32 - 1 then Piece.skip false else Piece.ask (x.tileAddr m ix))
  else some (Piece.ask (x.tileAddr m 0))

/-- The parts in which a piece travels: a whole tile in one packet, any other piece granule by granule (10 Table 10-2). -/
def Slot.partsOf (x : Slot) (p : Piece) : List Piece :=
  if x.pieces = 1 then [p]
  else tabulate (16 / x.pieces) (fun j => { p with addr := p.addr.map (fun a => effAddr a ((j : Int) * 256)) })

/-- The slot's next request (R202, R203, R213). -/
def State.plan (s : State) (x : Slot) : Plan :=
  let g := x.nextMem
  let m := g % x.memPerPass
  let ring := x.ringOf g
  let last := ring.foldl max 0
  let room := if x.kind = 0 then decide (last < x.nextBase) && decide (last < x.released + x.ring)
    else x.kind == 1 && decide (last < x.handed) && decide (last < x.nextBase)
  if x.st ≠ .active ∨ x.paused ∨ room = false then .idle
  else
    let ps := (List.range x.pieces).map (x.pieceOf m)
    match (List.range x.pieces).find? (fun q => (x.pieceOf m q).isNone) with
    | some q =>
      let a := (x.indexGranule (m * x.pieces + q)).1
      if x.word 4 % 4 ≠ 0 ∧ s.isHere (placeOf (BitVec.ofNat 64 (x.word 4))) = true then .fault 3
      else if x.inflight.any (fun t => t.index == some a) then .idle
      else match s.tileCheck a 64 64 with
        | some r => .fault r
        | none => .index a
    | none =>
      let ps := ps.filterMap id
      match ps.findSome? (fun p => p.addr.bind (fun a => s.tileCheck a x.pieceBytes 256)) with
      | some r => .fault r
      | none => .tile g (ps.flatMap x.partsOf)

/-! ### Conversion (R204 to R207, R226) -/

/-- A tile, or part of one, in bytes, with poisoned granules by number and their locators. -/
structure TileData where
  payload : List (BitVec 8)
  scales : List (BitVec 8)
  poison : List (Nat × Word)
  scalePoison : List (Nat × Word)
  deriving DecidableEq, Repr

def TileData.bad (t : TileData) (g : Nat) : Bool := t.poison.any (fun p => p.1 == g)
def TileData.badScale (t : TileData) (g : Nat) : Bool := t.scalePoison.any (fun p => p.1 == g)

/-- Elements [first, first + n) of a tile in format `f`, with their scale bytes for SCNAN. -/
def TileData.elems (t : TileData) (f first n : Nat) : List Elem × Flags :=
  let sc := t.scales.map (fun b => b.toNat)
  let sc := if f = 9 then sc.flatMap (fun b => [b, b]) else sc
  let badEl (k : Nat) : Bool :=
    t.bad (k * codeBits f / 512) || (isMx f && t.badScale (k / (if f = 9 then 64 else 32) / 64))
  let es := sourceElems f (tileElems f) (leNat t.payload) (codeBits f) sc [] badEl
  let blocks := (sc.drop (first / 32)).take (n / 32)
  ((es.drop first).take n,
    sourceFlags f blocks (fun b => (List.range 32).any (fun i => badEl (first + 32 * b + i))))

/-- `n` elements converted to format `f` as bytes and scale bytes; the granules of them that are poisoned (R226). -/
def convertChunk (f : Nat) (rm : Nat → RMode) (sat : Bool) (es : List Elem) : TileData × Flags :=
  let r := convertElems f rm sat [] es
  let w := codeBits f
  let grp := mxGroup f
  let badEl (k : Nat) : Bool :=
    if isMx f then ((es.drop (k / grp * grp)).take grp).any (fun e => e.poison) else (es.getD k ⟨.nan, false, 0⟩).poison
  let bytes := leBytes (es.length * w / 8) (packFields w r.elems)
  let gran := (List.range ((bytes.length + 63) / 64)).filter (fun g =>
    (List.range es.length).any (fun k => badEl k && decide (k * w / 512 ≤ g) && decide (g ≤ (k * w + w - 1) / 512)))
  (⟨bytes, r.scales.map (fun v => BitVec.ofNat 8 v), gran.map (fun g => (g, 0)), []⟩, r.flags)

/-- The rounding mode of element `k` of the pass (R108, R205). -/
def Slot.rmAt (x : Slot) (k : Nat) : RMode := rmodeFor x.rm (x.word 5) (x.word 6) k

/-- Elements in the parts that one conversion moves: the smaller of the two tiles. -/
def Slot.chunk (x : Slot) : Nat := min (tileElems x.fsrc) (tileElems x.fdst)

/-! ### Reading and writing the ring -/

def poisonList (l : List (Nat × Option Word)) : List (Nat × Word) :=
  l.zipIdx.filterMap (fun p => p.1.2.map (fun w => (p.2, w)))

/-- A payload range of `n` bytes and its scale bytes read. -/
def State.readTile (s : State) (a n : Nat) : State × TileData :=
  let p := s.touch a n
  let q := if n < 256 then (p.1, []) else p.1.touch (scaleAddr a) (n / 32)
  (q.1, ⟨memBytes q.1.mem a n, memBytes q.1.mem (scaleAddr a) (n / 32), poisonList p.2, poisonList q.2⟩)

/-- The payload alone of `n` bytes: its sidecar is not used (R99). -/
def State.readPayload (s : State) (a n : Nat) : State × TileData :=
  let p := s.touch a n
  (p.1, ⟨memBytes p.1.mem a n, List.replicate (n / 32) 0, poisonList p.2, []⟩)

/-- What a consumer of a tile of format `f` reads: neither MXFP6 padding nor a sidecar that the format does not use (R98, R99). -/
def State.readUsed (s : State) (a f : Nat) : State × TileData :=
  let r := s.readPayload a (payloadUsed f)
  if isMx f then
    let q := r.1.touch (scaleAddr a) 128
    (q.1, { r.2 with scales := memBytes q.1.mem (scaleAddr a) 128, scalePoison := poisonList q.2 })
  else r

/-- What a consumer of format `f` takes of a tile that has arrived (R98, R99). -/
def TileData.used (t : TileData) (f : Nat) : TileData :=
  { payload := fitTo 0 (payloadUsed f) t.payload
    scales := if isMx f then t.scales else List.replicate 128 0
    poison := t.poison.filter (fun p => decide (64 * p.1 < payloadUsed f))
    scalePoison := if isMx f then t.scalePoison else [] }

def locOf (l : List (Nat × Word)) (g : Nat) : Option Word := (l.find? (fun p => p.1 == g)).map (fun p => p.2)

/-- Written: payload granules with their poison, and scale bytes, which fill whole granules only for 2,048 bytes of
payload or more. -/
def State.writeTile (s : State) (a : Nat) (t : TileData) : State :=
  let s := s.writeGranules a t.payload (locOf t.poison)
  let sa := scaleAddr a
  if t.scales.length % 64 = 0 then s.writeGranules sa t.scales (locOf t.scalePoison)
  else match t.scalePoison with
    | p :: _ => s.poisonGranule (sa / 64) p.2
    | [] => s.writeMem sa t.scales

/-! ### Failures, passes, presentation -/

/-- A tile of pass `q` failed (R227, R228): counted once, ERR set, the first locator kept. -/
def State.failTile (s : State) (k n q : Nat) (loc : Word) : State :=
  let s := s.updSlot k n (fun x => { x with
    failed := x.failed + 1, loc := if x.failed = 0 then loc else x.loc, failedIn := x.failedIn ++ [q] })
  s.incObj .streamTileErrs (k / 256) (k % 256)

/-- A dropped arrival or credit (R217, R218). -/
def State.dropArrival (s : State) (k n : Nat) : State :=
  (s.updSlot k n (fun x => { x with dropped := x.dropped + 1 })).incObj .streamDrops (k / 256) (k % 256)

/-- A pass ends (R220): EVALVE opens, PASS counts, and without a further pass the stream is Ended. -/
def State.endPass (s : State) (k n : Nat) : State :=
  let x := (s.core k).slot n
  let s := s.updSlot k n (fun y => { y with
    ended := y.ended + 1, failedIn := y.failedIn.filter (fun q => decide (y.ended ≤ q))
    st := if y.st = .active ∧ (y.ended + 1) * y.count = y.nextBase ∧ y.queued = none then .ended else y.st })
  if x.evalve = 63 then s
  else s.openValve k x.evalve (s.lsSrc k ((s.core k).slotOwner n) 4 0) (s.dieGtc (k / 256)) false

/-- The flags of a ring tile that is complete now are raised in the owning context (R204). -/
def State.raiseTile (s : State) (k n t : Nat) : State :=
  let x := (s.core k).slot n
  match x.pendFlags.find? (fun p => p.1 == t) with
  | none => s
  | some p =>
    (s.updSlot k n (fun y => { y with pendFlags := y.pendFlags.filter (fun q => q.1 != t) })).raise k
      ((s.core k).slotOwner n) p.2

/-- Ring tiles are presented in order while the next one has landed whole (R208); passes end on the way. -/
def presentTiles : Nat → Nat → Nat → State → State
  | 0, _, _, s => s
  | fuel + 1, k, n, s =>
    let x := (s.core k).slot n
    let t := x.presented
    if (x.memOf t).all x.landed.contains then
      let s := (s.updSlot k n (fun y => { y with
        presented := y.presented + 1
        landed := y.landed.filter (fun g => (y.ringOf g).any (fun r => decide (y.presented < r))) }))
      let y := (s.core k).slot n
      let s := if y.presented = (y.ended + 1) * y.count then s.endPass k n else s
      presentTiles fuel k n s
    else s

/-- Outbound tiles complete in order while the next one is written and acknowledged whole (R209, R220). -/
def completeTiles : Nat → Nat → Nat → State → State
  | 0, _, _, s => s
  | fuel + 1, k, n, s =>
    let x := (s.core k).slot n
    let t := x.completed
    if (x.memOf t).all x.acked.contains then
      let s := (s.updSlot k n (fun y => { y with
        completed := y.completed + 1
        acked := y.acked.filter (fun g => (y.ringOf g).any (fun r => decide (y.completed < r))) }))
      let y := (s.core k).slot n
      let s := if y.completed = (y.ended + 1) * y.count then s.endPass k n else s
      completeTiles fuel k n s
    else s

/-- The ring tiles of memory tile `g` whose memory tiles have all landed, or are all acknowledged, are complete: their flags are
raised, whatever tile comes before them (R130, R204). -/
def State.raiseTiles (s : State) (k n g : Nat) (there : Slot → List Nat) : State :=
  (((s.core k).slot n).ringOf g).foldl (fun (t : State) r =>
    let x := (t.core k).slot n
    if (x.memOf r).all (there x).contains then t.raiseTile k n r else t) s

def State.presentAll (s : State) (k n : Nat) : State :=
  let x := (s.core k).slot n
  ((presentTiles (x.landed.length * x.down + 1) k n s).startQueued k n).topUpCredits k n

def State.completeAll (s : State) (k n : Nat) : State :=
  let x := (s.core k).slot n
  ((completeTiles (x.acked.length * x.down + 1) k n s).startQueued k n).topUpCredits k n

/-! ### A memory tile of a LOAD lands -/

/-- Part `q` of a tile of a request is lost: a part of its piece was refused or timed out, or its index granule is poisoned
(R227). -/
def Slot.pieceLost (x : Slot) (ps : List Piece) (q : Nat) : Bool :=
  let per := ps.length / x.pieces
  ((ps.drop (q / per * per)).take per).any (fun p => p.bad || p.ans.any (fun a => !a.ok))

/-- All parts of a LOAD tile put together: a skipped piece is zero, a failed one or one behind a poisoned index granule
is poison with valid = 0, with the sidecar granule of its scale bytes (R202, R227). -/
def Slot.assemble (x : Slot) (ps : List Piece) : TileData :=
  let n := 4096 / ps.length
  let one (q : Nat) (p : Piece) : TileData :=
    if x.pieceLost ps q then
      ⟨List.replicate n 0, List.replicate (n / 32) 0, tabulate (n / 64) (fun g => (g, 0)), [(0, 0)]⟩
    else match p.ans with
      | some a => ⟨a.payload, a.scales, a.poison, a.scalePoison⟩
      | none => ⟨List.replicate n 0, List.replicate (n / 32) 0, [], []⟩
  let ts := ps.zipIdx.map (fun p => one p.2 p.1)
  let per := n / 64
  -- a whole tile has two sidecar granules; both are poison when it failed
  let side (q : Nat) (t : TileData) : List (Nat × Word) :=
    if n = 4096 then
      (if x.pieceLost ps 0 then [(0, 0), (1, 0)] else t.scalePoison)
    else t.scalePoison.map (fun p => (q * (n / 32) / 64 + p.1, p.2))
  { payload := ts.flatMap (fun t => t.payload)
    scales := ts.flatMap (fun t => t.scales)
    poison := ts.zipIdx.flatMap (fun p => p.1.poison.map (fun g => (p.2 * per + g.1, g.2)))
    scalePoison := ts.zipIdx.flatMap (fun p => side p.2 p.1) }

/-- The latch takes what a conversion consumes, and converted poison carries it (R253). -/
def State.convLoc (s : State) (k n : Nat) (t : TileData) : State × Word :=
  let o := (s.core k).slotOwner n
  let s := s.updCtx k o (fun c => c.latchPoison ((t.poison ++ t.scalePoison).head?.map (fun p => p.2)))
  (s, (s.ctx k o).poisonLoc)

def noteFlags (l : List (Nat × BitVec 12)) (t : Nat) (f : BitVec 12) : List (Nat × BitVec 12) :=
  if f = 0 then l
  else if l.any (fun p => p.1 == t) then l.map (fun p => if p.1 = t then (t, p.2 ||| f) else p)
  else l ++ [(t, f)]

/-- One converted part `i` of memory tile `g` written to its place in the ring (R99, R204, R205). -/
def State.landPart (s : State) (k n g i : Nat) (t : TileData) (loc : Word) : State :=
  let x := (s.core k).slot n
  let ring := g * x.down / x.up + i
  let part := g % x.up
  let e := t.elems x.fsrc (i * x.chunk) x.chunk
  let first := (g % x.memPerPass) * tileElems x.fsrc + i * x.chunk
  let r := convertChunk x.fdst (fun j => x.rmAt (first + j)) x.sat e.1
  let a := x.posMla (x.posOf ring)
  let s := s.writeGranules (a + part * r.1.payload.length) r.1.payload
    (fun q => if r.1.bad q then some loc else none)
  let s := if isMx x.fdst then s.writeMem (scaleAddr a + part * r.1.scales.length) r.1.scales
    else s.writeMem (scaleAddr a) (List.replicate 128 0)
  let s := if codeBits x.fdst = 6 then s.writeMem (a + 3072) (List.replicate 1024 0) else s
  s.updSlot k n (fun y => { y with pendFlags := noteFlags y.pendFlags ring (r.2 ||| e.2) })

/-- A memory tile lands in the ring, converted where the descriptor says so (R204, R208). -/
def State.landTile (s : State) (k n g : Nat) (t : TileData) : State :=
  let x := (s.core k).slot n
  if x.conv then
    let t := t.used x.fsrc
    let c := s.convLoc k n t
    (List.range x.down).foldl (fun u i => u.landPart k n g i t c.2) c.1
  else s.writeTile (x.posMla (x.posOf g)) t

/-! ### A memory tile of a STORE is made from the ring -/

/-- The bytes a STORE writes for memory tile `g`, with the flags of its conversion. -/
def State.storeTile (s : State) (k n g : Nat) : State × TileData × Flags :=
  let x := (s.core k).slot n
  if x.conv then
    let part (acc : State × List (TileData × TileData × Flags)) (i : Nat) :
        State × List (TileData × TileData × Flags) :=
      let ring := g * x.down / x.up + i
      let r := acc.1.readUsed (x.posMla (x.posOf ring)) x.fdst
      let e := r.2.elems x.fdst (g % x.up * x.chunk) x.chunk
      let first := (g % x.memPerPass) * tileElems x.fsrc + i * x.chunk
      let o := convertChunk x.fsrc (fun j => x.rmAt (first + j)) x.sat e.1
      (r.1, acc.2 ++ [(r.2, o.1, o.2 ||| e.2)])
    let r := (List.range x.down).foldl part (s, [])
    let src := r.2.flatMap (fun p => p.1.poison ++ p.1.scalePoison)
    let c := r.1.convLoc k n ⟨[], [], src, []⟩
    let outs := r.2.map (fun p => p.2.1)
    let per := (outs.headD ⟨[], [], [], []⟩).payload.length / 64
    let t : TileData :=
      { payload := fitTo 0 4096 (outs.flatMap (fun o => o.payload))
        scales := fitTo 0 128 (outs.flatMap (fun o => o.scales))
        poison := outs.zipIdx.flatMap (fun p => p.1.poison.map (fun q => (p.2 * per + q.1, c.2)))
        scalePoison := [] }
    (c.1, t, r.2.foldl (fun f p => f ||| p.2.2) flNone)
  else
    let r := s.readTile (x.posMla (x.posOf g)) 4096
    (r.1, r.2, flNone)

/-- What piece `q` of a tile carries. -/
def TileData.piece (t : TileData) (n q : Nat) : PieceAns :=
  let per := n / 64
  { ok := true
    payload := (t.payload.drop (q * n)).take n
    scales := (t.scales.drop (q * (n / 32))).take (n / 32)
    poison := t.poison.filterMap (fun p => if p.1 / per = q then some (p.1 % per, p.2) else none)
    scalePoison :=
      if n = 4096 then t.scalePoison
      else if n = 2048 then t.scalePoison.filterMap (fun p => if p.1 = q then some (0, p.2) else none)
      else t.scalePoison.filterMap (fun p => if p.1 = q * (n / 32) / 64 then some (0, p.2) else none) }

end Sys2Proof.Machine
end

