-- ==== Sys2Proof/Machine/Stream.lean ====
section
/-! DEFINITION. Chapter 07: the stream instructions (opcodes 0xB0 to 0xB6, Table 6-11) and the stream controller's
requests, responses, writes, acknowledgements and watchdog. -/

namespace Sys2Proof.Machine

/-! ### Arming (R198 to R200, R207, R231, R234) -/

/-- The words that Table 7-2 marks 0 for a kind. -/
def zeroWords : Nat → List Nat
  | 2 => [3, 4, 5, 6]
  | 3 => [3, 4, 5, 6]
  | 4 => [3, 6]
  | 5 => [3, 4, 5, 6]
  | _ => []

/-- Whether a descriptor is refused (R200). -/
def Slot.refused (x : Slot) (k : Nat) : Bool :=
  let w7 := x.word 7
  let loadStore := x.kind == 0 || x.kind == 1
  decide (5 < x.kind) || decide (2 ^ 40 ≤ x.word 1) ||
  bitsOf w7 47 46 != 0 || bitsOf w7 39 32 != 0 || bitsOf w7 7 0 != 0 ||
  (zeroWords x.kind).any (fun i => x.word i != 0) ||
  (if loadStore then x.pat == 3 else x.pat != 0) ||
  (if x.kind == 1 || x.kind == 3 then x.cons != 0 else x.cons != 0 && decide (x.cons < 4)) ||
  (if x.kind == 2 then decide (1 < x.peerk) else x.peerk != 0) ||
  decide (x.ring < 2) || decide (64 < x.ring) || (x.kind == 4 && x.ring % 2 == 1) ||
  (x.kind == 5 && (x.group == 0 || decide (32 < x.group) || decide (x.ring < 2 * x.group) || x.count % (16 * x.group) != 0)) ||
  decide (4 < x.ps) || x.rm == 3 ||
  x.ringBase % 4096 != 0 || x.count == 0 || (x.conv && x.count % x.down != 0) ||
  (loadStore && x.pat == 1 && x.n0 == 0) ||
  decide (x.ringBase < sramMla k 0) || decide (sramMla k 0 + 2 ^ 22 < x.ringBase + 4096 * x.ring) ||
  (if x.kind == 4 then x.conv || !(x.fsrc == 0 || x.fsrc == 0xD) || x.fdst != x.fsrc
   else if loadStore && x.conv then decide (0xD < x.fsrc) || decide (0xD < x.fdst)
   else x.conv || x.fsrc != 0 || x.fdst != 0) ||
  (decide (48 ≤ x.evalve) && decide (x.evalve ≤ 62))

/-- A stream fault of the slot raises cause 0x06 in its owner (R229). -/
def State.streamFault (s : State) (k n r : Nat) : State :=
  let x := (s.core k).slotOwner n
  let s := s.noteFault k n r
  s.takeException k x ⟨6, 6, n, (s.ctx k x).pc, 0, ((s.core k).slot n).loc⟩

/-- The same at the issue of the instruction that raises it. -/
def faultBody (s : State) (k n r : Nat) : Body :=
  let s := s.noteFault k n r
  .trap s 6 6 n 0 ((s.core k).slot n).loc

/-- The slot with its descriptor armed (R215 to R217). -/
def Slot.arm (x : Slot) (ws : List Word) (origin : Option Word) (now : Nat) : Slot :=
  { Slot.closed with
    desc := ws, st := .active, gen := x.gen + 1, progressAt := now, pushTo := x.pushTo, pushGen := x.pushGen,
    pushSeq := x.pushSeq
    credits := if origin.isSome && x.bankOrigin == origin then x.credits else [] }

/-- A slot's owner is asked for first (R56). -/
def slotBody (c : CtxId) (w : Low56) (body : State → Slot → Body) (s : State) : Body :=
  if (s.core c.key).slotOwner (fSlot w) ≠ c.ctx.val then .trap s 4 6 0 0 0
  else body s ((s.core c.key).slot (fSlot w))

/-- A core's window and a slot in it as one number: whose a credit is (R217). -/
def State.peerKey (s : State) (a : Word) (slot : Nat) : Word := s.originOf a + BitVec.ofNat 64 slot

/-- The peers that a stream names fail the checks of an address (R39, R42): a malformed place, or on this module no core's local
SRAM. A receiver is checked when a tile is pushed to it, a producer when the slot is armed (log 77). -/
def State.peerBad (s : State) (a : Word) : Bool :=
  placeMalformed (placeOf a) ||
    (s.isHere (placeOf a) && (match s.region (mlaOf a) with | .sram _ _ => false | _ => true))

def State.producersBad (s : State) (x : Slot) : Bool :=
  (x.kind == 2 && x.peerk == 0 && s.peerBad (BitVec.ofNat 64 (x.word 2))) ||
    (x.kind == 4 && (s.peerBad (BitVec.ofNat 64 (x.word 2)) || s.peerBad (BitVec.ofNat 64 (x.word 4))))

/-- SARM. -/
def execSarm (c : CtxId) (w : Low56) (s : State) : Out :=
  issue c w false (fun _ => namedOnly [(51, 43)] w) (waitsOn c [.g (fTra w)])
    (slotBody c w (fun s x =>
      let n := fSlot w
      let k := c.key
      let a := s.g c (fTra w)
      if a.poison then poisonUse s c 6
      else match ownAccess c a.val 64 with
        | .near off =>
          if x.armed then faultBody s k n 4
          else
            let r := s.readMem (sramMla k off) 64
            let ws : List Word := tabulate 8 (fun i => BitVec.ofNat 64 (leNat ((r.2.1.drop (8 * i)).take 8)))
            let y : Slot := { x with desc := ws }
            if r.2.2.isSome || y.refused k then faultBody r.1 k n 1
            else
              let origin := if y.kind = 3 then some (r.1.peerKey (BitVec.ofNat 64 (y.word 2)) y.peerSlot) else none
              let z := x.arm ws origin (r.1.dieGtc c.die.val)
              let z := { z with nextBase := z.count }
              let t := r.1.updSlot k n (fun _ => z)
              if t.producersBad z then faultBody (t.incObj .addrErrors c.die.val) k n 2 else .done (t.topUpCredits k n)
        | .bad cause => memTrap s c 6 cause (globalHere (mlaOf a.val))
        | .far => memTrap s c 6 2 (globalHere (mlaOf a.val)))) s

/-- SRARM (R221, R222). -/
def execSrarm (c : CtxId) (w : Low56) (s : State) : Out :=
  issue c w false (fun _ => namedOnly [(51, 38)] w) (waitsOn c [.g (fTra w), .g (fTrb w)])
    (slotBody c w (fun s x =>
      let n := fSlot w
      let a := s.g c (fTra w)
      let b := s.g c (fTrb w)
      let loadStore := x.kind == 0 || x.kind == 1
      if a.poison || b.poison then poisonUse s c 6
      else if !x.drone || x.st == .closed || x.st == .faulted || x.queued.isSome ||
          (!loadStore && (fTra w != 0 || fTrb w != 0)) || (loadStore && x.pat != 2 && fTrb w != 0) then
        faultBody s c.key n 0xA
      else
        let d := if loadStore then a.val else x.desc.getD 2 0
        let i := if loadStore && x.pat == 2 then b.val else x.desc.getD 4 0
        .done ((s.updSlot c.key n (fun y => { y with queued := some (d, i) })).startQueued c.key n))) s

/-- SCLOSE (R223). -/
def execSclose (c : CtxId) (w : Low56) (s : State) : Out :=
  issue c w false (fun _ => namedOnly [(51, 48)] w) (fun _ => false)
    (slotBody c w (fun s _ => .done (s.updCore c.key (fun d => d.closeSlot (fSlot w))))) s

/-- What SHEAD finds (R209, R220): an address, the end value, a fault, or nothing yet. -/
inductive Head where
  | tile (mla : Nat)
  | ended
  | fault (r : Nat)
  | wait
  deriving DecidableEq, Repr

def Slot.head (x : Slot) : Head :=
  if x.st = .closed then .fault 0xC
  else if x.cons ≠ 0 then .fault 6
  else if x.inbound then
    if x.taken < x.presented then .tile (x.posMla (x.posOf x.taken))
    else if x.st = .faulted then (if x.inflight.isEmpty then .fault 0xC else .wait)
    else if x.st = .ended then .ended
    else .wait
  else if x.st = .faulted then .fault 0xC
  -- the sums of a REDUCE that pushes to its parent are not the program's
  else if x.kind = 4 then (if x.st = .ended then .ended else .wait)
  else if x.nextBase + (if x.queued.isSome then x.count else 0) ≤ x.taken then .ended
  else if x.taken < x.completed + x.ring then .tile (x.posMla (x.posOf x.taken))
  else .wait

/-- SHEAD. -/
def execShead (c : CtxId) (w : Low56) (s : State) : Out :=
  issue c w false (fun _ => namedOnly [(51, 48), (37, 33)] w) (waitsOn c [.g (fTrd w)])
    (slotBody c w (fun s x =>
      match x.head with
      | .tile a => .done ((s.updSlot c.key (fSlot w) (fun y => { y with taken := y.taken + 1 })).setG c (fTrd w)
          ⟨globalHere a, false⟩)
      | .ended => .done (s.setG c (fTrd w) ⟨BitVec.allOnes 64, false⟩)
      | .fault r => faultBody s c.key (fSlot w) r
      | .wait => .stall)) s

/-- SREL (R209, R210). -/
def execSrel (c : CtxId) (w : Low56) (s : State) : Out :=
  issue c w false (fun _ => namedOnly [(51, 48), (32, 27)] w) (fun _ => false)
    (slotBody c w (fun s x =>
      let n := fSlot w
      let k := c.key
      if x.armed && x.cons != 0 then faultBody s k n 6
      else if !x.armed || decide (x.held < fTn w) then faultBody s k n 5
      else if x.inbound then .done (s.returnTiles k n (x.released + x.returned.length) (fTn w))
      else
        let b := x.peerStalled
        .done ((s.updSlot k n (fun y => { y with handed := y.handed + fTn w })).noteStall k n b))) s

/-- SSTAT. -/
def execSstat (c : CtxId) (w : Low56) (s : State) : Out :=
  issue c w false (fun _ => namedOnly [(51, 48), (37, 33)] w) (waitsOn c [.g (fTrd w)])
    (slotBody c w (fun s x => .done (s.setG c (fTrd w) ⟨x.stat, false⟩))) s

/-- Every transfer numbered below `upto`, and every tile below `handed`, has completed (R210). A Faulted slot issues
nothing any more, so only its transfers in flight count. -/
def Slot.transfersDone (x : Slot) (upto handed : Nat) : Bool :=
  x.inflight.all (fun t => decide (upto ≤ t.id)) &&
  (x.inbound || !x.armed || x.st == .faulted || x.kind == 4 || decide (handed ≤ x.completed))

/-- SWAIT: what it waits for is fixed when it first issues. -/
def execSwait (c : CtxId) (w : Low56) (s : State) : Out :=
  issue c w false (fun _ => namedOnly [(51, 48)] w) (fun _ => false)
    (slotBody c w (fun s x =>
      let mark := match (s.ctx c.key c.ctx.val).swait with
        | some (n, u, h) => if n = fSlot w then (u, h) else (s.nextId, x.handed)
        | none => (s.nextId, x.handed)
      let note (t : State) (m : Option (Nat × Nat × Nat)) : State :=
        t.updCtx c.key c.ctx.val (fun y => { y with swait := m })
      if x.transfersDone mark.1 mark.2 then .done (note s none) else .stalled (note s (some (fSlot w, mark.1, mark.2))))) s

/-! ### Issue of tile requests (R57, R213, R214) -/

/-- Entries a context holds. -/
def Core.entriesOf (c : Core) (x : Nat) : Nat :=
  ((c.slotsOf x).map (fun n => ((c.slot n).inflight.filter TileReq.holdsEntry).length)).sum +
    (c.orphans.filter (fun o => o.ctx == x && o.held)).length

/-- The entry a context can take: one of its reserve, one above the reserves, or none. -/
inductive EntryKind where
  | own | shared | none
  deriving DecidableEq, Repr

def Core.entry (c : Core) (x : Nat) : EntryKind :=
  let res (y : Nat) : Nat := if y = 0 then c.treq0 else c.treq1
  if c.entriesOf x < res x then .own
  else if (c.entriesOf 0 - res 0) + (c.entriesOf 1 - res 1) < 64 - c.treq0 - c.treq1 then .shared else .none

/-- Index granules of slot `n` in the core's own local SRAM are read ahead, with no entry (R203). -/
def State.ownIndex (s : State) (k n : Nat) : State :=
  match s.plan ((s.core k).slot n) with
  | .index a =>
    if s.isHere (placeOf a) then
      match regionOf (mlaOf a) with
      | .sram j _ =>
        if j = k then
          let r := s.readMem (mlaOf a) 64
          let vals := if r.2.2.isSome then none
            else some (tabulate 16 (fun i => leNat ((r.2.1.drop (4 * i)).take 4)))
          r.1.updSlot k n (fun x => { x with idx := x.idx ++ [⟨a, vals⟩] })
        else s
      | _ => s
    else s
  | _ => s

/-- The slots of a context with a request ready and an entry for it, in the order of service. -/
def State.readySlots (s : State) (k x : Nat) : List Nat :=
  let c := s.core k
  let last := if x = 0 then c.lastSlot0 else c.lastSlot1
  ((List.range 16).map (fun i => (last + 1 + i) % 16)).filter (fun n =>
    c.slotOwner n == x &&
    (let p := s.plan (c.slot n)
     p != .idle && (!p.needsEntry || c.entry x != .none)))

/-- The slot that is served now (R214). -/
def State.nextServed (s : State) (k : Nat) : Option (Nat × Nat) :=
  let c := s.core k
  match (s.readySlots k 0).head?, (s.readySlots k 1).head? with
  | some a, some b =>
    let both := c.entry 0 == .shared && c.entry 1 == .shared
    -- both wait for the one entry that stands above the reserves (R214)
    let last := (c.entriesOf 0 - c.treq0) + (c.entriesOf 1 - c.treq1) + 1 == 64 - c.treq0 - c.treq1
    let x := if both && last then 1 - c.lastShared else 1 - c.lastCtx
    if x = 0 then some (0, a) else some (1, b)
  | some a, none => some (0, a)
  | none, some b => some (1, b)
  | none, none => none

/-- Forwards are acknowledged in tile order; the last step of a group forwards nothing (R235). -/
def rotateAcks : Nat → Slot → Slot
  | 0, x => x
  | fuel + 1, x =>
    if x.acked.contains x.completed then rotateAcks fuel { x with completed := x.completed + 1, acked := x.acked.erase x.completed }
    else if x.completed / x.group % 16 = 15 ∧ x.completed < x.nextBase then rotateAcks fuel { x with completed := x.completed + 1 }
    else x

/-- A request failed as a whole or in part: a LOAD by a failed piece, a STORE also by a piece behind a poisoned index
(R227, R228). -/
def TileReq.failed (t : TileReq) : Bool :=
  t.pieces.any (fun p => p.ans.any (fun a => !a.ok) || (t.write && p.bad))

/-- No answer to a request is on its way any more. -/
def TileReq.allGot (t : TileReq) : Bool := t.pieces.all (fun p => (t.target p).isNone || p.got)

/-- The flags of a STORE's conversion whose slot is gone are raised when it completes (R130). -/
def State.raiseOrphan (s : State) (k : Nat) (o : Orphan) : State := if o.req.flags = 0 then s else s.raise k o.ctx o.req.flags

/-- A request with all its answers leaves the slot's list and acts (R208, R220, R228). -/
def State.finishTile (s : State) (k n : Nat) (t : TileReq) : State :=
  let x := (s.core k).slot n
  let pass := if x.memPerPass = 0 then 0 else t.tile / x.memPerPass
  let s := s.updSlot k n (fun y => { y with inflight := y.inflight.filter (fun u => u.id != t.id) })
  -- a part that timed out may still be answered: the answer will be dropped and counted (R215)
  let s := if t.allGot then s else s.updCore k (fun c => { c with
    orphans := c.orphans ++ [⟨c.slotOwner n, false, { t with flags := 0 }⟩] })
  let s := s.progress k n
  match if t.write then none else t.index with
  | some a =>
    let vals : Option (List Nat) := match t.pieces with
      | [p] => p.ans.bind (fun v =>
          -- a READ of another module brings the 256 bytes that hold the granule (log 24)
          let bs := if v.payload.length ≤ 64 then v.payload else v.payload.drop (a.toNat % 256)
          let bad := v.poison.any (fun p => p.1 == (if v.payload.length ≤ 64 then 0 else a.toNat % 256 / 64))
          if v.ok && !bad then some (tabulate 16 (fun i => leNat ((bs.drop (4 * i)).take 4))) else none)
      | _ => none
    s.updSlot k n (fun y => { y with idx := y.idx ++ [⟨a, vals⟩] })
  | none =>
    let s := if t.failed then s.failTile k n pass 0 else s
    if t.write then
      let s := s.updSlot k n (fun y => { y with
        acked := y.acked ++ [t.tile]
        pendFlags := noteFlags y.pendFlags ((y.ringOf t.tile).headD 0) t.flags })
      if x.kind = 5 then s.updSlot k n (fun y => rotateAcks (y.acked.length + 2 * y.group) y)
      else (s.raiseTiles k n t.tile (fun y => y.acked)).completeAll k n
    else
      let s := s.landTile k n t.tile (x.assemble t.pieces)
      ((s.updSlot k n (fun y => { y with landed := y.landed ++ [t.tile] })).raiseTiles k n t.tile (fun y => y.landed)).presentAll k n

/-! ### Requests at their endpoints -/

/-- A request that a core waits for, with its slot if it still has one. -/
def Core.findTile (c : Core) (id : Nat) : Option (Option Nat × TileReq) :=
  match (c.slots.findSome? (fun e => (e.2.inflight.find? (fun t => t.id == id)).map (fun t => (e.1, t)))) with
  | some (n, t) => some (some n, t)
  | none => (c.orphans.find? (fun o => o.req.id == id)).map (fun o => (none, o.req))

/-- The core whose request a number is. -/
def State.findTile (s : State) (id : Nat) : Option (Nat × Option Nat × TileReq) :=
  s.cores.findSome? (fun e => (e.2.findTile id).map (fun r => (e.1, r.1, r.2)))

def updReqList (l : List TileReq) (id : Nat) (f : TileReq → TileReq) : List TileReq :=
  l.map (fun t => if t.id = id then f t else t)

/-- A request changed wherever it stands. -/
def State.updTile (s : State) (k id : Nat) (f : TileReq → TileReq) : State :=
  s.updCore k (fun c => { c with
    slots := c.slots.map (fun (e : Nat × Slot) => (e.1, { e.2 with inflight := updReqList e.2.inflight id f }))
    orphans := c.orphans.map (fun (o : Orphan) => { o with req := if o.req.id = id then f o.req else o.req }) })

def TileReq.setPiece (t : TileReq) (q : Nat) (f : Piece → Piece) : TileReq :=
  { t with pieces := t.pieces.zipIdx.map (fun p => if p.2 = q then f p.1 else p.1) }

/-- Part `q` has its outcome at the core; a failure is counted by tier and kind (R256). A response that comes after a timeout, or
for a slot that is gone, is dropped and counted (R215). -/
def State.landPiece (s : State) (k id q : Nat) (a : PieceAns) (status : Nat) : State :=
  match (s.core k).findTile id with
  | none => s
  | some (slot, t) =>
    match t.pieces[q]? with
    | none => s
    | some p =>
      let u := s.updTile k id (fun u => u.setPiece q (fun p => { p with ans := some (p.ans.getD a), got := true }))
      if p.ans.isSome || slot.isNone then u.updCore k (fun c => { c with lateDrops := (c.lateDrops + 1) % 2 ^ 32 })
      else if a.ok then u else match t.target p with
        | some ad => u.countTier ad (failKind status)
        | none => u

/-- Bytes of a part of a request. -/
def TileReq.pieceBytes (t : TileReq) : Nat := if t.index.isSome then 64 else 4096 / t.pieces.length

/-- Granules of content that carry poison, as the header's poison bits (R309). -/
def PieceAns.bits (a : PieceAns) : Nat :=
  ((a.poison.map (fun p => p.1)) ++ (a.scalePoison.map (fun p => a.payload.length / 64 + p.1))).foldl (fun m g => Nat.lor m (2 ^ g)) 0

/-- Part `q` is answered at endpoint `e`: read data goes back in W2D, everything else in W1 (Table 10-3). -/
def State.answerPiece (s : State) (k id q : Nat) (a : PieceAns) (status : Nat) (e : Endp) : State :=
  match (s.core k).findTile id with
  | none => s
  | some (_, t) =>
    match t.pieces[q]? with
    | none => s
    | some p =>
      if p.resp.isSome then s
      else
        let n := a.payload.length + a.scales.length
        let u := s.updTile k id (fun u => u.setPiece q (fun p => { p with resp := some (status, a) }))
        u.emit (id * 256 + 2 * q + 1) (if t.write || !a.ok then 1 else 3) (if t.write || !a.ok then 1 else flitsOf n) a.bits e
          (s.coreEndp k) false

/-- Its leg is consumed at `e` and answered there. -/
def State.replyPiece (s : State) (k id q : Nat) (a : PieceAns) (status : Nat) (e : Endp) : State :=
  (s.consume (id * 256 + 2 * q)).answerPiece k id q a status e

def PieceAns.failed : PieceAns := ⟨false, [], [], [], []⟩
def PieceAns.done : PieceAns := ⟨true, [], [], [], []⟩

/-- The parts of a request leave for their endpoints: read requests in W2R, writes in W2D. A part without a way has failed. -/
def State.emitParts (s : State) (k : Nat) (t : TileReq) : State :=
  t.pieces.zipIdx.foldl (fun (u : State) (p : Piece × Nat) =>
    match p.1.addr with
    | none => u
    | some a =>
      let src := u.coreEndp k
      match u.wayTo src (k / 256) a (if t.write then 1 else 3) with
      | none => u.landPiece k t.id p.2 PieceAns.failed 3
      | some e =>
        let n := t.pieceBytes
        u.emit (t.id * 256 + 2 * p.2) (if t.write then 3 else 2) (if t.write then flitsOf (n + n / 32) else 1)
          ((p.1.out.map PieceAns.bits).getD 0) src e false) s

def State.markAway (s : State) (k id q : Nat) : State := s.updTile k id (fun u => u.setPiece q (fun p => { p with away := true }))

/-- Granule `g` of some bytes replaced by the poison pattern with its locator, as far as they reach (R355, log 24). -/
def putPattern (bs : List (BitVec 8)) (g : Nat) (loc : Word) : List (BitVec 8) :=
  bs.take (64 * g) ++ fitTo 0 (min 64 (bs.length - 64 * g)) (patternBytes false loc) ++ bs.drop (64 * g + 64)

/-- The content of a tile write: payload, then scale bytes; a poisoned granule carries its locator. -/
def PieceAns.content (a : PieceAns) : List (BitVec 8) :=
  let put (bs : List (BitVec 8)) (l : List (Nat × Word)) : List (BitVec 8) := l.foldl (fun b p => putPattern b p.1 p.2) bs
  put a.payload a.poison ++ put a.scales a.scalePoison

/-- Its poisoned granules as PSN bits. -/
def PieceAns.psn (a : PieceAns) : Nat :=
  let per := a.payload.length / 64
  psnOf (a.payload.length + a.scales.length) (a.poison.map (fun p => p.1) ++ a.scalePoison.map (fun p => per + p.1))

/-- The packet for piece `q` of a request of core `k`. -/
def tilePacket (k : Nat) (t : TileReq) (p : Piece) (a : Word) (n : Nat) : Packet :=
  let b : Packet := { Packet.zero with dplace := placeOf a, addr := mlaOf a, sdie := k / 256, slcore := k % 256, sendt := t.sentAt }
  match p.out with
  | some o => { b with vc := 1, opc := 3, len := n + n / 32, content := o.content, psn := o.psn }
  | none =>
    -- Table 11-10 gives a READ 8, 256 or 4,224 bytes: an index granule is read with the 256 bytes that hold it (log 24)
    if n = 4096 then { b with vc := 3, opc := 1, len := 4224 }
    else { b with vc := 3, opc := 1, addr := mlaOf a / 256 * 256, len := 256 }

/-- The number of the aperture write that carries part `q` of request `id`; other writes have the numbers of their transfers. -/
def partRef (id q : Nat) : Nat := 2 ^ 60 + id * 16 + q

/-- A part goes on to host memory (R452). -/
def State.pieceToHost (s : State) (k id q : Nat) (slot : Nat) (p : Piece) (n mla : Nat) (e : Endp) : State :=
  match s.apTranslate (mla - 0x4000000000) with
  | none => s.replyPiece k id q PieceAns.failed 1 e
  | some (l, ha) =>
    if (s.link l).up = false then s.replyPiece k id q PieceAns.failed linkDown e
    else
      let t := (s.markAway k id q).consume (id * 256 + 2 * q)
      match p.out with
      | some o => t.addApTile (partRef id q) l ha (mla - 0x4000000000) (o.content.take n) (o.content.drop n)
      | none => if 2048 ≤ s.apReadsOn l then s else t.addApRead (.tile k slot id q) l ha n

/-- A part reaches its endpoint: on this module it is read or written there, refused, or held for a wake; an attachment hands it
on. -/
def State.servePiece (s : State) (k id q : Nat) (slot : Option Nat) (t : TileReq) : State :=
  let ref := id * 256 + 2 * q
  match t.pieces[q]?, s.legFor ref (if t.write then 1 else 3) with
  | some p, some leg =>
    (match p.addr with
     | none => s
     | some a =>
      let n := t.pieceBytes
      let e := leg.dst
      if s.isHere (placeOf a) = false then
        match s.handOver ref leg (.tile k (slot.getD 16) id q) (tilePacket k t p a n) with
        | .sent u => u.markAway k id q
        | .moved u => u
        | .waits => s
        | .unreachable => s.replyPiece k id q PieceAns.failed 3 e
      else
        let m := mlaOf a
        let reg := s.region m
        let core := match reg with | .sram j _ => some j | _ => none
        if core.any s.asleep then s.holdForWake (core.getD 0) ref
        else if s.fillWaits reg then s
        else if s.memoryOff reg then s.replyPiece k id q PieceAns.failed 2 e
        else match s.poolAccess m n t.write true with
          | (u, none) => u.replyPiece k id q PieceAns.failed 2 e
          | (u, some b) =>
            match regionOf b with
            | .aperture _ => u.pieceToHost k id q (slot.getD 16) p n b e
            | _ =>
              match p.out with
              | some o => (u.writeTile b ⟨o.payload, o.scales, o.poison, o.scalePoison⟩).replyPiece k id q PieceAns.done 0 e
              | none =>
                let r := u.readTile b n
                r.1.replyPiece k id q ⟨true, r.2.payload, r.2.scales, r.2.poison, r.2.scalePoison⟩ 0 e)
  | _, _ => s

/-- A push for another module at the attachment of its port. -/
def State.pushAway (s : State) (p : Push) (packet : Packet) : State :=
  let src := p.srcDie * 256 + p.srcCore
  match s.legFor (p.id * 256) 1 with
  | none => s
  | some leg =>
    let rest (t : State) : State := { t with pushes := t.pushes.filter (fun q => q.id != p.id) }
    match s.handOver leg.ref leg (.push src p.srcSlot p.id) packet with
    | .sent t => rest t
    | .moved t => t
    | .waits => s
    | .unreachable => (rest s).replyPiece src p.id 0 PieceAns.failed 3 leg.dst

/-- The request of slot `n` goes out. -/
def State.issuePlan (s : State) (k x n : Nat) : State :=
  let sl := (s.core k).slot n
  let now := s.dieGtc (k / 256)
  let take (t : State) : State := t.updCore k (fun c =>
    let sh := c.entry x == .shared
    let c := { c with lastCtx := x, lastShared := if sh then x else c.lastShared }
    if x = 0 then { c with lastSlot0 := n } else { c with lastSlot1 := n })
  match s.plan sl with
  | .idle => s
  | .fault r => (if r = 2 then s.incObj .addrErrors (k / 256) else s).streamFault k n r
  | .index a =>
    let f := (take s).fresh
    let t : TileReq := ⟨f.1, sl.nextMem, some a, false, [Piece.ask a], 0, now⟩
    ((f.2.updSlot k n (fun y => { y with inflight := y.inflight ++ [t] })).progress k n).emitParts k t
  | .tile g ps =>
    let f := (take s).fresh
    let r := if sl.kind = 1 then f.2.storeTile k n g else (f.2, ⟨[], [], [], []⟩, flNone)
    let ps := if sl.kind = 1 then ps.zipIdx.map (fun p => { p.1 with out := some (r.2.1.piece (4096 / ps.length) p.2) }) else ps
    let t : TileReq := ⟨f.1, g, none, sl.kind == 1, ps, r.2.2, now⟩
    let s := r.1.updSlot k n (fun y => { y with nextMem := y.nextMem + 1, inflight := y.inflight ++ [t] })
    let s := ((s.progress k n).emitParts k t).startQueued k n
    match ((s.core k).slot n).inflight.find? (fun u => u.id == t.id) with
    | some u => if u.allAnswered then s.finishTile k n u else s
    | none => s

/-- STREAM_REQUEST_ISSUE: the controller of core `k` issues one request, if any is ready. -/
def execStreamRequestIssue (k : CoreId) (s : State) : Out :=
  if s.gatedCore k.key then .next s else
  let s := (List.range 32).foldl (fun t i => t.ownIndex k.key (i % 16)) s
  match s.nextServed k.key with
  | some (x, n) => .next (s.issuePlan k.key x n)
  | none => .next s

/-- The packet of a pushed tile for another module. -/
def Push.packet (p : Push) (time : Nat) : Packet :=
  let a : PieceAns := ⟨true, p.payload, p.scales, p.poison, p.scalePoison⟩
  { Packet.zero with
    vc := 1, opc := 4, dplace := placeOf p.dst, addr := mlaOf p.dst, sdie := p.srcDie, slcore := p.srcCore, sendt := time,
    len := 4224, content := a.content, psn := a.psn,
    hdr := [BitVec.ofNat 64 (p.srcSlot * 256 + p.child * 16 + p.dstSlot), BitVec.ofNat 64 p.gen, BitVec.ofNat 64 p.seq,
      BitVec.ofNat 64 (b2n p.failedTile)] }

/-- ENDPOINT_REQUEST_ARRIVE: request `id` of this module reaches its endpoint, or the Felun attachment that takes it on; `piece`
names the part of a tile request. -/
def execEndpointRequestArrive (id piece : Nat) (s : State) : Out :=
  match s.findReq id with
  | some r =>
    if r.stage ≠ .sent then .next s
    else if s.isHere (placeOf r.addr) = false then
      match s.legFor (id * 256) 1 with
      | some leg => .next (s.reqAway r leg)
      | none => .next s
    else if r.cls = 0 then .next (s.arriveScalar r) else .next s
  | none =>
    match s.pushes.find? (fun p => p.id == id && !p.rotate) with
    | some p => if s.isHere (placeOf p.dst) then .next s else .next (s.pushAway p (p.packet (s.dieGtc p.srcDie)))
    | none =>
      match s.findTile id with
      | some (k, slot, t) =>
        if t.write && (t.pieces[piece]?).all (fun p => p.addr.all (fun a => s.isHere (placeOf a))) then .next s
        else .next (s.servePiece k id piece slot t)
      | none => .next s

/-- STORE_WRITE: a part of a STORE tile is written at its destination on this module. -/
def execStoreWrite (id piece : Nat) (s : State) : Out :=
  match s.findTile id with
  | some (k, slot, t) => if t.write then .next (s.servePiece k id piece slot t) else .next s
  | none => .next s

/-- A request whose slot is gone: its entry is freed when it has its answers, and it is forgotten when none is on its way
(R86, R215). -/
def State.settleOrphan (s : State) (k : Nat) (o : Orphan) : State :=
  let s := if o.held && o.req.allAnswered then s.raiseOrphan k o else s
  s.updCore k (fun c => { c with
    orphans := (c.orphans.map (fun (x : Orphan) => if x.req.id = o.req.id ∧ o.req.allAnswered = true then { x with held := false } else x)).filter
      (fun x => !(x.req.id == o.req.id && x.req.allGot && x.req.allAnswered)) })

/-- A request with all its outcomes is finished at its slot, or forgotten without one. -/
def State.settleTile (s : State) (id : Nat) (write : Bool) : State :=
  match s.findTile id with
  | some (k, some n, t) => if t.write = write ∧ t.allAnswered = true then s.finishTile k n t else s
  | some (k, none, t) =>
    if t.write = write then (match (s.core k).orphans.find? (fun o => o.req.id == id) with | some o => s.settleOrphan k o | none => s) else s
  | none => s

/-- The answers to a request that stand at its core are taken. -/
def State.landAnswers (s : State) (id : Nat) (write : Bool) : State :=
  match s.findTile id with
  | none => s
  | some (k, _, t) =>
    if t.write ≠ write then s
    else t.pieces.zipIdx.foldl (fun (u : State) (p : Piece × Nat) =>
      let ref := id * 256 + 2 * p.2 + 1
      match p.1.resp, u.standing ref with
      | some (st, a), some _ => (u.consume ref).landPiece k id p.2 a st
      | _, _ => u) s

/-- STREAM_RESPONSE_LAND. -/
def execStreamResponseLand (id : Nat) (s : State) : Out := .next ((s.landAnswers id false).settleTile id false)

/-- A part is due at a timeout: it has no outcome within its tier's time. Own local SRAM never times out (R245), and neither does
a forward of the rotation ring, which R245 does not name (R235). -/
def State.partDue (s : State) (k : Nat) (slot : Option Nat) (t : TileReq) (p : Piece) : Bool :=
  let ring := match slot with | some n => ((s.core k).slot n).kind == 5 | none => false
  match t.target p with
  | some a =>
    !ring && p.ans.isNone && !(s.isHere (placeOf a) && coreOfWord a == some k) &&
      decide (s.tierTimeout (s.tierOf a) ≤ s.dieGtc (k / 256) - t.sentAt)
  | none => false

/-- TILE_REQUEST_TIMEOUT (R215): parts without an answer within their tier's timeout fail; when none is left, the entry
is freed and the tile is finished as failed, and a late answer is dropped and counted. -/
def execTileRequestTimeout (id : Nat) (s : State) : Out :=
  match s.findTile id with
  | none => .next s
  | some (k, slot, t) =>
    match t.pieces.find? (s.partDue k slot t) with
    | none => .next s
    | some p =>
      let u := match t.target p with | some a => s.countTier a 1 | none => s
      let u := u.updTile k id (fun x => { x with
        pieces := x.pieces.map (fun p => if s.partDue k slot t p then { p with ans := some PieceAns.failed } else p) })
      .next (u.settleTile id t.write)

/-- STREAM_WATCHDOG_EXPIRY (R225). -/
def execStreamWatchdogExpiry (k : CoreId) (n : Fin 16) (s : State) : Out :=
  let x := (s.core k.key).slot n.val
  if x.peerStalled ∧ 1000000 * s.obj .streamWdt ≤ s.countedSince x.progressAt then
    .next (s.streamFault k.key n.val 9)
  else .next s

end Sys2Proof.Machine
end

