-- ==== Sys2Proof/Machine/Push.lean ====
section
/-! DEFINITION. Chapter 07: credits, pushed tiles, the REDUCE adder and the rotation ring (R216 to R219, R231 to R236). -/

namespace Sys2Proof.Machine

/-! ### Credits -/

/-- Whether a slot pushes: a SEND, or a REDUCE with OUT_LOCAL = 0; and to whom (R217, R233). -/
def Slot.pushes (x : Slot) : Bool := x.kind == 3 || (x.kind == 4 && !x.outLocal)
def Slot.receiver (x : Slot) : Word := BitVec.ofNat 64 (if x.kind = 3 then x.word 2 else x.word 5)

/-- A credit reaches slot `n` of core `k` (R217). -/
def State.takeCredit (s : State) (k n : Nat) (key : Word) (gen : Nat) : State :=
  let x := (s.core k).slot n
  if x.st = .closed then
    if (x.bankOrigin.isNone || x.bankOrigin == some key) && decide (x.credits.length < 64) then
      s.updSlot k n (fun y => { y with bankOrigin := some key, credits := y.credits ++ [gen] })
    else if x.bankOrigin == some key then s
    else s.dropArrival k n
  else if x.pushes && s.peerKey x.receiver x.peerSlot == key then
    ((s.updSlot k n (fun y => { y with credits := y.credits ++ [gen] })).progress k n).startQueued k n
  else s.dropArrival k n

/-- Destination record words of a mouthpiece's banks that are RECV rings (Table 12-3). -/
def State.ringDests (s : State) (port : Nat) : List Word :=
  ([0, 1].flatMap (fun b => (aget Bank.zero s.banks (port * 2 + b)).dests.map (fun e => e.2))).filter
    (fun w => bitsOf w.toNat 63 62 == 0)

/-- A credit reaches a mouthpiece (R387): a newer arm generation starts the pair anew. -/
def State.mouthCredit (s : State) (port core slot gen : Nat) : State :=
  let named := (s.ringDests port).any (fun w =>
    bitsOf w.toNat 43 40 == slot && (match regionOf (w.toNat % 2 ^ 40) with | .sram k _ => k == core | _ => false))
  if named = false then s.incObj .mpCounters port 8
  else s.updMouth port (fun m =>
    match m.pairs.find? (fun p => p.core == core && p.slot == slot) with
    | none => { m with pairs := m.pairs ++ [⟨core, slot, 1, gen, 0⟩] }
    | some p =>
      let q : Pair := if p.gen < gen then ⟨core, slot, 1, gen, 0⟩
        else if p.gen = gen then { p with credits := p.credits + 1 } else p
      { m with pairs := m.pairs.map (fun r => if r.core = core ∧ r.slot = slot then q else r) })

/-- The packet of a credit for a core of another module. -/
def Credit.packet (c : Credit) (s : State) : Packet :=
  let k := (coreOfWord c.origin).getD 0
  { Packet.zero with
    vc := 5, opc := 8, dplace := placeOf c.dst, addr := mlaOf c.dst, sdie := k / 256, slcore := k % 256, sendt := s.gtc,
    hdr := [BitVec.ofNat 64 (c.originSlot * 256 + c.dstSlot), BitVec.ofNat 64 c.gen, 0, 0] }

/-- A credit and its leg are consumed. -/
def State.creditGone (s : State) (id : Nat) : State :=
  ({ s with credits := s.credits.filter (fun d => d.id != id) }).consume (id * 256)

/-- PUSH_CREDIT_ARRIVE: a credit reaches its producer on this module, or the attachment of the port that takes it on. -/
def execPushCreditArrive (id : Nat) (s : State) : Out :=
  match s.credits.find? (fun c => c.id == id && c.dstSlot != mouthSlot), s.standing (id * 256) with
  | some c, some leg =>
    let t := s.creditGone id
    let src := (coreOfWord c.origin).getD 0
    if s.isHere (placeOf c.dst) = false then
      -- the port that is the next hop now may be another one (11 R373)
      match s.wayTo leg.src (src / 256) c.dst 5 with
      | none => .next (t.countPort (src / 256) 13)
      | some e =>
        if e = leg.dst then .next (t.sendUntagged (src / 256) (c.packet s))
        else .next ((s.consume leg.ref).emit leg.ref leg.cls leg.len leg.psn leg.dst e false)
    else match s.region (mlaOf c.dst) with
      | .sram k _ =>
        if s.asleep k then .next (s.holdForWake k leg.ref)
        else if s.regionOff k then .next t
        else .next (t.takeCredit k c.dstSlot (s.peerKey c.origin c.originSlot) c.gen)
      | _ => .next t
  | _, _ => .next s

/-- MOUTHPIECE_CREDIT: a credit of a RECV whose producer is a mouthpiece reaches the attachment of its port. -/
def execMouthpieceCredit (id : Nat) (s : State) : Out :=
  match s.credits.find? (fun c => c.id == id && c.dstSlot == mouthSlot), s.standing (id * 256) with
  | some c, some _ =>
    .next ((s.creditGone id).mouthCredit (c.dst.toNat % 64) ((coreOfWord c.origin).getD 0) c.originSlot c.gen)
  | _, _ => .next s

/-! ### Pushes -/

/-- A transfer that waits for one acknowledgement. -/
def pushReq (id tile : Nat) (dst : Word) (now : Nat) : TileReq :=
  ⟨id, tile, some dst, true, [⟨none, false, false, none, none, none, false⟩], 0, now⟩

/-- The number of a slot's next tile in the stream of its receiver (R218): it counts on from the last push to that receiver under
the same arm generation, whatever became of the producer's own slot meanwhile. -/
def Slot.nextSeq (x : Slot) (recv : Word) (gen : Nat) : Nat := if x.pushTo = recv ∧ x.pushGen = gen then x.pushSeq else 0

/-- A push leaves its core: not through the grid to a receiver on the same core (R233), else in W2D. -/
def State.emitPush (s : State) (p : Push) : State :=
  let k := p.srcDie * 256 + p.srcCore
  let own := s.isHere (placeOf p.dst) && coreOfWord p.dst == some k
  let bits := (PieceAns.mk true p.payload p.scales p.poison p.scalePoison).bits
  let src := s.coreEndp k
  if own then { s with pushes := s.pushes ++ [p] }
  else match s.wayTo src p.srcDie p.dst 1 with
    | some e => ({ s with pushes := s.pushes ++ [p] }).emit (p.id * 256) 3 34 bits src e false
    | none => s.landPiece k p.id 0 PieceAns.failed 3

/-- PUSH_TILE_SEND: slot `n` pushes its next tile, while it holds a credit (R217, R233). -/
def execPushTileSend (c : CoreId) (n : Fin 16) (s : State) : Out :=
  let k := c.key
  if s.gatedCore k then .next s else
  let x := (s.core k).slot n.val
  let avail := if x.kind = 3 then x.handed else x.sums
  match x.credits with
  | [] => .next s
  | gen :: more =>
    if (x.st = .active ∨ x.st = .ended) ∧ x.paused = false ∧ x.pushes = true ∧ x.nextMem < avail then
      if s.peerBad x.receiver then .next ((s.incObj .addrErrors c.die.val).streamFault k n.val 2)
      else
        let now := s.dieGtc c.die.val
        let f := s.fresh
        let r := f.2.readTile (x.posMla (x.posOf x.nextMem)) 4096
        let recv := s.peerKey x.receiver (x.peerSlot * 2 + x.peerChild)
        let seq := x.nextSeq recv gen
        let p : Push :=
          { id := f.1, srcDie := c.die.val, srcCore := c.core.val, srcSlot := n.val, dst := x.receiver, dstSlot := x.peerSlot,
            child := x.peerChild, gen := gen, seq := seq, payload := r.2.payload, scales := r.2.scales,
            poison := r.2.poison, scalePoison := r.2.scalePoison, failedTile := false, rotate := false }
        let t := r.1.updSlot k n.val (fun y => { y with
          credits := more, nextMem := y.nextMem + 1, pushTo := recv, pushGen := gen, pushSeq := seq + 1
          inflight := y.inflight ++ [pushReq f.1 y.nextMem p.dst now] })
        .next (((t.emitPush p).progress k n.val).startQueued k n.val)
    else .next s

/-- Who may push into a slot: the producer of a RECV, by core and slot or by port, or a child of a REDUCE (R216). -/
def State.producerKey (s : State) (x : Slot) (child : Nat) : Word :=
  if x.kind = 2 then
    (if x.peerk = 1 then BitVec.ofNat 64 (x.word 2 % 64) else s.peerKey (BitVec.ofNat 64 (x.word 2)) x.peerSlot)
  else if child = 0 then s.peerKey (BitVec.ofNat 64 (x.word 2)) x.c0slot
  else s.peerKey (BitVec.ofNat 64 (x.word 4)) x.c1slot

/-- Whether a pushed tile can land (R218). -/
def State.pushOk (s : State) (x : Slot) (child gen seq : Nat) (key : Word) : Bool :=
  (x.st == .active || x.st == .ended) && (x.kind == 2 || x.kind == 4) && gen == x.gen &&
  s.producerKey x child == key &&
  (if x.kind = 2 then decide (seq < x.granted0) && decide (x.presented ≤ seq) && !x.landed.contains seq
   else if child = 0 then decide (seq < x.granted0) && decide (x.sums ≤ seq) && !x.child0.contains seq
   else decide (seq < x.granted1) && decide (x.sums ≤ seq) && !x.child1.contains seq)

/-- A pushed tile arrives at slot `n` of core `k` (R218, R232): landed, or dropped; the Bool says which. -/
def State.landPush (s : State) (k n child gen seq : Nat) (key : Word) (t : TileData) (failed : Bool) : State × Bool :=
  let x := (s.core k).slot n
  let child := if x.kind = 4 then child else 0
  if s.pushOk x child gen seq key = false then (s.dropArrival k n, false)
  else
    let half := x.ring / 2
    let pos := if x.kind = 4 then child * half + seq % half else x.posOf seq
    let s := s.writeTile (x.posMla pos) t
    let s := if failed then s.failTile k n (seq / x.count) ((t.poison.head?.map (fun p => p.2)).getD 0) else s
    let s := s.updSlot k n (fun y =>
      if y.kind = 2 then { y with landed := y.landed ++ [seq], credOut0 := y.credOut0 - 1 }
      else if child = 0 then { y with child0 := y.child0 ++ [seq], credOut0 := y.credOut0 - 1 }
      else { y with child1 := y.child1 ++ [seq], credOut1 := y.credOut1 - 1 })
    let s := s.progress k n
    (if x.kind = 2 then s.presentAll k n else s, true)

/-- PUSHED_TILE_ARRIVE: a pushed tile of this module reaches its receiver and is acknowledged, or dropped (R218). On its own core
it needs no leg, and its acknowledgement none. -/
def execPushedTileArrive (id : Nat) (s : State) : Out :=
  match s.pushes.find? (fun p => p.id == id && !p.rotate) with
  | none => .next s
  | some p =>
    let t : State := { s with pushes := s.pushes.filter (fun q => q.id != id) }
    let src := p.srcDie * 256 + p.srcCore
    if s.isHere (placeOf p.dst) = false then .next s
    else match s.region (mlaOf p.dst) with
      | .sram k _ =>
        let land := t.landPush k p.dstSlot p.child p.gen p.seq (s.peerKey (globalHere (sramMla src 0)) p.srcSlot)
          ⟨p.payload, p.scales, p.poison, p.scalePoison⟩ p.failedTile
        let ans := if land.2 then PieceAns.done else PieceAns.failed
        if k = src then .next (land.1.landPiece src id 0 ans 2)
        else match s.legFor (id * 256) 1 with
          | none => .next s
          | some leg =>
            if s.asleep k then .next (s.holdForWake k leg.ref)
            else if s.regionOff k then .next (t.replyPiece src id 0 PieceAns.failed 2 leg.dst)
            else .next (land.1.replyPiece src id 0 ans 2 leg.dst)
      | _ => .next t

/-- STORE_WRITE_ACK: the acknowledgements of a STORE tile or a push that have come back are taken (R218, R228). -/
def execStoreWriteAck (id : Nat) (s : State) : Out := .next ((s.landAnswers id true).settleTile id true)

/-! ### REDUCE (R231, R232) -/

/-- One lane of a sum. -/
def reduceLane (int : Bool) (a b : Nat) : Nat × Flags :=
  if int then
    let v := signed 32 a + signed 32 b
    if v > 2 ^ 31 - 1 then (2 ^ 31 - 1, flSAT) else if v < -(2 ^ 31 : Int) then (2 ^ 31, flSAT) else (wrap 32 v, flNone)
  else
    let r := (fmtFP32.decode a).add (fmtFP32.decode b)
    let d := fmtFP32.result .rne r.1
    (d.1, d.2 ||| r.2)

/-- The sum of two payloads, granule by granule: poison passes with its locator, child 0 first (R232, R253). -/
def reduceTiles (int : Bool) (a b : TileData) : TileData × Flags :=
  let na := leNat a.payload
  let nb := leNat b.payload
  let bad (g : Nat) : Option Word := match locOf a.poison g with | some l => some l | none => locOf b.poison g
  let lanes := tabulate 1024 (fun i =>
    if (bad (i / 16)).isSome then (0, flNone) else reduceLane int (fieldAt 32 na i) (fieldAt 32 nb i))
  (⟨leBytes 4096 (packFields 32 (lanes.map (fun l => l.1))), List.replicate 128 0,
    (List.range 64).filterMap (fun g => (bad g).map (fun l => (g, l))), []⟩,
   lanes.foldl (fun f l => f ||| l.2) flNone)

/-- REDUCE_SUM: the next pair whose two tiles are present is added over child 0's position. -/
def execReduceSum (c : CoreId) (n : Fin 16) (s : State) : Out :=
  let k := c.key
  if s.gatedCore k then .next s else
  let x := (s.core k).slot n.val
  if x.kind = 4 ∧ (x.st = .active ∨ x.st = .ended) ∧ x.child0.contains x.sums = true ∧ x.child1.contains x.sums = true then
    let half := x.ring / 2
    let p0 := x.posMla (x.sums % half)
    let a := s.readPayload p0 4096
    let b := a.1.readPayload (x.posMla (half + x.sums % half)) 4096
    let r := reduceTiles (x.fsrc == 0xD) a.2 b.2
    let s := (b.1.writeTile p0 r.1).raise k ((s.core k).slotOwner n.val) r.2
    let s := s.updSlot k n.val (fun y => { y with
      sums := y.sums + 1, child0 := y.child0.erase y.sums, child1 := y.child1.erase y.sums
      landed := if y.outLocal then y.landed ++ [y.sums] else y.landed })
    let s := s.progress k n.val
    .next (if x.outLocal then s.presentAll k n.val else s.topUpCredits k n.val)
  else .next s

/-! ### ROTATE (R234, R235) -/

/-- A half is free for step `q`: the tiles of step q - 2 are released and their forwards acknowledged. -/
def Slot.halfFree (x : Slot) (q : Nat) : Bool :=
  decide ((q - 1) * x.group ≤ x.released) && decide ((q - 1) * x.group ≤ x.completed)

/-- The check of the own shard's group at `a` (R203, R234): 256-byte aligned, and wholly inside the core's own local SRAM. -/
def shardCheck (k : Nat) (x : Slot) (a : Nat) : Option Nat :=
  if 2 ^ 40 ≤ x.word 2 then some 2
  else if a % 256 ≠ 0 then some 3
  else if sramMla k 0 ≤ a ∧ a + x.group * 4096 ≤ sramMla k 0 + 2 ^ 22 then none
  else some 2

/-- The stream copies its next own group into the half of step q = 16 g, once that half is free. A group that is not the core's own
faults the stream before it is read (R203). -/
def State.rotateCopy (s : State) (k n : Nat) : State :=
  let x := (s.core k).slot n
  let q := (x.presented + 16 * x.group - 1) / (16 * x.group) * 16
  if x.kind = 5 ∧ x.st = .active ∧ x.paused = false ∧ q * x.group < x.nextBase ∧ x.landed.contains (q * x.group) = false ∧
      x.halfFree q = true then
    let g := q % (x.count / x.group) / 16
    let a := x.word 2 + g * x.group * 4096
    match shardCheck k x a with
    | some r => (if r = 2 then s.incObj .addrErrors (k / 256) else s).streamFault k n r
    | none =>
      let t := (List.range x.group).foldl (fun t i =>
        let r := t.readTile (a + i * 4096) 4096
        r.1.writeTile (x.posMla (x.posOf (q * x.group + i))) r.2) s
      ((t.updSlot k n (fun y => { y with
        landed := y.landed ++ tabulate y.group (fun i => q * y.group + i) })).progress k n).presentAll k n
  else s

/-- The next tile a slot forwards: the oldest not yet sent, the last step of a group left out. -/
def Slot.nextForward (x : Slot) : Nat :=
  if x.nextMem / x.group % 16 = 15 then (x.nextMem / x.group + 1) * x.group else x.nextMem

def Slot.canForward (x : Slot) : Bool :=
  x.kind == 5 && (x.st == .active || x.st == .ended) && !x.paused && decide (x.nextForward < x.presented)

/-- The downstream core: logical core (j + 1) mod 16 of the cluster. -/
def downstream (k : Nat) : Nat := k / 16 * 16 + (k + 1) % 16

/-- ROTATE_FORWARD: ROTATE slots of core `k` copy their own groups where a half is free, and one of them, round robin,
forwards its next present tile (R235, R236). -/
def execRotateForward (c : CoreId) (s : State) : Out :=
  let k := c.key
  let s := (List.range 16).foldl (fun t n => t.rotateCopy k n) s
  let d := s.core k
  match ((List.range 16).map (fun i => (d.lastRot + 1 + i) % 16)).find? (fun n => (d.slot n).canForward) with
  | none => .next s
  | some n =>
    let x := d.slot n
    let t := x.nextForward
    let f := s.fresh
    let r := f.2.readTile (x.posMla (x.posOf t)) 4096
    let dst := globalHere (sramMla (downstream k) 0)
    let p : Push :=
      { id := f.1, srcDie := c.die.val, srcCore := c.core.val, srcSlot := n, dst := dst, dstSlot := n, child := x.group,
        gen := x.count, seq := t, payload := r.2.payload, scales := r.2.scales, poison := r.2.poison,
        scalePoison := r.2.scalePoison, failedTile := false, rotate := true }
    let s := (r.1.updCore k (fun e => { e with lastRot := n })).updSlot k n (fun y => { y with
      nextMem := t + 1
      inflight := y.inflight ++ [pushReq f.1 t dst (s.dieGtc c.die.val)] })
    .next (({ s with pushes := s.pushes ++ [p] }).incObj .rotateTiles c.die.val)

/-- ROTATE_TILE_ARRIVE: a forwarded tile lands in the half of the next step, when that half is free; a tile that finds
no matching stream waits (R235, R236). The link's acknowledgement returns with it. -/
def execRotateTileArrive (id : Nat) (s : State) : Out :=
  match s.pushes.find? (fun p => p.id == id && p.rotate) with
  | none => .next s
  | some p =>
    let src := p.srcDie * 256 + p.srcCore
    let k := downstream src
    let x := (s.core k).slot p.dstSlot
    let t := p.seq + p.child
    if x.kind = 5 ∧ (x.st = .active ∨ x.st = .ended) ∧ x.count = p.gen ∧ x.group = p.child ∧ t < x.nextBase ∧
        x.presented ≤ t ∧ x.landed.contains t = false ∧ x.halfFree (t / x.group) = true then
      let s : State := { s with pushes := s.pushes.filter (fun q => q.id != id) }
      let s := s.writeTile (x.posMla (x.posOf t)) ⟨p.payload, p.scales, p.poison, p.scalePoison⟩
      let s := (s.updSlot k p.dstSlot (fun y => { y with landed := y.landed ++ [t] })).progress k p.dstSlot
      let s := s.presentAll k p.dstSlot
      .next ((s.landPiece src id 0 PieceAns.done 0).settleTile id true)
    else .next s

end Sys2Proof.Machine
end

