-- ==== Sys2Proof/Machine/Rx.lean ====
section
/-! DEFINITION. Chapter 11: packets that have arrived whole at a port and wait to be consumed, and the credits that their
consumption frees (R355, R363). -/

namespace Sys2Proof.Machine

/-- Data flits of a packet (R355). -/
def Packet.flits (p : Packet) : Nat :=
  let n := p.content.length
  if n ≤ 32 then 1 else (64 + n + 255) / 256

/-- The oldest packet of a VC code that a port has received. -/
def Port.rxHead (q : Port) (vc : Nat) : Option Packet := q.rxq.find? (fun p => p.vc == vc)

/-- The oldest packet of its VC that `f` accepts. -/
def Port.rxFind (q : Port) (f : Packet → Bool) : Option Packet :=
  ([0, 1, 2, 3, 4, 5, 6].filterMap q.rxHead).find? f

def dropFirst (f : Packet → Bool) : List Packet → List Packet
  | [] => []
  | p :: ps => if f p then ps else p :: dropFirst f ps

/-- The oldest packet of a VC is consumed: its flits' space is freed and will be credited. -/
def State.rxDrop (s : State) (port vc : Nat) : State :=
  s.updPort port (fun q =>
    match q.rxHead vc with
    | none => q
    | some p => { q with
        rxq := dropFirst (fun r => r.vc == vc) q.rxq
        freed := aset 0 q.freed vc (aget 0 q.freed vc + p.flits) })

end Sys2Proof.Machine
end

