-- ==== Sys2Proof/Machine/Census.lean ====
section
/-! DEFINITION. Chapter 09: the valve watchdog and the hang census (R297 to R303), and the census messages of chapter 15
(R499, R500). -/

namespace Sys2Proof.Machine

/-- The place as identities hold it: 0xFF_FFFF while not valid. -/
def State.idPlace (s : State) : Nat := if s.obj .placeValid = 1 then s.place % 2 ^ 24 else 0xFFFFFF

/-- The node identity of a context: Table 9-6 with bits [24:0] zero. -/
def State.nodeId (s : State) (k x : Nat) : Word :=
  BitVec.ofNat 64 (s.idPlace * 2 ^ 40 + k / 256 % 64 * 2 ^ 34 + k % 256 * 2 ^ 26 + x % 2 * 2 ^ 25)

def nodeOf (w : Word) : Word := BitVec.ofNat 64 (w.toNat / 2 ^ 25 * 2 ^ 25)
def nodeDie (w : Word) : Nat := bitsOf w.toNat 39 34

/-! ### The snapshot -/

/-- The copied record of a core; a core that stood at its reset state then has no entry of its own. -/
def State.snapRecord (s : State) (k : Nat) : List Word :=
  if s.fencedDie = some (k / 256) then List.replicate 128 0
  else match s.census.recs.find? (fun e => e.1 == k) with
    | some e => e.2
    | none =>
      (({ s with cores := aset Core.zero s.cores k Core.zero }).coreRecord k).set 6 (BitVec.ofNat 64 s.census.snapFirst)

/-- The wait block of a context in the snapshot: WAIT_OBJ, WAIT_SINCE and the last signaller of what it waits for. -/
def State.snapWait (s : State) (k x : Nat) : Word × Word × Word :=
  let r := s.snapRecord k
  (r.getD (8 + 8 * x) 0, r.getD (9 + 8 * x) 0, r.getD (13 + 8 * x) 0)

/-- A waiting node: LIVE or FIRED (R300). -/
def waitingObj (obj : Word) : Bool := obj.getLsbD 63 || obj.getLsbD 62

/-- The edge of a waiting node, none for an orphan. -/
def edgeOf (w : Word × Word × Word) : Option Word :=
  if bitsOf w.1.toNat 61 59 = 4 ∨ bitsOf w.1.toNat 61 59 = 0 ∨ nodeDie w.2.2 = 63 then none else some w.2.2

/-- The waiting contexts of the snapshot, in ascending order. -/
def State.waitingNodes (s : State) : List (Nat × Nat) :=
  (s.census.recs.map (fun e => e.1)).flatMap (fun k =>
    [0, 1].filterMap (fun x => if waitingObj (s.snapWait k x).1 then some (k, x) else none))

/-! ### The census area (R302) -/

abbrev censusArea : Nat := 0xBF000000

/-- Words to the census area; nothing while die 0's memory is off or fenced. -/
def State.areaWrite (s : State) (off : Nat) (ws : List Word) : State :=
  if s.pwr.darkDies.contains 0 || s.fencedDie == some 0 then s
  else s.writeMem (censusArea + off) (ws.flatMap (fun w => leBytes 8 w.toNat))

def State.edges (s : State) : List (List Word) :=
  s.waitingNodes.filterMap (fun n =>
    let w := s.snapWait n.1 n.2
    (edgeOf w).map (fun t => [s.nodeId n.1 n.2, t, w.1, w.2.1]))

/-- The header (Table 9-12). -/
def State.censusHeader (s : State) (status : Nat) : List Word :=
  let c := s.census
  let nodes := s.waitingNodes
  let orphans := (nodes.filter (fun n => (edgeOf (s.snapWait n.1 n.2)).isNone)).length
  let fired := (nodes.filter (fun n => ((s.snapWait n.1 n.2).1).getLsbD 62)).length
  let lim (n : Nat) : Nat := min n 65535
  [BitVec.ofNat 64 (c.trigger * 2 ^ 56 + status * 2 ^ 48 + 2 ^ 32 + 0xC35E2401), BitVec.ofNat 64 (s.obj .censusId),
    BitVec.ofNat 64 s.idPlace, BitVec.ofNat 64 c.startT, BitVec.ofNat 64 c.startCal, BitVec.ofNat 64 c.snapFirst,
    BitVec.ofNat 64 c.snapLast, BitVec.ofNat 64 s.gtc,
    BitVec.ofNat 64 (lim c.cycles.length * 2 ^ 48 + lim s.edges.length * 2 ^ 32 + lim orphans * 2 ^ 16 + lim fired),
    BitVec.ofNat 64 (c.sent % 2 ^ 32 * 2 ^ 32 + c.received % 2 ^ 32), BitVec.ofNat 64 c.dieMask]

/-- One cycle record: 128 words. -/
def cycleRecord (id : Nat) (c : Nat × Nat × List Word) : List Word :=
  fitTo 0 128 ([BitVec.ofNat 64 (c.1 * 2 ^ 48 + b2n (decide (64 < c.1))), BitVec.ofNat 64 c.2.1, BitVec.ofNat 64 id, 0] ++
    c.2.2.take 64)

/-! ### Messages (R499, R500) -/

/-- A probe (Table 15-12). -/
structure Probe where
  id : Word
  origin : Word
  target : Word
  hops : Nat
  first : List Word
  after : List Word
  minpos : Nat
  low : Word
  deriving DecidableEq, Repr

def wordsBytes (l : List Word) : List (BitVec 8) := l.flatMap (fun w => leBytes 8 w.toNat)

def Probe.bytes (p : Probe) : List (BitVec 8) :=
  leBytes 8 2 ++ wordsBytes [p.id, p.origin, p.target] ++ leBytes 2 p.hops ++ leBytes 1 p.first.length ++
    leBytes 1 p.after.length ++ leBytes 4 p.minpos ++ leBytes 8 p.low.toNat ++
    fitTo 0 504 (wordsBytes p.first) ++ fitTo 0 504 (wordsBytes p.after)

def wordAt (bs : List (BitVec 8)) (i : Nat) : Word := BitVec.ofNat 64 (leNat ((bs.drop i).take 8))

def Probe.ofBytes (bs : List (BitVec 8)) : Probe :=
  let ws (i n : Nat) : List Word := tabulate n (fun j => wordAt bs (i + 8 * j))
  { id := wordAt bs 8, origin := wordAt bs 16, target := wordAt bs 24, hops := natAt bs 32 2,
    first := ws 48 (min 63 (natAt bs 34 1)), after := ws 552 (min 63 (natAt bs 35 1)), minpos := natAt bs 36 4,
    low := wordAt bs 40 }

def requestBytes (id : Nat) : List (BitVec 8) := leBytes 8 1 ++ leBytes 8 id

def reportBytes (p : Probe) (outcome : Nat) : List (BitVec 8) :=
  leBytes 8 3 ++ wordsBytes [p.id, p.origin, p.target] ++ leBytes 2 p.hops ++ leBytes 1 outcome ++ leBytes 5 0 ++ leBytes 8 0

/-- A CENSUS packet. -/
def State.censusMsg (s : State) (place : Nat) (bs : List (BitVec 8)) : Packet :=
  { Packet.zero with
    vc := 6, opc := 0x21, dplace := place, splace := s.place, pidx := pidxOf 48 place, sdie := 48, sendt := s.gtc, len := bs.length,
    content := bs }

/-- A CENSUS packet goes from the MMC to the port for its place in W4 (10 R311); one for an unreachable place is dropped and counted
(11 R373). -/
def State.sendCensus (s : State) (place : Nat) (bs : List (BitVec 8)) : State :=
  let p := s.censusMsg place bs
  match s.nextHop p none with
  | some (n, vc) => s.sendOut mmcEndp n vc p
  | none => s.countPort 0 13

/-- The edge followed from position HOPS (R500). -/
def Probe.follow (p : Probe) (next : Word) : Probe :=
  let lower := decide (p.target.toNat < p.low.toNat) || p.hops == 0
  { p with
    first := if p.first.length < 63 then p.first ++ [p.target] else p.first
    low := if lower then p.target else p.low
    minpos := if lower then p.hops else p.minpos
    after := if lower then [] else if p.after.length < 63 then p.after ++ [p.target] else p.after
    target := next, hops := p.hops + 1 }

/-- The members of the cycle a probe has found: MIN, then AFTER, then FIRST from position 0, until MIN comes again. -/
def Probe.members (p : Probe) : List Word :=
  ([p.low] ++ p.after ++ p.first.takeWhile (fun w => w != p.low)).take 64

/-! ### Following probes (R301) -/

/-- A probe of this module's node has its outcome; a cycle is recorded once. -/
def State.probeDone (s : State) (origin : Word) (cycle : Option (Nat × Nat × List Word)) : State :=
  let c := s.census
  let c := { c with waiting := c.waiting.filter (fun w => w != origin) }
  match cycle with
  | none => { s with census := c }
  | some y =>
    if c.cycles.any (fun z => z.2.2 == y.2.2 && z.1 == y.1) then { s with census := c }
    else
      let s : State := { s with census := { c with cycles := c.cycles ++ [y] } }
      let s := s.setObj .censusCycles (c.cycles.length + 1)
      -- the area has room for 2,048 records (Table 9-11)
      if s.census.written && decide (c.cycles.length < 2048) then s.areaWrite (0xE00000 + 0x400 * c.cycles.length) (cycleRecord (s.obj .censusId) y) else s

/-- A probe ends here: at its origin's module the outcome is known, else it is reported. -/
def State.endProbe (s : State) (p : Probe) (outcome : Nat) : State :=
  let place := p.origin.toNat / 2 ^ 40
  if place = s.idPlace then s.probeDone p.origin none
  else s.sendCensus place (reportBytes p outcome)

/-- A probe stands at its TARGET (R301). `msgs` is false for a job confined to this module (R298). -/
def probeStep (msgs : Bool) : Nat → Probe → State → State
  | 0, p, s => s.endProbe p 4
  | fuel + 1, p, s =>
    if p.hops = 4096 ∧ p.target ≠ p.origin then s.endProbe p 4
    else if nodeDie p.target = 48 then s.endProbe p 2
    -- the edge leaves the module, back to its origin too
    else if p.target.toNat / 2 ^ 40 ≠ s.idPlace then
      if msgs then ({ s with census := { s.census with sent := s.census.sent + 1 } }).sendCensus (p.target.toNat / 2 ^ 40) p.bytes
      else s.endProbe p 2
    else if p.target = p.origin ∧ p.hops ≠ 0 then s.probeDone p.origin (some (p.hops, s.gtc, p.members))
    else
      let k := nodeDie p.target * 256 + bitsOf p.target.toNat 33 26
      let w := s.snapWait k (bitsOf p.target.toNat 25 25)
      if waitingObj w.1 = false then s.endProbe p 2
      else if s.census.passed.contains (p.origin, p.target) then s.endProbe p 3
      else match edgeOf w with
        | none => s.endProbe p 2
        | some t =>
          let s : State := { s with census := { s.census with passed := (p.origin, p.target) :: s.census.passed } }
          probeStep msgs fuel (p.follow (nodeOf t)) s

/-! ### The commands -/

/-- A module that answers census messages: a job runs, or it was removed with its records (R301, R592). -/
def State.censusAnswers (s : State) : Bool := s.jobRuns || (s.obj .moduleState == 5 && s.census.copied)

/-- A census starts (R299, Table 9-10). -/
def State.startCensus (s : State) (trigger id : Nat) : State :=
  let s := (s.setObj .censusState 1).setObj .censusId id
  let s : State := { s with census := { s.census with
    trigger := trigger, startT := s.gtc, startCal := s.obj .cal, written := false, waiting := [], passed := [], cycles := [] } }
  let s := s.areaWrite 0 (s.censusHeader 1)
  if s.obj .jobMulti = 1 then
    (List.range 48).foldl (fun t n =>
      let role := t.obj .portRole n
      if 2 ≤ role ∧ role ≤ 7 ∧ (t.port n).carries 6 = true then
        t.sendOut mmcEndp n 6 (t.censusMsg (t.port n).peerPlace (requestBytes id))
      else t) s
  else s

/-- The ID of a census that starts here. -/
def State.ownCensusId (s : State) : Nat := s.idPlace * 2 ^ 40 + s.gtc % 2 ^ 40

/-- A census of this job has started. -/
def State.censusMet (s : State) : Bool := s.obj .censusState != 0

/-- The watchdog fires for one waiting context (R297). -/
def State.fireWatchdog (s : State) (k x : Nat) : State :=
  let c := s.ctx k x
  let unit := match c.wait with | some (.fence _ _ _) => 0 | _ => 7
  let s := s.takeException k x ⟨8, unit, 0, c.pc, 0, 0⟩
  let s := s.updCtx k x (fun d => { d with waitBlk := { d.waitBlk with fired := true } })
  let s := s.incObj .wdtFires (k / 256)
  if s.censusMet = false ∧ s.jobRuns = true then s.startCensus 1 s.ownCensusId else s

/-- A context whose wait has lasted VALVE_WDT. -/
def State.late (s : State) (k x : Nat) : Bool :=
  let c := s.ctx k x
  c.st == .waiting && decide (1000000 * s.obj .valveWdt ≤ s.countedSince c.waitBlk.since)

/-- Contexts of a die whose wait has lasted VALVE_WDT. -/
def State.overdue (s : State) (d : Nat) : List (Nat × Nat) :=
  (s.cores.filter (fun e => e.1 / 256 == d)).flatMap (fun e => ([0, 1].filter (s.late e.1)).map (fun x => (e.1, x)))

/-- VALVE_WATCHDOG_SCAN: the supervisor of die `d` checks its waiting contexts; one that an earlier firing has halted is watched no
more. -/
def execValveWatchdogScan (d : Fin 48) (s : State) : Out :=
  .next ((s.overdue d.val).foldl (fun (t : State) n => if t.late n.1 n.2 then t.fireWatchdog n.1 n.2 else t) s)

/-- CENSUS_CMD: 1 starts a census, unless this job has met one (R299), which includes one that runs (Table 9-15). -/
def execCensusCmd (v : BitVec 8) (s : State) : Out :=
  if v = 1 ∧ s.censusMet = false then .next (s.startCensus 3 s.ownCensusId) else .next s

/-- The oldest CENSUS packet at a port; one of another KIND or length is consumed and counted (R499). -/
def censusPacket (kind : Nat) (p : Packet) : Bool :=
  let len := if kind = 1 then 16 else if kind = 2 then 1056 else 48
  p.opc == 0x21 && natAt p.content 0 1 == kind && p.content.length == len

def badCensus (p : Packet) : Bool := !(censusPacket 1 p || censusPacket 2 p || censusPacket 3 p)

/-- A CENSUS packet of one kind is taken from a port. -/
def takeCensus (kind port : Nat) (s : State) (act : List (BitVec 8) → State → State) : Out :=
  match (s.port port).rxHead 6 with
  | none => .next s
  | some p =>
    if p.opc ≠ 0x21 then .next s
    else if badCensus p then .next ((s.rxDrop port 6).countPort port 11)
    else if censusPacket kind p then
      -- it crosses the wafer to the MMC in W4 (10 R311)
      .next (act p.content ((s.rxDrop port 6).post 5 p.wafer.2 (attachEndp port 0) mmcEndp))
    else .next s

/-- CENSUS_REQUEST_RECEIVE: taken when it is the job's first, dropped and counted for another ID, ignored with no job. -/
def execCensusRequestReceive (port : Fin 48) (s : State) : Out :=
  takeCensus 1 port.val s (fun bs t =>
    let id := natAt bs 8 8
    if t.censusAnswers = false then t
    else if t.censusMet then (if t.obj .censusId = id then t else t.incObj .censusDropped)
    else t.startCensus 2 id)

/-- A module halted by a census request has its job-stopped event and its action (R591). -/
def State.stopForCensus (s : State) : State :=
  if s.obj .moduleState = 2 then
    let s := s.setObj .moduleState 4
    let s := s.raiseEvent 0x0105 2 0 (BitVec.ofNat 64 (s.obj .censusId))
    let s := match s.lastEvent with | some e => s.setLastStop e | none => s
    s.stopWalks.stopBells
  else s

/-- CENSUS_SNAPSHOT: issue is frozen, every core record copied and every context halted, in one step; records that a fault
copied before are kept (R587, R591). -/
def execCensusSnapshot (s : State) : Out :=
  if s.obj .censusState = 1 ∧ s.census.copied = false then
    let t := (s.copyRecords false).haltAll
    .next (if s.census.trigger = 1 then t else t.stopForCensus)
  else .next s

/-- Die snapshots written: every die but a fenced one. -/
def State.snapMask (s : State) : Nat :=
  ((List.range 48).map (fun d => if s.fencedDie = some d then 0 else 2 ^ d)).sum

/-- CENSUS_RECORDS_WRITE: the census area is written, and every waiting node originates a probe (R300 to R302). -/
def execCensusRecordsWrite (s : State) : Out :=
  if s.obj .censusState = 1 ∧ s.census.copied = true ∧ s.census.written = false then
    let s : State := { s with census := { s.census with dieMask := s.snapMask } }
    let s := if s.pwr.darkDies.contains 0 || s.fencedDie == some 0 then s else s.zeroFill censusArea (censusArea + 2 ^ 24)
    let s := s.areaWrite 0 (s.censusHeader 1)
    let s := s.census.hvs.foldl (fun t e => t.areaWrite (0x1000 + 0x20 * e.1) e.2) s
    let s := (List.range 12288).foldl (fun t k => t.areaWrite (0x100000 + 0x400 * k) (t.snapRecord k)) s
    let s := s.areaWrite 0xD00000 s.edges.flatten
    let nodes := s.waitingNodes.map (fun n => s.nodeId n.1 n.2)
    let s : State := { s with census := { s.census with written := true, waiting := nodes } }
    .next (nodes.foldl (fun t n =>
      probeStep (t.obj .jobMulti == 1) 4098 ⟨BitVec.ofNat 64 (t.obj .censusId), n, n, 0, [], [], 0, n⟩ t) s)
  else .next s

/-- CENSUS_PROBE_RECEIVE: followed along the snapshot, once there is one; at a module with no job the chain ends. -/
def execCensusProbeReceive (port : Fin 48) (s : State) : Out :=
  if s.censusAnswers && !s.census.copied then .next s
  else takeCensus 2 port.val s (fun bs t =>
    let t : State := { t with census := { t.census with received := t.census.received + 1 } }
    let p := Probe.ofBytes bs
    if t.censusAnswers then probeStep true 4098 p t else t.endProbe p 2)

/-- CENSUS_REPORT_RECEIVE: a probe of this module ended elsewhere, in no cycle of its origin. -/
def execCensusReportReceive (port : Fin 48) (s : State) : Out :=
  takeCensus 3 port.val s (fun bs t => t.probeDone (wordAt bs 16) none)

/-- CENSUS_COMPLETE: with every outcome known, or 1 s after the start (Table 9-10). -/
def execCensusComplete (s : State) : Out :=
  if s.obj .censusState = 1 ∧ s.census.written = true ∧ (s.census.waiting = [] ∨ s.census.startT + 1000000000 ≤ s.gtc) then
    let st := if s.census.waiting = [] then 2 else 3
    let s : State := { (s.setObj .censusState st) with census := { s.census with endT := s.gtc } }
    let s := s.areaWrite 0 (s.censusHeader st)
    .next (s.raiseEvent 0x0303 st (min s.census.cycles.length 65535) (BitVec.ofNat 64 (s.obj .censusId)))
  else .next s

end Sys2Proof.Machine
end

