-- ==== Sys2Proof/Machine/Reply.lean ====
section
/-! DEFINITION. Chapter 15: how the module sends a PDU: header, session keys and protection, mailboxes, and the end of a
commanded action (R470 to R478, R497). -/

namespace Sys2Proof.Machine

def strBytes (t : String) : List (BitVec 8) := t.toList.map (fun c => BitVec.ofNat 8 c.toNat)

/-- A PDU header (Table 15-4). -/
def pduHeader (svc status tid : Nat) (obj : Nat × Nat × Nat) (cnode sid blen flags : Nat) : List (BitVec 8) :=
  leBytes 1 svc ++ leBytes 1 status ++ leBytes 2 tid ++ leBytes 1 obj.1 ++ leBytes 2 obj.2.1 ++ leBytes 1 cnode ++
    leBytes 2 obj.2.2 ++ leBytes 2 sid ++ leBytes 2 blen ++ leBytes 1 flags ++ leBytes 1 0

/-! ### Keys (R475, R477) -/

/-- The management key of a slot: 32 bytes. -/
def State.mkeyBytes (s : State) (k : Nat) : List (BitVec 8) := (List.range 32).map (fun j => BitVec.ofNat 8 (s.obj .mkey k j))

def Session.prk (x : Session) (key : List (BitVec 8)) : List (BitVec 8) := Config.hkdfExtract (x.cnonce ++ x.mnonce) key

def Session.tail (x : Session) : List (BitVec 8) := leBytes 2 x.sid ++ leBytes 4 x.salt

/-- The key of a direction for counter `c`. -/
def Session.dirKey (x : Session) (key : List (BitVec 8)) (label : String) (c : Nat) : List (BitVec 8) :=
  Config.hkdfExpand (x.prk key) (strBytes label ++ x.tail ++ leBytes 4 (c / 2 ^ 32)) 32

/-- The proof of one side, for a place and a role. -/
def Session.proof (x : Session) (key : List (BitVec 8)) (side : String) (place : Nat) : List (BitVec 8) :=
  let kp := Config.hkdfExpand (x.prk key) (strBytes "chb-proof" ++ x.tail) 48
  (Config.hmac384 kp (strBytes side ++ x.cnonce ++ x.mnonce ++ leBytes 4 place ++ leBytes 1 x.role)).take 16

def Session.nonce (x : Session) (c : Nat) : List (BitVec 8) := leBytes 8 c ++ leBytes 4 x.salt

/-- A body sealed under a counter: the ciphertext and the trailer. -/
def Session.seal (x : Session) (key header body : List (BitVec 8)) (c : Nat) : List (BitVec 8) :=
  let k := x.dirKey key "chb-m2c" c
  let ct := fitTo 0 body.length (Config.gcmCrypt k (x.nonce c) body)
  ct ++ leBytes 4 c ++ fitTo 0 12 (Config.gcmTag k (x.nonce c) header ct)

/-! ### Sending -/

def State.session (s : State) (sid : Nat) : Option Session := s.chb.sessions.find? (fun (x : Session) => x.sid == sid && x.proven)

def State.updSession (s : State) (sid : Nat) (f : Session → Session) : State :=
  { s with chb := { s.chb with sessions := s.chb.sessions.map (fun (x : Session) => if x.sid = sid then f x else x) } }

def State.mailbox (s : State) (m : Nat) : Mailbox := aget Mailbox.zero s.chb.mailboxes m
def State.updMailbox (s : State) (m : Nat) (f : Mailbox → Mailbox) : State :=
  { s with chb := { s.chb with mailboxes := amod Mailbox.zero s.chb.mailboxes m f } }

/-- CHB_COUNTERS: 0 requests served, 1 RETX_ANSWERED, 2 tags refused, 3 counters refused, 4 proofs refused, 5 and 6 blocks
resent transient and lasting, 7 and 8 events resent transient and lasting, 9 transfers aborted. -/
def State.countChb (s : State) (k : Nat) : State := s.incObj .chbCounters 0 k

/-- The client's node field. -/
def clientNode : Client → Nat
  | .can _ n => n
  | _ => 0

/-- A bus that carries frames: enabled, not off, its transmitter not disabled (R492, 21 R638). -/
def State.canSends (s : State) (b : Nat) : Bool :=
  s.obj .canEn b == 1 && !(aget CanPort.zero s.bnd.can b).busOff && !(s.obj .canPhy b).testBit 4

/-- A message takes the response buffer of a mailbox, or waits for it. -/
def Mailbox.put (b : Mailbox) (bytes : List (BitVec 8)) : Mailbox :=
  if b.ready then { b with waiting := b.waiting ++ [bytes], busy := false }
  else { b with resp := bytes, rlen := bytes.length, ready := true, busy := false }

/-- A PDU for the MMC behind a port: a MGMT packet, over the wafer in W4 and on VC5 to the direct peer alone (R498, 12 R381). -/
def State.sendMgmt (s : State) (n : Nat) (pdu : List (BitVec 8)) : State :=
  let p := s.port n
  s.sendOut mmcEndp n 6 { Packet.zero with
    opc := 0x20, vc := 6, dplace := if p.peerPlace = 0xFFFFFF then s.place else p.peerPlace, splace := s.place, len := pdu.length,
    content := pdu }

/-- A PDU is sent to a client: in a session with its next counter. In a mailbox everything but an event, which the event
ring holds, takes the response buffer. -/
def State.sendMsg (s : State) (c : Client) (sid svc status tid : Nat) (obj : Nat × Nat × Nat) (body : List (BitVec 8))
    (plain retx : Bool) : State :=
  let x := if plain then none else s.session sid
  let header := pduHeader svc status tid obj (clientNode c) sid body.length (b2n retx)
  let bytes := match x with
    | some y => header ++ y.seal (s.mkeyBytes y.kslot) header body y.sendCtr
    | none => header ++ body
  let s := s.sendPdu ⟨c, sid, svc, status, tid, obj, body, x.map (fun y => y.sendCtr), retx⟩
  let s := match x with
    | some y => (s.updSession y.sid (fun z => { z with sendCtr := z.sendCtr + 1 })).closeWorn y.sid
    | none => s
  match c with
  | .pcie m => if svc = 0x0A then s else s.updMailbox m (fun b => b.put bytes)
  | .can b _ => if s.canSends b then s.incObj .canCounters b 1 else s
  | .udp _ _ => s
  | .felun n => s.sendMgmt n bytes

/-- The last 8 responses of a session, or of a SID-0 client, are kept (R483). -/
def State.keepAnswer (s : State) (c : Client) (sid : Nat) (k : Kept) : State :=
  let mine (x : Cache) : Bool := x.sid == sid && (sid != 0 || x.client == c)
  let old := match s.chb.caches.find? mine with | some x => x.kept | none => []
  { s with chb := { s.chb with caches := ⟨sid, c, (k :: old).take 8⟩ :: s.chb.caches.filter (fun (x : Cache) => !mine x) } }

/-- A response is kept and sent; one to a client of the Felun port carries no session. -/
def State.respond (s : State) (c : Client) (sid : Nat) (k : Kept) : State :=
  (s.keepAnswer c sid k).sendMsg c k.rsid (k.svc + 0x80) k.status k.tid k.obj k.answer false false

/-! ### Reception (R481, R482) -/

/-- A request that a response answers: not the messages of a running transfer or of an event. -/
def wantsAnswer (svc : Nat) : Bool := decide (svc < 0x80) && svc != 5 && svc != 6 && svc != 7 && svc != 8 && svc != 0x0B

/-- Requests of a client without a response: those that wait, and commanded actions not answered. -/
def State.openRequests (s : State) (c : Client) (sid : Nat) : Nat :=
  (s.chb.inbox.filter (fun (x : Inbound) =>
    natAt x.pdu 10 2 == sid && (sid != 0 || x.client == c) && wantsAnswer (natAt x.pdu 0 1) && !x.extra)).length +
  (s.chb.acts.filter (fun (a : CmdAct) => a.sid == sid && (sid != 0 || a.client == c) && !a.answered)).length

/-- A PDU has completed reception: it waits for its turn. -/
def State.receivePdu (s : State) (c : Client) (pdu : List (BitVec 8)) : State :=
  let extra := decide (4 ≤ s.openRequests c (natAt pdu 10 2)) && wantsAnswer (natAt pdu 0 1)
  { s with chb := { s.chb with inbox := s.chb.inbox ++ [⟨c, pdu, extra⟩] } }

/-! ### Actions of CMD objects (R470) -/

def objTriple (o : Obj) (i : Nat) : Nat × Nat × Nat := (o.info.code / 65536, o.info.code % 65536, i)

/-- An action ends with a status: its write is answered, or command-done is raised when 0x01 has answered it. -/
def State.endAct (s : State) (o : Obj) (i status : Nat) : State :=
  match s.chb.acts.find? (fun (a : CmdAct) => a.obj == objTriple o i) with
  | none => s
  | some a =>
    let s := { s with chb := { s.chb with acts := s.chb.acts.filter (fun (b : CmdAct) => b.obj != objTriple o i) } }
    if a.answered then
      s.raiseEvent 0x0107 status 0 (BitVec.ofNat 64 (a.obj.1 * 2 ^ 48 + a.obj.2.1 * 2 ^ 32 + a.obj.2.2 * 2 ^ 16 + a.tid % 65536))
    else
      -- a session that has closed meanwhile gets no answer
      if a.sid ≠ 0 ∧ (s.session a.sid).isNone then
        (match a.client with | .pcie m => s.updMailbox m (fun b => { b with busy := false }) | _ => s)
      else (s.countChb 0).respond a.client a.sid ⟨a.tid, 2, a.obj, a.body, status, [], a.sid⟩

end Sys2Proof.Machine
end

