-- ==== Sys2Proof/Machine/Pool.lean ====
section
/-! DEFINITION. Chapter 08: pool commands, live page moves, eviction and the pool's ranges (R257 to R272). -/

namespace Sys2Proof.Machine

/-! ### Pages -/

abbrev noBack : Nat := 0xFFFFFFFF

/-- POOL_COUNT, 0 for a fenced die (R596). -/
def State.poolPages (s : State) (d : Nat) : Nat := if s.fencedDie = some d then 0 else s.obj .poolCount d

def handleStack (d p : Nat) : Nat := d * 2 ^ 24 + p
def handleHost (p : Nat) : Nat := 2 ^ 30 + p
def isHostPage (h : Nat) : Bool := decide (2 ^ 30 ≤ h)
def dieOfHandle (h : Nat) : Nat := h / 2 ^ 24 % 64

/-- Free pages of a die, and of the host pool, lowest first. -/
def State.freeOn (s : State) (d : Nat) : List Nat :=
  ((List.range (s.poolPages d)).map (fun p => handleStack d (s.obj .poolFirst d + p))).filter (fun h => (s.page h).st == .free)
def State.freeHost (s : State) : List Nat :=
  ((List.range (s.obj .hostPoolCount)).map (fun p => handleHost (s.obj .hostPoolFirst + p))).filter (fun h => (s.page h).st == .free)

/-- POOL_FREE. -/
def State.freeCount (s : State) (d : Nat) : Nat :=
  s.poolPages d - (s.pages.filter (fun e => !isHostPage e.1 && dieOfHandle e.1 == d && s.inPool e.1)).length

/-- The die with the most Free pages, the lower one on a tie. -/
def State.bestDie (s : State) : Nat :=
  ((List.range 48).foldl (fun (a : Nat × Nat) d => if a.2 < s.freeCount d then (d, s.freeCount d) else a) (0, 0)).1

/-- The tenant a page counts for: a Reserved page counts for the page that moves to it (R266). -/
def State.tenantOf (s : State) (p : Page) : Nat := if p.st = .reserved then (s.page p.fwd).tenant else p.tenant

/-- A tenant's use of a tier (R266). -/
def State.tenantUse (s : State) (t : Nat) (host : Bool) : Nat :=
  (s.pages.filter (fun e => isHostPage e.1 == host && s.inPool e.1 && s.tenantOf e.2 == t)).length

def State.quota (s : State) (t : Nat) (host : Bool) : Nat := s.obj .tenantQuota 0 (2 * t + b2n host)

/-- A page entry as four words (Table 8-4). -/
def Page.words (p : Page) : List Nat :=
  if p = Page.free then [0, 0, 0, 0]
  else
    let st := match p.st with | .free => 0 | .reserved => 1 | .resident => 2 | .moving => 3 | .forwarding => 4
    [st * 2 ^ 61 + b2n p.pin * 2 ^ 60 + b2n p.rdonly * 2 ^ 59 + p.cls % 8 * 2 ^ 56 + p.tenant % 65536 * 2 ^ 32 + p.object % 2 ^ 32,
      p.lastUse % 2 ^ 48, p.fwd % 2 ^ 32 * 2 ^ 32 + p.back % 2 ^ 32, p.allocTime % 2 ^ 48]

/-! ### Command records (Table 8-6) -/

structure PoolRec where
  cls : Nat
  pin : Bool
  rdonly : Bool
  tenant : Nat
  object : Nat
  handle : Nat
  die : Nat
  tier : Nat
  count : Nat
  mask : Nat
  /-- a reserved bit is not zero. -/
  resv : Bool
  deriving DecidableEq, Repr

/-- The record's words, `w0` without its OP. -/
def PoolRec.ofWords (w0 : Low56) (w1 w2 w3 : Word) : PoolRec :=
  let a := w0.toNat
  let b := w1.toNat
  { cls := bitsOf a 55 53, pin := a.testBit 52, rdonly := a.testBit 51, tenant := bitsOf a 47 32, object := bitsOf a 31 0,
    handle := bitsOf b 63 32, die := bitsOf b 31 24, tier := bitsOf b 23 22, count := bitsOf b 6 0, mask := bitsOf w2.toNat 7 0,
    resv := bitsOf a 50 48 != 0 || bitsOf b 21 7 != 0 || decide (256 ≤ w2.toNat) || w3 != 0 }

/-- POOL_RESULT (R267): a status word and the data. -/
def State.setResult (s : State) (status op count : Nat) (data : List Nat) : State :=
  let bytes := fitTo 0 520 (([status * 2 ^ 56 + op * 2 ^ 48 + count % 128] ++ data).flatMap (fun w => leBytes 8 w))
  bytes.zipIdx.foldl (fun t p => t.setObj .poolResult p.1.toNat 0 p.2) s

/-! ### Moves (R268, R271) -/

/-- A move starts: the destination is Reserved, the source Moving, the dirty bitmap clear. -/
def State.startMove (s : State) (src dst : Nat) : State :=
  let s := s.setPage src { s.page src with st := .moving, fwd := dst }
  let s := s.setPage dst { Page.free with st := .reserved, fwd := src }
  { s with move := some (Move.start src dst) }

/-- Bytes for a host page go to its link as posted writes under one number; on a link that is down they fail at once and are counted
(R255, R256). -/
def State.hostPut (s : State) (mla : Nat) (t : TileData) : State × Option Nat :=
  match s.apTranslate (mla - 0x4000000000) with
  | none => (s.incObj .tierFails 0 6, none)
  | some (l, ha) =>
    if (s.link l).up = false then (s.incObj .tierFails 0 8, none)
    else
      let f := s.fresh
      let c := PieceAns.content ⟨true, t.payload, t.scales, t.poison, t.scalePoison⟩
      (f.2.addApTile f.1 l ha (mla - 0x4000000000) (c.take t.payload.length) (c.drop t.payload.length), some f.1)

/-- A host page can be reached now. -/
def State.hostReady (s : State) (h : Nat) : Bool :=
  !isHostPage h || (match s.apTranslate (pageMla h - 0x4000000000) with | some (l, _) => (s.link l).up | none => false)

/-- `n` bytes from offset `off` of the source page, scale bytes and poison with them: `data` is what the host returned for
a host source, 262,144 bytes, then 8,192 scale bytes, and the granules of them that came as poison. -/
def moveRead (data : HostPage) (src off n : Nat) (s : State) : State × TileData :=
  if isHostPage src then
    let g := (List.range (n / 64)).filter (fun i => data.bad.contains (off / 64 + i))
    let sg := if data.bad.contains (4096 + off / 2048) then [0] else []
    (s, ⟨fitTo 0 n (data.bytes.drop off), fitTo 0 (n / 32) (data.bytes.drop (262144 + off / 32)), g.map (fun i => (i, 0)), sg.map (fun i => (i, 0))⟩)
  else s.readTile (pageMla src + off) n

/-- `n` bytes are copied from the source to the destination of the move (Table 10-3: a read in W2R, a write in W2D). -/
def moveCopy (data : HostPage) (src dst n : Nat) (s : State) (off : Nat) : State :=
  let a := s.endpOf (s.region (pageMla src + off))
  let b := s.endpOf (s.region (pageMla dst + off))
  let r := moveRead data src off n ((s.post 2 1 mmcEndp a).post 3 (flitsOf (n + n / 32)) a b)
  if isHostPage dst then
    let w := r.1.hostPut (pageMla dst + off) r.2
    { w.1 with move := w.1.move.map (fun m => { m with writes := m.writes ++ w.2.toList }) }
  else r.1.writeTile (pageMla dst + off) r.2

/-- The first pass copies every granule, tile by tile. -/
def State.copyAll (s : State) (m : Move) (data : HostPage) : State :=
  let s : State := { s with move := some { m with copied := 1056 } }
  (List.range 64).foldl (fun t i => moveCopy data m.src m.dst 4096 t (4096 * i)) s

/-- A pass over the dirty granules clears each bit as it copies the granule, with its scale bytes. -/
def State.copyDirty (s : State) (m : Move) (data : HostPage) : State :=
  let s : State := { s with move := some { m with dirty := [], passes := m.passes + 1, hold := decide (2 ≤ m.passes) } }
  (m.dirty.filter (fun g => decide (g < 1024))).foldl (fun t g => moveCopy data m.src m.dst 256 t (256 * g)) s

/-- The switch: the destination becomes Resident, the source forwards. -/
def State.switchMove (s : State) (m : Move) : State :=
  let p := s.page m.src
  let s := s.setPage m.dst { p with st := .resident, fwd := 0, back := m.src, allocTime := (s.page m.dst).allocTime }
  let s := s.setPage m.src { p with st := .forwarding, fwd := m.dst }
  ({ s with move := none }).incObj .poolMoves

/-- A move fails: the source stays Resident, the destination is Free. -/
def State.undoMove (s : State) (m : Move) : State :=
  let s := s.setPage m.src { s.page m.src with st := .resident, fwd := 0 }
  let s := (s.setPage m.dst Page.free).incObj .poolMoveFails
  ({ s with move := none }).raiseAct 0x0205 0 0 (BitVec.ofNat 64 (m.src % 2 ^ 31 * 2 ^ 32 + m.dst))

def pairWord (p : Nat × Nat) : Nat := p.1 * 2 ^ 32 + p.2

/-- The dictionary status with which a pool command ends (15 R470): done or partial, failed, or refused (DEDUCED, log 32). -/
def poolStatus (status : Nat) : Nat := if status ≤ 1 then 0 else if status = 7 then 0x1E else 0x18

/-- Once no command is in progress, the write that commanded it is answered (15 R470). -/
def State.settlePoolCmd (s : State) : State :=
  if s.poolOp.isNone then s.endAct .poolCmd 0 (poolStatus (s.obj .poolResult 0 7)) else s

/-- A command that moved pages ends with its result; an automatic eviction leaves none. -/
def State.endPoolOp (s : State) (o : PoolOp) (status : Nat) : State :=
  let s : State := { s with poolOp := none }
  if o.auto then s else (s.setResult status o.op o.done.length (o.done.map pairWord)).settlePoolCmd

/-- The next candidate of an eviction moves, or the operation ends. -/
def State.nextMove (s : State) (o : PoolOp) : State :=
  match o.todo with
  | [] => s.endPoolOp o o.status
  | src :: rest =>
    -- an automatic eviction goes on until the die has HIGH Free pages (R272)
    if o.auto && decide (s.obj .poolAuto / 65536 ≤ s.freeCount (dieOfHandle src)) then s.endPoolOp o 0
    else match s.freeHost.head? with
    | none =>
      let t := s.endPoolOp o 1
      if o.auto then t.raiseAct 0x0204 0 0 (BitVec.ofNat 64 (dieOfHandle src)) else t
    | some dst => { s.startMove src dst with poolOp := some { o with todo := rest } }

/-- An automatic eviction that a command has made wait goes on when the command is over (R272). -/
def State.resumeAuto (s : State) (l : Option (List Nat)) : State :=
  match s.poolOp, l with
  | none, some todo => s.nextMove (PoolOp.start 5 todo 0 true)
  | _, _ => s

/-! ### Eviction (R270) -/

/-- Insertion into a list sorted by a rank. -/
def insertBy (rank : Nat → Nat × Nat) (x : Nat) : List Nat → List Nat
  | [] => [x]
  | y :: ys =>
    if (rank x).1 < (rank y).1 ∨ ((rank x).1 = (rank y).1 ∧ (rank x).2 < (rank y).2) then x :: y :: ys
    else y :: insertBy rank x ys

def sortBy (rank : Nat → Nat × Nat) (l : List Nat) : List Nat := l.foldl (fun a x => insertBy rank x a) []

/-- The candidates, in the order of eviction: tenants above their quota first, then by last use and handle. -/
def State.candidates (s : State) (mask tenant die count : Nat) : List Nat :=
  let ok (h : Nat) (p : Page) : Bool :=
    !isHostPage h && s.inPool h && p.st == .resident && !p.pin && mask.testBit p.cls &&
    (tenant == 0xFFFF || p.tenant == tenant) && (die == 63 || dieOfHandle h == die) && p.back == noBack
  let hs := (s.pages.filter (fun e => ok e.1 e.2)).map (fun e => e.1)
  let high (h : Nat) : Bool := decide (s.quota (s.page h).tenant false < s.tenantUse (s.page h).tenant false)
  let rank (h : Nat) : Nat × Nat := ((s.page h).lastUse, h)
  (sortBy rank (hs.filter high) ++ sortBy rank (hs.filter (fun h => !high h))).take count

/-! ### The operations (Tables 8-7, 8-8) -/

/-- Fields an operation does not use must be zero. -/
def PoolRec.unused (r : PoolRec) (alloc setfl move evict handle : Bool) : Bool :=
  (!alloc && (r.cls != 0 || r.object != 0)) || (!(alloc || setfl) && (r.pin || r.rdonly)) ||
  (!(alloc || evict) && (r.tenant != 0 || r.count != 0)) || (!handle && r.handle != 0) ||
  (!(alloc || move) && r.tier != 0) || (!(alloc || move || evict) && r.die != 0) || (!evict && r.mask != 0)

def dieOk (d : Nat) : Bool := decide (d < 48) || d == 63

/-- Status of a handle: 0x02 ill-formed, 0x08 outside the pool. -/
def State.handleStatus (s : State) (h : Nat) : Nat :=
  if handleOk h = false then 2 else if s.inPool h = false then 8 else 0

def State.poolAlloc (s : State) (r : PoolRec) : State :=
  let bad := r.resv || r.unused true false false false false || decide (4 < r.cls) || decide (1023 < r.tenant) ||
    decide (1 < r.tier) || decide (r.count = 0) || decide (64 < r.count) || !dieOk r.die ||
    (r.tier == 1 && !(r.die == 0 || r.die == 63))
  let host := r.tier == 1
  if bad then s.setResult 2 1 0 []
  else if s.quota r.tenant host < s.tenantUse r.tenant host + r.count then s.setResult 4 1 0 []
  else
    let hs := (if host then s.freeHost else s.freeOn (if r.die = 63 then s.bestDie else r.die)).take r.count
    if hs.length < r.count then s.setResult 3 1 0 []
    else
      let now := s.stampNow
      let one (t : State) (h : Nat) : State :=
        let t := if host then (List.range 64).foldl (fun u i => (u.hostPut (pageMla h + 4096 * i)
              ⟨List.replicate 4096 0, List.replicate 128 0, [], []⟩).1) t
          else t.zeroFillTier (pageMla h) (pageMla h + 0x40000)
        t.setPage h ⟨.resident, r.pin, r.rdonly, r.cls, r.tenant, r.object, now, 0, noBack, now⟩
      (hs.foldl one s).setResult 0 1 r.count hs

def State.poolFree (s : State) (r : PoolRec) : State :=
  if r.resv || r.unused false false false false true then s.setResult 2 2 0 []
  else if s.handleStatus r.handle ≠ 0 then s.setResult (s.handleStatus r.handle) 2 0 []
  else
    let p := s.page r.handle
    match p.st with
    | .resident =>
      let s := if p.back = noBack then s else s.setPage p.back Page.free
      (s.setPage r.handle Page.free).setResult 0 2 0 []
    | .forwarding =>
      let s := s.setPage p.fwd { s.page p.fwd with back := noBack }
      (s.setPage r.handle Page.free).setResult 0 2 0 []
    | _ => s.setResult 5 2 0 []

def State.poolSetfl (s : State) (r : PoolRec) : State :=
  if r.resv || r.unused false true false false true then s.setResult 2 3 0 []
  else if s.handleStatus r.handle ≠ 0 then s.setResult (s.handleStatus r.handle) 3 0 []
  else if (s.page r.handle).st ≠ .resident then s.setResult 5 3 0 []
  else (s.setPage r.handle { s.page r.handle with pin := r.pin, rdonly := r.rdonly }).setResult 0 3 0 []

def State.poolMove (s : State) (r : PoolRec) : State :=
  let p := s.page r.handle
  if r.resv || r.unused false false true false true || decide (1 < r.tier) || !dieOk r.die ||
      (r.tier == 1 && !(r.die == 0 || r.die == 63)) then s.setResult 2 4 0 []
  else if s.handleStatus r.handle ≠ 0 then s.setResult (s.handleStatus r.handle) 4 0 []
  else if p.st ≠ .resident then s.setResult 5 4 0 []
  else if p.back ≠ noBack then s.setResult 6 4 0 []
  else
    match (if r.tier = 1 then s.freeHost else s.freeOn (if r.die = 63 then s.bestDie else r.die)).head? with
    | none => s.setResult 3 4 0 []
    | some dst => { s.startMove r.handle dst with poolOp := some (PoolOp.start 4 [] 0 false) }

def State.poolEvict (s : State) (r : PoolRec) : State :=
  if r.resv || r.unused false false false true false || !dieOk r.die || decide (r.count = 0) || decide (64 < r.count) ||
      (decide (1023 < r.tenant) && r.tenant != 0xFFFF) then s.setResult 2 5 0 []
  else
    let cs := s.candidates r.mask r.tenant r.die r.count
    s.nextMove (PoolOp.start 5 cs (if cs.length < r.count then 1 else 0) false)

def State.poolRead (s : State) (r : PoolRec) : State :=
  if r.resv || r.unused false false false false true then s.setResult 2 6 0 []
  else if s.handleStatus r.handle ≠ 0 then s.setResult (s.handleStatus r.handle) 6 0 []
  else s.setResult 0 6 0 (s.page r.handle).words

def State.poolOldest (s : State) (r : PoolRec) : State :=
  if r.resv || r.unused false false false true false || !dieOk r.die || decide (r.count = 0) || decide (64 < r.count) ||
      (decide (1023 < r.tenant) && r.tenant != 0xFFFF) then s.setResult 2 7 0 []
  else
    let cs := s.candidates r.mask r.tenant r.die r.count
    s.setResult (if cs.length < r.count then 1 else 0) 7 cs.length cs

/-- A command of OP `op`. -/
def State.poolRun (s : State) (op : Nat) (r : PoolRec) : State :=
  match op with
  | 1 => s.poolAlloc r
  | 2 => s.poolFree r
  | 3 => s.poolSetfl r
  | 4 => s.poolMove r
  | 5 => s.poolEvict r
  | 6 => s.poolRead r
  | 7 => s.poolOldest r
  | _ => s.setResult 2 (op % 256) 0 []

/-- The pool takes one command at a time: a further one is refused as busy (R267), and one that comes while an automatic
eviction moves a page waits for that page (R272). -/
def State.poolCommand (s : State) (op : Nat) (w0 : Low56) (w1 w2 w3 : Word) : State :=
  match s.poolOp with
  | none => s.poolRun op (PoolRec.ofWords w0 w1 w2 w3)
  | some o =>
    if o.auto && o.waiting.isNone then
      { s with poolOp := some { o with waiting := some (op, [w0.zeroExtend 64, w1, w2, w3]) } }
    else s

def execPoolAlloc (w0 : Low56) (w1 w2 w3 : Word) (s : State) : Out := .next (s.poolCommand 1 w0 w1 w2 w3)
def execPoolFree (w0 : Low56) (w1 w2 w3 : Word) (s : State) : Out := .next (s.poolCommand 2 w0 w1 w2 w3)
def execPoolSetfl (w0 : Low56) (w1 w2 w3 : Word) (s : State) : Out := .next (s.poolCommand 3 w0 w1 w2 w3)
def execPoolMove (w0 : Low56) (w1 w2 w3 : Word) (s : State) : Out := .next (s.poolCommand 4 w0 w1 w2 w3)
def execPoolEvict (w0 : Low56) (w1 w2 w3 : Word) (s : State) : Out := .next (s.poolCommand 5 w0 w1 w2 w3)
def execPoolRead (w0 : Low56) (w1 w2 w3 : Word) (s : State) : Out := .next (s.poolCommand 6 w0 w1 w2 w3)
def execPoolOldest (w0 : Low56) (w1 w2 w3 : Word) (s : State) : Out := .next (s.poolCommand 7 w0 w1 w2 w3)

/-- A page's move is over, done or failed: the operation goes on, or gives way to a command that waits and goes on after it. -/
def State.afterMove (s : State) (pair : Nat × Nat) (ok : Bool) : State :=
  match s.poolOp with
  | none => s
  | some o =>
    let o := if ok then { o with done := o.done ++ [pair] } else o
    match o.waiting with
    | some (op, [w0, w1, w2, w3]) =>
      let t := ({ s with poolOp := none }).poolRun op (PoolRec.ofWords (w0.truncate 56) w1 w2 w3)
      (match t.poolOp with
       | some q => { t with poolOp := some { q with resume := some o.todo } }
       | none => t.settlePoolCmd.resumeAuto (some o.todo))
    | _ => (if ok then s.nextMove o else s.endPoolOp o 7).resumeAuto o.resume

/-- An accepted seed write abandons what the pool was doing (R275). -/
def State.abandonPoolOp (s : State) : State :=
  match s.poolOp with
  | none => s
  | some o =>
    let t := s.endPoolOp o 7
    match o.waiting with
    | some (op, [w0, w1, w2, w3]) => (t.poolRun op (PoolRec.ofWords (w0.truncate 56) w1 w2 w3)).settlePoolCmd
    | _ => t

/-- The move in progress fails (R271). -/
def State.failMove (s : State) (m : Move) : State := (s.undoMove m).afterMove (m.src, m.dst) false

/-- POOL_MOVE_SWITCH: the next phase of the move in progress (R268, log 80): the copy of every granule; then at most two passes over
the granules that have become dirty; then, with requests held, the rest of them; and the switch, once every copy write to host memory
is acknowledged. `data` is what the host returned for a page of the host pool, which waits for them; a host page that
cannot be reached fails the move. -/
def execPoolMoveSwitch (data : HostPage) (s : State) : Out :=
  match s.move with
  | none => .next s
  | some m =>
    if (s.hostReady m.src && s.hostReady m.dst) = false then .next (s.failMove m)
    else if isHostPage m.src ∧ data.bytes = [] ∧ (m.copied = 0 ∨ m.dirty ≠ []) then .next s
    else if m.copied = 0 then .next (s.copyAll m data)
    else if m.dirty ≠ [] then .next (s.copyDirty m data)
    else if m.writes ≠ [] then .next { s with move := some { m with hold := true } }
    else .next ((s.switchMove m).afterMove (m.src, m.dst) true)

/-- POOL_MOVE_FAIL: a copy write is refused or times out. -/
def execPoolMoveFail (s : State) : Out :=
  match s.move with
  | none => .next s
  | some m => .next (s.failMove m)

/-- A copy write to host memory is over: acknowledged, or failed with its link (R271). -/
def State.moveWriteDone (s : State) (ref : Nat) (ok : Bool) : State :=
  match s.move with
  | none => s
  | some m =>
    if m.writes.contains ref then
      (if ok then { s with move := some { m with writes := m.writes.filter (fun r => r != ref) } } else s.failMove m)
    else s

/-- POOL_AUTO_EVICT (R272). -/
def execPoolAutoEvict (d : Fin 48) (s : State) : Out :=
  let low := s.obj .poolAuto % 65536
  let free := s.freeCount d.val
  if low ≠ 0 ∧ free < low ∧ s.poolOp = none then
    let t := s.raiseAct 0x0203 0 (min free 65535) (BitVec.ofNat 64 d.val)
    if t.freeHost.isEmpty then .next (t.raiseAct 0x0204 0 0 (BitVec.ofNat 64 d.val))
    else .next (t.nextMove (PoolOp.start 5 (t.candidates (t.obj .poolAutoMask) 0xFFFF d.val 12288) 0 true))
  else .next s

/-! ### Ranges (R258) -/

/-- The range objects. -/
def rangeObj (which : Nat) : Obj :=
  match which with | 0 => .poolFirst | 1 => .poolCount | 2 => .hostPoolFirst | _ => .hostPoolCount

/-- The status a range write gets: 0x15 past the end, 0x18 while a command runs or a page in use would leave. -/
def State.rangeStatus (s : State) (which d v : Nat) : Nat :=
  let host := decide (2 ≤ which)
  let first := if host then s.obj .hostPoolFirst else s.obj .poolFirst d
  let count := if host then s.obj .hostPoolCount else s.obj .poolCount d
  let f := if which % 2 = 0 then v else first
  let c := if which % 2 = 0 then count else v
  let lim := if host then 1048576 else 12288
  let num (h : Nat) : Nat := if host then h % 2 ^ 20 else h % 2 ^ 14
  if lim < f + c then 0x15
  else if s.poolOp.isSome || s.pages.any (fun e => isHostPage e.1 == host && (host || dieOfHandle e.1 == d) && s.inPool e.1 &&
      !(decide (f ≤ num e.1) && decide (num e.1 < f + c))) then 0x18
  else 0

/-- POOL_RANGE_WRITE: `which` names POOL_FIRST, POOL_COUNT, HOST_POOL_FIRST or HOST_POOL_COUNT; RWL. -/
def execPoolRangeWrite (which : Fin 4) (d : Fin 48) (v : BitVec 32) (s : State) : Out :=
  if s.jobRuns = false ∧ s.rangeStatus which.val d.val v.toNat = 0 then
    .next (s.setObj (rangeObj which.val) v.toNat (if which.val < 2 then d.val else 0))
  else .next s

end Sys2Proof.Machine
end

