-- ==== Sys2Proof/Machine/Place.lean ====
section
/-! DEFINITION. Chapter 02: the place override and pin samples, the hash seed, and hot banks (R46 to R53). -/

namespace Sys2Proof.Machine

/-- An RWP object written: it reaches flash later (15 R468). -/
def State.setRwp (s : State) (o : Obj) (v : Nat) (i : Nat := 0) (j : Nat := 0) : State :=
  let t := s.setObj o v i j
  { t with chb := { t.chb with unsaved := if t.chb.unsaved.contains (o.key i j) then t.chb.unsaved else t.chb.unsaved ++ [o.key i j] } }

/-- PLACE_OVERRIDE_WRITE: refused when a bit of [23:19] is set, 0xFF_FFFF apart. -/
def execPlaceOverrideWrite (v : BitVec 24) (s : State) : Out :=
  if placeMalformed v.toNat then .next s else .next (s.setRwp .placeOverride v.toNat)

/-- PLACE_PIN_SAMPLE: the pins once per second; a sample that differs from the place in use is counted and reported, each
time it does, and the place is kept (R47, log 75). -/
def execPlacePinSample (pins : BitVec 20) (s : State) : Out :=
  let t := s.setObj .placePins pins.toNat
  if s.obj .placeValid = 1 ∧ pins.toNat % 2 ^ 19 ≠ s.place then
    .next ((t.incObj .placeChanges).raiseAct 0x010A 0 0 (BitVec.ofNat 64 pins.toNat))
  else .next t

/-- Every window count starts anew: runs of windows above begin again, and a bank whose event is raised stays held until it
has been not above for 1,000 windows from now (R53). -/
def restartRuns (l : List (Nat × Nat)) : List (Nat × Nat) :=
  (l.filter (fun p => decide (1000 ≤ p.2))).map (fun p => (p.1, 1000))

/-- HASH_SEED_WRITE: while no job runs; stacked-tier accesses wait for the zero fill, every window count starts anew and
every pool page is Free (R49, R53, R275); a pool command in progress ends as failed, with its pages gone, and one that
waited for an automatic eviction runs (log 32). -/
def execHashSeedWrite (v : Word) (s : State) : Out :=
  if s.jobRuns then .next s
  else
    let t := (s.setObj .hashSeed v.toNat).setObj .hashSeedTime s.gtc
    let u : State := { t with
      fab := { t.fab with seedFill := true, bankWin := [], hotRun := restartRuns t.fab.hotRun }
      pages := [], move := none }
    .next (u.abandonPoolOp)

/-- HASH_SEED_FILL_DONE: the stacked tier of every die, scale plane included, holds zero. -/
def execHashSeedFillDone (s : State) : Out :=
  if s.fab.seedFill then
    let t := (List.range 48).foldl (fun t d => t.zeroFillTier (d * 2 ^ 32) (d * 2 ^ 32 + 0xC0000000)) s
    .next ({ t with fab := { t.fab with seedFill := false } }.endAct .hashSeed 0 0)
  else .next s

/-- One bank at the end of a window (R52, R53). `hotRun` below 1,000 counts windows above in a row; 1,000 + q is a bank
whose event is raised and that has been not above for q windows. -/
def hotNext (above : Bool) (v : Nat) : Nat × Bool :=
  if v < 1000 then
    if above then (if v + 1 = 100 then (1000, true) else (v + 1, false)) else (0, false)
  else if above then (1000, false)
  else if v + 1 = 2000 then (0, false) else (v + 1, false)

/-- HOT_BANK_WINDOW: a 1 ms window of die `d` ends. -/
def execHotBankWindow (d : Fin 48) (s : State) : Out :=
  let base := d.val * 128
  let total := (agetRun 0 s.fab.bankWin base 128).sum
  let one (t : State) (b : Nat) : State :=
    let n := aget 0 s.fab.bankWin (base + b)
    let above := decide (65536 ≤ total ∧ 4 * total < 128 * n)
    let r := hotNext above (aget 0 t.fab.hotRun (base + b))
    let t : State := { t with fab := { t.fab with hotRun := aset 0 t.fab.hotRun (base + b) r.1 } }
    if r.2 then
      (t.incObj .hotBankEvents d.val).raiseAct 0x0202 0 0 (locator 2 d.val (b / 8 * 17) (b % 8) 63 1023 255)
    else t
  let t := (List.range 128).foldl one s
  .next { t with fab := { t.fab with bankWin := aclear t.fab.bankWin base (base + 128) } }

end Sys2Proof.Machine
end

