-- ==== Sys2Proof/Machine/Fabric.lean ====
section
/-! DEFINITION. Chapter 10: what the routers do: die-to-die lanes, arbitration, forwarding, delivery at an endpoint, parity, credits
(R306 to R336). A packet is one leg of a transfer (`Grid`, log 25). -/

namespace Sys2Proof.Machine

/-! ### Die-to-die lanes (R307, R324) -/

/-- The die at the other end of a port N, E, S, W, if there is one. -/
def d2dPeer (d port : Nat) : Option Nat :=
  let r := siteOf d / 7
  let k := siteOf d % 7
  match port with
  | 0 => if r = 0 then none else some (dieOfSite ((r - 1) * 7 + k))
  | 1 => if k = 6 then none else some (dieOfSite (r * 7 + k + 1))
  | 2 => if r = 6 then none else some (dieOfSite ((r + 1) * 7 + k))
  | _ => if k = 0 then none else some (dieOfSite (r * 7 + k - 1))

/-- The port of the peer that a port leads to. -/
def farPort (port : Nat) : Nat := (port + 2) % 4

/-- The locator of a lane, at the lower-numbered die of the pair (Table 1-7). -/
def d2dLoc (d port lane : Nat) : Word :=
  match d2dPeer d port with
  | some e => if d < e then locator 8 d 511 (port + 1) 63 lane 255 else locator 8 e 511 (farPort port + 1) 63 lane 255
  | none => locator 8 d 511 (port + 1) 63 lane 255

def laneKey (d port lane : Nat) : Nat := (d * 4 + port) * 4 + lane

/-- A lane in the direction into die `d`. -/
def State.lane (s : State) (d port lane : Nat) : D2dLane := aget D2dLane.zero s.fab.d2d (laneKey d port lane)

def State.setLane (s : State) (d port lane : Nat) (x : D2dLane) : State :=
  { s with fab := { s.fab with d2d := aset D2dLane.zero s.fab.d2d (laneKey d port lane) x } }

/-- One end of a lane that goes down: its bit of D2D_LANES is clear. -/
def State.laneEndDown (s : State) (d port lane : Nat) : State :=
  let s := s.setLane d port lane { s.lane d port lane with down := true }
  if d < 48 then s.setObj .d2dLanes (setBits (s.obj .d2dLanes d) (4 * port + lane) 1 0) d else s

/-- A lane goes down at both its ends: d2d-lane-down. -/
def State.laneDown (s : State) (d port lane : Nat) : State :=
  let s := s.laneEndDown d port lane
  let s := match d2dPeer d port with | some e => s.laneEndDown e (farPort port) lane | none => s
  let s : State := { s with hlth := { s.hlth with lostLinks := (d, port) :: s.hlth.lostLinks.filter (fun e => e != (d, port)) } }
  (s.countErr (d2dLoc d port lane) 3 2).raiseAct 0x0401 0 0 (d2dLoc d port lane)

/-- The lane that a hop between two sites crosses, as receiving die, port and lane: lane i of an east-west link joins the points of
cluster row i, of a north-south link those of cluster column i (R307). -/
def crossing (x y out : Nat) : Option (Nat × Nat × Nat) :=
  let h := hopTo x y out 0
  if 4 ≤ out ∨ dieOfPoint x y = dieOfPoint h.1 h.2.1 then none
  else some (dieOfPoint h.1 h.2.1, farPort out, if out % 2 = 1 then y % 4 else x % 4)

/-- A die whose lanes are held with their clocks stopped (R331). -/
def State.laneStopped (s : State) (d port : Nat) : Bool :=
  s.fencedDie.any (fun f => f == d || d2dPeer d port == some f)

/-- A flit of a packet has passed: the packet is there when its last one has (log 25). -/
def FabPkt.oneIn (p : FabPkt) (now : Nat) : FabPkt :=
  { p with coming := p.coming - 1, since := if p.coming = 1 then now else p.since }

/-- D2D_FLIT_RECEIVE: the next flit arrives at port (N, E, S, W) of die `d`, 48 the hub, with its CRC right or not. The first
failure is replayed; one that passes then is transient, one that fails again lasting; four failed replays, or 16 lasting counts in
1 ms, bring the lane down (R324). -/
def execD2dFlitReceive (d : Fin 49) (port lane : Fin 4) (ok : Bool) (s : State) : Out :=
  let x := s.lane d.val port.val lane.val
  let loc := d2dLoc d.val port.val lane.val
  let count (t : State) (kind : Nat) : State :=
    (if d.val < 48 then t.incObj .d2dReplays d.val (2 * port.val + kind) else t).countErr loc 3 kind
  if x.down ∨ (d2dPeer d.val port.val).isNone ∨ s.laneStopped d.val port.val = true then .next s
  else if ok then
    let t := s.setLane d.val port.val lane.val { x with
      seq := (x.seq + 1) % 256, fails := 0, trans := x.trans + b2n (x.fails == 1), buf := x.buf.drop 1 }
    let t : State := { t with fab := { t.fab with
      pkts := t.fab.pkts.map (fun p => if x.buf.head? = some p.ref then p.oneIn s.gtc else p) } }
    .next (if x.fails = 1 then count t 0 else t)
  else
    let recent := x.lasting.filter (fun t => decide (s.gtc < t + 1000000))
    let x := { x with
      fails := x.fails + 1, lasting := if x.fails = 1 then recent ++ [s.gtc] else recent, last := x.last + b2n (x.fails == 1) }
    let t := s.setLane d.val port.val lane.val x
    let t := if x.fails = 2 then count t 1 else t
    .next (if 5 ≤ x.fails ∨ 16 ≤ x.lasting.length then t.laneDown d.val port.val lane.val else t)

/-! ### Arbitration (R319, R320) -/

/-- The heads of the inputs of a point: the first packet of each partition, once it is there. -/
def State.headsAt (s : State) (x y : Nat) : List FabPkt :=
  let here := s.fab.pkts.filter (fun p => p.gx == x && p.gy == y && decide (p.input < 5))
  (here.foldl (fun (acc : List FabPkt) p => if acc.any (fun q => q.key == p.key) then acc else acc ++ [p]) []).filter
    (fun p => p.coming == 0)

/-- The next partition of a head holds enough credit (R314), and a lane that it crosses runs and has room for the packet in its
replay buffer (R307, R324). -/
def State.hasRoom (s : State) (p : FabPkt) : Bool :=
  let q := p.hop 0
  decide (aget 0 s.fab.used q.key + p.len ≤ depthOf p.cls) &&
    (crossing p.gx p.gy p.out).all (fun c =>
      let x := s.lane c.1 c.2.1 c.2.2
      !x.down && !s.laneStopped c.1 c.2.1 && decide (x.buf.length + p.len ≤ 64))

def arbKey (x y out : Nat) : Nat := (y * 28 + x) * 5 + out

/-- Weights of FABRIC_WEIGHTS for W0, W1, W2R, W2D, W4 (R322), and which of them a class is. -/
def State.weights (s : State) : List Nat := tabulate 5 (fun i => bitsOf (s.obj .fabricWeights) (8 * i + 7) (8 * i))
def drrIndex (cls : Nat) : Nat := if cls = 5 then 4 else cls
def drrClass (i : Nat) : Nat := if i = 4 then 5 else i

/-- Of the heads of one class, the one whose input follows the input served last. -/
def roundRobin (last : Nat) (hs : List FabPkt) : Option FabPkt :=
  ((List.range 5).map (fun i => (last + 1 + i) % 5)).findSome? (fun i => hs.find? (fun p => p.input == i))

/-- A head that a deficit covers, in the order of the classes. -/
def drrPick (a : Arb) (hs : List FabPkt) : Option FabPkt :=
  (List.range 5).findSome? (fun i =>
    match roundRobin (a.last.getD i 4) (hs.filter (fun p => p.cls == drrClass i)) with
    | some p => if p.len ≤ a.deficit.getD i 0 then some p else none
    | none => none)

/-- Rounds until a deficit covers a head: at most 9, for 34 flits at weight 1 (log 25: a round adds to the classes that
have a head). -/
def drrRounds : Nat → List Nat → List FabPkt → Arb → Arb × Option FabPkt
  | 0, _, hs, a => (a, drrPick a hs)
  | fuel + 1, ws, hs, a =>
    match drrPick a hs with
    | some p => (a, some p)
    | none =>
      let d := a.deficit.zipIdx.map (fun v =>
        if hs.any (fun p => p.cls == drrClass v.2) then v.1 + 4 * ws.getD v.2 0 else v.1)
      drrRounds fuel ws hs { a with deficit := d }

/-- The oldest urgent head: ties to the lower input, then the lower class. -/
def oldestUrgent (hs : List FabPkt) : Option FabPkt :=
  (hs.filter (fun p => p.urgent)).foldl (fun (acc : Option FabPkt) p =>
    match acc with
    | none => some p
    | some q =>
      if p.since < q.since ∨ (p.since = q.since ∧ (p.input < q.input ∨ (p.input = q.input ∧ p.cls < q.cls))) then some p
      else some q) none

/-- The choice of an output (R319): the arbiter afterwards and the head that is sent. W3 flits sent in the last 1,024
cycles (640 ns) are kept, those of urgent packets too. -/
def State.arbitrate (s : State) (x y out : Nat) : Arb × Option FabPkt :=
  let a := aget Arb.zero s.fab.arbs (arbKey x y out)
  let a := { a with w3 := a.w3.filter (fun t => decide (s.gtc < t + 640)) }
  let hs := (s.headsAt x y).filter (fun p => p.out == out && s.hasRoom p)
  match oldestUrgent hs with
  | some p => (if p.cls = 4 then { a with w3 := a.w3 ++ List.replicate p.len s.gtc } else a, some p)
  | none =>
    match (if a.w3.length < 52 then (hs.filter (fun p => p.cls == 4)).head? else none) with
    | some p => ({ a with w3 := a.w3 ++ [s.gtc] }, some p)
    | none =>
      let r := drrRounds 9 s.weights (hs.filter (fun p => p.cls != 4)) a
      match r.2 with
      | some p =>
        let i := drrIndex p.cls
        ({ r.1 with deficit := r.1.deficit.set i (r.1.deficit.getD i 0 - p.len), last := r.1.last.set i p.input }, some p)
      | none => r

/-! ### Parity on mesh links (R325) -/

/-- The locator of a failing mesh link. -/
def meshLoc (d : Nat) : Word := if d = 48 then hubUnit 13 else dieUnit d 0 1023

def addPoison (l : List (Nat × Word)) (g : Nat) (loc : Word) : List (Nat × Word) :=
  if l.any (fun p => p.1 == g) then l else l ++ [(g, loc)]

/-- Granule `g` of a packet's content is poisoned: of the payload, of the scale bytes after it, or of neither. -/
def PieceAns.poisonAt (a : PieceAns) (loc : Word) (g : Nat) : PieceAns :=
  let n := a.payload.length / 64
  if g < n then { a with poison := addPoison a.poison g loc }
  else if 64 * (g - n) < a.scales.length then { a with scalePoison := addPoison a.scalePoison (g - n) loc } else a

/-- The same for the content of a Felun packet that is on the wafer. -/
def Packet.poisonAt (p : Packet) (loc : Word) (g : Nat) : Packet :=
  let bit := if p.len ≤ 32 then g else g + 1
  if p.content.length ≤ 64 * g ∨ p.psn.testBit bit = true then p
  else { p with psn := p.psn + 2 ^ bit, content := putPattern p.content g loc }

/-- A data granule of a leg's packet is poisoned. -/
def State.poisonLeg (s : State) (ref : Nat) (loc : Word) (g : Nat) : State :=
  let id := ref / 256
  let s : State := { s with
    pushes := s.pushes.map (fun (p : Push) =>
      if p.id ≠ id ∨ ref % 2 = 1 then p
      else if g < 64 then { p with poison := addPoison p.poison g loc }
      else if g < 66 then { p with scalePoison := addPoison p.scalePoison (g - 64) loc } else p)
    mouths := s.mouths.map (fun (e : Nat × Mouth) => (e.1, { e.2 with copies := e.2.copies.map (fun (c : Copy) =>
      if c.id ≠ id ∨ ref % 2 = 1 then c
      else if g < 64 then { c with poison := addPoison c.poison g loc }
      else if g < 66 then { c with scalePoison := addPoison c.scalePoison (g - 64) loc } else c) }))
    fab := { s.fab with
      inb := s.fab.inb.map (fun (i : Inb) => if i.id = id then { i with pkt := i.pkt.poisonAt loc g } else i)
      pkts := s.fab.pkts.map (fun (p : FabPkt) => if p.ref = ref then { p with psn := Nat.lor p.psn (2 ^ g) } else p) } }
  match s.findTile id with
  | some (k, _, _) => s.updTile k id (fun t => t.setPiece (ref % 256 / 2) (fun p =>
      if ref % 2 = 1 then { p with resp := p.resp.map (fun a => (a.1, a.2.poisonAt loc g)) }
      else { p with out := p.out.map (fun a => a.poisonAt loc g) }))
  | none => s

/-- A dropped packet's transfer never ends: its requester sees a timeout (R318, R325). -/
def State.loseLeg (s : State) (ref : Nat) : State :=
  let id := ref / 256
  let s : State := { s with
    pushes := s.pushes.filter (fun p => p.id != id)
    credits := s.credits.filter (fun c => c.id != id)
    fab := { s.fab with inb := s.fab.inb.filter (fun i => i.id != id) } }
  match s.findTile id with
  | some (k, _, t) =>
    (s.updTile k id (fun u => u.setPiece (ref % 256 / 2) (fun p => { p with got := true, away := true }))).settleTile id t.write
  | none => s

/-- The granules that the bad 32-byte blocks of data flit `f` touch. -/
def badGranules (f : Nat) (bad : BitVec 4) : List Nat :=
  (if bad.getLsbD 0 || bad.getLsbD 1 then [2 * (f - 1)] else []) ++ (if bad.getLsbD 2 || bad.getLsbD 3 then [2 * (f - 1) + 1] else [])

/-! ### Forwarding -/

/-- The packets behind one that has left: the new head's wait begins. -/
def newHead (key now : Nat) : List FabPkt → List FabPkt
  | [] => []
  | p :: ps => if p.key = key then { p with since := now } :: ps else p :: newHead key now ps

/-- A packet has come to its endpoint. One for a core that sleeps is held and requests the wake of its region (R323); one for whose
arrival no command waits is consumed: a W4 request into its responder's queue (R316), a Felun packet into the transmit queue of its
port (R317). -/
def State.deliverPkt (s : State) (p : FabPkt) : State :=
  let d := dieOfPoint p.dst.x p.dst.y
  let k := d * 256 + (p.dst.y % 4 * 4 + p.dst.x % 4) * 16
  let s := if d < 48 ∧ p.dst.n ≤ 16 ∧ s.asleep k = true then s.holdForWake k p.ref else s
  if p.posted = false then s
  else
    let t := s.consume p.ref
    let t : State := if p.cls = 5 ∧ p.ref % 2 = 0 then { t with fab := { t.fab with w4q := t.fab.w4q ++ [p] } } else t
    let t := match t.fab.inb.find? (fun i => i.id == p.ref / 256 && i.stage == 1) with
      | some i => ({ t with fab := { t.fab with inb := t.fab.inb.filter (fun j => j.id != i.id) } }).enqueueTx i.out i.vc i.pkt
      | none => t
    t.serveW4.flushWait

/-- ROUTER_FORWARD: output `out` of the router at (gx, gy) chooses one whole packet and forwards it (R314, R319). `parity` is what
the receiving router finds on a mesh link (R325): flits of the packet, the header flit the first, with the 32-byte blocks whose
parity is wrong. A bad header flit drops the packet; a bad data flit poisons the granules it touches. -/
def execRouterForward (gx gy : Fin 28) (out : Fin 5) (parity : List (Fin 34 × BitVec 4)) (s : State) : Out :=
  let r := s.arbitrate gx.val gy.val out.val
  let s := { s with fab := { s.fab with arbs := aset Arb.zero s.fab.arbs (arbKey gx.val gy.val out.val) r.1 } }
  match r.2 with
  | none => .next s
  | some p =>
    let q := p.hop s.gtc
    let d := dieOfPoint gx.val gy.val
    let mesh := out.val < 4 && d == dieOfPoint q.gx q.gy
    let s := if p.urgent && decide (d < 48) then s.incObj .urgentSends d else s
    let rest := newHead p.key s.gtc (s.fab.pkts.filter (fun x => x.ref != p.ref))
    let bad := if mesh then parity.filter (fun b => decide (b.1.val < p.len) && b.2 != 0) else []
    if bad.any (fun b => b.1.val == 0) then
      .next ((({ s with fab := { s.fab with pkts := rest } }).incObj .hdrDrops d).loseLeg p.ref)
    else
      let q := match crossing gx.val gy.val out.val with | some _ => { q with coming := p.len } | none => q
      let t : State := { s with fab := { s.fab with
        pkts := rest ++ [q], used := amod 0 s.fab.used q.key (fun v => v + p.len) } }
      let t := match crossing gx.val gy.val out.val with
        | some c =>
          let x := t.lane c.1 c.2.1 c.2.2
          t.setLane c.1 c.2.1 c.2.2 { x with buf := x.buf ++ List.replicate p.len p.ref }
        | none => t
      let t := bad.foldl (fun (u : State) b =>
        (badGranules b.1.val b.2).foldl (fun (v : State) g => v.poisonLeg p.ref (meshLoc d) g)
          ((u.incObj .meshParity d).countErr (meshLoc d) 16 1)) t
      .next (if out.val = 4 then t.deliverPkt q else t)

/-- HEAD_URGENT: the head of an input's partition has waited AGE_CYCLES cycles of 0.625 ns (R320). -/
def execHeadUrgent (gx gy : Fin 28) (input : Fin 5) (cls : Fin 6) (part : Fin 2) (s : State) : Out :=
  match (s.headsAt gx.val gy.val).find? (fun p => p.key == partKey gx.val gy.val input.val cls.val part.val) with
  | some p =>
    if 5 * s.obj .ageCycles ≤ 8 * (s.gtc - p.since) then
      .next { s with fab := { s.fab with pkts := s.fab.pkts.map (fun q => if q.ref = p.ref then { q with urgent := true } else q) } }
    else .next s
  | none => .next s

/-- FABRIC_CREDIT_RETURN: one flit that has left a partition is credited to its sender (R314), which may wait to inject. -/
def execFabricCreditReturn (gx gy : Fin 28) (input : Fin 32) (cls : Fin 6) (part : Fin 2) (s : State) : Out :=
  let key := partKey gx.val gy.val input.val cls.val part.val
  let held := ((s.fab.pkts.filter (fun p => p.key == key)).map (fun p => p.len)).sum
  if held < aget 0 s.fab.used key then
    .next ({ s with fab := { s.fab with used := amod 0 s.fab.used key (fun v => v - 1) } }).flushWait
  else .next s

/-- Each weight is 1 to 100 and their sum 100 (R322); reserved bits count for nothing (00 R8). -/
def fabricWeightsOk (v : Nat) : Bool :=
  let l := tabulate 5 (fun i => bitsOf v (8 * i + 7) (8 * i))
  l.all (fun w => decide (1 ≤ w ∧ w ≤ 100)) && l.sum == 100

/-- FABRIC_WEIGHTS_WRITE: FABRIC_WEIGHTS is RWL, and its reserved bits [63:40] read zero (R322, 00 R8, R9). -/
def execFabricWeightsWrite (v : Word) (s : State) : Out :=
  if fabricWeightsOk v.toNat && !s.jobRuns then .next (s.setObj .fabricWeights (v.toNat % 2 ^ 40)) else .next s

end Sys2Proof.Machine
end

