-- ==== Sys2Proof/Machine/Optical.lean ====
section
/-! DEFINITION. Chapter 11: markers, codewords, striping and scrambling (R338 to R345), the two CRCs, and flit frames and
packet headers as bytes (R353, R355). -/

namespace Sys2Proof.Machine

/-! ### CRCs -/

/-- One bit into a CRC-16 register, polynomial 0x1021, most significant bit first (Table 11-2). -/
def crc16Bit (r : Nat) (b : Bool) : Nat :=
  let top := (r.testBit 15) != b
  let r := r * 2 % 65536
  if top then Nat.xor r 0x1021 else r

def crc16 (bs : List (BitVec 8)) : Nat :=
  bs.foldl (fun r b => (List.range 8).foldl (fun r i => crc16Bit r (b.getLsbD (7 - i))) r) 0xFFFF

/-- One bit into the reflected CRC-32C register (R353). -/
def crc32Bit (r : Nat) (b : Bool) : Nat :=
  let low := (r.testBit 0) != b
  if low then Nat.xor (r / 2) 0x82F63B78 else r / 2

def crc32c (bs : List (BitVec 8)) : Nat :=
  Nat.xor 0xFFFFFFFF (bs.foldl (fun r b => (List.range 8).foldl (fun r i => crc32Bit r (b.getLsbD i)) r) 0xFFFFFFFF)

/-! ### Markers (R344, R345) -/

abbrev markerSync : Nat := 0x6B2D94F1C35A0E87

/-- The 40 bytes of a marker (Table 11-2). -/
def markerBytes (lane mseq mode port place role txgtc : Nat) : List (BitVec 8) :=
  let body := leBytes 1 lane ++ leBytes 1 (255 - lane) ++ leBytes 2 mseq ++ leBytes 1 mode ++ leBytes 1 port ++
    leBytes 3 place ++ leBytes 1 role ++ leBytes 8 txgtc ++ leBytes 8 (2 ^ 64 - 1 - markerSync) ++ leBytes 4 0
  leBytes 8 markerSync ++ body ++ leBytes 2 (crc16 body)

/-- A marker is recognised on a lane (R345). -/
def markerOk (lane : Nat) (bs : List (BitVec 8)) : Bool :=
  decide (popCount 64 (Nat.xor (leNat (bs.take 8)) markerSync) ≤ 6) &&
  leNat ((bs.drop 9).take 1) == 255 - leNat ((bs.drop 8).take 1) && leNat ((bs.drop 8).take 1) == lane &&
  leNat ((bs.drop 38).take 2) == crc16 ((bs.drop 8).take 30)

/-! ### Codewords (R338, R340, R341) -/

/-- PAM4 levels of a lane's bits, two at a time, the first bit of a pair more significant (R338). -/
def gray (first second : Bool) : Fin 4 := if first then (if second then 2 else 3) else (if second then 1 else 0)

/-- The `k` symbols that carry a lane's bits, bit 0 first. -/
def levels (k bits : Nat) : List (Fin 4) := tabulate k (fun i => gray (bits.testBit (2 * i)) (bits.testBit (2 * i + 1)))

/-- The bits that symbols carry. -/
def levelBits : List (Fin 4) → Nat
  | [] => 0
  | a :: as => b2n (decide (2 ≤ a)) + 2 * b2n (a == 1 || a == 2) + 4 * levelBits as

/-- Multiplication in GF(2^10) modulo x^10 + x^3 + 1. -/
def gfMul (a b : Nat) : Nat :=
  (List.range 10).foldl (fun acc i =>
    let acc := if acc.testBit 9 then Nat.xor (acc * 2 % 1024) 0x9 else acc * 2
    if b.testBit (9 - i) then Nat.xor acc a else acc) 0

def gfPow : Nat → Nat
  | 0 => 1
  | n + 1 => gfMul (gfPow n) 2

/-- The generator with roots α^0 to α^63, without its leading 1, highest power first. -/
def rsGen : List Nat :=
  (List.range 64).foldl (fun g i =>
    let r := gfPow i
    let shifted := g ++ [0]
    let scaled := r :: g.map (fun c => gfMul c r)
    (shifted.zip scaled).map (fun (p : Nat × Nat) => Nat.xor p.1 p.2)) []

/-- The 64 check symbols of 448 data symbols: symbol 0 is the highest power (log 26). -/
def rsCheck (data : List Nat) : List Nat :=
  let g := rsGen
  data.foldl (fun rem d =>
    let f := Nat.xor d (rem.headD 0)
    ((rem.drop 1 ++ [0]).zip g).map (fun (p : Nat × Nat) => Nat.xor p.1 (gfMul f p.2))) (List.replicate 64 0)

/-- The 512 symbols of the codeword that carries 560 bytes. -/
def codeword (bytes : List (BitVec 8)) : List Nat :=
  let n := leNat bytes
  let data := tabulate 448 (fun i => fieldAt 10 n i)
  data ++ rsCheck data

/-- Lanes in use in a mode, the first lane and how many (Table 11-2). -/
def lanesOf (mode : Nat) : List Nat :=
  if mode = 0 then List.range 16 else (List.range 8).map (fun i => i + (if mode = 1 then 0 else 8))

/-- The slot of active lane number `l` of `n`: symbol i goes on lane i mod n (R341). -/
def stripe (syms : List Nat) (n l : Nat) : Nat :=
  packFields 10 ((syms.zipIdx.filter (fun p => p.2 % n == l)).map (fun p => p.1))

/-- The scrambler's state after a marker slot, and `count` bits of a lane scrambled (R343). -/
def scramSeed (lane : Nat) : Nat := (0x10000000 + lane * 0x00123457) % 2 ^ 31

def scramble : Nat → Nat → Nat → Nat → Nat → Nat × Nat
  | 0, _, _, state, acc => (acc, state)
  | n + 1, i, bits, state, acc =>
    let k := state.testBit 30 != state.testBit 27
    scramble n (i + 1) bits ((state * 2 + b2n k) % 2 ^ 31) (acc + b2n (bits.testBit i != k) * 2 ^ i)

/-- Every lane's generator is loaded with its seed. -/
def scramSeeds : List Nat := (List.range 16).map scramSeed

/-- The 512 symbols of a codeword slot, from the descrambled bits of its active lanes (R341). -/
def destripe (lanes : List Nat) : List Nat :=
  tabulate 512 (fun i => fieldAt 10 (lanes.getD (i % lanes.length) 0) (i / lanes.length))

/-- The 560 bytes that 512 symbols carry, when they are a codeword (R340). -/
def codewordData (syms : List Nat) : Option (List (BitVec 8)) :=
  if syms.drop 448 = rsCheck (syms.take 448) then some (leBytes 560 (packFields 10 (syms.take 448))) else none

/-! ### Flit frames (Tables 11-6 to 11-8) -/

def Frame.header (f : Frame) : List (BitVec 8) :=
  let c (i : Nat) : Nat × Nat := f.creds.getD i (7, 0)
  let w0 := f.ft % 8 * 2 ^ 61 + f.vcc % 8 * 2 ^ 58 + b2n f.sop * 2 ^ 57 + b2n f.eop * 2 ^ 56 + f.len % 512 * 2 ^ 47 +
    f.psn % 16 * 2 ^ 43 + (c 0).1 % 16 * 2 ^ 36 + (c 0).2 % 4096 * 2 ^ 24
  let w1 := (c 1).1 % 16 * 2 ^ 60 + (c 1).2 % 4096 * 2 ^ 48 + (c 2).1 % 16 * 2 ^ 44 + (c 2).2 % 4096 * 2 ^ 32
  leBytes 8 w0 ++ leBytes 8 w1

/-- The 280 bytes of a frame. -/
def Frame.bytes (f : Frame) : List (BitVec 8) :=
  let body := f.header ++ fitTo 0 256 f.payload
  let tail := leBytes 4 (f.seq % 4096 * 2 ^ 20 + f.ackseq % 4096 * 2 ^ 8 + f.ak % 4 * 2 ^ 6)
  body ++ leBytes 4 (crc32c (body ++ tail)) ++ tail

def frameCrcOk (bs : List (BitVec 8)) : Bool :=
  leNat ((bs.drop 272).take 4) == crc32c (bs.take 272 ++ (bs.drop 276).take 4)

/-- A frame read from its 280 bytes. -/
def Frame.ofBytes (bs : List (BitVec 8)) : Frame :=
  let w0 := leNat (bs.take 8)
  let w1 := leNat ((bs.drop 8).take 8)
  let t := leNat ((bs.drop 272).take 8)
  { ft := bitsOf w0 63 61, vcc := bitsOf w0 60 58, sop := w0.testBit 57, eop := w0.testBit 56, len := bitsOf w0 55 47,
    psn := bitsOf w0 46 43,
    creds := [(bitsOf w0 39 36, bitsOf w0 35 24), (bitsOf w1 63 60, bitsOf w1 59 48), (bitsOf w1 47 44, bitsOf w1 43 32)],
    payload := (bs.drop 16).take 256, seq := bitsOf t 63 52, ackseq := bitsOf t 51 40, ak := bitsOf t 39 38 }

/-! ### Packets as bytes (R355, Table 11-9) -/

/-- The header's four words; the error mark of a signal takes reserved bit 0 of word 2 (log 24). -/
def Packet.headWords (p : Packet) : List Nat :=
  [p.opc % 64 * 2 ^ 58 + p.dplace % 2 ^ 24 * 2 ^ 32 + p.splace % 2 ^ 24 * 2 ^ 8 + p.pidx % 256,
   p.tag % 4096 * 2 ^ 52 + p.rport % 64 * 2 ^ 42 + p.addr % 2 ^ 40,
   p.len % 2 ^ 13 * 2 ^ 51 + p.status % 16 * 2 ^ 47 + p.sdie % 64 * 2 ^ 41 + p.slcore % 256 * 2 ^ 33 + p.sctx % 2 * 2 ^ 32 +
     p.spc % 2 ^ 19 * 2 ^ 13 + p.valve % 64 * 2 ^ 7 + b2n p.mark,
   p.sendt % 2 ^ 64]

/-- A packet's bytes: header, 32 bytes of short content or further header words, then longer content. -/
def Packet.bytes (p : Packet) : List (BitVec 8) :=
  let head := p.headWords.flatMap (fun w => leBytes 8 w)
  if p.content.length ≤ 32 ∧ p.hdr = [] then head ++ p.content
  else head ++ fitTo 0 32 (p.hdr.flatMap (fun w => leBytes 8 w.toNat)) ++ p.content

/-- Opcodes whose bytes 32 to 63 hold words of their own instead of content. -/
def hasWords (opc : Nat) : Bool := opc == 4 || opc == 8 || (decide (0x10 ≤ opc) && decide (opc < 0x20))

/-- A packet read from its bytes. -/
def Packet.ofBytes (vc psn : Nat) (bs : List (BitVec 8)) : Packet :=
  let w (i : Nat) : Nat := leNat ((bs.drop (8 * i)).take 8)
  let opc := bitsOf (w 0) 63 58
  let len := bitsOf (w 2) 63 51
  let answer := opc == 1 || opc == 9
  { vc := vc, opc := opc, dplace := bitsOf (w 0) 55 32, splace := bitsOf (w 0) 31 8, pidx := bitsOf (w 0) 7 0,
    tag := bitsOf (w 1) 63 52, rport := bitsOf (w 1) 47 42, addr := bitsOf (w 1) 39 0, len := len,
    status := bitsOf (w 2) 50 47, sdie := bitsOf (w 2) 46 41, slcore := bitsOf (w 2) 40 33, sctx := bitsOf (w 2) 32 32,
    spc := bitsOf (w 2) 31 13, valve := bitsOf (w 2) 12 7, sendt := w 3,
    hdr := if hasWords opc then tabulate 4 (fun i => BitVec.ofNat 64 (w (4 + i))) else [],
    content := if answer then [] else if hasWords opc || decide (32 < len) then (bs.drop 64).take len else (bs.drop 32).take len,
    psn := psn, mark := (w 2).testBit 0 }

/-- Flit `i` of a packet: its payload, poison bits, and whether it is the last. -/
def Packet.flit (p : Packet) (i : Nat) : List (BitVec 8) × Nat × Bool :=
  let bs := p.bytes
  ((bs.drop (256 * i)).take 256, p.psn / 2 ^ (4 * i) % 16, decide (bs.length ≤ 256 * (i + 1)))

end Sys2Proof.Machine
end

