-- ==== Sys2Proof/Machine/Train.lean ====
section
/-! DEFINITION. Chapter 11: alignment, training, handshake and lane degrade of a Felun port (R345 to R352, R366 to R368). -/

namespace Sys2Proof.Machine

/-! ### Lanes -/

def Port.lane (p : Port) (l : Nat) : Lane := aget Lane.zero p.lanes l
def Port.setLane (p : Port) (l : Nat) (x : Lane) : Port := { p with lanes := aset Lane.zero p.lanes l x }
def Port.updLane (p : Port) (l : Nat) (f : Lane → Lane) : Port := p.setLane l (f (p.lane l))
def Port.updLanes (p : Port) (f : Lane → Lane) : Port := (List.range 16).foldl (fun q l => q.updLane l f) p
def Port.active (p : Port) : List Nat := lanesOf p.mode

/-- Markers lie this many ns apart (R344), rounded up. -/
def Port.spacing (p : Port) : Nat := if p.mode = 0 then 12337 else 24673

/-- A candidate excluded: at most 8 positions are kept (R347). -/
def Lane.exclude (x : Lane) : Lane :=
  match x.cand with
  | some c => { x with cand := none, followed := false, excl := (x.excl ++ [c.1]).drop (x.excl.length - 7) }
  | none => x

/-- The locator of a port, and of one of its receive lanes (Table 1-8). -/
def portLoc (n : Nat) : Word := dieUnit n 5 1023
def laneLoc (n l : Nat) : Word := dieUnit n 5 (l + 16)

/-- A candidate is excluded and counted as false. -/
def State.excludeLane (s : State) (n l : Nat) : State :=
  if ((s.port n).lane l).cand.isSome then
    (s.updPort n (fun p => p.updLane l Lane.exclude)).countPort n 9
  else s

def State.excludeAll (s : State) (n : Nat) (ls : List Nat) : State := ls.foldl (fun t l => t.excludeLane n l) s

/-! ### Steps (Table 11-4) -/

/-- A port is enabled: its role is not Off, its transmitter not dark, and its die not fenced (10 R331). -/
def State.enabled (s : State) (n : Nat) : Bool := s.obj .portRole n != 0 && !(s.port n).txoff && s.fencedDie != some n

/-- The port enters a training step: 1 forgets the lanes' signals, 2 their CDR and exclusions, every one its alignment. A
degraded port keeps the half it uses (R367). -/
def Port.enter (p : Port) (step now : Nat) : Port :=
  let q := p.updLanes (fun x => { x with
    cand := none, followed := false, mlock := false, missed := 0
    excl := if step ≤ 2 then [] else x.excl
    cdr := if step ≤ 2 then false else x.cdr
    sd := if step ≤ 1 then false else x.sd
    bad := if step ≤ 1 then false else x.bad })
  { q with step := step, stepAt := now, st := 1, align := 0, confirm := 0, words := [], frames := [], lcq := [], seen := false,
           peerSeen := false, sentSeen := false,
           leftUp := if p.step = 5 then some now else p.leftUp,
           leftStep1 := if step ≤ 1 then none else if p.step ≤ 1 then some now else p.leftStep1,
           peerWant := if step ≤ 1 then 0 else p.peerWant }

/-- A port that is dark stands in step 1, Off. -/
def State.retrain (s : State) (n step : Nat) : State :=
  s.updPort n (fun p =>
    if s.enabled n then p.enter step s.gtc else { p.enter 1 s.gtc with st := 0 })

/-- A Z port stops at step 3 while NZ is 1 (R351). -/
def State.zStopped (s : State) (n : Nat) : Bool :=
  (s.obj .portRole n == 6 || s.obj .portRole n == 7) && s.obj .nz == 1

/-- An event of a port: a stopped Z port raises none (R351). -/
def State.portEvent (s : State) (n code : Nat) (loc : Word) : State :=
  if s.zStopped n then s else s.raiseAct code n 0 loc

/-- Lock is lost: counted, port-down raised, and the port is back in step `step` (R348, R349, R361). -/
def State.loseLock (s : State) (n step : Nat) : State :=
  let s := (s.countPort n 7).countErr (portLoc n) 4 2
  let s := s.updLife n (fun x => { x with lockLosses := sat32 (x.lockLosses + 1) })
  (s.retrain n step).portEvent n 0x0502 (portLoc n)

/-- The port enters Failed (R349, R366). -/
def State.failPort (s : State) (n : Nat) : State :=
  (s.updPort n (fun p => { p.enter 1 s.gtc with st := 4 })).portEvent n 0x0503 (portLoc n)

/-- The mode of R366 for given bad lanes, with the peer's request (1: lanes 8 to 15 have a bad one; 2: lanes 0 to 7). -/
def modeFor (bad : List Nat) (peerWant : Nat) : Option Nat :=
  let low := bad.any (fun l => decide (l < 8)) || peerWant == 2
  let high := bad.any (fun l => decide (8 ≤ l)) || peerWant == 1
  if !low && !high then some 0 else if !low then some 1 else if !high then some 2 else none

/-- Lanes that cannot be used: bad, without signal, or without CDR lock. -/
def Port.badLanes (p : Port) : List Nat :=
  (List.range 16).filter (fun l => let x := p.lane l; x.bad || !x.sd || !x.cdr)

/-- The receiver step has ended: the mode is chosen and alignment begins, or no half is left. A degraded port does not return
to 16 lanes by itself (R367). -/
def State.beginAlign (s : State) (n : Nat) : State :=
  let p := s.port n
  match modeFor p.badLanes p.peerWant with
  | some m =>
    let m := if m = 0 then p.want else m
    s.updPort n (fun q => { q.enter 3 s.gtc with mode := m, want := m })
  | none => s.failPort n

/-- A bit of a lane mask. -/
def inMask (m : BitVec 16) (l : Nat) : Bool := m.getLsbD l

/-- SIGNAL_DETECT_HELD: the lanes of the mask have had signal detect for 1 ms; every lane of a half ends step 1. -/
def execSignalDetectHeld (port : Fin 48) (lanes : BitVec 16) (s : State) : Out :=
  let n := port.val
  let p := s.port n
  let half (o : Nat) : Bool := (List.range 8).all (fun l => inMask lanes (l + o))
  if s.enabled n && p.st == 1 && p.step == 1 && (half 0 || half 8) then
    .next (s.updPort n (fun q =>
      (List.range 16).foldl (fun r l => r.updLane l (fun x => { x with sd := inMask lanes l })) (q.enter 2 s.gtc)))
  else .next s

/-- RECEIVER_CONVERGED: CDR and equaliser hold on every lane that has signal detect. -/
def execReceiverConverged (port : Fin 48) (s : State) : Out :=
  let n := port.val
  if (s.port n).step = 2 then
    .next ((s.updPort n (fun p => p.updLanes (fun x => { x with cdr := x.sd && !x.bad }))).beginAlign n)
  else .next s

/-- RECEIVER_STEP_TIMEOUT: after 1 ms the lanes outside the mask are bad; the step repeats, unless no half remains. -/
def execReceiverStepTimeout (port : Fin 48) (locked : BitVec 16) (s : State) : Out :=
  let n := port.val
  let p := s.port n
  if p.step = 2 ∧ p.stepAt + 1000000 ≤ s.gtc then
    let s := s.updPort n (fun q => (List.range 16).foldl (fun r l =>
      if inMask locked l then r else r.updLane l (fun x => { x with bad := true })) { q with stepAt := s.gtc })
    match modeFor ((List.range 16).filter (fun l => ((s.port n).lane l).bad)) 0 with
    | some _ => .next s
    | none => .next (s.failPort n)
  else .next s

/-- ALIGNMENT_TIMEOUT: 2 ms in step 3 without lock. -/
def execAlignmentTimeout (port : Fin 48) (s : State) : Out :=
  let p := s.port port.val
  if p.step = 3 ∧ p.align ≠ 2 ∧ p.stepAt + 2000000 ≤ s.gtc ∧ s.zStopped port.val = false then
    .next (s.retrain port.val 2)
  else .next s

/-- HANDSHAKE_TIMEOUT: 1 ms in step 4. -/
def execHandshakeTimeout (port : Fin 48) (s : State) : Out :=
  let p := s.port port.val
  if p.step = 4 ∧ p.stepAt + 1000000 ≤ s.gtc then .next (s.retrain port.val 3) else .next s

/-- PORT_FAILED_TIMEOUT: not in step 5 within 1 s of leaving step 1. -/
def execPortFailedTimeout (port : Fin 48) (s : State) : Out :=
  let p := s.port port.val
  match p.leftStep1 with
  | some t =>
    if p.st = 1 ∧ p.step ≠ 5 ∧ t + 1000000000 ≤ s.gtc ∧ s.zStopped port.val = false then .next (s.failPort port.val)
    else .next s
  | none => .next s

/-- FAILED_PORT_RESTART: once every second. -/
def execFailedPortRestart (port : Fin 48) (s : State) : Out :=
  let p := s.port port.val
  if p.st = 4 ∧ p.stepAt + 1000000000 ≤ s.gtc then .next (s.retrain port.val 1) else .next s

/-! ### Alignment (Table 11-3) -/

/-- How often a value stands in a list. -/
def countOf (l : List Nat) (v : Nat) : Nat := (l.filter (fun x => x == v)).length

/-- The most common value, if one alone is most common. -/
def mostCommon (l : List Nat) : Option Nat :=
  l.find? (fun v => l.all (fun w => w == v || decide (countOf l w < countOf l v)))

/-- Every active lane holds a candidate of which no marker is due within 80 ns: deskew and CONFIRM, or exclusions. -/
def State.searchDone (s : State) (n : Nat) : State :=
  let p := s.port n
  let cs := p.active.map (fun l => (l, (p.lane l).cand))
  let full := cs.all (fun c => match c.2 with
    | some x => decide (s.gtc - x.2.2 + 80 < p.spacing)
    | none => false)
  if full = false then s
  else
    let ms := cs.filterMap (fun c => c.2.map (fun x => x.2.1))
    let ts := cs.filterMap (fun c => c.2.map (fun x => x.2.2))
    let tmin := ts.foldl min s.gtc
    let tmax := ts.foldl max 0
    let same := ms.all (fun m => m == ms.headD 0)
    let tight := decide (tmax - tmin ≤ 80)
    if same && tight then
      s.updPort n (fun q => { q.updLanes (fun x => { x with followed := false }) with align := 1, confirm := 1 })
    else
      let s := if tight then s else s.countPort n 10
      match (if same then none else mostCommon ms) with
      | some v => s.excludeAll n ((cs.filter (fun c => c.2.any (fun x => x.2.1 != v))).map (fun c => c.1))
      | none => s.excludeAll n p.active

/-- LOCKED is reached: exclusions are cleared and the handshake begins, but for a Z port while NZ is 1. -/
def State.locked (s : State) (n : Nat) : State :=
  s.updPort n (fun p =>
    let q := { p.updLanes (fun x => { x with excl := [], followed := false, missed := 0 }) with align := 2, words := [] }
    if s.zStopped n || q.step != 3 then q else { q with step := 4, stepAt := s.gtc })

/-- Degrade is agreed once both ends' markers have shown the same request: each retrains from step 3 in that half, keeping
CDR (R366). -/
def State.startDegrade (s : State) (n : Nat) : State :=
  let p := s.port n
  if p.want ≠ 0 ∧ p.want = p.peerWant ∧ p.want = p.shown ∧ p.mode = 0 then
    let s := s.countPort n 8
    let s := s.updLife n (fun x => { x with degrades := sat32 (x.degrades + 1) })
    s.updPort n (fun q => { q.enter 3 s.gtc with mode := p.want })
  else s

/-- The stamp pair of a recognised marker is recorded (R345). -/
def State.stampPair (s : State) (n l m tx : Nat) : State :=
  s.updPort n (fun q => { q.updLane l (fun x => { x with pair := some (m, s.gtc, tx) }) with lastPair := some (m, s.gtc, tx) })

/-- MARKER_RECOGNISED: 40 bytes arrive as a marker on lane `l` at bit position `pos` (modulo the spacing). A marker at the
lane's candidate position reloads its descrambler (R343). -/
def execMarkerRecognised (port : Fin 48) (l : Fin 16) (pos : Nat) (bytes : List (BitVec 8)) (s : State) : Out :=
  let n := port.val
  let m := leNat ((bytes.drop 10).take 2)
  let tx := leNat ((bytes.drop 18).take 8)
  let s := if markerOk l.val bytes then s.stampPair n l.val m tx else s
  let p := s.port n
  let x := { p.lane l.val with scram := scramSeed l.val }
  if markerOk l.val bytes = false ∨ p.step < 3 ∨ p.active.contains l.val = false then .next s
  else
    let put (t : State) (y : Lane) : State := t.updPort n (fun q => q.setLane l.val y)
    match p.align, x.cand with
    | 0, none =>
      if x.excl.contains pos then .next s
      else .next ((put s { x with cand := some (pos, m, s.gtc), mlock := true }).searchDone n)
    | 0, some c =>
      if pos ≠ c.1 then .next s
      else if m ≠ (c.2.1 + 1) % 65536 then .next (s.excludeLane n l.val)
      else .next ((put s { x with cand := some (pos, m, s.gtc), mlock := true }).searchDone n)
    | 1, some c =>
      if pos ≠ c.1 then .next s
      else if m ≠ (c.2.1 + 1) % 65536 then
        .next ((s.updPort n (fun q => { q with align := 0, confirm := 0 })).excludeLane n l.val)
      else
        let t := put s { x with cand := some (pos, m, s.gtc), followed := true, mlock := true }
        let q := t.port n
        if q.active.all (fun i => (q.lane i).followed) then
          if q.confirm = 3 then .next (t.locked n)
          else .next (t.updPort n (fun r => { r.updLanes (fun y => { y with followed := false }) with confirm := r.confirm + 1 }))
        else .next t
    | 2, some c =>
      if pos ≠ c.1 then .next s
      else
        let t := put s { x with cand := some (pos, m, s.gtc), missed := 0, mlock := true }
        let w := bitsOf (leNat ((bytes.drop 12).take 1)) 5 4
        .next ((t.updPort n (fun q => { q with peerWant := w })).startDegrade n)
    | _, _ => .next s

/-- MARKER_MISSED: the marker due on lane `l` did not come, or its MSEQ was not one higher. In LOCKED the descrambler reloads
all the same (R348); in 8-lane mode the third in a row ends lock, and the port retrains from step 1 (R367). -/
def execMarkerMissed (port : Fin 48) (l : Fin 16) (s : State) : Out :=
  let n := port.val
  let p := s.port n
  if p.step < 3 ∨ p.active.contains l.val = false ∨ (p.lane l.val).cand.isNone then .next s
  else
    let s := s.updPort n (fun q => q.updLane l.val (fun x => { x with
      mlock := false, missed := x.missed + 1, scram := scramSeed l.val }))
    if p.align = 2 then
      (if p.mode ≠ 0 ∧ 3 ≤ ((s.port n).lane l.val).missed then .next (s.loseLock n 1) else .next s)
    else .next ((s.updPort n (fun q => { q with align := 0, confirm := 0 })).excludeLane n l.val)

/-! ### Lane degrade (R366, R367) -/

/-- The receive lanes that this end has found bad. -/
def Port.ownBad (p : Port) : List Nat := (List.range 16).filter (fun i => (p.lane i).bad)

/-- Lanes that have lost CDR get another chance in step 2. -/
def Port.freeCdr (p : Port) : Port := p.updLanes (fun x => { x with bad := x.bad && !(x.sd && !x.cdr) })

/-- LANE_BAD: lane `l` has lost signal detect (`lost` 1) or CDR (2), or missed three markers, or exceeds LANE_SER_LIMIT. With no
half left by loss of CDR step 2 begins again (R349); otherwise the port has failed (R366). -/
def execLaneBad (port : Fin 48) (l : Fin 16) (lost : Fin 3) (s : State) : Out :=
  let n := port.val
  let p := s.port n
  let x := p.lane l.val
  let bad := lost != 0 || decide (3 ≤ x.missed) || decide (s.obj .laneSerLimit < max x.curCorr x.winCorr)
  if p.step < 3 ∨ p.active.contains l.val = false ∨ x.bad = true ∨ bad = false then .next s
  else if p.mode ≠ 0 then .next (s.loseLock n 1)
  else
    let s := s.updPort n (fun q => q.updLane l.val (fun y => { y with
      bad := true, sd := y.sd && lost != 1, cdr := y.cdr && lost == 0 }))
    let s := s.portEvent n 0x0504 (laneLoc n l.val)
    match modeFor (s.port n).ownBad p.peerWant with
    | some m => .next ((s.updPort n (fun q => { q with want := m })).startDegrade n)
    | none => .next (if lost = 2 then (s.updPort n Port.freeCdr).loseLock n 2 else s.failPort n)

/-- DEGRADE_SEND: the end that has found a bad lane asks until the peer's markers show the same request (R366). -/
def execDegradeSend (port : Fin 48) (s : State) : Out :=
  let p := s.port port.val
  if p.want ≠ 0 ∧ p.mode = 0 ∧ p.peerWant ≠ p.want ∧ p.ownBad ≠ [] then
    .next (s.updPort port.val (fun q => { q with lcq := q.lcq ++ [leBytes 1 2 ++ leBytes 1 q.want] }))
  else .next s

/-- The oldest frame that waits, if it is a link-control frame of a type. -/
def Port.lcFrame (p : Port) (type : Nat) : Option Frame :=
  match p.frames with
  | f :: _ => if f.ft = 2 ∧ f.ak ≠ 1 ∧ leNat (f.payload.take 1) = type then some f else none
  | [] => none

def State.dropFrame (s : State) (n : Nat) : State := s.updPort n (fun p => { p with frames := p.frames.drop 1 })

/-- DEGRADE_RECEIVE: the peer asks for a half; this end's markers ask for the same from now on, or it fails when that half has
a bad lane here. It retrains once its markers have shown the request and the peer's markers show it too. -/
def execDegradeReceive (port : Fin 48) (s : State) : Out :=
  let n := port.val
  let p := s.port n
  match p.lcFrame 2 with
  | none => .next s
  | some f =>
    let s := s.dropFrame n
    let h := leNat ((f.payload.drop 1).take 1)
    if p.mode ≠ 0 ∨ h = 0 ∨ 2 < h then .next s
    else match modeFor p.ownBad h with
      | some m => .next ((s.updPort n (fun q => { q with want := m })).startDegrade n)
      | none => .next (s.failPort n)

/-! ### Handshake (R350 to R352) -/

/-- Buffer sizes by VC code (Table 11-14). -/
def bufferOf (vc : Nat) : Nat :=
  match vc with | 0 => 3072 | 1 => 1536 | 2 => 1536 | 3 => 512 | 4 => 1024 | 5 => 256 | _ => 256

/-- Flits in a port's receive buffer for a VC code. -/
def Port.buffered (p : Port) (vc : Nat) : Nat :=
  ((p.rxq.filter (fun q => q.vc == vc)).map Packet.flits).sum + ((aget [] p.rxPart vc).length + 255) / 256

/-- The CREDITS of a LINK_INIT: the free space, less what has been freed and is still to be returned in credit fields, so that
no flit is credited twice and none is lost (R352, R363). -/
def Port.space (p : Port) (vc : Nat) : Nat := bufferOf vc - p.buffered vc - aget 0 p.freed vc

/-- The conditions of R352 on this end: it left step 5 at most 10 ms ago, in the incarnation of the last handshake. -/
def State.asksResume (s : State) (n : Nat) : Bool :=
  let p := s.port n
  p.leftUp.any (fun t => decide (s.gtc ≤ t + 10000000)) && p.incarn == p.hsOwn

/-- The bytes of a LINK_INIT (Table 11-5). -/
def State.linkInit (s : State) (n : Nat) : List (BitVec 8) :=
  let p := s.port n
  leBytes 1 1 ++ leBytes 1 1 ++ leBytes 1 (b2n p.seen + 2 * b2n (s.asksResume n)) ++ leBytes 1 (s.obj .portRole n) ++
    leBytes 1 n ++ leBytes 1 (s.groupIndex n) ++ leBytes 1 (p.mode * 64) ++ leBytes 1 0 ++
    leBytes 3 (if s.obj .placeValid = 1 then s.place else 0xFFFFFF) ++ leBytes 1 0 ++ leBytes 4 p.incarn ++
    leBytes 2 p.rxSeq ++ (List.range 7).flatMap (fun v => leBytes 2 (p.space v))

/-- LINK_INIT_SEND: once per microsecond until this end has sent one with SEEN and has seen one with SEEN (R350). -/
def execLinkInitSend (port : Fin 48) (s : State) : Out :=
  let n := port.val
  let p := s.port n
  if (p.step = 4 ∨ p.step = 5) ∧ (p.sentSeen && p.peerSeen) = false then
    .next (s.updPort n (fun q => { q with lcq := q.lcq ++ [s.linkInit n], sentSeen := q.sentSeen || q.seen }))
  else .next s

/-- The expected neighbour at a port's far end (R369). -/
def State.expectedPlace (s : State) (role : Nat) : Option Nat :=
  let own := s.place
  let x := coordX own
  let y := coordY own
  match role with
  | 2 => some (own - x + (x + 1) % 8)
  | 3 => some (own - x + (x + 7) % 8)
  | 4 => some (own - 8 * y + 8 * ((y + 1) % 32))
  | 5 => some (own - 8 * y + 8 * ((y + 31) % 32))
  | _ =>
    let nz := s.obj .nz
    match s.coordZ own with
    | none => none
    | some z =>
      let want := if role = 6 then (z + 1) % nz else (z + nz - 1) % nz
      ((List.range 2048).find? (fun pod => s.obj .zmap 0 pod == want)).map (fun pod => own % 256 + pod * 256)

/-- The opposite direction of the same axis. -/
def opposite (role : Nat) : Nat := if role % 2 = 0 then role + 1 else role - 1

/-- What the handshake makes of the peer (R351): 2 Up, 3 Mismatch, 5 Restricted. -/
def State.judgePeer (s : State) (n role gidx place : Nat) : Nat :=
  let own := s.obj .portRole n
  if s.obj .placeValid ≠ 1 ∨ s.obj .moduleState = 5 then 5
  else if own = 1 then (if role = 8 then 2 else 3)
  else if 2 ≤ own ∧ own ≤ 7 ∧ role = opposite own ∧ s.expectedPlace own = some place ∧ gidx = s.groupIndex n then 2
  else 3

/-- Packets of which flits have gone are lost when the replay buffer is discarded. -/
def Port.dropStarted (p : Port) : Port :=
  { p with
    txq := (p.txq.map (fun e => (e.1, if aget 0 p.txSent e.1 = 0 then e.2 else e.2.drop 1))).filter (fun e => !e.2.isEmpty)
    txSent := [] }

/-- Every code table of a port becomes invalid (12 R399). -/
def State.dropTables (s : State) (n : Nat) : State :=
  let s : State := { s with mouths := amod Mouth.zero s.mouths n (fun m => { m with tables := [] }) }
  (List.range 32).foldl (fun (t : State) j => t.setObj .ctabValid 0 n j) s

/-- Replay and credits after a handshake (R352); one that does not resume invalidates the port's code tables (12 R399) and
frees the flits of packets received in part. -/
def State.resumeOrReset (s : State) (n : Nat) (resume : Bool) (next : Nat) (credits : List (Nat × Nat)) : State :=
  let p := s.port n
  if resume then
    s.updPort n (fun q =>
      let rest := q.replay.dropWhile (fun f => f.seq != next)
      let keep := if q.replay.any (fun f => f.seq == next) then rest else []
      { q with replay := keep, resend := keep.length, resendFor := none, credits := credits, nak := none, nakDue := false })
  else
    ((s.addObj .portCounters p.replay.length n 14).dropTables n).updPort n (fun q =>
      { q.dropStarted with
        freed := (List.range 7).foldl (fun l v => aset 0 l v (aget 0 l v + ((aget [] q.rxPart v).length + 255) / 256)) q.freed
        replay := [], resend := 0, resendFor := none, txSeq := 0, rxSeq := 0, rxFails := 0, rxPart := [], rxPsn := []
        credits := credits, nak := none, nakDue := false })

/-- LINK_INIT_RECEIVE: the peer's LINK_INIT decides the port's state; with SEEN in it the handshake is done. Restricted and
Mismatch are entered at once (log 27). -/
def execLinkInitReceive (port : Fin 48) (s : State) : Out :=
  let n := port.val
  let p := s.port n
  match p.lcFrame 1 with
  | none => .next s
  | some f =>
    let b (i k : Nat) : Nat := natAt f.payload i k
    let s := s.dropFrame n
    if p.step ≠ 4 ∧ p.st ≠ 3 ∧ p.step ≠ 5 then .next s
    else
      let judge := s.judgePeer n (b 3 1) (b 5 1) (b 8 3)
      let flags := b 2 1
      let s := s.updPort n (fun q => { q with
        peerPlace := b 8 3, peerPort := b 4 1, peerRole := b 3 1, peerGidx := b 5 1, peerIncarn := b 12 4
        peerSeen := q.peerSeen || flags.testBit 0, seen := q.seen || judge == 2 })
      if p.step = 5 ∧ p.st ≠ 3 then .next s
      else if judge = 3 then
        let credits := (List.range 7).map (fun v => (v, b (18 + 2 * v) 2))
        let t := if p.st = 3 then s else s.resumeOrReset n false (b 16 2 % 4096) (credits.filter (fun c => c.2 != 0))
        let t := t.updPort n (fun q => { q with
          st := 3, step := 5, seen := false, hsOwn := q.incarn, hsPeer := b 12 4, leftUp := none, leftStep1 := none })
        .next (if p.st = 3 then t
          else t.raiseAct 0x0505 n 0 (BitVec.ofNat 64 (b 8 3 * 2 ^ 24 + b 4 1 % 64 * 256 + b 3 1 % 16)))
      else if judge = 2 ∧ flags.testBit 0 = false then .next s
      else
        let resume := s.asksResume n && flags.testBit 1 && b 12 4 == p.hsPeer
        let credits := (List.range 7).map (fun v => (v, b (18 + 2 * v) 2))
        let t := s.resumeOrReset n resume (b 16 2 % 4096) (credits.filter (fun c => c.2 != 0))
        let t := t.updPort n (fun q => { q with
          st := judge, step := 5, stepAt := s.gtc, hsOwn := q.incarn, hsPeer := b 12 4
          leftUp := none, leftStep1 := none })
        .next (if judge = 2 then t.raiseAct 0x0501 n 0 (BitVec.ofNat 64 (b 8 3)) else t)

/-! ### Commands to a port (R367, R368, R378, R379) -/

/-- Retrain from step `step` in 16-lane mode: an earlier degrade is forgotten. -/
def State.retrain16 (s : State) (n : Nat) : State :=
  let down := (s.port n).step = 5
  let s := s.updPort n (fun p => { p.updLanes (fun x => { x with bad := false }) with want := 0, peerWant := 0 })
  let s := (s.retrain n (min 2 (s.port n).step)).updPort n (fun p => { p with mode := 0 })
  if down then s.portEvent n 0x0502 (portLoc n) else s

/-- TXOFF written: a dark port is Off and holds in step 1. -/
def State.setTxoff (s : State) (n : Nat) (off : Bool) : State :=
  let p := s.port n
  if p.txoff = off then s
  else
    let s := (s.updPort n (fun q => { q with txoff := off })).retrain n 1
    if p.step = 5 then s.portEvent n 0x0502 (portLoc n) else s

/-- PORT_CMD 2 and 3 (R378): a change returns a degraded port to 16 lanes (R367). -/
def State.portCmd (s : State) (n : Nat) (off : Bool) : State :=
  if (s.port n).txoff = off then s
  else (s.updPort n (fun p => { p with mode := 0, want := 0, peerWant := 0 })).setTxoff n off

/-- PORT_RETRAIN: PORT_CMD 1. -/
def execPortRetrain (port : Fin 48) (s : State) : Out := .next (s.retrain16 port.val)

/-- PORT_DISABLE: PORT_CMD 2. -/
def execPortDisable (port : Fin 48) (s : State) : Out := .next (s.portCmd port.val true)

/-- PORT_ENABLE: PORT_CMD 3. -/
def execPortEnable (port : Fin 48) (s : State) : Out := .next (s.portCmd port.val false)

/-- FP_RETRAIN: FP_LINK_CTL.RETRAIN written 1. -/
def execFpRetrain (port : Fin 48) (s : State) : Out := .next (s.retrain16 port.val)

/-- FP_TXOFF: FP_LINK_CTL.TXOFF written. -/
def execFpTxoff (port : Fin 48) (off : Bool) (s : State) : Out := .next (s.setTxoff port.val off)

/-- PORT_ROLE_WRITE: roles 0 to 7, while no job runs; a new incarnation, and training from step 1 (R350, R368). -/
def execPortRoleWrite (port : Fin 48) (role : BitVec 8) (s : State) : Out :=
  let n := port.val
  if s.jobRuns ∨ 8 ≤ role.toNat then .next s
  else
    let down := (s.port n).step = 5 ∧ (s.port n).st = 2
    let t := (s.setObj .portRole role.toNat n).updPort n (fun p => { p with incarn := (p.incarn + 1) % 2 ^ 32 })
    let t := (t.retrain n 1).dropTables n
    .next (if down then t.raiseAct 0x0502 n 0 (portLoc n) else t)

/-- FELUN_WEIGHTS (Table 11-19): VC0 to VC3 and the cap of VC4 sum to 100, the cap is at most 20, VC5's minimum 1 to 10. -/
def felunWeightsOk (v : Nat) : Bool :=
  let f (i : Nat) : Nat := bitsOf v (8 * i + 7) (8 * i)
  decide (1 ≤ f 5 ∧ f 5 ≤ 10) && decide (f 4 ≤ 20) && f 0 + f 1 + f 2 + f 3 + f 4 == 100

/-- FELUN_WEIGHTS_WRITE: the object is RWL, and its reserved bits [63:48] read zero (00 R8, R9). -/
def execFelunWeightsWrite (v : Word) (s : State) : Out :=
  if felunWeightsOk v.toNat && !s.jobRuns then .next (s.setObj .felunWeights (v.toNat % 2 ^ 48)) else .next s

/-- ZMAP holds each of 0 to nz - 1 exactly once. -/
def State.zmapHolds (s : State) (nz : Nat) : Bool :=
  let l := (List.range 2048).map (fun pod => s.obj .zmap 0 pod)
  (List.range nz).all (fun z => countOf l z == 1)

/-- ZMAP_NZ_WRITE: NZ is RWL and 1 to 2,048; a Z port past step 3 stops there when it becomes 1, and one that stood locked at
step 3 goes on when it is 1 no longer (R351). -/
def execZmapNzWrite (nz : BitVec 16) (s : State) : Out :=
  let v := nz.toNat
  if 1 ≤ v ∧ v ≤ 2048 ∧ s.zmapHolds v = true ∧ s.jobRuns = false then
    let t := s.setObj .nz v
    .next ((List.range 48).foldl (fun (u : State) n =>
      let p := u.port n
      if p.step = 3 ∧ p.align = 2 ∧ u.zStopped n = false then u.updPort n (fun q => { q with step := 4, stepAt := u.gtc })
      else if 3 < p.step ∧ u.zStopped n = true then
        u.updPort n (fun q => { q with step := 3, st := 1, stepAt := u.gtc, seen := false, peerSeen := false, sentSeen := false
                                       leftUp := if p.step = 5 then some u.gtc else q.leftUp, lcq := [], frames := [] })
      else u) t)
  else .next s

end Sys2Proof.Machine
end

