-- ==== Sys2Proof/Machine/Flit.lean ====
section
/-! DEFINITION. Chapter 11: codewords and flits received, replay, credits, and the transmitter's choice in each flit slot
(R339 to R348, R353 to R364). VC codes: 0 VC0, 1 VC1a, 2 VC1b, 3 VC2, 4 VC3, 5 VC4, 6 VC5. -/

namespace Sys2Proof.Machine

/-! ### Receiving -/

/-- Credits returned by a frame (R363). -/
def Port.takeCredits (p : Port) (f : Frame) : Port :=
  f.creds.foldl (fun q c =>
    if c.1 < 7 ∧ 0 < c.2 then { q with credits := aset 0 q.credits c.1 (min (bufferOf c.1) (aget 0 q.credits c.1 + c.2)) }
    else q) p

/-- The flits up to number `a` are acknowledged: the port, and whether `a` lies outside the window (R359). -/
def Port.acked (p : Port) (a : Nat) : Port × Bool :=
  if p.replay.any (fun f => f.seq == a) then
    let rest := (p.replay.dropWhile (fun f => f.seq != a)).drop 1
    ({ p with replay := rest, resend := min p.resend rest.length }, false)
  else
    let base := match p.replay with | f :: _ => f.seq | [] => p.txSeq
    (p, a != (base + 4095) % 4096)

/-- The acknowledgement and credit fields of a frame of any kind, once the handshake is done. -/
def State.applyFields (s : State) (n : Nat) (f : Frame) : State :=
  let p := (s.port n).takeCredits f
  if (s.port n).step ≠ 5 then s
  else if f.ak = 2 ∨ f.ak = 3 then s.setPort n p
  else
    let r := p.acked f.ackseq
    let t := s.setPort n r.1
    if r.2 then t.countPort n 11 else t

/-- A data flit failed, or one came ahead of the expected number: one NAK for the last accepted (R360). -/
def State.flitFailed (s : State) (n : Nat) : State :=
  let p := s.port n
  if p.nak.isSome ∨ p.step ≠ 5 then s
  else
    (s.countPort n 4).updPort n (fun q => { q with
      nak := some ((q.rxSeq + 4095) % 4096, s.gtc), nakDue := true, rxFails := q.rxFails + 1 })

/-- One frame of a decoded codeword arrives (R354): a bad CRC, reserved codes, an idle flit's fields, or a frame kept for
its handling. -/
def State.frameIn (s : State) (n : Nat) (bs : List (BitVec 8)) : State :=
  let f := Frame.ofBytes bs
  if frameCrcOk bs = false then
    let s := s.countPort n 5
    if f.ft = 1 then s.flitFailed n else s
  else if 3 ≤ f.ft ∨ f.vcc = 7 then s.countPort n 11
  else if f.ft = 0 ∧ f.ak ≠ 1 then s.applyFields n f
  else if f.ft = 2 ∧ f.ak ≠ 1 then
    (s.applyFields n f).updPort n (fun p => { p with frames := p.frames ++ [{ f with ak := 2, creds := [] }] })
  else s.updPort n (fun p => { p with frames := p.frames ++ [f] })

/-- Corrected symbols of a codeword, by the lane each lies on (R341, R361). -/
def State.correct (s : State) (n : Nat) (errs : List Nat) : State :=
  let ls := (s.port n).active
  let s := errs.foldl (fun (t : State) e =>
    let l := ls.getD (e % ls.length) 0
    (t.incObj .laneCorr n l).updPort n (fun p => p.updLane l (fun x => { x with corr := x.corr + 1, curCorr := x.curCorr + 1 }))) s
  s.updLife n (fun x => { x with fec := (x.fec + errs.length) % 2 ^ 64 })

/-- An uncorrectable codeword: in CONFIRM every candidate is excluded; in LOCKED 16 among the last 64 end lock. -/
def State.badWord (s : State) (n : Nat) : State :=
  let p := s.port n
  let s := s.countPort n 6
  if p.align = 1 then
    (s.updPort n (fun q => { q with align := 0, confirm := 0 })).excludeAll n p.active
  else
    let ws := (true :: p.words).take 64
    let s := s.updPort n (fun q => { q with words := ws })
    if 16 ≤ (ws.filter (fun w => w)).length then s.loseLock n 3 else s

/-- The symbols of a codeword slot: each active lane's levels as bits, descrambled from the lane's own state (R338, R341,
R343). -/
def Port.readSlot (p : Port) (lanes : List (List (Fin 4))) : Port × List Nat :=
  let w := if p.mode = 0 then 320 else 640
  let r := (p.active.zip lanes).map (fun a => (a.1, scramble w 0 (levelBits a.2) (p.lane a.1).scram 0))
  (r.foldl (fun q a => q.updLane a.1 (fun x => { x with scram := a.2.2 })) p, destripe (r.map (fun a => a.2.1)))

/-- A frame of a codeword carries data. -/
def isDataFrame (bs : List (BitVec 8)) : Bool := bitsOf (natAt bs 0 8) 63 61 == 1

/-- CODEWORD_RECEIVE: the PAM4 levels of the codeword slot that was sent, active lane by active lane, and the symbols received
in error: at most 32 are corrected, more make it uncorrectable (R340), and a data flit in it has failed (R360). Flits are
delivered in LOCKED. -/
def execCodewordReceive (port : Fin 48) (lanes : List (List (Fin 4))) (errs : List Nat) (s : State) : Out :=
  let n := port.val
  let p := s.port n
  if p.step < 3 ∨ p.align = 0 then .next s
  else
    let r := p.readSlot lanes
    let s := s.setPort n r.1
    match codewordData r.2 with
    | none => .next (s.badWord n)
    | some data =>
      let a := data.take 280
      let b := (data.drop 280).take 280
      if 32 < errs.length then
        let t := s.badWord n
        .next (if (t.port n).align = 2 ∧ (isDataFrame a || isDataFrame b) = true then t.flitFailed n else t)
      else
        let s := s.correct n errs
        if p.align = 2 then
          let s := s.updPort n (fun q => { q with words := (false :: q.words).take 64 })
          .next ((s.frameIn n a).frameIn n b)
        else .next s

/-- 16 entries of the last millisecond. -/
def recent16 (l : List Nat) (now : Nat) : List Nat := l.filter (fun t => decide (now < t + 1000000))

/-- The expected flit has been accepted: its failures become one transient or lasting count (R361). The Bool says that lock
ends. -/
def State.countReplay (s : State) (n : Nat) : State × Bool :=
  let p := s.port n
  if p.rxFails = 0 then (s, false)
  else if p.rxFails = 1 then
    (((s.countPort n 2).countErr (portLoc n) 4 0).updPort n (fun q => { q with rxFails := 0, nak := none, nakDue := false }), false)
  else
    let l := recent16 p.lasting s.gtc ++ [s.gtc]
    let t := ((s.countPort n 3).countErr (portLoc n) 4 1).updPort n (fun q => { q with
      rxFails := 0, nak := none, nakDue := false, lasting := if 16 ≤ l.length then [] else l })
    (t, decide (16 ≤ l.length))

/-- The VC codes a role carries inbound (Table 11-11). -/
def roleCarries (role vc : Nat) : Bool :=
  if role = 1 then vc != 3 && vc != 4 else decide (2 ≤ role) && decide (role ≤ 7) && vc != 0

/-- An opcode and the VC codes it uses (Tables 11-10, 12-1; R380, R430). -/
def opcodeOk (opc vc : Nat) : Bool :=
  match opc with
  | 1 => vc == 3
  | 2 => vc == 4
  | 9 => vc == 4
  | 3 => vc == 1 || vc == 2
  | 4 => vc == 1 || vc == 2
  | 5 => vc == 5
  | 6 => vc == 5
  | 7 => vc == 5
  | 8 => vc == 5
  | 0x10 => vc == 5
  | 0x11 => vc == 0
  | 0x12 => vc == 0
  | 0x13 => vc == 0
  | 0x14 => vc == 5
  | 0x15 => vc == 1 || vc == 2
  | 0x16 => vc == 5
  | 0x18 => vc == 1 || vc == 2
  | 0x20 => vc == 6
  | 0x21 => vc == 6
  | _ => false

/-- A packet answered under Table 11-10 or as CHUNK (R430). -/
def expectsAnswer (opc : Nat) : Bool := answered opc || opc == 0x18

/-- A whole packet has arrived: kept for its command, or dropped and counted, or turned back by a Restricted port
(R45, R351, R356, R368, R372, R381). -/
def State.packetIn (s : State) (n vc psn : Nat) (bs : List (BitVec 8)) : State :=
  let p := s.port n
  let k := Packet.ofBytes vc psn bs
  let free (t : State) : State := t.updPort n (fun q => { q with freed := aset 0 q.freed vc (aget 0 q.freed vc + k.flits) })
  let page := decide (0x10 ≤ k.opc) && decide (k.opc ≤ 0x16)
  -- a server sends neither PGREQ, PGRANT nor GPAGE (12 Table 12-1)
  let outward := k.opc == 0x10 || k.opc == 0x14 || k.opc == 0x15
  if p.st = 3 ∧ vc ≠ 6 then free (s.countPort n 11)
  else if p.st = 5 ∧ vc ≠ 6 then
    (if expectsAnswer k.opc then free (s.answer k n 3) else free (s.countPort n 13))
  else if roleCarries (s.obj .portRole n) vc = false ∨ opcodeOk k.opc vc = false ∨ k.dplace = 0xFFFFFF ∨
      (vc = 0 ∧ s.isHere k.dplace = false) ∨ outward = true ∨ (page = true ∧ s.obj .portRole n ≠ 1) then free (s.countPort n 11)
  else s.updPort n (fun q => { q with rxq := q.rxq ++ [k] })

/-- An accepted data flit is written to its VC's buffer, and its packet assembled (R355, R363). -/
def State.storeFlit (s : State) (n : Nat) (f : Frame) : State :=
  let p := s.port n
  if bufferOf f.vcc ≤ p.buffered f.vcc then
    let l := recent16 p.overruns s.gtc ++ [s.gtc]
    let t := (s.countPort n 11).updPort n (fun q => { q with overruns := if 16 ≤ l.length then [] else l })
    if 16 ≤ l.length then t.loseLock n 3 else t
  else
    let old := if f.sop then [] else aget [] p.rxPart f.vcc
    let oldPsn := if f.sop then 0 else aget 0 p.rxPsn f.vcc
    let bs := old ++ f.payload.take f.len
    let psn := oldPsn + f.psn * 2 ^ ((old.length + 63) / 64)
    let t := s.updPort n (fun q => { q with
      winRx := q.winRx + f.len
      rxPart := aset [] q.rxPart f.vcc (if f.eop then [] else bs)
      rxPsn := aset 0 q.rxPsn f.vcc (if f.eop then 0 else psn) })
    if f.eop then t.packetIn n f.vcc psn bs else t

/-- DATA_FLIT_RECEIVE: the data flit at the front of the port's frames (R359, R360). -/
def execDataFlitReceive (port : Fin 48) (s : State) : Out :=
  let n := port.val
  match (s.port n).frames with
  | [] => .next s
  | f :: _ =>
    if f.ft ≠ 1 ∨ f.ak = 1 then .next s
    else
      let s := (s.dropFrame n).applyFields n f
      let p := s.port n
      if p.step ≠ 5 then .next s
      else if f.seq = p.rxSeq then
        let r := (s.countPort n 1).countReplay n
        let t := r.1.updPort n (fun q => { q with rxSeq := (q.rxSeq + 1) % 4096 })
        let u := t.storeFlit n f
        .next (if r.2 && (u.port n).step == 5 then u.loseLock n 3 else u)
      else if (f.seq + 4096 - p.rxSeq) % 4096 < 2048 then .next (s.flitFailed n)
      else .next s

/-- NAK_RECEIVE: the NAK of the frame at the front is obeyed once while its resend is in progress; the frame's other
fields act as usual (R360). -/
def execNakReceive (port : Fin 48) (s : State) : Out :=
  let n := port.val
  match (s.port n).frames with
  | [] => .next s
  | f :: rest =>
    if f.ak ≠ 1 then .next s
    else
      let busy := (s.port n).resendFor == some f.ackseq && decide (0 < (s.port n).resend)
      -- a number outside the window of unacknowledged flits is ignored (R359)
      let out := ((s.port n).acked f.ackseq).2 || (s.port n).step != 5
      let t := s.applyFields n f
      let left := if f.ft = 0 then rest else { f with ak := 2, creds := [] } :: rest
      .next (t.updPort n (fun p => { p with
        frames := left
        resend := if busy || out then p.resend else p.replay.length
        resendFor := if out then p.resendFor else some f.ackseq }))

/-- NAK_RETRY_TIMEOUT: the expected flit has not come within 2 us of the NAK: it is sent again, and after 4 resends lock
ends and the port retrains from step 3 (R360, R361). -/
def execNakRetryTimeout (port : Fin 48) (s : State) : Out :=
  let n := port.val
  let p := s.port n
  match p.nak with
  | none => .next s
  | some (q, t) =>
    if s.gtc < t + 2000 then .next s
    else if 4 ≤ p.rxFails then .next ((s.countReplay n).1.loseLock n 3)
    else .next ((s.countPort n 4).updPort n (fun x => { x with
      nak := some (q, s.gtc), nakDue := true, rxFails := x.rxFails + 1 }))

/-! ### Transmitting (R364) -/

def State.felunField (s : State) (i : Nat) : Nat := bitsOf (s.obj .felunWeights) (8 * i + 7) (8 * i)

/-- A port in this state may send packets of a VC code: all its role's when Up; VC5, and its own turned-back answers, when
Restricted; VC5 when Mismatch. -/
def Port.sends (p : Port) (vc : Nat) : Bool :=
  p.step == 5 && (p.st == 2 || (p.st == 3 && vc == 6) || (p.st == 5 && (vc == 6 || vc == 4)))

/-- The head of a VC code is eligible: its packet has begun, or can reserve its credit now; the replay buffer has room. -/
def Port.eligible (p : Port) (vc : Nat) : Bool :=
  p.sends vc && decide (p.replay.length < 512) &&
  match aget [] p.txq vc with
  | [] => false
  | k :: _ => decide (0 < aget 0 p.txSent vc) || decide (k.flits ≤ aget 0 p.credits vc)

/-- The VC whose head has waited longest, when that is FELUN_AGE or more (headSince holds the time + 1). -/
def State.urgentVc (s : State) (p : Port) : Option Nat :=
  ((List.range 7).filter (fun v => p.eligible v && decide (aget 0 p.headSince v + s.obj .felunAge ≤ s.gtc + 1))).foldl
    (fun (b : Option Nat) v => match b with
      | none => some v
      | some w => if aget 0 p.headSince v < aget 0 p.headSince w then some v else some w) none

/-- The VC code that class 0 to 3 (VC0, VC1, VC2, VC3) would send: VC1a and VC1b alternate packet by packet. -/
def Port.classVc (p : Port) (c : Nat) : Option Nat :=
  match c with
  | 0 => if p.eligible 0 then some 0 else none
  | 1 =>
    let other := if p.vc1Last = 1 then 2 else 1
    let mid := aget 0 p.txSent p.vc1Last != 0
    if mid then (if p.eligible p.vc1Last then some p.vc1Last else none)
    else if p.eligible other then some other
    else if p.eligible p.vc1Last then some p.vc1Last else none
  | 2 => if p.eligible 3 then some 3 else none
  | _ => if p.eligible 4 then some 4 else none

/-- Deficit-weighted round robin: the first class with a head and a deficit, after a round if need be. -/
def State.drrVc (s : State) (p : Port) : Port × Option Nat :=
  let pick (q : Port) : Option Nat := (List.range 4).find? (fun c => (q.classVc c).isSome && decide (1 ≤ aget 0 q.deficit c))
  let use (q : Port) (c : Nat) : Port × Option Nat :=
    ({ q with deficit := aset 0 q.deficit c (aget 0 q.deficit c - 1) }, q.classVc c)
  match pick p with
  | some c => use p c
  | none =>
    let q := (List.range 4).foldl (fun (r : Port) c =>
      if (r.classVc c).isSome then { r with deficit := aset 0 r.deficit c (aget 0 r.deficit c + 4 * s.felunField c) } else r) p
    match pick q with
    | some c => use q c
    | none => (p, none)

/-- The choice of steps 3 to 8: the VC code of the flit that is sent, if any. -/
def State.chooseVc (s : State) (p : Port) : Port × Option Nat :=
  let inWin (l : List Nat) : Nat := (l.filter (fun t => decide (p.slots < t + 1024))).length
  match s.urgentVc p with
  | some v => (p, some v)
  | none =>
    if p.eligible 5 ∧ inWin p.vc4 < 1024 * s.felunField 4 / 100 then (p, some 5)
    else if p.eligible 6 ∧ inWin p.vc5 < (1024 * s.felunField 5 + 99) / 100 then (p, some 6)
    else match s.drrVc p with
      | (q, some v) => (q, some v)
      | (q, none) => (q, if p.eligible 6 then some 6 else none)

/-- The data flit `f` as a frame's fields. -/
def TxFlit.frame (f : TxFlit) : Frame :=
  let r := f.pkt.flit f.idx
  ⟨1, f.vcc, f.sop, f.eop, r.1.length, r.2.1, [], r.1, f.seq, 0, 0⟩

/-- The next flit of the head packet of a VC leaves: credit is reserved at SOP, the flit enters the replay buffer, and a
packet that has gone leaves its queue (R359, R363). -/
def Port.takeFlit (p : Port) (vc now : Nat) : Port × Option TxFlit :=
  match aget [] p.txq vc with
  | [] => (p, none)
  | k :: rest =>
    let i := aget 0 p.txSent vc
    let last := (k.flit i).2.2
    let f : TxFlit := ⟨p.txSeq, vc, i == 0, last, k, i⟩
    ({ p with
      credits := if i = 0 then aset 0 p.credits vc (aget 0 p.credits vc - k.flits) else p.credits
      txSeq := (p.txSeq + 1) % 4096
      replay := p.replay ++ [f]
      txSent := aset 0 p.txSent vc (if last then 0 else i + 1)
      txq := aset [] p.txq vc (if last then rest else k :: rest)
      headSince := aset 0 p.headSince vc (if last && rest.isEmpty then 0 else now + 1)
      vc1Last := if vc = 1 ∨ vc = 2 then vc else p.vc1Last
      vc4 := if vc = 5 then (p.vc4.filter (fun t => decide (p.slots < t + 1024))) ++ [p.slots] else p.vc4
      vc5 := if vc = 6 then (p.vc5.filter (fun t => decide (p.slots < t + 1024))) ++ [p.slots] else p.vc5
      winTx := p.winTx + (k.flit i).1.length }, some f)

/-- The acknowledgement and credit fields that the next frame carries: up to three returns (R354, R363). -/
def Port.stampFields (p : Port) (f : Frame) : Port × Frame :=
  let due := p.freed.take 3
  let give := due.map (fun c => (c.1, min 4095 c.2))
  let left := give.foldl (fun l c => aset 0 l c.1 (aget 0 l c.1 - c.2)) p.freed
  ({ p with freed := left, nakDue := false },
   { f with creds := give, ackseq := (p.rxSeq + 4095) % 4096, ak := if p.nakDue then 1 else 0 })

/-- The frame of this flit slot (R364): a resend, link control, a data flit or an idle flit. -/
def State.nextFrame (s : State) (n : Nat) : State × Frame :=
  let p := s.port n
  let idle : Frame := ⟨0, 0, false, false, 0, 0, [], [], 0, 0, 0⟩
  if 0 < p.resend ∧ p.step = 5 then
    match p.replay[p.replay.length - p.resend]? with
    | some f => (s.updPort n (fun q => { q with resend := q.resend - 1 }), f.frame)
    | none => (s.updPort n (fun q => { q with resend := 0 }), idle)
  else match p.lcq with
    | c :: rest => (s.updPort n (fun q => { q with lcq := rest }), { idle with ft := 2, len := c.length, payload := c })
    | [] =>
      let r := s.chooseVc p
      match r.2 with
      | none => (s.setPort n r.1, idle)
      | some v =>
        let t := r.1.takeFlit v s.gtc
        match t.2 with
        | some f => ((s.setPort n t.1).countPort n 0, f.frame)
        | none => (s, idle)

/-- The slot that follows: every 8,192nd is a marker slot, unscrambled, after which the scramblers are reloaded; the lanes'
bits go out (R339, R341, R343, R344). -/
def State.markerSlot (s : State) (n : Nat) : State :=
  let p := s.port n
  let mode := p.mode * 64 + p.want * 16
  let role := s.obj .portRole n
  let place := if s.obj .placeValid = 1 then s.place else 0xFFFFFF
  let bits (l : Nat) : Nat :=
    let m := leNat (markerBytes l p.mseq mode n place role s.gtc)
    if p.mode = 0 then m else m + (2 ^ 320 - 1 - m) * 2 ^ 320
  (s.updPort n (fun q => { q with
    slot := 0, mseq := (q.mseq + 1) % 65536, shown := q.want, scram := scramSeeds
    out := q.active.map (fun l => levels (if q.mode = 0 then 160 else 320) (bits l)) })).startDegrade n

/-- A codeword slot: two frames encoded, striped, scrambled by each lane's own generator, and sent as PAM4 levels. -/
def Port.codewordSlot (p : Port) (bytes : List (BitVec 8)) : Port :=
  let syms := codeword bytes
  let ls := p.active
  let w := if p.mode = 0 then 320 else 640
  let r := ls.zipIdx.map (fun l => (l.1, scramble w 0 (stripe syms ls.length l.2) (p.scram.getD l.1 (scramSeed l.1)) 0))
  { p with
    fill := [], slot := p.slot + 1, out := r.map (fun x => levels (w / 2) x.2.1)
    scram := r.foldl (fun l x => l.set x.1 x.2.2) (fitTo 0 16 p.scram) }

/-- FLIT_TRANSMIT: one flit slot of an enabled port; with the codeword's second frame its slot goes out, and a marker slot
when one is due. -/
def execFlitTransmit (port : Fin 48) (s : State) : Out :=
  let n := port.val
  if s.enabled n = false ∨ (s.port n).st = 0 then .next s
  else
    let s := if (s.port n).fill.isEmpty && decide (8191 ≤ (s.port n).slot) then s.markerSlot n else s
    let r := s.nextFrame n
    let g := (r.1.port n).stampFields r.2
    let q : Port := { g.1 with slots := g.1.slots + 1, fill := g.1.fill ++ [g.2.bytes] }
    .next (r.1.setPort n (if 2 ≤ q.fill.length then q.codewordSlot q.fill.flatten else q))

end Sys2Proof.Machine
end

