-- ==== Sys2Proof/Machine/FelunPkt.lean ====
section
/-! DEFINITION. Chapter 11: packets consumed at this module, answers matched with their tags, forwarding, and the load
windows of the ports (R355 to R358, R370 to R374). -/

namespace Sys2Proof.Machine

/-- The oldest packet at a port that is for this module and that `f` accepts, with its VC code. -/
def State.takePacket (s : State) (n : Nat) (f : Packet → Bool) : Option Packet :=
  (s.port n).rxFind (fun p => s.isHere p.dplace && f p)

/-- A packet refused at its port with an address error (R37 to R39): counted, answered with STATUS 1. -/
def State.addrErrorAnswer (s : State) (n : Nat) (p : Packet) : State := (s.incObj .addrErrorsRemote).answer p n 1

/-- The region of a remote request, where the remote column of Table 2-4 reaches it and `n` bytes lie in it. -/
def State.remoteRegion (s : State) (mla n : Nat) : Option Region :=
  let r := s.region mla
  if r.remoteReach && r.fits n then some r else none

/-- The packet waits at its endpoint: its core's region sleeps, or a zero fill runs (R49, R323). -/
def State.waitsAt (s : State) (r : Region) : Bool :=
  s.fillWaits r || (match r with | .sram k _ => s.asleep k | _ => false)

/-- A waiting packet, known by its leg, requests the wake of its core's region. -/
def State.wakeFor (s : State) (r : Region) (ref : Nat) : State :=
  match r with
  | .sram k _ => if s.asleep k then s.holdForWake k ref else s
  | _ => s

/-! ### Into the wafer and out of it (R311, R317) -/

def State.updInb (s : State) (id : Nat) (f : Inb → Inb) : State :=
  { s with fab := { s.fab with inb := s.fab.inb.map (fun i => if i.id = id then f i else i) } }

def State.dropInb (s : State) (id : Nat) : State :=
  { s with fab := { s.fab with inb := s.fab.inb.filter (fun i => i.id != id) } }

/-- A packet in the buffer of port `n` enters the wafer for the endpoint `dst`, through the attachment of the destination's region,
when that can emit its class. -/
def State.enterWafer (s : State) (n : Nat) (p : Packet) (stage out : Nat) (dst : Endp) : State :=
  let src := attachEndp n dst.region
  if s.canEmit src p.wafer.1 then
    let f := s.fresh
    (({ f.2 with fab := { f.2.fab with inb := f.2.fab.inb ++ [Inb.mk f.1 n stage out p.vc p] } } : State).emit (f.1 * 256) p.wafer.1
      p.wafer.2 p.waferPsn src dst false).rxDrop n p.vc
  else s

/-- The leg of a packet stands at its endpoint, which can emit its answer: W2D for read data, else W1; a credit has none. -/
def State.inbStands (s : State) (i : Inb) : Option FabPkt :=
  if i.stage = 2 then s.standing (i.id * 256)
  else match i.pkt.opc with
    | 8 => s.standing (i.id * 256)
    | 1 => s.legFor (i.id * 256) (if i.pkt.len ≤ 8 then 1 else 3)
    | _ => s.legFor (i.id * 256) 1

/-- The oldest packet with opcode `opc` that came by port `n` and stands at its endpoint. -/
def State.inbReady (s : State) (n opc : Nat) : Option (Inb × FabPkt) :=
  s.fab.inb.findSome? (fun i =>
    if i.port = n ∧ i.stage = 0 ∧ i.pkt.opc = opc then (s.inbStands i).map (fun l => (i, l)) else none)

/-- A request of another module is consumed at its endpoint and answered from there. -/
def State.replyInb (s : State) (i : Inb) (e : Endp) (status : Nat) (content : List (BitVec 8)) (psn : Nat) : State :=
  ((s.consume (i.id * 256)).dropInb i.id).answerFrom e i.pkt i.port status content psn

/-- The work of a FELUN command: the oldest such request that stands at its endpoint is served there; when none does, the oldest
in the port's buffer enters the wafer. One with an address error is turned back at the port. -/
def felunRequest (n opc : Nat) (reg : State → Packet → Option Region) (serve : State → Inb → FabPkt → Region → State)
    (s : State) : Out :=
  match s.inbReady n opc with
  | some (i, leg) =>
    (match reg s i.pkt with
     | some r => if s.waitsAt r then .next (s.wakeFor r leg.ref) else .next (serve s i leg r)
     | none => .next ((s.incObj .addrErrorsRemote).replyInb i leg.dst 1 [] 0))
  | none =>
    match s.takePacket n (fun p => p.opc == opc) with
    | none => .next s
    | some p =>
      match reg s p with
      | some r => .next (s.enterWafer n p 0 0 (s.endpOf r))
      | none => .next ((s.addrErrorAnswer n p).rxDrop n p.vc)

/-! ### Memory -/

/-- Payload bytes of a tile packet with `len` bytes of content: 32 of 33; anything else is plain bytes. -/
def tileBytes (len : Nat) : Option Nat := if 264 ≤ len ∧ len % 33 = 0 then some (len / 33 * 32) else none

/-- Payload bytes that a READ of LEN `len` asks for (Table 11-10): a word, a granule with its scale bytes, a tile with its
sidecar; no other length (log 24). -/
def readBytes (len : Nat) : Option Nat :=
  if len = 8 then some 8 else if len = 256 then some 256 else if len = 4224 then some 4096 else none

/-- What answers a READ. -/
def State.readContent (s : State) (mla n : Nat) : State × PieceAns :=
  if n = 8 then
    let r := s.touch mla 8
    (r.1, ⟨true, memBytes r.1.mem mla 8, [], poisonList r.2, []⟩)
  else
    let r := s.readTile mla n
    (r.1, ⟨true, r.2.payload, r.2.scales, r.2.poison, r.2.scalePoison⟩)

/-- A request for memory here meets what refuses it: `go` serves it at an MLA that the pool has given, `host` in host memory, on a
link that is up, at a host address and its aperture offset. -/
def State.remoteMemory (s : State) (i : Inb) (leg : FabPkt) (r : Region) (len : Nat) (write : Bool) (go : State → Nat → State)
    (host : State → Nat → Nat → Nat → State) : State :=
  if s.memoryOff r then s.replyInb i leg.dst 2 [] 0
  else match s.poolAccess i.pkt.addr len write true with
    | (t, none) => t.replyInb i leg.dst 2 [] 0
    | (t, some a) =>
      match regionOf a with
      | .aperture off =>
        (match t.apTranslate off with
         | none => (t.incObj .addrErrorsRemote).replyInb i leg.dst 1 [] 0
         | some (l, ha) => if (t.link l).up then host t l ha off else t.replyInb i leg.dst 2 [] 0)
      | _ => go t a

/-- A request goes on to the host: its leg is consumed, and its answer waits for the link (08 R262, 14 R452). -/
def State.toHost (s : State) (i : Inb) : State := (s.consume (i.id * 256)).updInb i.id (fun j => { j with stage := 3 })

/-- FELUN_READ: the oldest READ for this module at a port is served and answered (R357). -/
def execFelunRead (port : Fin 48) (s : State) : Out :=
  felunRequest port.val 1 (fun s p => (readBytes p.len).bind (s.remoteRegion p.addr)) (fun s i leg r =>
    let n := (readBytes i.pkt.len).getD 8
    s.remoteMemory i leg r n false
      (fun t a => let q := t.readContent a n; q.1.replyInb i leg.dst 0 q.2.content q.2.psn)
      (fun t l ha _ => if 2048 ≤ t.apReadsOn l then s else (t.toHost i).addApRead (.inb i.id) l ha n)) s

/-- The content of a WRITE as payload, scales and poison. -/
def Packet.tile (p : Packet) (n : Nat) : TileData :=
  ⟨p.content.take n, p.content.drop n, p.poisoned.filter (fun g => decide (g.1 < n / 64)),
    (p.poisoned.filter (fun g => decide (n / 64 ≤ g.1))).map (fun g => (g.1 - n / 64, g.2))⟩

/-- The content of a WRITE is written at an MLA of this module. -/
def State.writeContent (s : State) (a : Nat) (p : Packet) : State :=
  match tileBytes p.len with
  | some n => s.writeTile a (p.tile n)
  | none => s.writeTier a p.content ((p.poisoned.head?).map (fun g => g.2))

/-- FELUN_WRITE: written, then acknowledged; in host memory, when the link has acknowledged it (R357, 14 R452). -/
def execFelunWrite (port : Fin 48) (s : State) : Out :=
  felunRequest port.val 3 (fun s p => s.remoteRegion p.addr ((tileBytes p.len).getD p.len)) (fun s i leg r =>
    let p := i.pkt
    let n := (tileBytes p.len).getD p.len
    s.remoteMemory i leg r n true
      (fun t a => (t.writeContent a p).replyInb i leg.dst 0 [] 0)
      (fun t l ha off => (t.toHost i).addApTile i.id l ha off (p.content.take n) (p.content.drop n))) s

/-! ### Cores -/

/-- The local SRAM that a packet for a core names, or its address error. -/
def State.packetCore (s : State) (p : Packet) (len : Nat) : Option Region :=
  match s.remoteRegion p.addr len with
  | some (.sram k off) => some (.sram k off)
  | _ => none

def Packet.word (p : Packet) (i : Nat) : Nat := (p.hdr.getD i 0).toNat

/-- The origin key of a packet's sender: its core's window on its place, and its slot (R216). -/
def Packet.origin (p : Packet) : Word := BitVec.ofNat 64 (p.splace * 2 ^ 40 + sramMla (p.sdie * 256 + p.slcore) 0)

/-- FELUN_PUSH: the tile lands in its slot, or the slot does not accept it: STATUS 2 (R218, R357). -/
def execFelunPush (port : Fin 48) (s : State) : Out :=
  felunRequest port.val 4 (fun s p => s.packetCore p 1) (fun s i leg r =>
    let p := i.pkt
    let k := r.core
    if s.regionOff k then s.replyInb i leg.dst 2 [] 0
    else
      let w := p.word 0
      let t := s.landPush k (w % 16) (bitsOf w 4 4) (p.word 1) (p.word 2) (s.peerKey p.origin (bitsOf w 15 8)) (p.tile 4096)
        (p.word 3 == 1)
      t.1.replyInb i leg.dst (if t.2 then 0 else 2) [] 0) s

/-- The last-signaller word of a signal that a packet brings (Table 9-6). -/
def Packet.src (p : Packet) (kind : Nat) : Word :=
  BitVec.ofNat 64 (p.splace % 2 ^ 24 * 2 ^ 40 + p.sdie % 64 * 2 ^ 34 + p.slcore % 256 * 2 ^ 26 + p.sctx % 2 * 2 ^ 25 +
    kind * 2 ^ 21 + p.spc % 2 ^ 19 * 4)

/-- A fipple delivery or signal from another module takes effect at its core and is answered. -/
def felunSignal (n opc : Nat) (len : Packet → Nat) (ok : Packet → Bool) (kind : Packet → ReqKind) (src : Nat) (s : State) : Out :=
  felunRequest n opc (fun s p => if ok p then s.packetCore p (len p) else none) (fun s i leg r =>
    let p := i.pkt
    let t := s.deliver r.core (kind p) r.off p.content ((p.poisoned.head?).map (fun g => g.2)) (p.src src) p.sendt p.mark
    t.1.replyInb i leg.dst t.2 [] 0) s

/-- FELUN_FIPPLE: 8 to 64 bytes inside one granule are written, then the valve opens. -/
def execFelunFipple (port : Fin 48) (s : State) : Out :=
  felunSignal port.val 5 (fun p => p.len)
    (fun p => decide (8 ≤ p.len) && decide (p.addr % 64 + p.len ≤ 64) && (decide (p.valve < 48) || p.valve == 63))
    (fun p => .fipple p.valve) 3 s

/-- FELUN_VSET. -/
def execFelunVset (port : Fin 48) (s : State) : Out :=
  felunSignal port.val 6 (fun _ => 1) (fun p => decide (p.valve < 48)) (fun p => .valveSet p.valve) 2 s

/-- FELUN_TADD: ADDR[5:0] names the counter; a refused add is answered with STATUS 4. -/
def execFelunTadd (port : Fin 48) (s : State) : Out :=
  felunSignal port.val 7 (fun _ => 1) (fun p => decide (p.addr % 64 < 16))
    (fun p => .tallyAdd (p.addr % 64) (wordAt p.content 0)) 2 s

/-- FELUN_CREDIT: a push credit reaches its producer's slot; it is answered by nothing. -/
def execFelunCredit (port : Fin 48) (s : State) : Out :=
  let gone (t : State) (i : Inb) : State := (t.consume (i.id * 256)).dropInb i.id
  match s.inbReady port.val 8 with
  | some (i, leg) =>
    let p := i.pkt
    (match s.packetCore p 1 with
     | none => .next (gone (s.incObj .addrErrorsRemote) i)
     | some r =>
       if s.waitsAt r then .next (s.wakeFor r leg.ref)
       else if s.regionOff r.core then .next (gone s i)
       else
         let w := p.word 0
         .next ((gone s i).takeCredit r.core (w % 16) (s.peerKey p.origin (bitsOf w 15 8)) (p.word 1)))
  | none =>
    match s.takePacket port.val (fun p => p.opc == 8) with
    | none => .next s
    | some p =>
      match s.packetCore p 1 with
      | none => .next ((s.incObj .addrErrorsRemote).rxDrop port.val p.vc)
      | some r => .next (s.enterWafer port.val p 0 0 (s.endpOf r))

/-! ### Answers (R358) -/

/-- The tag an answer matches: its number and the echoed SENDT at port RPORT. -/
def State.matchTag (s : State) (p : Packet) : Option Tag :=
  (s.port p.rport).tags.find? (fun t => t.num == p.tag && t.sendt == p.sendt)

/-- A status as its requester sees it (Table 11-12). -/
def statusOf (n : Nat) : Nat := if 5 ≤ n then 2 else n

/-- The part of a tile request that an RDATA or ACK answers. -/
def Packet.pieceAns (p : Packet) : PieceAns :=
  if statusOf p.status ≠ 0 then PieceAns.failed
  else
    let n := (tileBytes p.len).getD p.len
    let t := p.tile n
    ⟨true, t.payload, t.scales, t.poison, t.scalePoison⟩

/-- The core that a tag's answer goes to. -/
def State.tagCore (s : State) (r : TagRef) : Option Nat :=
  match r with
  | .req id => (s.findReq id).map (fun q => q.key)
  | .tile core _ _ _ => some core
  | .push core _ _ => some core
  | _ => none

/-- An answer goes from the attachment `e` to the requester its tag names (R317). -/
def State.answerTo (s : State) (r : TagRef) (p : Packet) (e : Endp) : State :=
  match r with
  | .req id =>
    match s.findReq id with
    | some q =>
      let o := mlaOf q.addr % 8
      let data := match q.kind with | .load _ _ _ => (p.content.drop o).take q.size | _ => []
      s.answerReq id (statusOf p.status) data ((p.poisoned.head?).map (fun g => g.2)) e
    | none => s
  | .tile core _ id piece => s.answerPiece core id piece p.pieceAns (statusOf p.status) e
  | .push core _ id => s.answerPiece core id 0 p.pieceAns (statusOf p.status) e
  | _ => s

/-- The answer to a chunk (13 R431) has a command of its own. -/
def State.chunkTag (s : State) (p : Packet) : Option (Nat × Tag) :=
  match s.matchTag p with
  | some t => (match t.ref with | .chunk i => some (i, t) | _ => none)
  | none => none

/-- An answer at port `n`, which holds its tag: matched and sent on to its requester when the attachment can emit its class, or
dropped as late; `gone` takes it out of where it stands. -/
def State.matchAnswer (s : State) (n : Nat) (p : Packet) (gone : State → State) : State :=
  match s.matchTag p with
  | none => (gone s).countPort n 12
  | some g =>
    let e := attachEndp n (((s.tagCore g.ref).map (fun k => (s.coreEndp k).region)).getD 0)
    if s.canEmit e p.wafer.1 then ((gone s).updPort n (fun q => q.dropTag g.num)).answerTo g.ref p e else s

/-- RDATA (opcode 2) or ACK (opcode 9): an answer that has crossed the wafer to this port's attachment, or the oldest one in the
port's buffer. One whose tag another port holds goes to that port's attachment. -/
def takeAnswer (opc n : Nat) (s : State) : Out :=
  match s.fab.inb.find? (fun i => i.out == n && i.stage == 2 && i.pkt.opc == opc && (s.inbStands i).isSome &&
      (s.chunkTag i.pkt).isNone) with
  | some i => .next (s.matchAnswer n i.pkt (fun t => (t.consume (i.id * 256)).dropInb i.id))
  | none =>
    match s.takePacket n (fun p => p.opc == opc && (s.chunkTag p).isNone) with
    | none => .next s
    | some p =>
      if p.rport = n ∨ 48 ≤ p.rport then .next (s.matchAnswer n p (fun t => t.rxDrop n p.vc))
      else .next (s.enterWafer n p 2 p.rport (attachEndp p.rport 0))

/-- FELUN_RDATA. -/
def execFelunRdata (port : Fin 48) (s : State) : Out := takeAnswer 2 port.val s

/-- FELUN_ACK. -/
def execFelunAck (port : Fin 48) (s : State) : Out := takeAnswer 9 port.val s

/-- TAG_TIMEOUT: a tag is freed TIMEOUT_REMOTE after its packet was sent, and a PGREQ no longer counts as
outstanding. -/
def execTagTimeout (port : Fin 48) (tag : BitVec 12) (s : State) : Out :=
  let n := port.val
  match (s.port n).tags.find? (fun t => t.num == tag.toNat) with
  | none => .next s
  | some t =>
    if s.gtc < t.sendt + s.tierTimeout 1 then .next s
    else
      let s := s.updPort n (fun q => q.dropTag t.num)
      match t.ref with
      | .run r => .next (s.updMouth n (fun m => { m with runs := m.runs.filter (fun x => x.num != r) }))
      | _ => .next s

/-- FELUN_CENSUS: a CENSUS packet acts by its KIND; one of another KIND or length is dropped and counted (R499). -/
def execFelunCensus (port : Fin 48) (s : State) : Out :=
  match (s.port port.val).rxHead 6 with
  | none => .next s
  | some p =>
    if p.opc ≠ 0x21 then .next s
    else if natAt p.content 0 1 = 2 then execCensusProbeReceive port s
    else if natAt p.content 0 1 = 3 then execCensusReportReceive port s
    else execCensusRequestReceive port s

/-! ### Forwarding (R370 to R373) -/

/-- PACKET_FORWARD: the oldest packet of a VC code at a port, for another place, crosses the wafer to its next port (R372), when
the attachment can emit its class; or it is answered or dropped as unreachable. -/
def execPacketForward (port : Fin 48) (vc : Fin 7) (s : State) : Out :=
  let n := port.val
  match (s.port n).rxHead vc.val with
  | none => .next s
  | some p =>
    if s.isHere p.dplace then .next s
    else
      let t := s.rxDrop n vc.val
      match s.nextHop p (axisOf (s.obj .portRole n)) with
      | some (m, v) => if s.canEmit (attachEndp n 0) p.wafer.1 then .next (t.sendOut (attachEndp n 0) m v p) else .next s
      | none => if expectsAnswer p.opc then .next (t.answer p n 3) else .next (t.countPort n 13)

/-! ### Load windows (R366, R374) -/

/-- Payload bytes a port can send in 1 ms (Table 11-1). -/
def Port.capacity (p : Port) : Nat := if p.mode = 0 then 339960000 else 169980000

/-- Whether a port is above in the window that ends. -/
def State.above (s : State) (n : Nat) : Bool :=
  let g := (List.range 48).filter (fun m => s.obj .portRole m == s.obj .portRole n)
  let total := (g.map (fun m => (s.port m).winTx)).sum
  let cap := (g.map (fun m => (s.port m).capacity)).sum
  decide (2 * total < (s.port n).winTx * g.length) && decide (cap ≤ 10 * total)

/-- PORT_IMBALANCE_WINDOW: a 1 ms window ends at every port. -/
def execPortImbalanceWindow (s : State) : Out :=
  let judged := (List.range 48).map (fun n => (n, s.above n))
  let t := judged.foldl (fun (t : State) j =>
    let p := t.port j.1
    let up := if j.2 then min 100 (p.aboveRun + 1) else 0
    let down := if j.2 then 0 else min 1000 (p.belowRun + 1)
    let fire := !p.raised && up == 100
    let raised := fire || (p.raised && decide (down < 1000))
    let sent := p.winTx
    let t := t.setPort j.1 { p.updLanes (fun x => { x with winCorr := x.curCorr, curCorr := 0 }) with
      aboveRun := up, belowRun := down, raised := raised, winTx := 0, winRx := 0 }
    if fire then (t.incObj .imbalanceEvents j.1).raiseAct 0x0506 j.1 0 (BitVec.ofNat 64 sent) else t) s
  .next t

end Sys2Proof.Machine
end

