-- ==== Sys2Proof/Machine/FelunTime.lean ====
section
/-! DEFINITION. Chapter 16: time between modules: TSYNC flits, θ, and the loop that sets the rate (R522 to R524). -/

namespace Sys2Proof.Machine

/-- TIME_SYNC takes a value; each change raises a time-state event (R524). -/
def State.setTimeSync (s : State) (v : Nat) : State :=
  let old := s.obj .timeSync
  if old = v then s else (s.setObj .timeSync v).raiseAct 0x0903 v old 0

/-- TSYNC_SEND: the peer's marker last recognised is reported (Table 16-7a). -/
def execTsyncSend (port : Fin 48) (s : State) : Out :=
  let n := port.val
  let p := s.port n
  match p.lastPair with
  | none => .next s
  | some (m, rx, tx) =>
    if p.step ≠ 5 then .next s
    else
      let body := leBytes 1 3 ++ leBytes 1 0 ++ leBytes 2 m ++ leBytes 4 0 ++ leBytes 8 rx ++ leBytes 8 tx ++
        leBytes 3 (s.obj .timeRoot) ++ leBytes 1 (s.obj .timeSync) ++ leBytes 2 s.time.dist
      .next (s.updPort n (fun q => { q with lcq := q.lcq ++ [body] }))

/-- TSYNC_RECEIVE: with the peer's report of this end's marker (R_b, T_a) and this end's stamps of the peer's marker
(R_a, T_b), 2θ = (R_b - T_a) - (R_a - T_b). -/
def execTsyncReceive (port : Fin 48) (s : State) : Out :=
  let n := port.val
  match (s.port n).lcFrame 3 with
  | none => .next s
  | some f =>
    let b (i k : Nat) : Nat := natAt f.payload i k
    let s := s.dropFrame n
    .next (s.updPort n (fun p => { p with
      peerRoot := b 24 3, peerSync := b 27 1, peerDist := b 28 2
      thetas := match p.lastPair with
        | some (_, ra, tb) => (((b 8 8 : Int) - b 16 8 - ((ra : Int) - tb)) :: p.thetas).take 16
        | none => p.thetas }))

/-- The parent port of a follower (R523): the role group of R370's direction toward TIME_ROOT under the rule of VCs other
than VC1; the Up port of lowest group index whose peer reports the same ROOT. -/
def State.timeParent (s : State) : Option Nat :=
  let root := s.obj .timeRoot
  match s.axisTo root with
  | none => none
  | some (axis, n, a, b) =>
    let role := 2 + 2 * axis + (if goesPlus false n a b then 0 else 1)
    (List.range 48).find? (fun i => s.obj .portRole i == role && (s.port i).st == 2 && (s.port i).peerRoot == root)

/-- A rate within the loop's ±200 ppm, in parts per 10^12: the spec gives the bound and not the loop (log 16). -/
def loopRate (n : Nat) : Int := ((Config.freeLane n).toNat % 400000001 : Nat) - (200000000 : Int)

/-- The module is the time root, or runs free (R523). -/
def State.isRoot (s : State) : Bool := s.obj .placeValid == 1 && s.obj .timeRoot == s.place
def State.freeRunning (s : State) : Bool := s.obj .timeRoot == 0xFFFFFF || s.obj .placeValid != 1

/-- A step of the GTC, in ns. -/
def State.stepGtc (s : State) (d : Int) : State :=
  { s with gtc := ((s.gtc : Int) + d).toNat, time := { s.time with steps := (s.time.steps + 1) % 2 ^ 32 } }

/-- A mean θ̄ of 16 periods, in 1/16 ns, steers the GTC and moves TIME_SYNC (R523, R524). -/
def State.useMean (s : State) (m : Int) : State :=
  let idle := s.obj .moduleState == 0 || s.obj .moduleState == 1
  let s := { s with time := { s.time with theta := m, good := if m.natAbs ≤ 16 then s.time.good + 1 else 0 } }
  let s :=
    if s.time.hold then s
    else if idle && decide (16000 < m.natAbs) then s.stepGtc (m / 16)
    else
      let d := s.draw
      { d.2 with time := { d.2.time with rho := loopRate d.1 } }
  if 64 ≤ s.time.good then s.setTimeSync 2
  else if 64 < m.natAbs ∨ s.obj .timeSync ≠ 2 then s.setTimeSync 1 else s

/-- TIME_LOOP_UPDATE: 16 marker periods have passed (R523). -/
def execTimeLoopUpdate (s : State) : Out :=
  let root (t : State) : State := { t with time := { t.time with rho := 0, parent := 63, dist := 0, good := 0 } }
  if s.freeRunning then .next ((root s).setTimeSync 0)
  else if s.isRoot then .next ((root s).setTimeSync 4)
  else match s.timeParent with
    | none => .next ({ s with time := { s.time with parent := 63, good := 0 } }.setTimeSync 3)
    | some n =>
      let p := s.port n
      let t : State := { s with time := { s.time with
        parent := n, dist := p.peerDist + 1, good := if s.time.parent = n then s.time.good else 0 } }
      if p.thetas.length < 16 then .next (if s.obj .timeSync = 2 then t else t.setTimeSync 1)
      else
        let m : Int := (p.thetas.take 16).foldl (fun a b => a + b) 0 / 2
        .next ((t.updPort n (fun q => { q with thetas := [] })).useMean m)

end Sys2Proof.Machine
end

