-- ==== Sys2Proof/Machine/Weights.lean ====
section
/-! DEFINITION. Chapter 12, ingress: plan banks, the walk of a mouthpiece, requests and grants, landing, decompression,
fan-out, hot swap and placement epochs (R380 to R408). -/

namespace Sys2Proof.Machine

/-! ### Plan banks (R385) -/

def State.bank (s : State) (n b : Nat) : Bank := aget Bank.zero s.banks (n * 2 + b)

/-- A plan entry (Table 12-3). -/
structure PlanEntry where
  pageId : Nat
  passEnd : Bool
  comp : Bool
  dfirst : Nat
  ndest : Nat

def Bank.entry (b : Bank) (i : Nat) : PlanEntry :=
  let w0 := (aget 0 b.entries (2 * i)).toNat
  let w1 := (aget 0 b.entries (2 * i + 1)).toNat
  ⟨w0, w1.testBit 63, w1.testBit 62, bitsOf w1 61 52, bitsOf w1 51 47⟩

/-- A destination record (Table 12-3). -/
structure Dest where
  kind : Nat
  first : Nat
  count : Nat
  slot : Nat
  addr : Nat

def Dest.ofWord (x : BitVec 64) : Dest :=
  let w := x.toNat
  ⟨bitsOf w 63 62, bitsOf w 61 56, bitsOf w 55 49, bitsOf w 43 40, bitsOf w 39 0⟩

/-- The records of an entry, with their numbers. -/
def Bank.recordsOf (b : Bank) (i : Nat) : List (Nat × BitVec 64) :=
  let e := b.entry i
  tabulate e.ndest (fun j => (e.dfirst + j, aget 0 b.dests (e.dfirst + j)))

def destsIn (l : List (Nat × BitVec 64)) : List (Nat × Dest) := l.map (fun d => (d.1, Dest.ofWord d.2))

def Bank.destsOf (b : Bank) (i : Nat) : List (Nat × Dest) := destsIn (b.recordsOf i)

def PlanRec.ds (r : PlanRec) : List (Nat × Dest) := destsIn r.dests

def Dest.names (d : Dest) (t : Nat) : Bool := decide (d.first ≤ t) && decide (t < d.first + d.count)

/-- Tiles of an entry that some destination names, ascending. -/
def Bank.wanted (b : Bank) (i : Nat) : List Nat :=
  (List.range 64).filter (fun t => (b.destsOf i).any (fun d => d.2.names t))

/-- The entries of a pass: up to the first with PASS_END. -/
def Bank.passLength (b : Bank) : Option Nat := ((List.range 4096).find? (fun i => (b.entry i).passEnd)).map (fun i => i + 1)

/-- A bank can be started (R385): some entry ends a pass, and every entry that a walk meets is in order. -/
def Bank.valid (b : Bank) : Bool :=
  match b.passLength with
  | none => false
  | some n => (List.range n).all (fun i =>
      let e := b.entry i
      decide (1 ≤ e.ndest) && decide (e.ndest ≤ 16) && decide (e.dfirst + e.ndest ≤ 1024) &&
      (b.destsOf i).all (fun d => decide (1 ≤ d.2.count) && decide (d.2.first + d.2.count ≤ 64) && decide (d.2.kind < 2) &&
        (d.2.kind == 0 || d.2.addr % 4096 == 0)))

/-- The weight epoch of a port's bank (Table 12-7). -/
def State.bankEpoch (s : State) (n b : Nat) : Nat := bitsOf (s.obj .bankEpochs n) (16 * b + 15) (16 * b)

/-- Entry `i` of a port's bank as the walk takes it. -/
def State.planRec (s : State) (n b i : Nat) : PlanRec :=
  let e := (s.bank n b).entry i
  ⟨e.pageId, e.comp, s.bankEpoch n b, (s.bank n b).recordsOf i⟩

/-- Epoch `a` follows epoch `b` (R404). -/
def follows (a b : Nat) : Bool := let d := (a + 65536 - b % 65536) % 65536; decide (1 ≤ d) && decide (d ≤ 32767)

def State.weightPorts (s : State) : List Nat := (List.range 48).filter (fun n => s.obj .portRole n == 1)

/-! ### The walk (R386 to R390) -/

/-- The bank that gives a tile of pass `p`: the standby bank from the pass of a pending swap on (R405). -/
def Mouth.bankFor (m : Mouth) : Nat :=
  match m.swapAt with
  | some p => if m.pass = p ∨ follows m.pass p then 1 - m.active else m.active
  | none => m.active

/-- The walk at the end of its entry's wanted tiles goes to the next entry, or to entry 0 of the next pass. -/
def Mouth.normal (m : Mouth) (s : State) (n : Nat) : Mouth :=
  let b := s.bank n m.bankFor
  if m.index < (b.wanted m.entry).length then m
  else if (b.entry m.entry).passEnd then { m with entry := 0, index := 0, pass := (m.pass + 1) % 65536 }
  else { m with entry := m.entry + 1, index := 0 }

/-- The first consecutive tiles of a list, at most 16. -/
def consecutive : Nat → List Nat → List Nat
  | 0, _ => []
  | _, [] => []
  | fuel + 1, t :: ts =>
    match ts with
    | u :: _ => if u = t + 1 then t :: consecutive fuel ts else [t]
    | [] => [t]

/-- The core and slot of a RECV destination. -/
def Dest.pair (d : Dest) : Option (Nat × Nat) :=
  if d.kind = 0 then (match regionOf d.addr with | .sram k _ => some (k, d.slot) | _ => none) else none

def Mouth.pair (m : Mouth) (k slot : Nat) : Pair := (m.pairs.find? (fun p => p.core == k && p.slot == slot)).getD ⟨k, slot, 0, 0, 0⟩

def Mouth.setPair (m : Mouth) (q : Pair) : Mouth :=
  { m with pairs := (m.pairs.filter (fun p => !(p.core == q.core && p.slot == q.slot))) ++ [q] }

/-- One tile takes a credit and the next tile number of each RECV destination that names it; none where a credit is
missing. -/
def Mouth.reserveTile (m : Mouth) (ds : List (Nat × Dest)) (t : Nat) : Option (Mouth × List (Nat × Nat × Nat)) :=
  ds.foldl (fun (acc : Option (Mouth × List (Nat × Nat × Nat))) d =>
    match acc with
    | none => none
    | some (m, l) =>
      if d.2.names t = false then some (m, l)
      else match d.2.pair with
        | none => some (m, l)
        | some (k, sl) =>
          let p := m.pair k sl
          if p.credits = 0 then none
          else some (m.setPair { p with credits := p.credits - 1, next := p.next + 1 }, l ++ [(d.1, p.gen, p.next)])) (some (m, []))

/-- A run reserved tile by tile: the walk moves past it. -/
def Mouth.reserve (m : Mouth) (bank : Nat) (r : PlanRec) : List Nat → Option (Mouth × List Nat)
  | [] => some (m, [])
  | t :: ts =>
    match m.reserveTile r.ds t with
    | none => none
    | some (q, l) =>
      let g : Granted := ⟨m.pseq, bank, m.entry, r, m.pass, t, l, none, false⟩
      match ({ q with pseq := (m.pseq + 1) % 2 ^ 32, index := m.index + 1, granted := (m.granted + 1) % 2 ^ 32,
                      grants := q.grants ++ [g] } : Mouth).reserve bank r ts with
      | none => none
      | some (x, ps) => some (x, m.pseq :: ps)

/-- The next run of the walk with its space reserved, if every credit is there: the mouthpiece and the run's stream
positions. A port that takes its first tile from the standby bank makes it the active one (R405). -/
def State.reserveRun (s : State) (n : Nat) : Option (Mouth × List Nat) :=
  let m := (s.mouth n).normal s n
  let bank := m.bankFor
  let b := s.bank n bank
  let m := if bank = m.active then m else { m with active := bank, swapAt := none }
  m.reserve bank (s.planRec n bank m.entry) (consecutive 16 ((b.wanted m.entry).drop m.index))

def Mouth.want (m : Mouth) (p : Nat) : Option Granted := m.grants.find? (fun g => g.pseq == p)

/-- A page header's four words (Table 12-2). -/
def pageHeader (id wepoch pepoch tile count fmt ctab planix pass clen err pseq granted : Nat) : List Word :=
  [BitVec.ofNat 64 id,
   BitVec.ofNat 64 (wepoch % 65536 * 2 ^ 48 + pepoch % 65536 * 2 ^ 32 + tile % 64 * 2 ^ 26 + count % 128 * 2 ^ 19 +
     fmt % 16 * 2 ^ 15 + ctab % 256 * 2 ^ 7),
   BitVec.ofNat 64 (planix % 4096 * 2 ^ 52 + pass % 65536 * 2 ^ 36 + clen % 8192 * 2 ^ 20 + err % 16 * 2 ^ 16),
   BitVec.ofNat 64 (pseq % 2 ^ 32 * 2 ^ 32 + granted % 2 ^ 32)]

/-- A page-protocol packet of a Weight port: to its peer, by that port alone (R381). -/
def State.pagePacket (s : State) (n vc opc : Nat) (hdr : List Word) (content : List (BitVec 8)) (psn : Nat) : Packet :=
  let peer := (s.port n).peerPlace
  { Packet.zero with
    vc := vc, opc := opc, dplace := if peer = 0xFFFFFF then s.place else peer, splace := s.place, rport := n,
    pidx := s.groupIndex n, sendt := s.gtc, sdie := 48, hdr := hdr, len := content.length, content := content, psn := psn }

/-- A page-protocol packet that takes a tag of the port; none when no tag is free or the port is not Up. -/
def State.sendPage (s : State) (n : Nat) (ref : TagRef) (p : Packet) : Option State :=
  let q := s.port n
  match (if q.st = 2 then q.freeTag else none) with
  | none => none
  | some t =>
    some ((s.updPort n (fun r => r.takeTag t ref p.sendt)).enqueueTx n p.vc { p with tag := t })

/-- A PGREQ for the tiles at given stream positions, consecutive tiles of one entry; `second` marks them asked for again. -/
def State.askRun (s : State) (n : Nat) (ps : List Nat) (second : Bool) : Option State :=
  let m := s.mouth n
  match ps.head?.bind m.want with
  | none => none
  | some g =>
    let e := g.plan
    let gap := s.obj .ingressMode n == 1
    let hdr := pageHeader e.pageId e.wepoch (s.obj .pepoch) g.tile ps.length 0 0 g.planix g.pass 0 0
      (if gap then g.pseq else 0) 0
    -- COMP of the entry tells the server that it may compress; it travels in bit 0 of word 2 (log 29)
    let hdr := hdr.set 2 (BitVec.ofNat 64 ((hdr.getD 2 0).toNat + b2n e.comp))
    match s.sendPage n (.run m.nextRun) (s.pagePacket n 5 0x10 hdr [] 0) with
    | none => none
    | some t =>
      some (t.updMouth n (fun q => { q with
        nextRun := q.nextRun + 1
        runs := q.runs ++ [⟨q.nextRun, ps⟩]
        grants := q.grants.map (fun (x : Granted) => if ps.contains x.pseq then
          { x with firstAsk := some (x.firstAsk.getD s.gtc), second := x.second || second } else x) }))

/-- A walk that may go on: running, no epoch advance, its port Up. -/
def State.walks (s : State) (n : Nat) : Bool :=
  let m := s.mouth n
  m.running && !m.stalled && (s.port n).st == 2 && s.obj .portRole n == 1

/-- When every Weight port has taken up its standby bank, the swap is complete (R405). -/
def State.swapDone (s : State) : State :=
  if s.obj .swapState / 2 ^ 30 = 1 ∧ s.weightPorts.all (fun n => (s.mouth n).swapAt.isNone) = true then
    let p := s.obj .swapState % 65536
    let w := (s.obj .wepoch + 1) % 65536
    ((s.setObj .swapState (2 * 2 ^ 30 + p)).setObj .wepoch w).raiseAct 0x0601 0 w (BitVec.ofNat 64 p)
  else s

/-- PGREQ_ISSUE: in fetch mode the next run is asked for, once its credits, a place among MP_REQS and a tag are there. -/
def execPgreqIssue (port : Fin 48) (s : State) : Out :=
  let n := port.val
  if s.holding then .next s else
  if s.walks n && s.obj .ingressMode n == 0 && decide ((s.mouth n).runs.length < s.obj .mpReqs) then
    match s.reserveRun n with
    | none => .next s
    | some (m, ps) =>
      match (s.setMouth n m).askRun n ps false with
      | none => .next s
      | some t => .next t.swapDone
  else .next s

/-- Every run that can be reserved is, in push mode (R390). -/
def reserveAll : Nat → Nat → State → State
  | 0, _, s => s
  | fuel + 1, n, s =>
    match s.reserveRun n with
    | none => s
    | some (m, ps) => if ps.isEmpty then s else reserveAll fuel n (s.setMouth n m)

/-- PGRANT_SEND: GRANTED has grown and 1 us has passed since the last PGRANT, or 100 us have. -/
def execPgrantSend (port : Fin 48) (s : State) : Out :=
  let n := port.val
  if s.holding then .next s else
  if s.walks n && s.obj .ingressMode n == 1 then
    let t := (reserveAll 4096 n s).swapDone
    let m := t.mouth n
    let age := s.gtc - m.lastGrant
    if (m.granted ≠ m.grantedSent ∧ 1000 ≤ age) ∨ 100000 ≤ age then
      let p := t.pagePacket n 5 0x14 (pageHeader 0 0 (t.obj .pepoch) 0 0 0 0 0 0 0 0 0 m.granted) [] 0
      .next ((t.enqueueTx n 5 p).updMouth n (fun q => { q with grantedSent := q.granted, lastGrant := t.gtc }))
    else .next t
  else .next s

/-! ### Decompression (R394 to R396) -/

def fourBit (fmt : Nat) : Bool := fmt == 0x9 || fmt == 0xC
def eightBit (fmt : Nat) : Bool := (decide (3 ≤ fmt) && decide (fmt ≤ 6)) || fmt == 0xA || fmt == 0xB

/-- A table is valid: lengths 0 to 12, the sum of 2^-length is 1, two symbols at least (R395). -/
def lensValid (l : List Nat) : Bool :=
  l.all (fun n => decide (n ≤ 12)) && ((l.map (fun n => if n = 0 then 0 else 2 ^ (12 - n))).sum == 4096) &&
    decide (2 ≤ (l.filter (fun n => n != 0)).length)

/-- Canonical codes: (length, code, symbol), by length, then symbol (R395). -/
def codesOf (lens : List Nat) : List (Nat × Nat × Nat) :=
  let order := (List.range 13).flatMap (fun n => if n = 0 then [] else
    (lens.zipIdx.filter (fun (p : Nat × Nat) => p.1 == n)).map (fun (p : Nat × Nat) => (n, p.2)))
  (order.foldl (fun (acc : List (Nat × Nat × Nat)) p =>
    let code := match acc with
      | [] => 0
      | (n, c, _) :: _ => (c + 1) * 2 ^ (p.1 - n)
    (p.1, code, p.2) :: acc) []).reverse

/-- The bits of a segment, from bit 7 of its first byte downward. -/
def segBits (bs : List (BitVec 8)) : List Bool := bs.flatMap (fun b => tabulate 8 (fun i => b.getLsbD (7 - i)))

/-- Symbols decoded one after another: `n` symbols, then fewer than 8 zero bits. -/
def decodeBits (codes : List (Nat × Nat × Nat)) : List Bool → Nat → Nat → Nat → List Nat → Option (List Nat)
  | [], n, len, _, acc => if n = 0 ∧ len = 0 then some acc.reverse else none
  | b :: bs, n, len, code, acc =>
    if n = 0 then (if (b :: bs).length < 8 ∧ (b :: bs).all (fun x => !x) = true then some acc.reverse else none)
    else
      let c := code * 2 + b2n b
      match codes.find? (fun e => e.1 == len + 1 && e.2.1 == c) with
      | some e => decodeBits codes bs (n - 1) 0 0 (e.2.2 :: acc)
      | none => if 12 ≤ len + 1 then none else decodeBits codes bs n (len + 1) c acc

/-- One segment as its 256 raw bytes. -/
def decodeSegment (t : CodeTable) (bs : List (BitVec 8)) : Option (List (BitVec 8)) :=
  (decodeBits (codesOf t.lens) (segBits bs) (if t.four then 512 else 256) 0 0 []).map (fun l =>
    leBytes 256 (packFields (if t.four then 4 else 8) l))

/-- A compressed payload: 16 lengths, then 16 segments (R394). -/
def decodePayload (t : CodeTable) (bs : List (BitVec 8)) : Option (List (BitVec 8)) :=
  let lens := tabulate 16 (fun i => natAt bs (2 * i) 2)
  if bs.length ≠ 32 + lens.sum then none
  else
    (List.range 16).foldl (fun (acc : Option (List (BitVec 8))) i =>
      match acc with
      | none => none
      | some out =>
        (decodeSegment t ((bs.drop (32 + (lens.take i).sum)).take (lens.getD i 0))).map (fun x => out ++ x)) (some [])

def Mouth.table (m : Mouth) (t : Nat) : CodeTable := aget ⟨false, false, []⟩ m.tables t

/-! ### Landing (R389, R391 to R393, R397, R400) -/

def allPoison (loc : Word) : TileData :=
  ⟨List.replicate 4096 0, List.replicate 128 0, tabulate 64 (fun g => (g, loc)), [(0, loc), (1, loc)]⟩

/-- A tile is done once none of its copies is left (R400): runs it was the last of are complete and free their tags. -/
def State.tileDone (s : State) (n pseq : Nat) : State :=
  let m := s.mouth n
  if m.copies.any (fun c => c.pseq == pseq) then s
  else
    let runs := m.runs.map (fun (r : Run) => { r with tiles := r.tiles.filter (fun p => p != pseq) })
    let done := (runs.filter (fun r => r.tiles.isEmpty)).map (fun r => r.num)
    (s.setMouth n { m with runs := runs.filter (fun r => !r.tiles.isEmpty) }).updPort n (fun p =>
      (p.tags.filter (fun t => match t.ref with | .run r => done.contains r | _ => false)).foldl (fun q t => q.dropTag t.num) p)

/-- Where a destination of a plan lies (Table 12-3, R37, R38): any address of a core's local SRAM names a ring (kind 0); a tile
fits in a stacked tier, a local SRAM or the host aperture (kind 1). -/
def State.copyRegion (s : State) (kind addr : Nat) : Option Region :=
  let r := s.region addr
  let ok := match r with
    | .sram _ _ => kind == 0 || r.fits 4096
    | .stack _ _ => kind != 0 && r.fits 4096
    | .aperture _ => kind != 0 && r.fits 4096
    | _ => false
  if ok then some r else none

/-- A copy leaves the port as a mouthpiece write in W2D, through the attachment of its destination's region (R401); one without a
destination needs no leg. -/
def State.sendCopy (s : State) (n : Nat) (c : Copy) : State :=
  let s := s.updMouth n (fun m => { m with copies := m.copies ++ [c] })
  match s.copyRegion c.dkind c.addr with
  | some r =>
    let e := s.endpOf r
    s.emit (c.id * 256) 3 34 (PieceAns.mk true c.payload c.scales c.poison c.scalePoison).bits (attachEndp n e.region) e false
  | none => s

/-- A tile of the plan has landed: one copy leaves for each destination that names it, and its space is no longer wanted. -/
def State.deliverTile (s : State) (n : Nat) (g : Granted) (t : TileData) (failed : Bool) : State :=
  let s := (g.plan.ds.filter (fun d => d.2.names g.tile)).foldl (fun (u : State) d =>
    let f := u.fresh
    let sq := (g.seqs.find? (fun x => x.1 == d.1)).map (fun x => x.2)
    let addr := if d.2.kind = 0 then d.2.addr else (d.2.addr + (g.tile - d.2.first) * 4096) % 2 ^ 40
    f.2.sendCopy n {
      id := f.1, pseq := g.pseq, away := false, dkind := d.2.kind, addr := addr, slot := d.2.slot
      gen := (sq.getD (0, 0)).1, seq := (sq.getD (0, 0)).2, payload := t.payload, scales := t.scales, poison := t.poison
      scalePoison := t.scalePoison, failed := failed }) s
  (s.updMouth n (fun m => { m with grants := m.grants.filter (fun x => x.pseq != g.pseq) })).tileDone n g.pseq

/-- A tile becomes lasting: written as poison with valid = 0, counted, reported (R392). -/
def State.lastingTile (s : State) (n : Nat) (g : Granted) : State :=
  let s := ((s.incObj .mpCounters n 3).countErr (portLoc n) 5 1).deliverTile n g (allPoison 0) true
  s.raiseAct 0x0604 g.tile g.pass (portLoc n)

/-- A tile is asked for once more, or has been already and becomes lasting (R392); during an epoch advance no PGREQ is
issued (R408). -/
def State.askAgain (s : State) (n : Nat) (g : Granted) : State :=
  if g.second then s.lastingTile n g else if s.epochTo.isSome then s else (s.askRun n [g.pseq] true).getD s

/-- A packet of the page protocol with another placement epoch is dropped and counted (R407). -/
def State.epochOk (s : State) (n : Nat) (p : Packet) : Option State :=
  let e := bitsOf (p.word 1) 47 32
  let own := s.obj .pepoch
  if e = own then none
  else some ((s.incObj .mpCounters n (if follows e own then 7 else 6)).rxDrop n p.vc)

/-- The wanted tile that a PGTILE or PGERR tile answers: by its tag in fetch mode, by PSEQ in push mode. -/
def State.wantOf (s : State) (n : Nat) (p : Packet) (tile : Nat) : Option Granted :=
  let m := s.mouth n
  if s.obj .ingressMode n = 1 then m.want (p.word 3 / 2 ^ 32)
  else match (s.port n).tags.find? (fun t => t.num == p.tag && t.sendt == p.sendt) with
    | some ⟨_, .run r, _⟩ =>
      (match m.runs.find? (fun x => x.num == r) with
       | some x => (x.tiles.filterMap m.want).find? (fun g => g.tile == tile)
       | none => none)
    | _ => none

/-- Whether a packet's tag is held. -/
def State.tagHeld (s : State) (n : Nat) (p : Packet) : Bool := (s.port n).tags.any (fun t => t.num == p.tag && t.sendt == p.sendt)

/-- The tile that a PGTILE carries, or a decode error (R383, R394, R397). -/
def State.tileOf (s : State) (n : Nat) (p : Packet) (comp : Bool) : Option TileData :=
  let w1 := p.word 1
  let ctab := bitsOf w1 14 7
  let fmt := bitsOf w1 18 15
  let clen := bitsOf (p.word 2) 32 20
  let pois := p.poisoned
  let scales := p.content.take 128
  let sp := pois.filter (fun g => decide (g.1 < 2))
  if ctab = 0 then
    if p.len = 4224 ∧ clen = 0 then
      some ⟨p.content.drop 128, scales, (pois.filter (fun g => decide (2 ≤ g.1))).map (fun g => (g.1 - 2, g.2)), sp⟩
    else none
  else
    let t := (s.mouth n).table ctab
    if t.valid && comp && (if t.four then fourBit fmt else eightBit fmt) && decide (32 ≤ clen) && decide (clen ≤ 3136) &&
        p.len == 128 + clen then
      -- a poisoned granule of a compressed payload leaves no symbol known: every payload granule is poison (log 30)
      match pois.find? (fun g => decide (2 ≤ g.1)) with
      | some g => some ⟨List.replicate 4096 0, scales, tabulate 64 (fun i => (i, g.2)), sp⟩
      | none => (decodePayload t (p.content.drop 128)).map (fun x => ⟨x, scales, [], sp⟩)
    else none

/-- The missing tiles before position `p` that nothing has asked for, cut into runs, are asked for (R391); during an epoch advance
no PGREQ is issued (R408). -/
def askGaps : Nat → Nat → Nat → State → State
  | 0, _, _, s => s
  | fuel + 1, n, p, s =>
    let miss := ((s.mouth n).grants.takeWhile (fun g => g.pseq != p)).filter (fun g => g.firstAsk.isNone)
    match (if s.epochTo.isSome then [] else miss) with
    | [] => s
    | g :: _ =>
      let same := miss.filter (fun x => x.planix == g.planix && x.pass == g.pass)
      let len := (consecutive 16 (same.map (fun x => x.tile))).length
      match s.askRun n ((same.take len).map (fun x => x.pseq)) false with
      | some t => askGaps fuel n p t
      | none => s

/-- PGTILE_RECEIVE: the oldest PGTILE of a Weight port. -/
def execPgtileReceive (port : Fin 48) (s : State) : Out :=
  let n := port.val
  match s.takePacket n (fun p => p.opc == 0x11) with
  | none => .next s
  | some p =>
    match s.epochOk n p with
    | some t => .next t
    | none =>
      let t := s.rxDrop n p.vc
      let m := s.mouth n
      let push := s.obj .ingressMode n = 1
      let tile := bitsOf (p.word 1) 31 26
      let pseq := p.word 3 / 2 ^ 32
      if push ∧ (m.granted + 2 ^ 32 - pseq - 1) % 2 ^ 32 ≥ 2 ^ 31 then .next (t.countPort n 11)
      else if ¬ push ∧ s.tagHeld n p = false then .next (t.countPort n 12)
      else match s.wantOf n p tile with
        | none => .next (t.incObj .mpCounters n 9)
        | some g =>
          let e := g.plan
          let t := if push then askGaps 4096 n pseq t else t
          if bitsOf (p.word 1) 63 48 ≠ e.wepoch ∨ p.word 0 ≠ e.pageId ∨ tile ≠ g.tile then
            .next ((t.incObj .mpCounters n 5).askAgain n g)
          else
            let t := t.incObj .mpCounters n 0
            let t := if bitsOf (p.word 1) 14 7 = 0 then t else t.incObj .mpCounters n 1
            let t := if g.second then (t.incObj .mpCounters n 2).countErr (portLoc n) 5 0 else t
            match s.tileOf n p e.comp with
            | some d => .next (t.deliverTile n g d false)
            | none =>
              let t := ((t.incObj .mpCounters n 4).countErr (portLoc n) 5 2).deliverTile n g (allPoison (portLoc n)) false
              .next (t.raiseAct 0x0603 n (bitsOf (p.word 1) 14 7) (portLoc n))

/-- The last request that asked for a tile. -/
def Mouth.lastRun (m : Mouth) (pseq : Nat) : Option Nat := ((m.runs.filter (fun r => r.tiles.contains pseq)).getLast?).map (fun r => r.num)

/-- PGERR_RECEIVE: each tile it covers is asked for once more, or, when it answers the second request for it, becomes lasting. -/
def execPgerrReceive (port : Fin 48) (s : State) : Out :=
  let n := port.val
  match s.takePacket n (fun p => p.opc == 0x12) with
  | none => .next s
  | some p =>
    match s.epochOk n p with
    | some t => .next t
    | none =>
      let t := s.rxDrop n p.vc
      if s.tagHeld n p = false then .next (t.countPort n 12)
      else
        let first := bitsOf (p.word 1) 31 26
        let count := bitsOf (p.word 1) 25 19
        let m := s.mouth n
        let gs := match (s.port n).tags.find? (fun t => t.num == p.tag && t.sendt == p.sendt) with
          | some ⟨_, .run r, _⟩ => (match m.runs.find? (fun (x : Run) => x.num == r) with
              | some x => (x.tiles.filterMap m.want).filter (fun (g : Granted) =>
                  decide (first ≤ g.tile) && decide (g.tile < first + count) && (!g.second || m.lastRun g.pseq == some r))
              | none => [])
          | _ => []
        .next (gs.foldl (fun u g => u.askAgain n g) t)

/-- CTAB_RECEIVE: table CTAB of the port is loaded, valid or invalid; an invalid one is counted in DECODE_ERRS, since R396 names no
counter for it (log 29). -/
def execCtabReceive (port : Fin 48) (s : State) : Out :=
  let n := port.val
  match s.takePacket n (fun p => p.opc == 0x13) with
  | none => .next s
  | some p =>
    match s.epochOk n p with
    | some t => .next t
    | none =>
      let ctab := bitsOf (p.word 1) 14 7
      let fmt := bitsOf (p.word 1) 18 15
      let four := fourBit fmt
      let count := if four then 16 else 256
      let lens := tabulate count (fun k => natAt p.content (k / 2) 1 / 2 ^ (4 * (k % 2)) % 16)
      let ok := (four || eightBit fmt) && p.len == count / 2 && lensValid lens && p.psn == 0
      let t := s.rxDrop n p.vc
      if ctab = 0 then .next (t.countPort n 11)
      else
        let t := if ok then t else (t.incObj .mpCounters n 4).countErr (portLoc n) 5 2
        let t := t.updMouth n (fun m => { m with tables := aset ⟨false, false, []⟩ m.tables ctab ⟨ok, four, lens⟩ })
        .next (t.setObj .ctabValid (setBits (t.obj .ctabValid n (ctab / 8)) (ctab % 8) 1 (b2n ok)) n (ctab / 8))

/-- PAGE_RETRY_TIMEOUT: the tile at stream position `pseq` has not landed within PAGE_RETRY of the request for it. -/
def execPageRetryTimeout (port : Fin 48) (pseq : Nat) (s : State) : Out :=
  let n := port.val
  match (s.mouth n).want pseq with
  | none => .next s
  | some g =>
    match g.firstAsk with
    | none => .next s
    | some t =>
      if g.second = false ∧ t + 1000 * s.obj .pageRetry ≤ s.gtc ∧ s.epochTo = none then .next (s.askAgain n g) else .next s

/-- TILE_LASTING_TIMEOUT: it has not landed within TIMEOUT_REMOTE of the first request. -/
def execTileLastingTimeout (port : Fin 48) (pseq : Nat) (s : State) : Out :=
  let n := port.val
  match (s.mouth n).want pseq with
  | none => .next s
  | some g =>
    match g.firstAsk with
    | none => .next s
    | some t => if t + s.tierTimeout 1 ≤ s.gtc then .next (s.lastingTile n g) else .next s

/-- What became of a memory copy: written, handed to a link, or refused and counted. -/
inductive CopyRes where
  | written (s : State)
  | host (s : State)
  | refused (s : State)

/-- A memory copy at its destination (R39, R256, R262, R263): a bad address is counted at the port's die. -/
def State.writeCopy (s : State) (n : Nat) (c : Copy) : CopyRes :=
  match s.copyRegion c.dkind c.addr with
  | none => .refused (s.incObj .addrErrors n)
  | some r =>
    if s.memoryOff r then .refused (s.incObj .tierFails 0 0)
    else match s.poolAccess c.addr 4096 true true with
      | (t, none) => .refused (t.incObj .tierFails 0 0)
      | (t, some a) =>
        match regionOf a with
        | .aperture off =>
          (match t.apTranslate off with
           | none => .refused (t.incObj .addrErrors n)
           | some (l, ha) => if (t.link l).up then .host (t.addApTile c.id l ha off c.payload c.scales) else .refused (t.incObj .tierFails 0 8))
        | _ => .written (t.writeTile a ⟨c.payload, c.scales, c.poison, c.scalePoison⟩)

/-- A copy is acknowledged, or counted in WRITE_ERRS: it is over, and with the last one its tile. -/
def State.copyDone (s : State) (n : Nat) (c : Copy) (ok : Bool) : State :=
  ((s.updMouth n (fun m => { m with copies := m.copies.filter (fun x => x.id != c.id) })).tileDone n c.pseq).addObj .bellCounters
    (b2n (!ok)) n 5

/-- A copy at its destination: written to its ring or to memory, or refused. -/
def State.landCopy (s : State) (n : Nat) (c : Copy) : State :=
  if c.dkind = 0 then
    match s.region c.addr with
    | .sram k _ =>
      if s.regionOff k then s.copyDone n c true
      else (s.landPush k c.slot 0 c.gen c.seq (BitVec.ofNat 64 n) ⟨c.payload, c.scales, c.poison, c.scalePoison⟩ c.failed).1.copyDone n c true
    | _ => (s.incObj .addrErrors n).copyDone n c true
  else match s.writeCopy n c with
    | .written t => t.copyDone n c true
    | .host t => t.updMouth n (fun m => { m with copies := m.copies.map (fun x => if x.id = c.id then { x with away := true } else x) })
    | .refused t => t.copyDone n c false

/-- MOUTHPIECE_COPY_WRITE: copy `id` stands at its destination, is written there, and is acknowledged in W1. -/
def execMouthpieceCopyWrite (port : Fin 48) (id : Nat) (s : State) : Out :=
  let n := port.val
  match (s.mouth n).copies.find? (fun c => c.id == id && !c.away) with
  | none => .next s
  | some c =>
    match s.copyRegion c.dkind c.addr with
    | none => .next (s.landCopy n c)
    | some r =>
      match s.legFor (id * 256) 1 with
      | none => .next s
      | some leg =>
        if s.waitsAt r then .next (s.wakeFor r leg.ref)
        else .next (((s.consume leg.ref).landCopy n c).post 1 1 leg.dst leg.src)

/-! ### Commands (R386, R405, R408) -/

/-- PLAN_START: refused when some Weight port's bank 0 is invalid. -/
def execPlanStart (s : State) : Out :=
  let ps := s.weightPorts
  if ps.all (fun n => (s.bank n 0).valid) then
    let t := ps.foldl (fun (u : State) n => u.updMouth n (fun m => { m with
      running := true, active := 0, entry := 0, index := 0, pass := 0, pseq := 0, granted := 0, grantedSent := 0
      lastGrant := s.gtc, runs := [], grants := [], swapAt := none })) s
    let t := if t.obj .swapState / 2 ^ 30 = 1 then t.setObj .swapState 0 else t
    .next (match ps.head? with | some n => t.setObj .wepoch (s.bankEpoch n 0) | none => t)
  else .next s

/-- PLAN_STOP. -/
def execPlanStop (s : State) : Out := .next s.stopWalks

/-- A walk has taken a tile of pass `p` or of a later one. -/
def Mouth.reached (m : Mouth) (p : Nat) : Bool := follows m.pass p || (m.pass == p && (m.entry != 0 || m.index != 0))

/-- SWAP_CMD is accepted for pass `v` (R405). -/
def State.swapOk (s : State) (v : Nat) : Bool :=
  let ok (n : Nat) : Bool :=
    let m := s.mouth n
    let b := 1 - m.active
    (s.bank n b).valid && s.bankEpoch n b == (s.obj .wepoch + 1) % 65536 && !(m.normal s n).reached v
  s.obj .swapState / 2 ^ 30 != 1 && s.weightPorts.all ok

/-- SWAP_CMD. -/
def execSwapCmd (p : BitVec 16) (s : State) : Out :=
  let v := p.toNat
  if s.swapOk v then
    let t := s.weightPorts.foldl (fun (u : State) n => u.updMouth n (fun m => { m with swapAt := some v })) s
    .next (t.setObj .swapState (2 ^ 30 + v))
  else .next s

/-- EPOCH_CMD is accepted: the epoch follows, no swap is pending and no advance in progress. -/
def State.epochCmdOk (s : State) (e : Nat) : Bool :=
  follows e (s.obj .pepoch) && s.obj .swapState / 2 ^ 30 != 1 && s.epochTo.isNone

/-- EPOCH_CMD. -/
def execEpochCmd (e : BitVec 16) (s : State) : Out :=
  if s.epochCmdOk e.toNat then
    let t := (List.range 48).foldl (fun (u : State) n => u.updMouth n (fun m => { m with stalled := true })) s
    .next { t with epochTo := some e.toNat }
  else .next s

/-- Requests that an advance waits for: tiles asked for and gradient pages without an outcome. -/
def State.epochBusy (s : State) : Bool :=
  s.mouths.any (fun m => m.2.grants.any (fun g => g.firstAsk.isSome)) ||
    s.bells.any (fun b => b.2.gOpen.any (fun e => e.status.isNone))

/-- EPOCH_ADVANCE_COMPLETE: nothing is outstanding; PEPOCH is set, and walks and bells go on where they stopped. -/
def execEpochAdvanceComplete (s : State) : Out :=
  match s.epochTo with
  | none => .next s
  | some e =>
    if s.epochBusy then .next s
    else
      let t := (List.range 48).foldl (fun (u : State) n => u.updMouth n (fun m => { m with stalled := false })) s
      .next ((({ t with epochTo := none }.setObj .pepoch e).raiseAct 0x0602 0 e 0).endAct .epochCmd 0 0)

end Sys2Proof.Machine
end

