-- ==== Sys2Proof/Machine/Bells.lean ====
section
/-! DEFINITION. Chapter 12, egress, and chapter 13: the bells' two queues, gradient pages and collective chunks (R409 to
R413, R423 to R436). -/

namespace Sys2Proof.Machine

/-! ### Queues in memory -/

/-- What a bell finds at an address: nothing it may reach or that answers; memory here; or a page that has moved to host memory, on a
link, at a host address and its aperture offset. -/
inductive BellAt where
  | no
  | here (s : State) (a : Nat)
  | host (s : State) (l ha off : Nat)

/-- Where a bell may read or write `n` bytes: a stacked tier or a local SRAM, through the pool. -/
def State.bellAt (s : State) (mla n : Nat) (write : Bool) : BellAt :=
  let r := s.region mla
  let ok := match r with | .stack _ _ => true | .sram _ _ => true | _ => false
  if !ok || !r.fits n || s.memoryOff r then .no
  else match s.poolAccess mla n write true with
    | (_, none) => .no
    | (t, some a) =>
      match regionOf a with
      | .aperture off =>
        (match t.apTranslate off with
         | some (l, ha) => if (t.link l).up then .host t l ha off else .no
         | none => .no)
      | _ => .here t a

/-- An access of a bell that finds nothing is counted at its die: an address error (R39), or a failed access to its tier (R256, R262). -/
def State.bellFail (s : State) (die mla n : Nat) (write : Bool) : State :=
  match s.bellAt mla n write with
  | .no =>
    let r := s.region mla
    let ok := match r with | .stack _ _ => true | .sram _ _ => true | _ => false
    if !ok || !r.fits n then s.incObj .addrErrors die
    else if s.memoryOff r then s.incObj .tierFails 0 0
    else match s.poolAccess mla n write true with
      | (t, none) => t.incObj .tierFails 0 0
      | (t, some _) => t.incObj .tierFails 0 8
  | _ => s

/-- `n` bytes that host memory holds: nothing in the module fixes them, so they are free values (log 81). -/
def State.freeBytes (s : State) (n : Nat) : State × List (BitVec 8) :=
  let k := (n + 3) / 4
  ({ s with draws := s.draws + k }, ((List.range k).flatMap (fun i => leBytes 4 (Config.freeLane (s.draws + i)).toNat)).take n)

/-- Bytes a bell reads, none where it cannot, while the address waits (R49, R268), or where they are poisoned. -/
def State.bellRead (s : State) (mla n : Nat) : Option (State × List (BitVec 8)) :=
  if s.fillWaits (s.region mla) then none
  else match s.bellAt mla n false with
    | .no => none
    | .host t _ _ _ => some (t.freeBytes n)
    | .here t a =>
      let r := t.readMem a n
      if r.2.2.isSome then none else some (r.1, r.2.1)

def State.bellWrite (s : State) (die mla : Nat) (bs : List (BitVec 8)) : State :=
  match s.bellAt mla bs.length true with
  | .no => s.bellFail die mla bs.length true
  | .here t a => t.writeMem a bs
  | .host t l ha _ => let f := t.fresh; f.2.addApWrite f.1 l ha bs

/-- A tile with its sidecar as the bell of port `n` reads it over the wafer; poison with valid = 0 where it cannot. -/
def State.bellTile (s : State) (n mla : Nat) (sidecar : Bool) : State × TileData :=
  match s.bellAt mla 4096 false with
  | .no => (s.bellFail n mla 4096 false, allPoison 0)
  | .here t a =>
    let e := t.endpOf (t.region mla)
    let src := attachEndp n e.region
    let u := (t.post 2 1 src e).post 3 34 e src
    if sidecar then u.readTile a 4096 else u.readPayload a 4096
  | .host t _ _ _ =>
    let r := t.freeBytes 4224
    (r.1, ⟨r.2.take 4096, r.2.drop 4096, [], []⟩)

/-- The valve of a core opens on completion (R413, R431). The spec does not say what the signaller's record then names: a
free value (log 28). -/
def State.doneSignal (s : State) (addr valve : Nat) : State :=
  match s.region (addr % 2 ^ 40) with
  | .sram k _ =>
    if 48 ≤ valve ∨ s.regionOff k then s
    else
      let d := s.draw
      let t := { d.2 with draws := d.2.draws + 1 }
      t.signalCore k valve ((Config.freeLane d.1).append (Config.freeLane (d.1 + 1))) s.gtc
  | _ => s

/-- The status of entry `idx` of a queue at `base` with `size` entries is written, in byte `at_` of the entry. -/
def State.writeStatus (s : State) (die base size idx at_ status : Nat) : State :=
  s.bellWrite die (base + 64 + idx % size * 64 + at_) (leBytes 1 status)

/-- Entries from CI on that have their status: how far CI advances. -/
def ciPast : Nat → Nat → List BellEntry → Nat
  | 0, ci, _ => ci
  | fuel + 1, ci, l => if l.any (fun e => e.idx == ci && e.status.isSome) then ciPast fuel (ci + 1) l else ci

def setStatus (l : List BellEntry) (idx st : Nat) : List BellEntry :=
  l.map (fun (e : BellEntry) => if e.idx = idx then { e with status := some st } else e)

def wordsOf (bs : List (BitVec 8)) : List Nat := tabulate (bs.length / 8) (fun i => natAt bs (8 * i) 8)

/-- A valve number that may stand in an entry. -/
def valveOk (v : Nat) : Bool := decide (v < 48) || v == 63

/-! ### Gradient egress (R409 to R413) -/

/-- An egress entry ends (R413): STATUS, then the valve, then CI. -/
def State.endPage (s : State) (n idx status : Nat) (w : List Nat) : State :=
  let base := s.obj .eqBase n
  let size := s.obj .eqSize n
  let s := (s.writeStatus n base size idx 47 status).doneSignal (w.getD 3 0) (w.getD 4 0 % 64)
  let b := s.bell n
  let l := setStatus b.gOpen idx status
  let ci := ciPast (l.length + 1) b.gCi l
  let s := s.setBell n { b with gCi := ci, gOpen := l.filter (fun e => decide (ci ≤ e.idx)) }
  if ci = b.gCi then s else s.bellWrite n (base + 8) (leBytes 8 ci)

/-- An entry is in order (Table 12-6, 0x05). -/
def egressOk (s : State) (w : List Nat) : Bool :=
  let x (i : Nat) : Nat := w.getD i 0
  let src := x 1 % 2 ^ 40
  let tiles := bitsOf (x 1) 47 41
  !(x 1).testBit 40 && x 2 % 2 ^ 60 == 0 && decide (1 ≤ tiles ∧ tiles ≤ 64) && src % 4096 == 0 && x 2 / 2 ^ 60 != 15 &&
  x 4 / 64 == 0 && valveOk (x 4 % 64) && x 5 % 2 ^ 56 == 0 && x 6 == 0 && x 7 == 0 &&
  (match s.region src with
   | .stack _ o => decide (o + tiles * 4096 ≤ 0xC0000000)
   | .sram _ o => decide (o + tiles * 4096 ≤ 2 ^ 22)
   | _ => false)

/-- The GPAGE packets of an entry, all with one tag: the state, and whether a tile was poisoned. -/
def State.sendPages (s : State) (n tag : Nat) (w : List Nat) : State × Bool :=
  let tiles := bitsOf (w.getD 1 0) 47 41
  (List.range tiles).foldl (fun (acc : State × Bool) i =>
    let r := acc.1.bellTile n (w.getD 1 0 % 2 ^ 40 + i * 4096) true
    let t := r.2
    let c : PieceAns := ⟨true, t.scales, t.payload, t.scalePoison, t.poison⟩
    let hdr := pageHeader (w.getD 0 0) (bitsOf (w.getD 1 0) 63 48) (s.obj .pepoch) i tiles (w.getD 2 0 / 2 ^ 60) 0 0 0 0 0 0 0
    let p := { r.1.pagePacket n 1 0x15 hdr c.content c.psn with tag := tag }
    (r.1.enqueueTx n 1 p, acc.2 || !t.poison.isEmpty || !t.scalePoison.isEmpty)) (s, false)

/-- An entry is sent under a new tag; none when no tag is free. -/
def State.sendGradient (s : State) (n idx : Nat) (w : List Nat) : Option (State × Bool) :=
  match (s.port n).freeTag with
  | none => none
  | some t => some ((s.updPort n (fun q => q.takeTag t (.gpage idx) s.gtc)).sendPages n t w)

/-- One entry taken; none when the bell has to wait. -/
def State.takeEgress (s : State) (n : Nat) : Option State :=
  let b := s.bell n
  let open_ := (b.gOpen.filter (fun e => e.status.isNone)).length
  if b.gPi ≤ b.gTaken ∨ b.gCi + s.obj .eqSize n ≤ b.gTaken ∨ s.obj .bellPages ≤ open_ then none
  else
    let idx := b.gTaken
    match s.bellRead (s.obj .eqBase n + 64 + idx % s.obj .eqSize n * 64) 64 with
    | none => none
    | some (t, bs) =>
      let w := wordsOf bs
      let note (u : State) (p : Bool) : State := u.updBell n (fun x => { x with
        gTaken := idx + 1, gOpen := x.gOpen ++ [⟨idx, w, s.gtc, p, false, none⟩] })
      if egressOk t w = false then some ((note t false).endPage n idx 5 w)
      else if (t.port n).st ≠ 2 then some ((note t false).endPage n idx 6 w)
      else match t.sendGradient n idx w with
        | none => none
        | some (u, p) => some (note (if p then u.incObj .bellCounters n 4 else u) p)

/-- The next entry of a queue cannot be read: counted, unless there is none or the bell has to wait. -/
def State.entryFail (s : State) (n pi ci taken base size : Nat) : State :=
  let a := base + 64 + taken % size * 64
  if pi ≤ taken ∨ ci + size ≤ taken ∨ s.fillWaits (s.region a) = true then s else s.bellFail n a 64 false

def takeEgresses : Nat → Nat → State → State
  | 0, _, s => s
  | fuel + 1, n, s =>
    match s.takeEgress n with
    | some t => takeEgresses fuel n t
    | none => let b := s.bell n; s.entryFail n b.gPi b.gCi b.gTaken (s.obj .eqBase n) (s.obj .eqSize n)

/-- EGRESS_POLL: the bell reads PI and takes entries in order. -/
def execEgressPoll (port : Fin 48) (s : State) : Out :=
  let n := port.val
  if s.holding = true ∨ s.obj .portRole n ≠ 1 ∨ s.obj .eqBase n = 0 ∨ (s.bell n).stopped = true ∨ s.epochTo.isSome = true then .next s
  else match s.bellRead (s.obj .eqBase n) 8 with
    | none => .next (if s.fillWaits (s.region (s.obj .eqBase n)) then s else s.bellFail n (s.obj .eqBase n) 8 false)
    | some (t, bs) => .next (takeEgresses 64 n (t.updBell n (fun b => { b with gPi := leNat bs })))

/-- The words of entry `idx` as the bell took it. -/
def entryWords (l : List BellEntry) (idx : Nat) : List Nat :=
  match l.find? (fun e => e.idx == idx) with
  | some e => e.words
  | none => []

/-- A page ends with an outcome, counted; the refused and the unacknowledged raise gradient-lasting. -/
def State.finishPage (s : State) (n idx status : Nat) : State :=
  let s := s.endPage n idx status (entryWords (s.bell n).gOpen idx)
  if status = 3 ∨ status = 4 then s.raiseAct 0x0605 status 0 (portLoc n) else s

/-- GACK_RECEIVE: a page is acknowledged or refused; a late GACK is dropped and counted. -/
def execGackReceive (port : Fin 48) (s : State) : Out :=
  let n := port.val
  match s.takePacket n (fun p => p.opc == 0x16) with
  | none => .next s
  | some p =>
    match s.epochOk n p with
    | some t => .next t
    | none =>
      let t := s.rxDrop n p.vc
      match (s.port n).tags.find? (fun g => g.num == p.tag && g.sendt == p.sendt) with
      | some ⟨num, .gpage idx, _⟩ =>
        let t := t.updPort n (fun q => q.dropTag num)
        (match (t.bell n).gOpen.find? (fun e => e.idx == idx && e.status.isNone) with
         | none => .next t
         | some e =>
           if p.status ≠ 0 then .next ((t.incObj .bellCounters n 3).finishPage n idx 3)
           else
             let t := t.incObj .bellCounters n 0
             let t := if e.resent then (t.incObj .bellCounters n 1).countErr (portLoc n) 6 0 else t
             .next (t.finishPage n idx (if e.poisoned then 2 else 1)))
      | _ => .next (t.countPort n 12)

/-- GRADIENT_RETRY_TIMEOUT: without a GACK, the page is sent once more after PAGE_RETRY, and is lasting TIMEOUT_REMOTE
after its first send. -/
def execGradientRetryTimeout (port : Fin 48) (idx : Nat) (s : State) : Out :=
  let n := port.val
  match (s.bell n).gOpen.find? (fun e => e.idx == idx && e.status.isNone) with
  | none => .next s
  | some e =>
    if e.sendt + s.tierTimeout 1 ≤ s.gtc then
      .next (((s.incObj .bellCounters n 2).countErr (portLoc n) 6 1).finishPage n idx 4)
    else if e.resent = false ∧ e.sendt + 1000 * s.obj .pageRetry ≤ s.gtc then
      match s.sendGradient n idx e.words with
      | none => .next s
      | some (t, bad) => .next ((if bad && !e.poisoned then t.incObj .bellCounters n 4 else t).updBell n (fun b => { b with
          gOpen := b.gOpen.map (fun (x : BellEntry) =>
            if x.idx = idx then { x with resent := true, poisoned := x.poisoned || bad } else x) }))
    else .next s

/-! ### Chunks: the check value (R426) -/

/-- CCV of 960 words. -/
def chunkCheck (ws : List Nat) : Nat :=
  let sum32 (l : List Nat) : Nat := l.sum % 2 ^ 32
  let col (i : Nat) : List Nat := tabulate 15 (fun r => ws.getD (64 * r + i) 0)
  let sv (i : Nat) : Nat := sum32 (col i)
  let tv (i : Nat) : Nat := sum32 ((col i).zipIdx.map (fun (p : Nat × Nat) => (15 - p.2) * p.1))
  let a := sum32 (tabulate 64 sv)
  let b := sum32 (tabulate 64 (fun i => tv i * 2 ^ (i % 8)))
  b * 2 ^ 32 + a

/-! ### Sending (R427 to R433) -/

/-- A chunk entry ends (R431). -/
def State.endChunk (s : State) (n idx status : Nat) (w : List Nat) : State :=
  let base := s.obj .cqBase n
  let size := s.obj .cqSize n
  let s := (s.writeStatus n base size idx 55 status).doneSignal (w.getD 5 0 % 2 ^ 40) (bitsOf (w.getD 5 0) 45 40)
  let b := s.bell n
  let l := setStatus b.cOpen idx status
  let ci := ciPast (l.length + 1) b.cCi l
  let s := s.setBell n { b with cCi := ci, cOpen := l.filter (fun e => decide (ci ≤ e.idx)) }
  if ci = b.cCi then s else s.bellWrite n (base + 8) (leBytes 8 ci)

/-- An entry is in order (Table 13-6, 0x05). -/
def chunkOk (s : State) (w : List Nat) : Bool :=
  let x (i : Nat) : Nat := w.getD i 0
  let src := x 2 % 2 ^ 40
  let stage := bitsOf (x 2) 59 57
  x 1 / 2 ^ 46 == 0 && bitsOf (x 2) 54 40 == 0 && x 4 / 2 ^ 32 == 0 && x 7 / 2 ^ 40 == 0 && x 7 % 4 == 0 &&
  decide (x 2 / 2 ^ 60 < 2) && decide (1 ≤ stage ∧ stage ≤ 5) && src % 4096 == 0 &&
  valveOk (bitsOf (x 1) 45 40) && valveOk (bitsOf (x 5) 45 40) &&
  (match s.region src with | .stack _ _ => true | .sram _ _ => true | _ => false)

/-- The role whose ports R370 chooses for VC1 toward a place, and the VC code there (R371, R428). -/
def State.chunkRoute (s : State) (place : Nat) : Option (Nat × Nat) :=
  if s.isHere place then none
  else match s.axisTo place with
    | none => none
    | some (axis, n, a, b) =>
      let plus := goesPlus true n a b
      let crosses := if plus then a + 1 == n else a == 0
      some (2 + 2 * axis + (if plus then 0 else 1), if crosses then 2 else 1)

/-- The CHUNK packet of an entry (Table 13-5): its content from the words at SRC. -/
def State.chunkPacket (s : State) (n vc tag : Nat) (w : List Nat) : State × Packet × Bool :=
  let x (i : Nat) : Nat := w.getD i 0
  let r := s.bellTile n (x 2 % 2 ^ 40) false
  let ws := tabulate 960 (fun i => natAt r.2.payload (4 * i) 4)
  let exp := x 2 / 2 ^ 60 == 1
  let bad := r.2.poison.any (fun g => decide (g.1 < 60))
  let content := ws.flatMap (fun v => leBytes (if exp then 1 else 3) v)
  let hdr : List Word := [BitVec.ofNat 64 (chunkCheck ws),
    BitVec.ofNat 64 (s.obj .pepoch * 2 ^ 48 + bitsOf (x 3) 31 16 * 2 ^ 32 + x 3 / 2 ^ 32),
    BitVec.ofNat 64 (bitsOf (x 2) 63 55 * 2 ^ 55 + x 3 % 2 ^ 16 * 2 ^ 32 + x 4 % 2 ^ 32), BitVec.ofNat 64 (x 1 % 2 ^ 40)]
  let sg := x 7
  (r.1, { Packet.zero with
    vc := vc, opc := 0x18, dplace := x 0 / 2 ^ 40, splace := s.place, pidx := s.groupIndex n, tag := tag, rport := n,
    addr := x 0 % 2 ^ 40, len := content.length, sdie := bitsOf sg 39 34, slcore := bitsOf sg 33 26, sctx := bitsOf sg 25 25,
    spc := bitsOf sg 20 2, valve := bitsOf (x 1) 45 40, sendt := s.gtc, hdr := hdr, content := content,
    psn := if bad then 2 ^ (if exp then 16 else 48) - 1 else 0 }, bad)

/-- One chunk entry taken; none when the bell has to wait. -/
def State.takeChunk (s : State) (n : Nat) : Option State :=
  let b := s.bell n
  let open_ := (b.cOpen.filter (fun e => e.status.isNone)).length
  if b.cPi ≤ b.cTaken ∨ b.cCi + s.obj .cqSize n ≤ b.cTaken ∨ s.obj .bellChunks ≤ open_ then none
  else
    let idx := b.cTaken
    match s.bellRead (s.obj .cqBase n + 64 + idx % s.obj .cqSize n * 64) 64 with
    | none => none
    | some (t, bs) =>
      let w := wordsOf bs
      let note (u : State) (p : Bool) : State := (u.incObj .chunkTx n 0).updBell n (fun x => { x with
        cTaken := idx + 1, cOpen := x.cOpen ++ [⟨idx, w, s.gtc, p, false, none⟩] })
      let refuse (u : State) (st : Nat) : State := ((note u false).incObj .chunkTx n 5).endChunk n idx st w
      if chunkOk t w = false then some (refuse t 5)
      else match t.chunkRoute (w.getD 0 0 / 2 ^ 40) with
        | none => some (refuse t 8)
        | some (role, vc) =>
          if role ≠ t.obj .portRole n then some (refuse t 8)
          else if (t.port n).st ≠ 2 then some ((note t false).endChunk n idx 6 w)
          else match (t.port n).freeTag with
            | none => none
            | some g =>
              let r := t.chunkPacket n vc g w
              let u := (r.1.updPort n (fun q => q.takeTag g (.chunk idx) s.gtc)).enqueueTx n vc r.2.1
              some (note (if r.2.2 then u.incObj .chunkTx n 2 else u) r.2.2)

def takeChunks : Nat → Nat → State → State
  | 0, _, s => s
  | fuel + 1, n, s =>
    match s.takeChunk n with
    | some t => takeChunks fuel n t
    | none => let b := s.bell n; s.entryFail n b.cPi b.cCi b.cTaken (s.obj .cqBase n) (s.obj .cqSize n)

/-- CQ_STATE: the PI last read and CI. -/
def State.showQueue (s : State) (n : Nat) : State :=
  s.setObj .cqState ((s.bell n).cPi % 2 ^ 32 * 2 ^ 32 + (s.bell n).cCi % 2 ^ 32) n

/-- CHUNK_QUEUE_POLL: the bell of a torus port reads PI and takes entries. -/
def execChunkQueuePoll (port : Fin 48) (s : State) : Out :=
  let n := port.val
  let role := s.obj .portRole n
  if s.holding = true ∨ role < 2 ∨ 7 < role ∨ s.obj .cqBase n = 0 ∨ (s.bell n).stopped = true ∨ s.epochTo.isSome = true then .next s
  else match s.bellRead (s.obj .cqBase n) 8 with
    | none => .next (if s.fillWaits (s.region (s.obj .cqBase n)) then s else s.bellFail n (s.obj .cqBase n) 8 false)
    | some (t, bs) =>
      let pi := leNat bs
      .next ((takeChunks 1024 n (t.updBell n (fun b => { b with cPi := pi }))).showQueue n)

/-- A chunk entry ends with an outcome, and CQ_STATE follows CI. -/
def State.finishChunk (s : State) (n idx status : Nat) : State :=
  (s.endChunk n idx status (entryWords (s.bell n).cOpen idx)).showQueue n

/-- The acknowledgement of a chunk whose tag port `n` holds: the entry ends; `gone` takes it out of where it stands. -/
def State.chunkAcked (s : State) (n : Nat) (p : Packet) (gone : State → State) : State :=
  match s.chunkTag p with
  | none => gone s
  | some (idx, g) =>
    let t := (gone s).updPort n (fun q => q.dropTag g.num)
    match (t.bell n).cOpen.find? (fun e => e.idx == idx && e.status.isNone) with
    | none => t
    | some e =>
      if p.status = 0 then (t.incObj .chunkTx n 1).finishChunk n idx (if e.poisoned then 2 else 1)
      else if p.status = 3 then (t.incObj .chunkTx n 6).finishChunk n idx 7
      else (t.incObj .chunkTx n 3).finishChunk n idx 3

/-- CHUNK_ACK_RECEIVE: the oldest acknowledgement whose tag is a chunk's (R358, R431): one that has crossed the wafer to this port's
attachment, or one in the port's buffer, which goes on to the attachment of the port that holds its tag. -/
def execChunkAckReceive (port : Fin 48) (s : State) : Out :=
  let n := port.val
  match s.fab.inb.find? (fun i => i.out == n && i.stage == 2 && i.pkt.opc == 9 && (s.inbStands i).isSome && (s.chunkTag i.pkt).isSome) with
  | some i => .next (s.chunkAcked n i.pkt (fun t => (t.consume (i.id * 256)).dropInb i.id))
  | none =>
    match s.takePacket n (fun p => p.opc == 9 && (s.chunkTag p).isSome) with
    | none => .next s
    | some p =>
      if p.rport = n then .next (s.chunkAcked n p (fun t => t.rxDrop n p.vc))
      else .next (s.enterWafer n p 2 p.rport (attachEndp p.rport 0))

/-- CHUNK_ACK_TIMEOUT: no acknowledgement within TIMEOUT_REMOTE; the bell resends nothing (R432). -/
def execChunkAckTimeout (port : Fin 48) (idx : Nat) (s : State) : Out :=
  let n := port.val
  match (s.bell n).cOpen.find? (fun e => e.idx == idx && e.status.isNone) with
  | none => .next s
  | some e =>
    if e.sendt + s.tierTimeout 1 ≤ s.gtc then .next ((s.incObj .chunkTx n 4).finishChunk n idx 4) else .next s

/-! ### Landing (R434 to R436) -/

/-- The 960 words that a chunk's content unpacks to (R423). -/
def unpackLanes (exp : Bool) (bs : List (BitVec 8)) : List Nat :=
  if exp then bs.map (fun b => b.toNat)
  else tabulate 960 (fun i => wrap 32 (signed 24 (natAt bs (3 * i) 3)))

/-- The tile a chunk lands as (Tables 13-2, 13-3): words or poison, record, zero tail. -/
def chunkTile (s : State) (n : Nat) (p : Packet) (ws : List Nat) (poisoned bad : Bool) : TileData :=
  let rec6 := p.splace * 2 ^ 40 + n * 2 ^ 34 + b2n poisoned * 4 + b2n bad * 2 + 1
  let record := p.hdr.flatMap (fun w => leBytes 8 w.toNat) ++ leBytes 8 (chunkCheck ws) ++ leBytes 8 s.gtc ++ leBytes 8 rec6 ++
    leBytes 8 0
  let loc := if poisoned then (0 : Word) else portLoc n
  ⟨ws.flatMap (fun v => leBytes 4 v) ++ record ++ List.replicate 192 0, List.replicate 128 0,
    if poisoned || bad then tabulate 60 (fun g => (g, loc)) else [], []⟩

/-- DST, DCORE and DVALVE of a CHUNK are in order (R434). -/
def State.chunkTarget (s : State) (p : Packet) : Bool :=
  p.addr % 4096 == 0 && (match s.region p.addr with | .stack _ _ => true | .sram _ _ => true | _ => false) &&
  (match s.region (p.word 3 % 2 ^ 40) with | .sram _ _ => true | _ => false) && valveOk p.valve

/-- The content of a CHUNK: its words, and whether it came poisoned or with another check value (R435). -/
def Packet.chunk (p : Packet) : List Nat × Bool × Bool :=
  let ws := unpackLanes (bitsOf (p.word 2) 63 60 == 1) p.content
  let poisoned := p.psn != 0
  (ws, poisoned, !poisoned && chunkCheck ws != p.word 0)

/-- A chunk that has been written is counted, its valve opened, and it is answered from `e` (R434, R435). -/
def State.chunkLanded (s : State) (n : Nat) (p : Packet) (e : Endp) : State :=
  let poisoned := p.chunk.2.1
  let bad := p.chunk.2.2
  let s := s.incObj .chunkRx n 0
  let s := if bad then (s.incObj .chunkRx n 1).countErr (portLoc n) 7 2 else s
  let s := if poisoned then s.incObj .chunkRx n 2 else s
  let clean := !bad && !poisoned
  let s := if (p.word 2).testBit 55 then
      (if clean then (s.incObj .chunkRx n 3).countErr (portLoc n) 7 0
       else ((s.incObj .chunkRx n 4).countErr (portLoc n) 7 1).raiseAct 0x0606 (bitsOf (p.word 2) 59 57)
         (bitsOf (p.word 1) 47 32) (portLoc n))
    else s
  let s := match s.region (p.word 3 % 2 ^ 40) with
    | .sram k _ => if p.valve < 48 then s.signalCore k p.valve (p.src 2) p.sendt else s
    | _ => s
  s.answerFrom e p n 0 [] 0

/-- A chunk is written at `a` over the wafer; in host memory it waits for the link's acknowledgement (14 R452). -/
def State.landChunk (s : State) (n : Nat) (p : Packet) (a : Nat) : State :=
  let c := p.chunk
  let t := chunkTile s n p c.1 c.2.1 c.2.2
  let e := s.endpOf (s.region p.addr)
  let src := attachEndp n e.region
  let s := ((s.post 3 34 src e).post 1 1 e src).rxDrop n p.vc
  match regionOf a with
  | .aperture off =>
    (match s.apTranslate off with
     | some (l, ha) =>
       if (s.link l).up then
         let f := s.fresh
         ({ f.2 with fab := { f.2.fab with inb := f.2.fab.inb ++ [Inb.mk f.1 n 3 0 p.vc p] } } : State).addApTile f.1 l ha off t.payload t.scales
       else (s.incObj .chunkRx n 6).answer p n 2
     | none => (s.incObj .chunkRx n 6).answer p n 2)
  | _ => (s.writeTile a t).chunkLanded n p (attachEndp n 0)

/-- CHUNK_LAND: the oldest CHUNK for this module at a port. -/
def execChunkLand (port : Fin 48) (s : State) : Out :=
  let n := port.val
  match s.takePacket n (fun p => p.opc == 0x18) with
  | none => .next s
  | some p =>
    let e := bitsOf (p.word 1) 63 48
    let own := s.obj .pepoch
    let refuse (t : State) (i st : Nat) : Out := .next (((t.incObj .chunkRx n i).answer p n st).rxDrop n p.vc)
    if e ≠ own then refuse s (if follows e own then 8 else 7) 2
    else if s.chunkTarget p = false then
      .next ((((s.incObj .chunkRx n 5).addrErrorAnswer n p)).rxDrop n p.vc)
    else
      let r := s.region p.addr
      let core := s.region (p.word 3 % 2 ^ 40)
      -- the valve's core wakes first: the chunk is answered only once the valve has opened (11 R357)
      if p.valve < 48 ∧ s.waitsAt core = true then .next (s.wakeFor core (2 ^ 40 + p.sendt * 64 + n))
      else if s.waitsAt r then .next (s.wakeFor r (2 ^ 40 + p.sendt * 64 + n))
      else if s.memoryOff r then refuse s 6 2
      else match s.poolAccess p.addr 4096 true true with
        | (t, none) => refuse t 6 2
        | (t, some a) => .next (t.landChunk n p a)

end Sys2Proof.Machine
end

