-- ==== Sys2Proof/Machine/Host.lean ====
section
/-! DEFINITION. Chapter 14: host accesses through BAR2, the links, the aperture's completions, launch queues, DMA channels
and MSI-X (R443 to R463). -/

namespace Sys2Proof.Machine

/-! ### CCB words as the host, a die supervisor or the MMC writes them (R79, R80) -/

/-- A write to SYNC_CMD (Table 9-9, R292): refused for a reserved bit set, an OP or INDEX out of range and a wrapping add. -/
def State.syncCmd (s : State) (k kind : Nat) (v : Word) : State :=
  let i := v.toNat % 64
  if bitsOf v.toNat 7 6 ≠ 0 ∨ bitsOf v.toNat 63 16 ≠ 0 then s.refuseCmd k
  else match bitsOf v.toNat 15 8 with
  | 1 => if i < 48 then s.openValve k i (s.lsHub kind) s.gtc false else s.refuseCmd k
  | 2 => if i < 48 then s.closeValve k i else s.refuseCmd k
  | 3 =>
    if i < 16 then
      let r := s.addTally k i (s.core k).syncArg (s.lsHub kind) s.gtc false
      if r.2 then r.1.refuseCmd k else r.1
    else s.refuseCmd k
  | _ => s.refuseCmd k

/-- A write of a CCB word: CCB_CMD, CCB_CTX_SPLIT and SYNC_CMD act as commands, every other word as a register. -/
def State.ccbWrite (s : State) (k off kind : Nat) (v : Word) : State :=
  if off = 0x0018 then ccbCmd k v s
  else if off = 0x0020 then ctxSplitWrite k v s
  else if off = 0x8F00 then s.syncCmd k kind v
  else s.updCore k (fun c => c.plainWrite off v)

/-! ### BAR2 (R448, R449) -/

def State.complete (s : State) (status : Nat) (data : List (BitVec 8)) (ep : Bool) : State :=
  { s with hst := { s.hst with cpl := some ⟨status, data, ep⟩ } }

/-- The region a BAR2 access of `n` bytes reaches, where Table 2-4 lets the host. -/
def State.bar2Region (s : State) (x n : Nat) : Option Region :=
  let r := s.region x
  let word := match r with | .ccb _ off => off % 8 == 0 && n == 8 | _ => true
  if decide (x < 2 ^ 38) && r.hostReach && r.fits n && word && decide (0 < n) then some r else none

/-- A host access crosses the fabric from its link's point to the unit and back (10 Table 10-3: W0 and W1); at most 4 flits each way
(log 25). -/
def State.postHost (s : State) (l : Nat) (r : Region) (there back : Nat) : State :=
  let e := s.endpOf r
  (s.post 0 (min 4 there) (linkEndp l) e).post 1 (min 4 back) e (linkEndp l)

/-- A BAR2 read that has to wait: it is presented again until it is served, or until TIMEOUT_MODULE has passed since it came
(Table 14-2). -/
def State.bar2Wait (s : State) (x : Nat) : State :=
  match s.hst.rdWait with
  | some w =>
    if w.1 ≠ x then { s with hst := { s.hst with rdWait := some (x, s.gtc) } }
    else if w.2 + s.tierTimeout 0 ≤ s.gtc then { s with hst := { s.hst with rdWait := none } }.complete 2 [] false
    else s
  | none => { s with hst := { s.hst with rdWait := some (x, s.gtc) } }

/-- A BAR2 read served, or refused: what it waited for is over. -/
def execBar2Serve (l x n : Nat) (r : Region) (s : State) : State :=
  let s : State := { s with hst := { s.hst with rdWait := none } }
  match s.serveRead x n true with
  | .done t 0 data p => (t.postHost l r 1 (flitsOf n)).complete 0 data p.isSome
  | .done t _ _ _ => t.complete 2 [] false
  | .host t m =>
    -- a page that has moved to host memory: its link answers, or not
    match t.apTranslate (m - 0x4000000000) with
    | some (k, ha) =>
      if (t.link k).up = false then (t.incObj .tierFails 0 8).complete 2 [] false
      else if 2048 ≤ t.apReadsOn k then s.bar2Wait x
      else t.addApRead (.bar2 n) k ha n
    | none => (t.incObj .tierFails 0 6).complete 2 [] false

/-- BAR2_READ: `n` bytes at offset `x`, completing as Table 14-2 gives; a read that waits for a wake or a fill has not
completed yet. -/
def execBar2Read (link : Fin 2) (x : BitVec 38) (n : Nat) (s : State) : Out :=
  match s.bar2Region x.toNat n with
  | none => .next ((s.incObj .addrErrorsHost).complete 1 [] false)
  | some r =>
    let core := match r with | .sram k _ => some k | .ccb k _ => some k | _ => none
    if core.any s.asleep then .next ((s.holdForWake (core.getD 0) (2 ^ 50 + x.toNat)).bar2Wait x.toNat)
    else if s.fillWaits r then .next (s.bar2Wait x.toNat)
    else .next (execBar2Serve link.val x.toNat n r s)

/-- BAR2_WRITE: `data` at offset `x`; with EP set every granule it touches is written as poison, and a CCB word, which has none, is
left as it is (log 82). A refused or erroneous write is discarded and counted. -/
def execBar2Write (link : Fin 2) (x : BitVec 38) (data : List (BitVec 8)) (ep : Bool) (s : State) : Out :=
  match s.bar2Region x.toNat data.length with
  | none => .next (s.incObj .addrErrorsHost)
  | some r =>
    let core := match r with | .sram k _ => some k | .ccb k _ => some k | _ => none
    if core.any s.asleep then .next (s.holdForWake (core.getD 0) (2 ^ 50 + x.toNat))
    else if s.fillWaits r then .next s
    else if s.memoryOff r then .next (s.incObj .poolRefusals)
    else
      let s := s.postHost link.val r (flitsOf data.length) 1
      match r with
      | .ccb k off => if ep then .next s else .next (s.ccbWrite k off 5 (BitVec.ofNat 64 (leNat data)))
      | _ =>
        match s.serveWrite x.toNat data (if ep then some (hubUnit (1 + link.val)) else none) true with
        | .done t _ _ _ => .next t
        | .host t m =>
          if ep then .next (t.postToHost (m / 64 * 64) (patternOver m data.length (hubUnit (1 + link.val))))
          else .next (t.postToHost m data)

/-! ### Aperture reads and writes (R452) -/

/-- The granules of a read that arrived in error: all of them with valid = 0. -/
def zeroLoc (gs : List Nat) : List (Nat × Word) := gs.map (fun g => (g, (0 : Word)))

/-- A read of host memory is over (R452): with its data, `n` payload bytes, then scale bytes, of which `bad` lists the granules that
are poison; or failed, by a status of Table 11-12 or the link's. -/
def State.apDone (s : State) (r : ApRead) (data : List (BitVec 8)) (bad : List Nat) (status : Nat) : State :=
  let n := r.size
  let e := linkEndp r.link
  let per := (n + 63) / 64
  let pay := zeroLoc (bad.filter (fun g => decide (g < per)))
  let sc := zeroLoc ((bad.filter (fun g => decide (per ≤ g))).map (fun g => g - per))
  let c : PieceAns := if status = 0 then ⟨true, fitTo 0 n data, fitTo 0 (n / 32) (data.drop n), pay, sc⟩ else PieceAns.failed
  let st := if status = 0 then 0 else 2
  match r.who with
  | .req id => s.answerReq id status (fitTo 0 n data) (if bad.isEmpty then none else some 0) e
  | .tile core _ id piece => s.answerPiece core id piece c status e
  | .inb id =>
    let s := if status = 0 then s else s.incObj .tierFails 0 (6 + failKind status)
    (match s.fab.inb.find? (fun i => i.id == id && i.stage == 3) with
     | some i => (s.dropInb id).answerFrom e i.pkt i.port st c.content c.psn
     | none => s)
  | .bar2 m =>
    let s := if status = 0 then s else s.incObj .tierFails 0 (6 + failKind status)
    s.complete st (if status = 0 then fitTo 0 m data else []) (!bad.isEmpty)

def dropNth {α : Type} (l : List α) (i : Nat) : List α := l.take i ++ l.drop (i + 1)

/-- Every granule of a read, payload and scales. -/
def ApRead.granules (r : ApRead) : List Nat := List.range ((r.size + 63) / 64 + 2)

/-- APERTURE_COMPLETION: the completions of outstanding read `i`: `outcome` 0 successful, 1 Unsupported Request, 2
Completer Abort, 3 poisoned, and the granules that a failed completion covers. -/
def execApertureCompletion (i : Nat) (outcome : Fin 4) (data : List (BitVec 8)) (bad : List Nat) (s : State) : Out :=
  match s.hst.apReads[i]? with
  | none => .next s
  | some r =>
    let t : State := { s with hst := { s.hst with apReads := dropNth s.hst.apReads i } }
    if outcome = 0 then .next (t.apDone r data [] 0)
    else .next ((t.incObj .apertureErrs r.link (outcome.val - 1)).apDone r data (if bad.isEmpty then r.granules else bad) 0)

/-- APERTURE_TIMEOUT: read `i` has no completion within TIMEOUT_HOST: its requester counts it as timed out (08 R256). -/
def execApertureTimeout (i : Nat) (s : State) : Out :=
  match s.hst.apReads[i]? with
  | none => .next s
  | some r =>
    if s.gtc < r.sentAt + s.tierTimeout 2 then .next s
    else
      let t : State := { s with hst := { s.hst with apReads := dropNth s.hst.apReads i } }
      .next ((t.incObj .apertureErrs r.link 3).apDone r [] r.granules hostLate)

/-- The first entry of a list that `f` accepts, and the list without it. -/
def takeFirst {α : Type} (f : α → Bool) : List α → Option (α × List α)
  | [] => none
  | a :: l => if f a then some (a, l) else (takeFirst f l).map (fun r => (r.1, a :: r.2))

/-- A completion copy has been acknowledged: HCOPY advances with the last of its CPI advance (R456). -/
def State.ackCopy (s : State) (q ref : Nat) : State :=
  let x := s.lq q
  let left := x.copying.filter (fun r => r != ref)
  if left.isEmpty && x.copied == x.batch then
    let s := s.setLq q { x with copying := [], hcopy := x.batch }
    if s.lqIen q then s.sendSource (17 + q) else s
  else s.setLq q { x with copying := left }

/-- A packet of another module that waited for the link is answered from `e`: a chunk as landed or refused, a WRITE. -/
def State.inbWritten (s : State) (i : Inb) (status : Nat) (e : Endp) : State :=
  let s := s.dropInb i.id
  if i.pkt.opc = 0x18 then
    (if status = 0 then s.chunkLanded i.port i.pkt e else (s.incObj .chunkRx i.port 6).answerFrom e i.pkt i.port 2 [] 0)
  else
    (if status = 0 then s else s.incObj .tierFails 0 (6 + failKind status)).answerFrom e i.pkt i.port (if status = 0 then 0 else 2) [] 0

/-- An aperture write on link `l` is over: whoever waits for it hears of it. -/
def State.apWriteDone (s : State) (l ref status : Nat) : State :=
  let e := linkEndp l
  if 2 ^ 60 ≤ ref then
    let id := (ref - 2 ^ 60) / 16
    match s.findTile id with
    | some (k, _, _) =>
      s.answerPiece k id ((ref - 2 ^ 60) % 16) (if status = 0 then PieceAns.done else PieceAns.failed) status e
    | none => s
  else
    let s := if (s.findReq ref).isSome then s.answerReq ref status [] none e else s
    let s := match s.fab.inb.find? (fun i => i.id == ref && i.stage == 3) with
      | some i => s.inbWritten i status e
      | none => s
    let s := match (List.range 48).findSome? (fun n =>
        ((s.mouth n).copies.find? (fun c => c.id == ref && c.away)).map (fun c => (n, c))) with
      | some (n, c) => (if status = 0 then s else s.incObj .tierFails 0 (6 + failKind status)).copyDone n c (status == 0)
      | none => s
    (s.moveWriteDone ref (status == 0)).releaseHostValves ref none

/-- APERTURE_WRITE_ACK: the Data Link Layer has acknowledged the write `ref` that was posted first; the last byte of a
transfer acknowledges it to its requester. -/
def execApertureWriteAck (ref : Nat) (s : State) : Out :=
  match takeFirst (fun (w : ApWrite) => w.ref == ref) s.hst.apWrites with
  | none => .next s
  | some (w, rest) =>
    let t : State := { s with hst := { s.hst with apWrites := rest } }
    if rest.any (fun w => w.ref == ref) then .next t
    else match s.hst.queues.find? (fun q => q.2.copying.contains ref) with
      | some q => .next (t.ackCopy q.1 ref)
      | none => .next (t.apWriteDone w.link ref 0)

/-! ### Links (R443 to R446, R462) -/

def State.dma (s : State) (c : Nat) : Dma := aget (Dma.zero c) s.hst.dmas c
def State.setDma (s : State) (c : Nat) (d : Dma) : State := { s with hst := { s.hst with dmas := aset (Dma.zero c) s.hst.dmas c d } }

/-- Requests of the aperture that a link carries fail at once (R255). -/
def State.failAperture (s : State) (l : Nat) : State :=
  let reads := s.hst.apReads.filter (fun r => r.link == l)
  let refs := ((s.hst.apWrites.filter (fun w => w.link == l)).map (fun w => w.ref)).eraseDups
  let t : State := { s with hst := { s.hst with
    apReads := s.hst.apReads.filter (fun r => r.link != l), apWrites := s.hst.apWrites.filter (fun w => w.link != l) } }
  let t := reads.foldl (fun (u : State) r => u.apDone r [] [] linkDown) t
  refs.foldl (fun (u : State) r => u.apWriteDone l r linkDown) t

/-- Copies in progress stop; HCOPY is where they begin again. -/
def State.stopCopies (s : State) (l : Nat) : State :=
  (List.range 128).foldl (fun (t : State) q =>
    if t.lqLink q = l then let x := t.lq q; t.setLq q { x with copied := x.hcopy, batch := x.hcopy, copying := [], waitHost := false }
    else t) s

/-- PCIE_LINK_LOSS: requests fail, DMA channels in a descriptor or enabled enter Halted, copies stop, host-link-down is
raised (R445, R462). The status write cannot reach host memory over the lost link, so CI does not advance. -/
def execPcieLinkLoss (link : Fin 2) (s : State) : Out :=
  let l := link.val
  let p := s.link l
  if p.up = false then .next s
  else
    let s := (s.setLink l { p with up := false }).incObj .linkLosses l
    let s := (s.failAperture l).stopCopies l
    let s := (List.range 16).foldl (fun (t : State) c =>
      let d := t.dma c
      if d.link = l ∧ d.st ≠ 0 then
        (if d.desc.isEmpty then t else t.incObj .dmaCounters c 1).setDma c { d with st := 3, desc := [] }
      else t) s
    .next (s.raiseAct 0x0702 l 0 (hubUnit (1 + l)))

/-- PCIE_LINK_UP: the link returns to L0 with DL_Up at a rate (GT/s × 10) and width, in flit mode, and the host has enabled
bus mastering. It trains at 64 GT/s or less and ×16, ×8 or ×4 alone (R443). `fmask` is the function's MSI-X mask. -/
def execPcieLinkUp (link : Fin 2) (rate : BitVec 16) (width : BitVec 8) (fmask : Bool) (s : State) : Out :=
  let l := link.val
  let p := s.link l
  if p.up || decide (640 < rate.toNat) || !(width == 16 || width == 8 || width == 4) then .next s
  else .next ((s.setLink l { p with
      up := true, busMaster := true, flit := true, rate := rate.toNat, width := width.toNat, fmask := fmask }).raiseAct
    0x0701 l 0 0)

/-- PCIE_LINK_TRAIN_FAIL: the partner does not negotiate flit mode. -/
def execPcieLinkTrainFail (link : Fin 2) (s : State) : Out :=
  let l := link.val
  if (s.link l).up then .next s else .next (s.raiseAct 0x0703 l 0 (hubUnit (1 + l)))

/-- PCIE_FUNCTION_RESET: PERST#, a hot reset or an FLR of one link's function: configuration space and MSI-X state are reset
and bus mastering is off, so its aperture requests fail; its DMA channels and queues are Disabled (R446). -/
def execPcieFunctionReset (link : Fin 2) (s : State) : Out :=
  let l := link.val
  let p := s.link l
  let s := s.setLink l { p with up := false, busMaster := false, table := [], pend := [], fmask := false }
  let s := (s.failAperture l).stopCopies l
  let s := (List.range 16).foldl (fun (t : State) c =>
    let d := t.dma c
    if d.link = l then t.setDma c { d with en := false, st := 0, desc := [] } else t) s
  .next ((List.range 128).foldl (fun (t : State) q =>
    if t.lqLink q = l then t.setObj .lqCfg (t.obj .lqCfg q 0 % 2 ^ 63) q 0 else t) s)

/-! ### Launch queues (R453 to R456) -/

def isPow2 (n : Nat) : Bool := n != 0 && 2 ^ n.log2 == n

/-- `n` bytes from an MLA lie wholly in local SRAM or a stacked tier. -/
def State.ringFits (s : State) (mla n : Nat) : Bool :=
  match s.region mla with
  | .stack _ o => decide (o + n ≤ 0xC0000000)
  | .sram _ o => decide (o + n ≤ 2 ^ 22)
  | _ => false

/-- A configuration is in order (R453). -/
def State.lqCfgOk (s : State) (w0 w1 w2 w3 : Nat) : Bool :=
  let size := w0 % 2 ^ 17
  let v := bitsOf w0 39 34
  isPow2 size && decide (16 ≤ size ∧ size ≤ 65536) && w1 % 2 ^ 40 % 64 == 0 && w2 % 2 ^ 40 % 32 == 0 && w3 % 32 == 0 &&
  s.ringFits (w1 % 2 ^ 40) (size * 64) && s.ringFits (w2 % 2 ^ 40) (size * 32) && valveOk v

/-- LQ_CFG_WRITE: while no job runs; reserved bits of the words read zero (Table 14-3, 00 R8). -/
def execLqCfgWrite (q : Fin 128) (w0 w1 w2 w3 : Word) (s : State) : Out :=
  if s.jobRuns || !s.lqCfgOk w0.toNat w1.toNat w2.toNat w3.toNat then .next s
  else .next ((((s.setObj .lqCfg (Nat.land w0.toNat 0xE0FFFFFC0001FFFF) q.val 0).setObj .lqCfg (w1.toNat % 2 ^ 40) q.val 1).setObj
    .lqCfg (w2.toNat % 2 ^ 40) q.val 2).setObj .lqCfg w3.toNat q.val 3)

/-- LQ_DOORBELL: PI written on a link; the valve opens after LQ_PI is set (R454). -/
def State.lqDoorbell (s : State) (l q v : Nat) : State :=
  let x := s.lq q
  let n := sub32 v x.ci
  -- a doorbell whose PI does not advance is not accepted
  if s.lqEn q && s.lqLink q == l && decide (1 ≤ n ∧ n ≤ s.lqSize q) && decide (sub32 x.pi x.ci < n) then
    let s := s.setLq q { x with pi := v % 2 ^ 32 }
    if s.lqValve q < 48 then s.signalCore (s.lqCore q) (s.lqValve q) (s.lsHub 5) s.gtc else s
  else s.incObj .doorbellRefused

def execLqDoorbell (link : Fin 2) (q : Fin 128) (v : BitVec 32) (s : State) : Out := .next (s.lqDoorbell link.val q.val v.toNat)

/-- LQ_CHEAD_WRITE. -/
def execLqCheadWrite (q : Fin 128) (v : BitVec 32) (s : State) : Out :=
  .next (s.setLq q.val { s.lq q.val with chead := v.toNat })

/-- LQ_CI_STORE: by a program on LQ_CORE alone (R455). -/
def execLqCiStore (k : CoreId) (q : Fin 128) (v : BitVec 32) (s : State) : Out :=
  if k.key = s.lqCore q.val then .next (s.lqCiStore q.val v.toNat) else .next s

/-- LQ_CPI_STORE: by a program on LQ_CORE alone. -/
def execLqCpiStore (k : CoreId) (q : Fin 128) (v : BitVec 32) (s : State) : Out :=
  if k.key = s.lqCore q.val then .next (s.lqCpiStore q.val v.toNat) else .next s

/-- The copy of completion record `j` as the hub writes it (R456): PEPOCH, PH and the GTC put in. -/
def State.copyRecord (s : State) (q j : Nat) (bs : List (BitVec 8)) : List (BitVec 8) :=
  let w1 := natAt bs 8 8
  let w1 := setBits (setBits w1 32 16 (s.obj .pepoch)) 0 1 ((j / s.lqSize q + 1) % 2)
  bs.take 8 ++ leBytes 8 w1 ++ (bs.drop 16).take 8 ++ leBytes 8 s.gtc

/-- A completion record as the hub reads it over the wafer (R456): none while its memory waits or refuses. A poisoned record is copied
as its granule's bytes stand (log 82). -/
def State.recordRead (s : State) (mla : Nat) : Option (State × List (BitVec 8)) :=
  let r := s.region mla
  if s.fillWaits r || (match r with | .sram k _ => s.asleep k | _ => false) then none
  else match s.bellAt mla 32 false with
    | .no => none
    | .host t _ _ _ => some (t.freeBytes 32)
    | .here t a =>
      let q := t.readMem a 32
      let e := t.endpOf r
      some ((q.1.post 2 1 mmcEndp e).post 3 1 e mmcEndp, q.2.1)

/-- Records from `copied` on are copied while there is room in the host ring. -/
def copyOn : Nat → Nat → State → State
  | 0, _, s => s
  | fuel + 1, q, s =>
    let x := s.lq q
    let j := x.copied
    if j = x.batch then s
    else if s.lqSize q ≤ sub32 j x.chead then s.setLq q { x with waitHost := true }
    else
      let size := s.lqSize q
      match s.recordRead (s.obj .lqCfg q 2 % 2 ^ 40 + j % size * 32) with
      | none => s
      | some (t, bs) =>
        let f := t.fresh
        let u := f.2.addApWrite f.1 (t.lqLink q) (t.obj .lqCfg q 3 + j % size * 32) (t.copyRecord q j bs)
        copyOn fuel q (u.setLq q { x with copied := (j + 1) % 2 ^ 32, copying := x.copying ++ [f.1], waitHost := false })

/-- COMPLETION_COPY: the hub copies what queue `q` has ready. -/
def execCompletionCopy (q : Fin 128) (s : State) : Out :=
  let n := q.val
  let x := s.lq n
  if s.lqEn n && (s.link (s.lqLink n)).up && decide (0 < s.lqSize n) then
    let x := if x.copied = x.hcopy then { x with batch := x.cpi } else x
    .next (copyOn 65536 n (s.setLq n x))
  else .next s

/-! ### DMA (R458 to R460) -/

/-- DMA_DOORBELL: DMA_PI written; more than DMA_RSIZE ahead of CI is refused and counted. -/
def execDmaDoorbell (c : Fin 16) (v : BitVec 32) (s : State) : Out :=
  let d := s.dma c.val
  if d.rsize < sub32 v.toNat d.ci then .next (s.incObj .doorbellRefused)
  else .next (s.setDma c.val { d with pi := v.toNat, st := if d.st = 2 ∧ v.toNat ≠ d.ci then 1 else d.st })

/-- DMA_ENABLE: EN goes from 0 to 1. -/
def execDmaEnable (c : Fin 16) (s : State) : Out :=
  let d := s.dma c.val
  if d.en then .next s else .next (s.setDma c.val { d with en := true, st := if d.pi = d.ci then 2 else 1 })

/-- DMA_DISABLE: at once without a descriptor in hand, else after it; a Halted channel waits for EN to be written 1. -/
def execDmaDisable (c : Fin 16) (s : State) : Out :=
  let d := s.dma c.val
  .next (s.setDma c.val { d with en := false, st := if d.st = 3 then 3 else if d.desc.isEmpty then 0 else d.st })

/-- DMA_DESCRIPTOR_EXECUTE: the channel reads its next descriptor; `words` is what host memory holds. -/
def execDmaDescriptorExecute (c : Fin 16) (words : List Word) (s : State) : Out :=
  let d := s.dma c.val
  if d.en && d.st == 1 && d.desc.isEmpty && d.ci != d.pi && (s.link d.link).up && words.length == 8 then
    .next (s.setDma c.val { d with desc := words })
  else .next s

/-- Whether a descriptor is in order (Table 14-6, 0x05). -/
def dmaOk (w : List Nat) : Bool :=
  let x (i : Nat) : Nat := w.getD i 0
  let dir := x 0 / 2 ^ 62
  let sc := (x 0).testBit 61
  let len := x 3 % 2 ^ 32
  let al := if sc then 4096 else 64
  let modOk (v : Nat) : Bool := v % al == 0
  bitsOf (x 0) 59 46 == 0 && dir != 3 && x 3 / 2 ^ 32 == 0 && len % al == 0 && decide (64 ≤ len ∧ len ≤ 2 ^ 31 - 64) &&
  valveOk (bitsOf (x 0) 45 40) && bitsOf (x 5) 55 32 == 0 &&
  (if dir = 0 then x 1 % 64 == 0 else modOk (x 1)) && (if dir = 1 then x 2 % 64 == 0 else modOk (x 2)) &&
  (!sc || dir == 2 || x 4 % 128 == 0)

/-- A module address of a transfer lies where Table 2-4 lets the host reach memory, and its memory does not refuse. -/
def State.dmaRegion (s : State) (mla n : Nat) : Option Region :=
  let r := s.region mla
  if !r.hostReach || !r.fits n || s.memoryOff r || (match r with | .ccb _ _ => true | _ => false) then none else some r

/-- Unit `i` of `u` bytes as the host returned it, with its scale bytes. -/
def hostUnit (data scales : List (BitVec 8)) (bad : List Nat) (u i : Nat) (sc : Bool) : TileData :=
  ⟨fitTo 0 u (data.drop (i * u)), if sc then fitTo 0 128 (scales.drop (i * 128)) else [],
    zeroLoc ((List.range (u / 64)).filter (fun k => bad.contains (i * u / 64 + k))), []⟩

/-- One unit of a transfer of link `l` as it stands between source and destination; `host` is what the host returned for a page that
has moved to host memory. None where memory refuses, with the state in which that is counted. -/
def State.dmaRead (s : State) (l mla u : Nat) (sc : Bool) (host : TileData) : State × Option TileData :=
  match s.dmaRegion mla u with
  | none => (s, none)
  | some r =>
    match s.poolAccess mla u false true with
    | (t, none) => (t, none)
    | (t, some a) =>
      match regionOf a with
      | .aperture off =>
        (match t.apTranslate off with
         | some (k, _) => (t, if (t.link k).up then some host else none)
         | none => (t, none))
      | _ =>
        let e := t.endpOf r
        let t := (t.post 2 1 (linkEndp l) e).post 3 (flitsOf (if sc then u + u / 32 else u)) e (linkEndp l)
        if sc then let q := t.readTile a u; (q.1, some q.2)
        else let q := t.touch a u; (q.1, some ⟨memBytes q.1.mem a u, [], poisonList q.2, []⟩)

def State.dmaWrite (s : State) (l mla : Nat) (t : TileData) : State × Bool :=
  let n := t.payload.length
  match s.dmaRegion mla n with
  | none => (s, false)
  | some r =>
    match s.poolAccess mla n true true with
    | (u, none) => (u, false)
    | (u, some a) =>
      match regionOf a with
      | .aperture _ => let w := u.hostPut a t; (w.1, w.2.isSome)
      | _ =>
        let e := u.endpOf r
        let u := (u.post 3 (flitsOf (n + t.scales.length)) (linkEndp l) e).post 1 1 e (linkEndp l)
        (if t.scales.isEmpty then u.writeGranules a t.payload (locOf t.poison) else u.writeTile a t, true)

/-- A transfer in units; it stops at the first refusal: state, bytes moved, whether poison was written, whether refused. -/
def dmaMove (w : List Nat) (link : Nat) (data scales : List (BitVec 8)) (bad : List Nat) : Nat → Nat → State → Bool →
    State × Nat × Bool × Bool
  | 0, i, s, p => (s, i, p, false)
  | fuel + 1, i, s, p =>
    let x (j : Nat) : Nat := w.getD j 0
    let dir := x 0 / 2 ^ 62
    let sc := (x 0).testBit 61
    let u := if sc then 4096 else 64
    let host := hostUnit data scales bad u i sc
    let got : State × Option TileData := if dir = 0 then (s, some host) else s.dmaRead link (x 1 + i * u) u sc host
    match got with
    | (t, none) => (t, i, p, true)
    | (t, some d) =>
      let p' := p || (dir != 1 && !(d.poison.isEmpty && d.scalePoison.isEmpty))
      if dir = 1 then
        let f := t.fresh
        let c := PieceAns.content ⟨true, d.payload, d.scales, d.poison, d.scalePoison⟩
        let v := f.2.addApWrite f.1 link (x 2 + i * u) (c.take u)
        let v := if sc then v.addApWrite f.1 link (x 4 + i * 128) (c.drop u) else v
        dmaMove w link data scales bad fuel (i + 1) v p'
      else match t.dmaWrite link (x 2 + i * u) d with
        | (v, false) => (v, i, p, true)
        | (v, true) => dmaMove w link data scales bad fuel (i + 1) v p'

/-- A transfer waits: for a zero fill or a page's switch (R49, R268), or for a core that sleeps, whose wake it requests (R323). -/
def State.dmaHeld (s : State) (w : List Nat) : Option State :=
  let x (j : Nat) : Nat := w.getD j 0
  let dir := x 0 / 2 ^ 62
  let u := if (x 0).testBit 61 then 4096 else 64
  let addrs := ((if dir = 0 then [] else [x 1]) ++ (if dir = 1 then [] else [x 2])).flatMap (fun b =>
    (List.range (x 3 / u)).map (fun i => b + i * u))
  let core (a : Nat) : Option Nat := match s.region a with | .sram k _ => some k | _ => none
  match addrs.find? (fun a => (core a).any s.asleep) with
  | some a => some (s.holdForWake ((core a).getD 0) (2 ^ 50 + a))
  | none => if addrs.any (fun a => s.fillWaits (s.region a)) then some s else none

/-- A descriptor ends with a status (R459). -/
def State.dmaEnd (s : State) (c status done : Nat) (w : List Nat) : State :=
  let d := s.dma c
  let dir := w.getD 0 0 / 2 ^ 62
  let f := s.fresh
  let s := f.2.addApWrite f.1 d.link (d.rbase.toNat + d.ci % d.rsize * 64 + 40)
    (leBytes 8 (status * 2 ^ 56 + done % 2 ^ 32))
  let ci := (d.ci + 1) % 2 ^ 32
  let s := s.setDma c { d with
    ci := ci, desc := []
    st := if 3 ≤ status ∧ d.haltErr then 3 else if d.en then (if d.pi = ci then 2 else 1) else 0 }
  let s := s.incObj .dmaCounters c (if status ≤ 2 then 0 else 1)
  let s := if dir = 1 then s.addObj .dmaCounters done c 3 else s.addObj .dmaCounters done c 2
  let v := bitsOf (w.getD 0 0) 45 40
  let s := match s.region (w.getD 0 0 % 2 ^ 40) with
    | .sram k _ => if v < 48 then s.signalCore k v (s.lsHub 5) s.gtc else s
    | _ => s
  if (w.getD 0 0).testBit 60 then s.sendSource (1 + c) else s

/-- DMA_DESCRIPTOR_COMPLETE: the descriptor in hand moves its data and ends. `data` and `scales` are what the host returned
for DIR 0, or for source pages that have moved to host memory (R262), `bad` the granules that came poisoned or not at all; `refused`
says that the host refused. -/
def execDmaDescriptorComplete (c : Fin 16) (data scales : List (BitVec 8)) (bad : List Nat) (refused : Bool) (s : State) : Out :=
  let d := s.dma c.val
  let w := d.desc.map (fun x => x.toNat)
  if d.desc.isEmpty then .next s
  else if dmaOk w = false then .next (s.dmaEnd c.val 5 0 w)
  else if refused then .next (s.dmaEnd c.val 4 0 w)
  else match s.dmaHeld w with
  | some t => .next t
  | none =>
    let u := if (w.getD 0 0).testBit 61 then 4096 else 64
    let r := dmaMove w d.link data scales bad (w.getD 3 0 / u) 0 s false
    .next (r.1.dmaEnd c.val (if r.2.2.2 then 3 else if r.2.2.1 then 2 else 1) (r.2.1 * u) w)

/-! ### MSI-X (R461) -/

/-- MSIX_SEND: a pending message of a link is sent once its link and vector allow. -/
def execMsixSend (link : Fin 2) (vec : BitVec 8) (s : State) : Out :=
  let p := s.link link.val
  let v := vec.toNat
  if p.pend.contains v && p.canSend v then
    .next (s.setLink link.val { p with pend := p.pend.filter (fun x => x != v), sent := v :: p.sent })
  else .next s

end Sys2Proof.Machine
end

