-- ==== Sys2Proof/Machine/Power.lean ====
section
/-! DEFINITION. Chapter 16: feeds, the power cap, rails and breath-hold (R503 to R516). Voltages are in mV, currents in mA,
powers in mW, as the commands measure them. -/

namespace Sys2Proof.Machine

/-- A ratio as an FP32 value, rounded to nearest even (Table 15-1 F32). -/
def f32Ratio (n : Int) (d : Nat) : Nat :=
  let q := n.natAbs * 2 ^ 64 / d
  if n = 0 then 0 else (fmtFP32.deliver .rne false (decide (n < 0)) ⟨q, -64, decide (n.natAbs * 2 ^ 64 % d ≠ 0)⟩).1

/-! ### Regions and their clocks -/

def State.updRegion (s : State) (r : Nat) (f : Region16 → Region16) : State :=
  { s with pwr := { s.pwr with regions := amod Region16.zero s.pwr.regions r f } }

def State.updCluster (s : State) (c : Nat) (f : Cluster → Cluster) : State :=
  { s with pwr := { s.pwr with clusters := amod Cluster.zero s.pwr.clusters c f } }

/-- The clusters of region `r` of die `r / 4`, in the order of R22, by die * 16 + cluster. -/
def clustersOf (r : Nat) : List Nat :=
  (List.range 16).filterMap (fun c => if c / 4 / 2 * 2 + c % 4 / 2 = r % 4 then some (r / 4 * 16 + c) else none)

def State.freq (s : State) (r : Nat) : Nat := s.obj .regionFreq r

/-- The time a cluster has spent below its region's clock enters THROTTLE_TIME (R533). -/
def State.settleThrottle (s : State) (c : Nat) : State :=
  let x := s.cluster c
  let r := c / 16 * 4 + (c % 16 / 4 / 2 * 2 + c % 16 % 4 / 2)
  let slow := decide (x.cap < s.freq r)
  let s := match x.slowAt with
    | some t => s.addObj .throttleTime (s.gtc - t) (c / 16) (c % 16)
    | none => s
  s.updCluster c (fun y => { y with slowAt := if slow then some s.gtc else none })

/-- A region's clock takes a step; time above 1.20 GHz enters BOOST_TIME (R532, Table 16-12). -/
def State.setFreq (s : State) (r f : Nat) : State :=
  let s := match (s.region16 r).boostAt with
    | some t => s.addObj .boostTime (s.gtc - t) r
    | none => s
  let s := (s.setObj .regionFreq f r).updRegion r (fun x => { x with boostAt := if 1200 < f then some s.gtc else none })
  (clustersOf r).foldl (fun t c => t.settleThrottle c) s

/-- A region enters a power state (0 Run, 1 Idle, 2 Doze, 3 Retain, 4 Off); its time in the old one is counted. -/
def State.setRegionState (s : State) (r st : Nat) : State :=
  let s := s.addObj .regionTime (s.gtc - (s.region16 r).since) r (s.obj .regionState r)
  (s.setObj .regionState st r).updRegion r (fun x => { x with since := s.gtc })

/-- The time a region has spent in a state, a cluster below its region's clock, and a region above 1.20 GHz, the part that
has not ended included. -/
def State.regionTimeNow (s : State) (r st : Nat) : Nat :=
  s.obj .regionTime r st + (if s.obj .regionState r = st then s.gtc - (s.region16 r).since else 0)

def State.throttleNow (s : State) (d c : Nat) : Nat :=
  s.obj .throttleTime d c + (match (s.cluster (d * 16 + c)).slowAt with | some t => s.gtc - t | none => 0)

def State.boostNow (s : State) (r : Nat) : Nat :=
  s.obj .boostTime r + (match (s.region16 r).boostAt with | some t => s.gtc - t | none => 0)

/-- One step of 50 MHz down, to 0.60 GHz at the lowest. -/
def stepDown (f : Nat) : Nat := max 600 (f - 50)

/-- FSTEP of Table 16-3. -/
def fstep (f : Nat) : Nat := (f - 600) / 50

/-- Every region's and cluster's open time enters its counter. -/
def State.settleTimes (s : State) : State :=
  (List.range 192).foldl (fun (t : State) r => (t.setRegionState r (t.obj .regionState r)).setFreq r (t.freq r)) s

/-- The locator of a region (R510) and of a hub rail. -/
def regionLoc (r : Nat) : Word := dieUnit (r / 4) (8 + r % 4) 1023

/-! ### Feeds (R503, R504) -/

def State.feed (s : State) (f : Nat) : Feed := aget Feed.zero s.pwr.feeds f

/-- Stable feeds: those Present. -/
def State.stable (s : State) : Nat := ((List.range 8).filter (fun f => (s.feed f).st == 2)).length

def State.feedMask (s : State) : Nat := ((List.range 8).map (fun f => if (s.feed f).st = 2 then 2 ^ f else 0)).sum

/-- FEEDS_NEEDED and EFF_CAP follow POWER_CAP, the stable feeds and the limits of R536 and R537. -/
def State.updCaps (s : State) : State :=
  let cap := s.obj .powerCap
  let eff := min cap (4800 * s.stable)
  let eff := if s.pwr.limit20 ∨ 2 ≤ s.obj .coolingState then min eff 20000 else eff
  (s.setObj .feedsNeeded ((cap + 4799) / 4800)).setObj .effCap eff

/-- Stable feeds reach FEEDS_NEEDED again while the module is capped (R514). -/
def State.powerRestored (s : State) : State :=
  if s.obj .bhState = 2 ∧ s.obj .feedsNeeded ≤ s.stable then
    (s.setObj .bhState 0).raiseAct 0x0807 0 0 (BitVec.ofNat 64 (s.obj .effCap))
  else s

/-- A feed enters a state; FEED_STATE shows it, with bit 7 while stable. -/
def State.setFeed (s : State) (f st : Nat) (g : Feed → Feed := id) : State :=
  let s := { s with pwr := { s.pwr with feeds := amod Feed.zero s.pwr.feeds f (fun x => { g x with st := st, since := s.gtc }) } }
  ((s.setObj .feedState (if st = 2 then 0x82 else st) f).updCaps).powerRestored

def feedLoc (f : Nat) : Word := moduleUnit f

/-- FEED_EVENTS counts: 0 drops, 1 failed qualifications, 2 reversals, 3 trips. -/
def State.countFeed (s : State) (f k : Nat) : State := s.incObj .feedEvents f k

/-- A feed is found reversed: it stays open. -/
def State.reverseFeed (s : State) (f : Nat) : State :=
  ((s.setFeed f 3).countFeed f 2).raiseAct 0x0801 f 0 (feedLoc f)

/-- Breath-hold entry (R511): every cluster is gated with its state held, clocks fall, grants go. A second entry does
nothing (R516). -/
def State.enterHold (s : State) : State :=
  if s.obj .bhState = 1 ∨ s.obj .bhState = 3 then s
  else
    let s := (((s.setObj .bhState 1).incObj .bhCount).setObj .bhLast s.gtc 0 0).setObj .bhLast s.feedMask 0 2
    let s := (s.setObj .bhLast 0 0 1).setObj .bhLast 12000 0 3
    let s := { s with pwr := { s.pwr with gated := List.range 192, exitAt := none } }
    let s := (List.range 192).foldl (fun (t : State) r => t.setFreq r 150) s
    let s := s.updLife 48 (fun x => { x with bh := min (2 ^ 32 - 1) (x.bh + 1) })
    s.raiseAct 0x0804 0 0 (BitVec.ofNat 64 s.feedMask)

/-- Timers of the hub run although the GTC begins only in phase C2 (17 R544). -/
def State.timerDone (s : State) (since dur : Nat) : Bool :=
  decide (since + dur ≤ s.gtc) || (s.obj .moduleState == 0 && decide (s.obj .startPhase ≤ 1))

/-- FEED_QUALIFY_BEGIN: an Absent feed at 47.0 V to 58.0 V, or a Reversed one at 47.0 V or more, of correct polarity. -/
def execFeedQualifyBegin (f : Fin 8) (mv : Nat) (s : State) : Out :=
  let x := s.feed f.val
  if (x.st = 0 ∧ 47000 ≤ mv ∧ mv ≤ 58000) ∨ (x.st = 3 ∧ 47000 ≤ mv) then .next (s.setFeed f.val 1) else .next s

/-- FEED_QUALIFY_TIMER: 10 ms, or 1 s after 4 failed qualifications in the last 10 s. -/
def execFeedQualifyTimer (f : Fin 8) (s : State) : Out :=
  let x := s.feed f.val
  let recent := (x.fails.filter (fun t => decide (s.gtc < t + 10000000000))).length
  if x.st = 1 ∧ s.timerDone x.since (if 4 ≤ recent then 1000000000 else 10000000) = true then .next (s.setFeed f.val 2)
  else .next s

/-- FEED_QUALIFY_FAIL: out of 46.0 V to 58.0 V, or reversed, while Qualifying. -/
def execFeedQualifyFail (f : Fin 8) (mv : Nat) (reversed : Bool) (s : State) : Out :=
  let x := s.feed f.val
  if x.st = 1 ∧ (mv < 46000 ∨ 58000 < mv ∨ reversed = true) then
    let s := s.countFeed f.val 1
    let note (y : Feed) : Feed := { y with fails := s.gtc :: y.fails.take 3 }
    -- the row of Qualifying raises no event (Table 16-1); the reversal is counted
    if reversed then .next ((s.setFeed f.val 3 note).countFeed f.val 2) else .next (s.setFeed f.val 0 note)
  else .next s

/-- FEED_VOLTAGE_LOW: a Present feed below 46.0 V; breath-hold begins. -/
def execFeedVoltageLow (f : Fin 8) (mv : Nat) (s : State) : Out :=
  if (s.feed f.val).st = 2 ∧ mv < 46000 then .next (((s.setFeed f.val 0).countFeed f.val 0).enterHold) else .next s

/-- FEED_REVERSED: an Absent feed. -/
def execFeedReversed (f : Fin 8) (s : State) : Out :=
  if (s.feed f.val).st = 0 then .next (s.reverseFeed f.val) else .next s

/-- FEED_OVER_VOLTAGE: a Present feed above 60.0 V. -/
def execFeedOverVoltage (f : Fin 8) (mv : Nat) (s : State) : Out :=
  if (s.feed f.val).st = 2 ∧ 60000 < mv then .next ((s.setFeed f.val 4).raiseAct 0x0802 f.val 0 (feedLoc f.val)) else .next s

/-- FEED_OVER_VOLTAGE_CLEAR: at most 58.0 V again. -/
def execFeedOverVoltageClear (f : Fin 8) (mv : Nat) (s : State) : Out :=
  if (s.feed f.val).st = 4 ∧ mv ≤ 58000 then .next (s.setFeed f.val 1) else .next s

/-- FEED_TRIP: over-current for 100 µs, the short-circuit trip, or an open return for 1 ms, as the front end detects. -/
def execFeedTrip (f : Fin 8) (s : State) : Out :=
  let x := s.feed f.val
  if x.st = 2 then
    let s := (s.setFeed f.val 5 (fun y => { y with trips := y.trips + 1 })).countFeed f.val 3
    .next (s.raiseAct 0x0803 f.val (x.trips + 1) (feedLoc f.val))
  else .next s

/-- FEED_TRIP_RETRY: 1 s after a trip, unless the feed has tripped twice since cold start. -/
def execFeedTripRetry (f : Fin 8) (s : State) : Out :=
  let x := s.feed f.val
  if x.st = 5 ∧ x.trips < 2 ∧ s.timerDone x.since 1000000000 = true then .next (s.setFeed f.val 1) else .next s

/-! ### The power cap (R505) -/

/-- Regions whose clock runs. -/
def State.runRegions (s : State) : List Nat := (List.range 192).filter (fun r => s.obj .regionState r ≤ 1)

/-- POWER_CAP_ENFORCE: the input power `mw` averaged over 1 ms; `top` is the region of highest measured power. -/
def execPowerCapEnforce (mw : Nat) (top : Fin 192) (s : State) : Out :=
  let p := s.pwr
  let e := p.energyPj + mw * (s.gtc - p.measAt)
  let above := decide (1000 * s.obj .effCap < mw)
  let since := if above then some (p.excess.getD s.gtc) else none
  let s := (s.setObj .energy (e / 10 ^ 12 % 2 ^ 64)).setObj .inputPower (f32Ratio mw 1000)
  let s := { s with pwr := { s.pwr with inputMw := mw, measAt := s.gtc, energyPj := e, excess := since } }
  let age := s.gtc - p.stepAt
  let fast := s.runRegions.filter (fun r => decide (1200 < s.freq r))
  let stepped (t : State) : State := { t with pwr := { t.pwr with stepAt := t.gtc } }
  match since with
  | none => .next s
  | some t0 =>
    if s.holding then .next s
    else if !fast.isEmpty then
      (if 100000 ≤ age ∨ p.excess = none then .next (stepped (fast.foldl (fun (t : State) r => t.setFreq r (t.freq r - 50)) s))
       else .next s)
    else if 10000000 ≤ s.gtc - t0 ∧ 1000000 ≤ age then
      .next (stepped (s.setFreq top.val (stepDown (s.freq top.val))))
    else .next s

/-! ### Breath-hold and power loss (R513 to R515) -/

/-- The lowest 12 V bus of the hold (Table 16-12 BH_LAST). -/
def State.noteBus (s : State) (mv : Nat) : State :=
  if mv < s.obj .bhLast 0 3 then s.setObj .bhLast mv 0 3 else s

/-- The hold ends: regulators return to their run set points, and the regions wait for their turn. -/
def State.leaveHold (s : State) (next : Nat) : State :=
  let s := (s.setObj .bhState next).setObj .bhLast s.gtc 0 1
  { s with pwr := { s.pwr with exitAt := some s.gtc, holds := s.pwr.holds ++ [(s.obj .bhLast 0 0, s.gtc)] } }

/-- BREATH_HOLD_EXIT: enough stable feeds, and the 12 V bus above 11.4 V. -/
def execBreathHoldExit (bus : Nat) (s : State) : Out :=
  if s.obj .bhState = 1 then
    let s := s.noteBus bus
    if s.obj .feedsNeeded ≤ s.stable ∧ 11400 < bus then .next (s.leaveHold 0) else .next s
  else .next s

/-- BH_MAX_EXPIRY: the hold has lasted BH_MAX with at least one stable feed, but fewer than FEEDS_NEEDED (R514). -/
def execBhMaxExpiry (s : State) : Out :=
  let n := s.stable
  if s.obj .bhState = 1 ∧ s.obj .bhLast 0 0 + 1000000 * s.obj .bhMax ≤ s.gtc ∧ 1 ≤ n ∧ n < s.obj .feedsNeeded then
    .next ((s.leaveHold 2).raiseAct 0x0806 0 n (BitVec.ofNat 64 (s.obj .effCap)))
  else .next s

/-- The clock a region runs at without a grant. -/
def Region16.baseF (x : Region16) : Nat := min 1200 x.maxF

/-- REGION_UNGATE: region n at t_x + 10 µs + n × 2 µs; after the last, breath-hold-end is raised (R513). -/
def execRegionUngate (r : Fin 192) (s : State) : Out :=
  match s.pwr.exitAt with
  | none => .next s
  | some t =>
    if s.pwr.gated.contains r.val && decide (t + 10000 + r.val * 2000 ≤ s.gtc) then
      let left := s.pwr.gated.filter (fun x => x != r.val)
      let s := { s with pwr := { s.pwr with gated := left } }
      let s := s.setFreq r.val (s.region16 r.val).baseF
      if left.isEmpty then
        .next (({ s with pwr := { s.pwr with exitAt := none } }).raiseAct 0x0805 0 0
          (BitVec.ofNat 64 (s.obj .bhLast 0 1 - s.obj .bhLast 0 0)))
      else .next s
    else .next s

/-- The rails of dies go off; a die's powered time ends then (18 R571). -/
def State.darken (s : State) (ds : List Nat) : State :=
  let new := ds.filter (fun d => !s.pwr.darkDies.contains d)
  { s with pwr := { s.pwr with
      darkDies := new ++ s.pwr.darkDies
      darkAt := new.map (fun d => (d, s.gtc)) ++ s.pwr.darkAt.filter (fun e => !new.contains e.1) } }

/-- Every compute die's rails are off: memory refuses, regions are Off, ports are dark. -/
def State.railsOff (s : State) : State :=
  let s := (List.range 192).foldl (fun (t : State) r => t.setRegionState r 4) s
  let s := (List.range 48).foldl (fun (t : State) n => t.updPort n (fun p => { p with st := if p.st = 0 then 0 else 4 })) s
  s.darken (List.range 48)

/-- POWER_LOSS_SHUTDOWN: the 12 V bus below 10.8 V. The event goes out, the POWER_LOSS record is written ahead of the records
that wait, and the rails go (R515, R578). -/
def execPowerLossShutdown (bus : Nat) (s : State) : Out :=
  if bus < 10800 ∧ s.obj .bhState ≠ 3 then
    let s := s.noteBus bus
    let mask := s.obj .bhLast 0 2
    let s := s.raiseAct 0x0808 (s.obj .bhState) 0 (BitVec.ofNat 64 s.feedMask)
    let rec0 : Rec := ⟨8, 63, s.obj .startNo, s.hlth.nextIndex, s.gtc, s.obj .calValid == 1, s.obj .cal,
      [mask % 256 + s.obj .bhState % 256 * 256 + s.obj .bhLast 0 3 % 2 ^ 32 * 2 ^ 32, s.obj .energy, s.obj .evseq, 0],
      s.hlth.openBlock, false⟩
    let s := { s with hlth := { s.hlth with
      ring := s.hlth.ring ++ [rec0], nextIndex := s.hlth.nextIndex + 1, openUsed := s.hlth.openUsed + 80, queue := [] } }
    .next ((s.setObj .bhState 3).railsOff)
  else .next s

/-! ### Over-current (R510) -/

/-- Warning and trip levels in mA (Table 16-2): 0 VDD_LOGIC, 1 VDD_ARRAY, 2 VDD_STACK, 3 and 4 VDD_LINK 0.80 V and 1.20 V,
5 VDD_AON, 6 3V3_MGMT. -/
def warnLevel (rail : Nat) : Nat := [250000, 75000, 45000, 22000, 12000, 800, 6000].getD rail 0
def tripLevel (rail : Nat) : Nat := [300000, 90000, 55000, 28000, 15000, 1000, 8000].getD rail 0

def railLoc (rail i : Nat) : Word :=
  if rail = 0 then regionLoc i else if rail ≤ 2 then dieUnit i (11 + rail) 1023 else if rail ≤ 4 then dieUnit i 14 1023
  else hubUnit 14

/-- The numbers a rail has. -/
def railCount (rail : Nat) : Nat := if rail = 0 then 192 else if rail ≤ 4 then 48 else 1

/-- A warning (`k` 0) or trip (`k` 1) counted. -/
def State.countRail (s : State) (rail i k : Nat) : State :=
  if rail = 0 then s.incObj .ocCount i k else if rail ≤ 4 then s.incObj .dieOc i ((rail - 1) * 2 + k) else s

/-- RAIL_WARNING: a 10 µs average of a rail's current. Above the warning level a VDD_LOGIC region loses its grant and steps
down with each, and every other rail raises its warning event (Table 16-4); an excursion is one warning until the current is
below the level again. -/
def execRailWarning (rail : Fin 7) (i : Fin 192) (ma : Nat) (s : State) : Out :=
  let a := rail.val
  let n := i.val
  let id := a * 256 + n
  if railCount a ≤ n then .next s
  else if ma ≤ warnLevel a then
    .next ({ s with pwr := { s.pwr with warned := s.pwr.warned.filter (fun x => x != id) } }.updRegion n
      (fun x => if a = 0 then { x with withdrawn := false } else x))
  else
    let fresh := !s.pwr.warned.contains id
    let s := if fresh then
        let t := ({ s with pwr := { s.pwr with warned := id :: s.pwr.warned } }).countRail a n 0
        if a = 0 then t else t.raiseAct 0x0809 0 0 (railLoc a n)
      else s
    if a = 0 then .next ((s.updRegion n (fun x => { x with withdrawn := true })).setFreq n (stepDown (s.freq n))) else .next s

/-- RAIL_TRIP: a rail above its trip level (Table 16-4). -/
def execRailTrip (rail : Fin 7) (i : Fin 192) (ma : Nat) (s : State) : Out :=
  let a := rail.val
  let n := i.val
  if railCount a ≤ n ∨ ma ≤ tripLevel a then .next s
  else
    let s := s.countRail a n 1
    let loc := railLoc a n
    if a = 0 then
      let x := s.region16 n
      let recent := x.trips.filter (fun t => decide (s.gtc < t + 1000000000))
      if 2 ≤ recent.length then
        let s := s.updRegion n (fun y => { y with latched := true, tripAt := none, trips := s.gtc :: recent })
        .next ((s.setRegionState n 2).raiseAct 0x080B 0 0 loc)
      else
        let f := stepDown (s.freq n)
        let s := (s.setFreq n f).updRegion n (fun y => { y with tripAt := some s.gtc, trips := s.gtc :: recent })
        .next (s.raiseAct 0x080A (fstep f) 0 loc)
    else if a ≤ 2 then
      .next ((s.darken [n]).raiseAct 0x080C 0 0 loc)
    else if a ≤ 4 then .next (s.failPort n)
    else .next (s.raiseAct 0x080C 0 0 loc)

/-- RAIL_TRIP_RESUME: 100 µs after a VDD_LOGIC trip. -/
def execRailTripResume (r : Fin 192) (s : State) : Out :=
  match (s.region16 r.val).tripAt with
  | some t => if t + 100000 ≤ s.gtc then .next (s.updRegion r.val (fun x => { x with tripAt := none })) else .next s
  | none => .next s

/-! ### Regulators, droop and the Vmin record (R507 to R509) -/

/-- V_target(f) in 0.25 mV. -/
def vTarget (f : Nat) : Nat :=
  let f := if f = 150 then 600 else f
  max 2400 ((2880 + 1600 * ((f : Int) - 1200) / 1000).toNat)

/-- VMIN of a record, and the record's 32 bytes written. -/
def State.vmin (s : State) (o : Obj) (r : Nat) : Nat := s.obj o r 6 + 256 * s.obj o r 7

def State.setVminRec (s : State) (o : Obj) (r : Nat) (ws : List Nat) : State :=
  (ws.flatMap (leBytes 8)).zipIdx.foldl (fun (t : State) (p : BitVec 8 × Nat) => t.setObj o p.1.toNat r p.2) s

/-- Cluster of a sensor (0 to 31) of a region, by die * 16 + cluster. -/
def sensorCluster (r sensor : Nat) : Nat := (clustersOf r).getD (sensor / 8) 0

/-- A temperature in whole °C, as a U8. -/
def degC (m : Int) : Nat := wrap 8 (m / 1000)

/-- A sensor reading in 0.25 mV enters the minimum records that it falls below (R509). -/
def State.noteVmin (s : State) (r sensor v : Nat) : State :=
  let c := s.cluster (sensorCluster r sensor)
  let f := s.freq r
  let flags := b2n (s.pwr.gated.contains r) + 2 * b2n c.stretch + 4 * b2n (decide (1200 < f))
  let step := if f = 150 then 0 else fstep f
  let w0 := v % 65536 * 2 ^ 48 + vTarget f % 65536 * 2 ^ 32 + sensor % 32 * 2 ^ 24 + step % 256 * 2 ^ 16 +
    degC c.temp * 256 + flags
  let ws := [w0, s.gtc % 2 ^ 64, s.obj .cal % 2 ^ 48, s.obj .droopCount r]
  let s := if v < s.vmin .vminStart r then s.setVminRec .vminStart r ws else s
  let d := r / 4 * 32 + r % 4
  let s := if v < aget 65535 s.hlth.periodVmin d then
      { s with hlth := { s.hlth with periodVmin := aset 65535 s.hlth.periodVmin d v } } else s
  if v < s.vmin .vminEver r then
    let s := s.setVminRec .vminEver r ws
    { s with pwr := { s.pwr with vminDue := if s.pwr.vminDue.contains r then s.pwr.vminDue else r :: s.pwr.vminDue } }
  else s

/-- REGULATOR_UPDATE: the lowest of the region's readings over 1 µs, and its sensor; the output moves by what that reading
lacks of V_target(f) + VGUARD, within 0.60 V to 0.85 V. `ma` is the rail's current. -/
def execRegulatorUpdate (r : Fin 192) (sensor : Fin 32) (v ma : Nat) (s : State) : Out :=
  let n := r.val
  let x := s.region16 n
  let vt := vTarget (s.freq n)
  let want := vt + 4 * s.obj .vguard
  let out := min 3400 (max 2400 (x.out + want - v))
  let s := s.noteVmin n sensor.val v
  let low := decide (x.out = 3400) && decide (v < vt)
  let s := s.updRegion n (fun y => { y with out := out, lowSince := if low then some (y.lowSince.getD s.gtc) else none })
  let s := ((s.setObj .regionRail (f32Ratio out 4000) n 0).setObj .regionRail (f32Ratio ma 1000) n 1).setObj .regionRail
    (f32Ratio v 4000) n 2
  .next (s.setObj .regionRail (f32Ratio (s.freq n) 1000) n 3)

/-- A region has no margin: one step down that stays until the next start (R507, R555). -/
def State.marginStep (s : State) (r : Nat) : State :=
  let f := stepDown (s.freq r)
  let s := (s.setFreq r f).updRegion r (fun x => { x with maxF := f, lowSince := none })
  s.raiseAct 0x080D (fstep f) 0 (regionLoc r)

/-- MARGIN_STEP_DOWN: the output at 0.85 V and the lowest reading below V_target for 100 µs. -/
def execMarginStepDown (r : Fin 192) (s : State) : Out :=
  match (s.region16 r.val).lowSince with
  | some t => if t + 100000 ≤ s.gtc then .next (s.marginStep r.val) else .next s
  | none => .next s

/-- DROOP_STRETCH: a sensor below V_target(f) - DROOP_MARGIN stretches its cluster's clock to 7/8; episodes are counted. -/
def execDroopStretch (r : Fin 192) (sensor : Fin 32) (v : Nat) (s : State) : Out :=
  let n := r.val
  if v + 4 * s.obj .droopMargin < vTarget (s.freq n) then
    let c := sensorCluster n sensor.val
    let s := if (s.cluster c).stretch then s else s.incObj .droopCount n
    .next ((s.updCluster c (fun x => { x with stretch := true, lastLow := s.gtc })).noteVmin n sensor.val v)
  else .next s

/-- STRETCH_END: 64 cycles after the last low reading. -/
def execStretchEnd (d : Fin 48) (cluster : Fin 16) (s : State) : Out :=
  let c := d.val * 16 + cluster.val
  let x := s.cluster c
  let f := s.freq (regionOfCore (d.val * 256 + cluster.val * 16))
  if x.stretch && decide (64000 ≤ (s.gtc - x.lastLow) * f) then .next (s.updCluster c (fun y => { y with stretch := false }))
  else .next s

end Sys2Proof.Machine
end

