-- ==== Sys2Proof/Machine/Thermal.lean ====
section
/-! DEFINITION. Chapter 16: region power states, breath lending and boost, the throttle law, coolant (R529 to R537). -/

namespace Sys2Proof.Machine

/-! ### Region power states (Table 16-8) -/

def coresOfRegion (r : Nat) : List Nat :=
  (clustersOf r).flatMap (fun c => (List.range 16).map (fun i => c / 16 * 256 + c % 16 * 16 + i))

/-- A core's contexts are each Halted, Stopped or lending. -/
def Core.dozes (c : Core) : Bool :=
  let q (x : Nat) : Bool := (c.ctx x).st == .halted || (c.ctx x).st == .stopped || (c.lendSince.isSome && (c.ctx x).st == .waiting)
  q 0 && q 1 && (List.range 4).all (fun e => (c.queue e 0).isEmpty && (c.queue e 1).isEmpty && (c.run e).isEmpty) &&
  c.slots.all (fun e => e.2.inflight.isEmpty)

/-- The condition of Doze for a region. -/
def State.dozeCond (s : State) (r : Nat) : Bool := (coresOfRegion r).all (fun k => (s.core k).dozes)

/-- The condition cannot have held before the region's Idle, nor before a core of it began to lend. -/
def State.dozeSince (s : State) (r : Nat) : Nat :=
  (coresOfRegion r).foldl (fun m k => match (s.core k).lendSince with | some t => max m t | none => m) (s.region16 r).since

/-- REGION_IDLE_ENTRY: 16 cycles without activity have passed, with nothing in flight in a vector unit or an engine. -/
def execRegionIdleEntry (r : Fin 192) (s : State) : Out :=
  let busy (k : Nat) : Bool :=
    let c := s.core k
    !c.c0.vecPend.isEmpty || !c.c1.vecPend.isEmpty || (List.range 4).any (fun e => !(c.run e).isEmpty)
  if s.obj .regionState r.val = 0 ∧ s.holding = false ∧ (coresOfRegion r.val).any busy = false then
    .next (s.setRegionState r.val 1)
  else .next s

/-- REGION_WAKE: a wake request, one that stands in `wakes` or the one this command brings, takes the region from Idle, Doze
or Retain to Run. In breath-hold wakes wait (R512); a region latched in Doze stays. -/
def execRegionWake (r : Fin 192) (s : State) : Out :=
  let st := s.obj .regionState r.val
  if 1 ≤ st ∧ st ≤ 3 ∧ s.holding = false ∧ (s.region16 r.val).latched = false then
    let s := s.setRegionState r.val 0
    .next (({ s with pwr := { s.pwr with wakes := s.pwr.wakes.filter (fun x => x != r.val) } } : State).releaseSignals r.val)
  else .next s

/-- REGION_DOZE_ENTRY: SLEEP_DEPTH allows it, and the condition has held for DOZE_AFTER, breath-hold apart. A standing wake
request comes first (00 R11, the order of the rows of Table 16-8). -/
def execRegionDozeEntry (r : Fin 192) (s : State) : Out :=
  let n := r.val
  let t := s.dozeSince n
  if s.obj .regionState n = 1 ∧ 1 ≤ s.obj .sleepDepth ∧ s.dozeCond n = true ∧ 1000 * s.obj .dozeAfter ≤ s.countedSince t ∧
      s.holding = false ∧ s.pwr.wakes.contains n = false then
    .next ((s.setRegionState n 2).updRegion n (fun x => { x with cond := t }))
  else .next s

/-- REGION_RETAIN_ENTRY: the Doze condition has held for RETAIN_AFTER, and no wake request stands (00 R11); everything of the
cores is kept (R530). -/
def execRegionRetainEntry (r : Fin 192) (s : State) : Out :=
  let n := r.val
  if s.obj .regionState n = 2 ∧ s.obj .sleepDepth = 2 ∧ s.dozeCond n = true ∧
      1000 * s.obj .retainAfter ≤ s.countedSince (s.region16 n).cond ∧ s.holding = false ∧ (s.region16 n).latched = false ∧
      s.pwr.wakes.contains n = false then
    .next (s.setRegionState n 3)
  else .next s

/-- REGION_CMD is accepted (Table 16-8): 2 while no job runs or on a fenced die, 1 for an Off region of a die not fenced. -/
def State.regionCmdOk (s : State) (r v : Nat) : Bool :=
  let fenced := s.fencedDie == some (r / 4)
  if v = 2 then s.obj .regionState r != 4 && (!s.jobRuns || fenced)
  else v == 1 && s.obj .regionState r == 4 && !fenced && !s.pwr.darkDies.contains (r / 4)

/-- REGION_OFF: nothing of its cores is kept, no more than a signal that waited for their wake. -/
def execRegionOff (r : Fin 192) (s : State) : Out :=
  if s.regionCmdOk r.val 2 then
    let s := (coresOfRegion r.val).foldl (fun (t : State) k => resetCore k t) s
    let s := { s with pwr := { s.pwr with sigs := s.pwr.sigs.filter (fun g => regionOfCore g.core != r.val) } }
    .next (s.setRegionState r.val 4)
  else .next s

/-- REGION_ON: to Run; every core is reset with zero fill. -/
def execRegionOn (r : Fin 192) (s : State) : Out :=
  if s.regionCmdOk r.val 1 then
    let s := s.setRegionState r.val 0
    .next ((coresOfRegion r.val).foldl (fun (t : State) k =>
      (resetCore k t).zeroFillTier (sramMla k 0) (sramMla k 0 + 2 ^ 22)) s)
  else .next s

/-! ### Breath lending and boost (R532) -/

/-- The operating points of Table 16-9: clock in MHz and power in tenths of a watt. -/
def boostSteps : List (Nat × Nat) := [(1450, 1975), (1400, 1815), (1350, 1664), (1300, 1521), (1250, 1386), (1200, 1260)]

def Core.lends (c : Core) : Bool := c.lendSince.isSome

/-- A busy region: in Run, with a core that neither lends nor is Halted nor Stopped. -/
def State.busyRegion (s : State) (r : Nat) : Bool :=
  s.obj .regionState r == 0 && (coresOfRegion r).any (fun k =>
    let c := s.core k
    let off (x : Nat) : Bool := (c.ctx x).st == .halted || (c.ctx x).st == .stopped
    !c.lends && !(off 0 && off 1))

/-- What a region lends, in tenths of a watt. -/
def State.lent (s : State) (r : Nat) : Nat :=
  match s.obj .regionState r with
  | 2 => 1010
  | 3 => 1210
  | 4 => 1260
  | 1 => 16 * ((coresOfRegion r).filter (fun k => (s.core k).lends)).length
  | _ => if s.busyRegion r then 16 * ((coresOfRegion r).filter (fun k => (s.core k).lends)).length else 0

/-- The limit of R505 near EFF_CAP. -/
def State.nearCap (s : State) : Bool := decide (1000 * s.obj .effCap < s.pwr.inputMw + 1000000)

/-- LENDING_GRANT_UPDATE of die `d`: clocks rise by at most one step and fall at once. -/
def execLendingGrantUpdate (d : Fin 48) (s : State) : Out :=
  let rs := (List.range 4).map (fun i => d.val * 4 + i)
  let pool := (rs.map s.lent).sum
  let b := (rs.filter s.busyRegion).length
  let one (t : State) (r : Nat) : State :=
    let x := s.region16 r
    let noGrant := s.obj .boostEn == 0 || s.nearCap || x.withdrawn || !s.busyRegion r
    let f := if noGrant then 1200
      else ((boostSteps.find? (fun p => decide (p.2 * b ≤ 1260 * b + pool))).map (fun p => p.1)).getD 1200
    let f := min f x.maxF
    let cur := s.freq r
    if s.obj .regionState r ≠ 0 ∨ x.tripAt.isSome = true ∨ x.withdrawn = true then t
    else if cur < f then (if s.pwr.excess.isSome = true then t else t.setFreq r (cur + 50))
    else if f < cur then t.setFreq r f
    else t
  if s.holding ∨ s.pwr.gated.isEmpty = false then .next s else .next (rs.foldl one s)

/-! ### Temperature (R533, R534) -/

/-- A sensor reads inside -40 °C to 150 °C. -/
def sensorOk (m : Int) : Bool := decide (-40000 ≤ m) && decide (m ≤ 150000)

def maxInt (l : List Int) : Option Int :=
  l.foldl (fun a x => match a with | none => some x | some y => some (max x y)) none

/-- A cluster's readings enter its temperature; sensors outside the range are ignored and reported. -/
def State.readTemps (s : State) (d c : Nat) (rs : List Int) : State :=
  let bad := rs.zipIdx.filter (fun p => !sensorOk p.1)
  let s := bad.foldl (fun (t : State) (p : Int × Nat) =>
    let id := (d * 16 + c) * 4 + p.2
    if t.pwr.badTemp.contains id then t
    else ({ t with pwr := { t.pwr with badTemp := id :: t.pwr.badTemp } }).raiseAct 0x0906 p.2 0 (clusterLoc d c 3)) s
  match maxInt (rs.filter sensorOk) with
  | none => s
  | some m =>
    let i := d * 16 + c
    let s := s.updCluster i (fun x => { x with
      temp := m, hotSince := if 125000 < m then some (x.hotSince.getD s.gtc) else none })
    let s := s.setObj .clusterTemp (f32Ratio m 1000) d c
    let deg := (m / 1000).toNat
    let s := s.updLife d (fun x => if x.tmax < deg then { x with tmax := min 255 deg, tmaxCal := s.obj .cal } else x)
    let low := min 255 deg
    let s := if low < aget 255 s.hlth.periodTmin d then
        { s with hlth := { s.hlth with periodTmin := aset 255 s.hlth.periodTmin d low } } else s
    let k := d * 32 + c
    if aget 0 s.hlth.periodTmax k < min 255 deg then
      { s with hlth := { s.hlth with periodTmax := aset 0 s.hlth.periodTmax k (min 255 deg) } } else s

/-- The throttle law for one cluster. -/
def State.throttle (s : State) (i : Nat) : State :=
  let x := s.cluster i
  let lim : Int := 1000 * (s.obj .tLimit : Int)
  let cap := if lim < x.temp then max (x.cap - 50) 600
    else if x.temp < lim - 3000 ∧ x.capAt + 1000000 ≤ s.gtc then min (x.cap + 50) 1450
    else x.cap
  if cap = x.cap then s else (s.updCluster i (fun y => { y with cap := cap, capAt := s.gtc })).settleThrottle i

/-- THROTTLE_UPDATE of die `d`: the readings of its 64 sensors in m°C, four for each cluster. -/
def execThrottleUpdate (d : Fin 48) (readings : List Int) (s : State) : Out :=
  .next ((List.range 16).foldl (fun (t : State) c =>
    (t.readTemps d.val c ((readings.drop (4 * c)).take 4)).throttle (d.val * 16 + c)) s)

/-- THERMAL_CRITICAL_GATE: a sensor above 115 °C. -/
def execThermalCriticalGate (d : Fin 48) (c : Fin 16) (readings : List Int) (s : State) : Out :=
  let i := d.val * 16 + c.val
  let s := s.readTemps d.val c.val readings
  match maxInt (readings.filter sensorOk) with
  | none => .next s
  | some m =>
    if 115000 < m ∧ (s.cluster i).gated = false then
      .next ((s.updCluster i (fun x => { x with gated := true })).raiseAct 0x0904 (degC m) 0 (clusterLoc d.val c.val 3))
    else .next s

/-- THERMAL_UNGATE: every sensor of the cluster below 105 °C. -/
def execThermalUngate (d : Fin 48) (c : Fin 16) (readings : List Int) (s : State) : Out :=
  let i := d.val * 16 + c.val
  let s := s.readTemps d.val c.val readings
  if (s.cluster i).gated ∧ (readings.filter sensorOk).all (fun m => decide (m < 105000)) = true ∧ (readings.any sensorOk) = true then
    .next (s.updCluster i (fun x => { x with gated := false }))
  else .next s

/-- THERMAL_SHUTDOWN: a sensor above 125 °C for 100 µs: every compute die's rails go off; module-removing. -/
def execThermalShutdown (d : Fin 48) (c : Fin 16) (readings : List Int) (s : State) : Out :=
  let i := d.val * 16 + c.val
  let s := s.readTemps d.val c.val readings
  match (s.cluster i).hotSince with
  | none => .next s
  | some t =>
    if t + 100000 ≤ s.gtc then
      .next ((s.raiseAct 0x0905 (degC (s.cluster i).temp) 0 (clusterLoc d.val c.val 3)).railsOff)
    else .next s

/-! ### Coolant (R536, R537) -/

/-- The eight conditions of Table 16-11: four of Degraded, two of Severe, two of Lost; the sensors each needs, the state it
belongs to, and how long it must hold. -/
def coolState (i : Nat) : Nat := if i < 4 then 1 else if i < 6 then 2 else 3
def coolHold (i : Nat) : Nat := if i < 4 then 5000000000 else 1000000000
def coolNeeds (i : Nat) : List Nat := [[2], [0], [0, 1], [2, 3, 4], [2], [0], [2], [1]].getD i []

/-- Whether a condition holds: inlet and outlet in m°C, flow in mL/min, pressures in mbar. -/
def coolCond (i : Nat) (v : List Int) : Bool :=
  let x (k : Nat) : Int := v.getD k 0
  match i with
  | 0 => decide (x 2 < 48600)
  | 1 => decide (40000 < x 0)
  | 2 => decide (10000 < x 1 - x 0)
  | 3 => decide (20000 < x 2) && (decide (1600 < x 3 - x 4) || decide (x 3 - x 4 < 600))
  | 4 => decide (x 2 < 40000)
  | 5 => decide (45000 < x 0)
  | 6 => decide (x 2 < 20000)
  | _ => decide (60000 < x 1)

/-- The state's event (Table 16-11); Lost turns the compute rails off and removes the module. -/
def State.coolRise (s : State) (st : Nat) (flow : Word) : State :=
  let s := (s.setObj .coolingState st).updCaps
  match st with
  | 1 => s.raiseAct 0x0908 1 0 flow
  | 2 => s.raiseAct 0x0909 2 0 flow
  | _ => (s.raiseAct 0x090A 3 0 flow).railsOff

/-- COOLANT_SAMPLE: the five measurements, every 100 ms. -/
def execCoolantSample (v : List Int) (s : State) : Out :=
  let holds (i : Nat) : Bool := (coolNeeds i).all (fun k => !s.pwr.coolBad.contains k) && coolCond i v
  let on := (List.range 8).map (fun i => if holds i then some ((s.pwr.coolOn.getD i none).getD s.gtc) else none)
  let clear (st : Nat) : Bool := (List.range 8).all (fun i => coolState i != st || !holds i)
  let off := [1, 2, 3].map (fun st => if clear st then some ((s.pwr.coolOff.getD (st - 1) none).getD s.gtc) else none)
  let due := (List.range 8).filterMap (fun i => match on.getD i none with
    | some t => if t + coolHold i ≤ s.gtc then some (coolState i) else none
    | none => none)
  let top := due.foldl max 0
  let s := { s with pwr := { s.pwr with
    coolOn := on, coolOff := off, flow := if s.pwr.coolBad.contains 2 then s.pwr.flow else (v.getD 2 0).toNat } }
  let s := ((List.range 5).foldl (fun (t : State) k =>
    if t.pwr.coolBad.contains k then t else t.setObj .coolant (f32Ratio (v.getD k 0) 1000) 0 k) s)
  if s.obj .coolingState < top then .next (s.coolRise top (BitVec.ofNat 64 s.pwr.flow)) else .next s

/-- COOLING_RESTORED: every condition of the state has been clear for 60 s. The state falls to the highest one below it
that has not been clear for 60 s. -/
def execCoolingRestored (s : State) : Out :=
  let st := s.obj .coolingState
  let clear (k : Nat) : Bool := match s.pwr.coolOff.getD (k - 1) none with
    | some t => decide (t + 60000000000 ≤ s.gtc)
    | none => false
  if st = 0 ∨ clear st = false then .next s
  else
    let next := ([1, 2, 3].filter (fun k => decide (k < st) && !clear k)).foldl max 0
    let s := (s.setObj .coolingState next).updCaps
    .next (s.raiseAct 0x090B next 0 (BitVec.ofNat 64 s.pwr.flow))

/-- COOLANT_SENSOR_FAULT: sensor `k` is open or shorted. -/
def execCoolantSensorFault (k : Fin 5) (s : State) : Out :=
  if s.pwr.coolBad.contains k.val then .next s
  else
    let bad := k.val :: s.pwr.coolBad
    let s := { s with pwr := { s.pwr with coolBad := bad, limit20 := s.pwr.limit20 || (bad.contains 2 && bad.contains 1) } }
    let s := (s.setObj .coolant (s.obj .coolant 0 5 + 2 ^ k.val) 0 5).updCaps
    .next (s.raiseAct 0x0907 k.val 0 (moduleUnit 9))

end Sys2Proof.Machine
end

