-- ==== Sys2Proof/Machine/Clock.lean ====
section
/-! DEFINITION. Chapter 16: clocks, the global time counter and the calendar (R517 to R528). -/

namespace Sys2Proof.Machine

/-- PLL_LOCK_LOSS: a die loses its reference or its PLL lock; module-removing. -/
def execPllLockLoss (d : Fin 48) (s : State) : Out :=
  .next ((s.incObj .clockFaults d.val 0).raiseAct 0x0901 0 0 (dieUnit d.val 15 1023))

/-- DCO_LOCK_LOSS: a cluster's oscillator; its cores stop with cause 0x0C, and the fault is job-stopping. EXC_LOC names each
core, class 0x03 with no unit resolved (03 R78, log 74); the reported fault names the oscillator. -/
def execDcoLockLoss (d : Fin 48) (c : Fin 16) (s : State) : Out :=
  let loc := clusterLoc d.val c.val 2
  let s := (s.incObj .clockFaults d.val 1)
  let s := (List.range 16).foldl (fun (t : State) i => 
    let k := d.val * 256 + c.val * 16 + i
    t.takeCoreException k 0xC 0 (t.coreLoc k 31)) s
  .next (s.raiseAct 0x0902 0 0 loc)

/-- The residual offset of a die's copy: somewhere within 2 ns (R520); the draw is a free value. -/
def residualOf (n : Nat) : Int := ((Config.freeLane n).toNat % 5 : Nat) - (2 : Int)

/-- GTC_REFERENCE_EDGE: every copy advances by 10 ns × (1 + ρ); a step that waits is added; where each copy lies within its
bound is free (R520, R521). -/
def execGtcReferenceEdge (s : State) : Out :=
  let t := s.time
  let sum : Int := (t.frac : Int) + 10 * ((10 : Int) ^ 12 + t.rho)
  let base := s.draws
  let s : State := { s with
    gtc := (s.gtc + sum.toNat / 10 ^ 12) % 2 ^ 64, draws := s.draws + 48
    time := { t with frac := sum.toNat % 10 ^ 12, step := none, residual := (List.range 48).map (fun d => residualOf (base + d)) } }
  match t.step with
  | some d => .next (s.stepGtc d)
  | none => .next s

/-- GTC_STEP (Table 16-6): taken at the next edge while Starting or Idle; otherwise ignored and counted. The spec names no
counter for it. -/
def State.gtcStepWrite (s : State) (v : Nat) : State :=
  if s.obj .moduleState ≤ 1 then { s with time := { s.time with step := some (signed 64 v) } }
  else { s with time := { s.time with ignored := s.time.ignored + 1 } }

def execGtcStepWrite (v : Word) (s : State) : Out := .next (s.gtcStepWrite v.toNat)

/-! ### The calendar (R526, R527) -/

def calMod : Nat := 2 ^ 40

/-- The calendar at a number of ticks of 1/32,768 s since 1970. -/
def State.setCal (s : State) (n : Nat) : State :=
  let secs := n / 32768 % calMod
  let ticks := n % 32768
  let s : State := { s with time := { s.time with secs := secs, ticks := ticks } }
  s.setObj .cal (secs * 256 + ticks / 128)

def State.calTicks (s : State) : Nat := s.time.secs * 32768 + s.time.ticks

/-- CALENDAR_TICK: a value that waits is set; else the count goes on by one tick, by two or by none as the trim of
CAL_TRIM parts per billion asks for. -/
def execCalendarTick (s : State) : Out :=
  match s.time.calSet with
  | some v =>
    let s := s.setCal (v / 256 * 32768 + v % 256 * 128)
    .next ({ s with time := { s.time with calSet := none, trim := 0 } }.setObj .calValid 1)
  | none =>
    let acc := s.time.trim + signed 32 (s.obj .calTrim)
    let n := if 1000000000 ≤ acc then 2 else if acc ≤ -1000000000 then 0 else 1
    let acc := if 1000000000 ≤ acc then acc - 1000000000 else if acc ≤ -1000000000 then acc + 1000000000 else acc
    .next ({ s with time := { s.time with trim := acc } }.setCal (s.calTicks + n))

/-- CAL_WRITE: sets the clock at the next tick. -/
def execCalWrite (v : BitVec 48) (s : State) : Out := .next { s with time := { s.time with calSet := some v.toNat } }

/-- PTP_MESSAGE_RECEIVE (R528): the exchange gives the offset from the master in ns, the master's TAI in ns and its UTC
offset in s; `drift`, once measured over 1,000 s, the calendar's drift in parts per billion. -/
def execPtpMessageReceive (domain : BitVec 8) (offset : Int) (tai utc : Nat) (drift : Option Int) (s : State) : Out :=
  if s.obj .ptpEn ≠ 1 ∨ domain.toNat ≠ s.obj .ptpDomain then .next s
  else
    let since := if offset.natAbs ≤ 10000 then some (s.time.ptpSince.getD s.gtc) else none
    let s : State := { s with time := { s.time with ptpSince := since } }
    match since with
    | none => .next s
    | some t =>
      if s.gtc < t + 60000000000 then .next s
      else
        let s := s.setObj .ptpGtcOffset (wrap 64 ((tai : Int) - s.gtc))
        let want := (tai - utc * 1000000000) * 32768 / 1000000000
        let diff := ((want : Int) - s.calTicks).natAbs
        -- 1 ms is 32.768 ticks
        let s := if 32768 < diff * 1000 then (s.setCal want).setObj .calValid 1 else s
        match drift with
        | some p => .next (s.setRwp .calTrim (wrap 32 (max (-100000) (min 100000 p))))
        | none => .next s

end Sys2Proof.Machine
end

