-- ==== Sys2Proof/Machine/Boundary.lean ====
section
/-! DEFINITION. Chapters 15 and 21: the CAN FD, Ethernet, UART and debug ports (R492 to R495, R638 to R643). -/

namespace Sys2Proof.Machine

/-! ### CAN FD -/

def State.can (s : State) (b : Nat) : CanPort := aget CanPort.zero s.bnd.can b
def State.updCan (s : State) (b : Nat) (f : CanPort → CanPort) : State :=
  { s with bnd := { s.bnd with can := amod CanPort.zero s.bnd.can b f } }

/-- The module's node on a bus: CAN_NODE, by default 1 + X with X = 2 × tray + slot of the place in use (R494, Table 2-5);
an object that was never written holds 0. -/
def State.canNode (s : State) (b : Nat) : Nat :=
  let v := s.obj .canNode b
  if v = 0 then 1 + s.place % 8 else v

/-- The smallest permitted data length of a CAN FD frame. -/
def canLength (n : Nat) : Nat :=
  ((List.range 9 ++ [12, 16, 20, 24, 32, 48, 64]).find? (fun l => decide (n ≤ l))).getD 64

/-- The length of the PDU that a header states (R471). -/
def pduLength (h : List (BitVec 8)) : Nat := 16 + natAt h 12 2 + (if natAt h 10 2 = 0 then 0 else 16)

/-- The PDU of a frame: without the zero bytes after it, when the frame has the length that R492 gives. -/
def canPdu (data : List (BitVec 8)) : List (BitVec 8) :=
  let n := pduLength data
  if n ≤ data.length ∧ canLength n = data.length ∧ (data.drop n).all (fun b => b == 0) = true then data.take n else data

def canCounter (s : State) (b k : Nat) : State := s.incObj .canCounters b k

/-- CAN_FRAME_RECEIVE: `kind` 0 is an FD frame with an 11-bit identifier; 1 classical, 2 with 29 bits, 3 remote. -/
def execCanFrameReceive (bus : Fin 2) (kind : Fin 4) (id : BitVec 11) (data : List (BitVec 8)) (s : State) : Out :=
  let b := bus.val
  let func := id.toNat / 128
  let node := id.toNat % 128
  if s.obj .canEn b ≠ 1 ∨ (s.can b).busOff = true then .next s
  else if kind.val ≠ 0 ∨ (func ≠ 1 ∧ func ≠ 2 ∧ func ≠ 4 ∧ func ≠ 5) then .next (canCounter s b 4)
  else
    let s := canCounter s b 0
    if func = 5 then
      let pdu := canPdu data
      -- a request to every module is answered when it is a READ or DESCRIBE of area 0x00 with SID 0
      let all := decide (natAt pdu 10 2 = 0) && (natAt pdu 0 1 == 1 || natAt pdu 0 1 == 3) && natAt pdu 4 1 == 0
      if node = s.canNode b ∨ (node = 127 ∧ all = true) then .next (s.receivePdu (.can b (natAt pdu 7 1)) pdu) else .next s
    else if node = s.canNode b then
      let s := canCounter s b 5
      let recent := match (s.can b).conflict with | some t => decide (s.gtc < t + 1000000000) | none => false
      if recent then .next s
      else .next ((s.updCan b (fun c => { c with conflict := some s.gtc })).raiseAct 0x0705 b node (hubUnit (4 + b)))
    else .next s

/-- CAN_BUS_OFF: fault confinement takes the bus off. -/
def execCanBusOff (bus : Fin 2) (s : State) : Out :=
  let b := bus.val
  if (s.can b).busOff then .next s
  else .next (((canCounter s b 3).updCan b (fun c => { c with busOff := true })).raiseAct 0x0704 b 0 (hubUnit (4 + b)))

/-- CAN_BUS_OFF_RECOVERY. -/
def execCanBusOffRecovery (bus : Fin 2) (s : State) : Out := .next (s.updCan bus.val (fun c => { c with busOff := false }))

/-- A bit of CAN_PHY set or cleared; a finding that is new is counted. -/
def State.phyBit (s : State) (b i : Nat) (v : Bool) : State :=
  let old := s.obj .canPhy b
  s.setObj .canPhy (setBits old i 1 (b2n v)) b

def State.phyFound (s : State) (b i : Nat) : State :=
  if (s.obj .canPhy b).testBit i then s else (s.phyBit b i true).incObj .canPhyCounters b i

/-- CAN_LINE_MEASURE (Table 21-8a). -/
def execCanLineMeasure (bus : Fin 2) (m : CanMeasure) (s : State) : Out :=
  let b := bus.val
  let c := s.can b
  match m with
  | .levels h l =>
    let g := if h < 500 ∨ l < 500 then c.ground + 1 else 0
    let v := if 5500 < h ∨ 5500 < l then c.supply + 1 else 0
    let clean := if g = 0 ∧ v = 0 then c.clean + 1 else 0
    let s := s.updCan b (fun x => { x with ground := min g 3, supply := min v 3, clean := min clean 10 })
    let s := if 3 ≤ g then (s.phyFound b 0).phyBit b 4 true else s
    let s := if 3 ≤ v then (s.phyFound b 1).phyBit b 4 true else s
    if 10 ≤ clean then .next (((s.phyBit b 0 false).phyBit b 1 false).phyBit b 4 false) else .next s
  | .dominant mv =>
    let n := if 3300 < mv then c.term + 1 else 0
    let s := s.updCan b (fun x => { x with term := min n 16 })
    if 16 ≤ n then .next (s.phyFound b 2) else if n = 0 then .next (s.phyBit b 2 false) else .next s
  | .edge low high =>
    let n := if low < -900 ∧ high ≤ 900 then c.edges + 1 else 0
    if 8 ≤ n then
      let s := s.updCan b (fun x => { x with edges := 0, swapped := !x.swapped })
      if c.swapped then .next (s.phyBit b 3 false) else .next (s.phyFound b 3)
    else .next (s.updCan b (fun x => { x with edges := n }))

/-! ### Ethernet (R495, R639) -/

/-- UDP_DATAGRAM_RECEIVE: to UDP_PORT; a datagram above 1,232 bytes is discarded and counted. -/
def execUdpDatagramReceive (addr : BitVec 128) (sport dport : BitVec 16) (data : List (BitVec 8)) (s : State) : Out :=
  if (s.obj .ethState).testBit 1 = false ∨ dport.toNat ≠ s.obj .udpPort then .next s
  else if 1232 < data.length then .next { s with chb := { s.chb with oversize := s.chb.oversize + 1 } }
  else .next (s.receivePdu (.udp addr.toNat sport.toNat) data)

/-- The interface identifier of MAC by modified EUI-64. -/
def State.eui64 (s : State) : List (BitVec 8) :=
  let m := (leBytes 6 (s.obj .mac)).reverse
  ((m.take 1).map (fun b => b ^^^ 2)) ++ (m.drop 1).take 2 ++ [0xFF, 0xFE] ++ m.drop 3

/-- The addresses in use (R495): link-local, static ones with a prefix, SLAAC ones. -/
def State.ipv6 (s : State) : List (BitVec 8) :=
  let static (i : Nat) : List (BitVec 8) :=
    let b (k n : Nat) : List (BitVec 8) := (List.range n).map (fun j => BitVec.ofNat 8 (s.obj .ipv6Static 0 (20 * i + k + j)))
    if leNat (b 16 4) = 0 then [] else b 0 16
  [0xFE, 0x80, 0, 0, 0, 0, 0, 0] ++ s.eui64 ++ static 0 ++ static 1 ++ s.bnd.slaac.flatMap id

/-- ETH_LINK_CHANGE: the 1000BASE-T link comes up, in full duplex alone, or goes down. -/
def execEthLinkChange (up : Bool) (s : State) : Out := .next (s.setObj .ethState (if up then 3 else 0))

/-- SLAAC_ADDRESS_ACQUIRE: while SLAAC is 1, an advertised 64-bit prefix gives an address, or its address is dropped. -/
def execSlaacAddressAcquire (pfx : BitVec 64) (drop : Bool) (s : State) : Out :=
  let a := (leBytes 8 pfx.toNat).reverse ++ s.eui64
  let rest := s.bnd.slaac.filter (fun x => x != a)
  if s.obj .slaac ≠ 1 ∨ (s.obj .ethState).testBit 1 = false then .next s
  else .next { s with bnd := { s.bnd with slaac := if drop then rest else rest ++ [a] } }

/-! ### The UART (R641 to R643) -/

def majority3 (a b c : Bool) : Bool := (a && b) || (a && c) || (b && c)

/-- UART_RX holds the last 256 bytes received, oldest first. -/
def State.uartRxPush (s : State) (b : BitVec 8) : State :=
  let old := (List.range 256).map (fun j => s.obj .uartRx 0 j)
  let t := (List.range 255).foldl (fun (t : State) j => t.setObj .uartRx (old.getD (j + 1) 0) 0 j) s
  t.setObj .uartRx b.toNat 0 255

/-- The MMC takes `n` bytes out of the FIFO. -/
def State.uartTake (s : State) (n : Nat) : State :=
  let t := (s.bnd.fifo.take n).foldl (fun (t : State) b => t.uartRxPush b) s
  { t with bnd := { t.bnd with fifo := t.bnd.fifo.drop n } }

/-- The rate of both directions: UART_BAUD, and 115,200 Bd while the boot ROM runs and until the end of C1 (R641). -/
def State.baud (s : State) : Nat :=
  if s.obj .recovery = 1 ∨ (s.obj .moduleState = 0 ∧ s.obj .startPhase ≤ 1) then 115200 else s.obj .uartBaud

/-- UART_FRAME_RECEIVE: the samples of a frame, three for each of bits 0 to 9 (bit 3k + j: sample j of bit k); `early` says
that a falling edge came after the last sample of bit 8 and before the 9/16 instant, so that the stop bit reads low; `taken`
bytes have left the FIFO since the last frame. Counts: 1 received, 2 framing errors, 3 breaks, 4 glitches, 5 overruns. -/
def execUartFrameReceive (samples : BitVec 30) (early : Bool) (taken : Nat) (s : State) : Out :=
  let s := s.uartTake taken
  let s : State := { s with bnd := { s.bnd with rxBaud := s.baud } }
  let bit (k : Nat) : Bool := majority3 (samples.getLsbD (3 * k)) (samples.getLsbD (3 * k + 1)) (samples.getLsbD (3 * k + 2))
  if bit 0 then .next (s.incObj .uartCounters 0 4)
  else
    let v := ((List.range 8).map (fun i => if bit (i + 1) then 2 ^ i else 0)).sum
    let stop := !early && bit 9
    let low := !early && !samples.getLsbD 27 && !samples.getLsbD 28 && !samples.getLsbD 29
    -- a break is a framing error too (R643)
    let s := if stop then s else s.incObj .uartCounters 0 2
    let s := if !stop && low && v == 0 then s.incObj .uartCounters 0 3 else s
    let s := s.incObj .uartCounters 0 1
    if s.bnd.fifo.length < 256 then .next { s with bnd := { s.bnd with fifo := s.bnd.fifo ++ [BitVec.ofNat 8 v] } }
    else .next (s.incObj .uartCounters 0 5)

/-- UART_FRAME_SEND: one byte of the console output. -/
def execUartFrameSend (b : BitVec 8) (s : State) : Out :=
  .next ({ s with bnd := { s.bnd with txBaud := s.baud, console := b :: s.bnd.console } }.incObj .uartCounters 0 0)

/-- UART_BAUD_WRITE: within 9,600 to 3,000,000; each direction takes it at its next frame. -/
def execUartBaudWrite (v : BitVec 32) (s : State) : Out :=
  if 9600 ≤ v.toNat ∧ v.toNat ≤ 3000000 then .next (s.setRwp .uartBaud v.toNat) else .next s

/-! ### The TAP (R640) -/

/-- The state after a rising TCK edge (IEEE 1149.1): 0 Test-Logic-Reset, 1 Run-Test/Idle, 2 Select-DR, 3 Capture-DR,
4 Shift-DR, 5 Exit1-DR, 6 Pause-DR, 7 Exit2-DR, 8 Update-DR, 9 to 15 the same for IR. -/
def tapNext (st : Nat) (tms : Bool) : Nat :=
  let p : Nat × Nat := [(1, 0), (1, 2), (3, 9), (4, 5), (4, 5), (6, 8), (6, 7), (4, 8), (1, 2), (10, 0), (11, 12), (11, 12), (13, 15),
    (13, 14), (11, 15), (1, 2)].getD st (0, 0)
  if tms then p.2 else p.1

/-- TAP_TCK_EDGE: an edge of TCK with TMS and TDI, or TRST# low. Every instruction selects the bypass register. What TDO
shows while an instruction is shifted is not given. -/
def execTapTckEdge (rising tms tdi trst : Bool) (s : State) : Out :=
  let b := s.bnd
  if trst = false then .next { s with bnd := { b with tap := 0 } }
  else if rising then
    let by' := if b.tap = 3 then false else if b.tap = 4 then tdi else b.bypass
    .next { s with bnd := { b with tap := tapNext b.tap tms, bypass := by' } }
  else if b.tap = 4 then .next { s with bnd := { b with tdo := b.bypass } }
  else if b.tap = 11 then
    let d := s.draw
    .next { d.2 with bnd := { b with tdo := (Config.freeLane d.1).getLsbD 0 } }
  else .next s

end Sys2Proof.Machine
end

