-- ==== Sys2Proof/Machine/Branch.lean ====
section
/-! DEFINITION. The branches, opcodes 0x40 to 0x44 (Table 6-8, R164, R180): absolute targets, no delay slot. -/

namespace Sys2Proof.Machine

/-- The byte offset of the next word (R164: the pc wraps). -/
def State.nextOff (s : State) (c : CtxId) : Word :=
  BitVec.ofNat 64 (((s.ctx c.key c.ctx.val).pc + 1).toNat * 8)

/-- J: branches. -/
def execJ (c : CtxId) (w : Low56) (s : State) : Out :=
  issue c w false (fun _ => namedOnly [(18, 0)] w) (fun _ => false) (fun s => .jump s (fTarget w)) s

/-- JAL: rd = byte offset of the next word; branches. -/
def execJal (c : CtxId) (w : Low56) (s : State) : Out :=
  issue c w false (fun _ => namedOnly [(51, 47), (18, 0)] w) (waitsOn c [.g (fRd w)])
    (fun s => .jump (s.setG c (fRd w) ⟨s.nextOff c, false⟩) (fTarget w)) s

/-- A register target: bits [21:3]; bits [2:0] must be zero (cause 0x03), bits above 21 are ignored. -/
def regTarget (c : CtxId) (s : State) (r : Nat) (go : Pc → Body) : Body :=
  let a := s.g c r
  if a.poison then poisonUse s c 0
  else if a.val.toNat % 8 ≠ 0 then .trap s 3 0 0 (globalHere (sramMla c.key (a.val.toNat % 2 ^ 22))) 0
  else go (BitVec.ofNat 19 (bitsOf a.val.toNat 21 3))

/-- JR: branches to g[ra]. -/
def execJr (c : CtxId) (w : Low56) (s : State) : Out :=
  issue c w false (fun _ => namedOnly [(46, 42)] w) (waitsOn c [.g (fRa w)])
    (fun s => regTarget c s (fRa w) (fun pc => .jump s pc)) s

/-- JALR: as JR; rd = byte offset of the next word, ra read first. -/
def execJalr (c : CtxId) (w : Low56) (s : State) : Out :=
  issue c w false (fun _ => namedOnly [(51, 42)] w) (waitsOn c [.g (fRd w), .g (fRa w)])
    (fun s => regTarget c s (fRa w) (fun pc => .jump (s.setG c (fRd w) ⟨s.nextOff c, false⟩) pc)) s

/-- BC: branches when cond(g[ra], g[rb]) holds; cond 0 to 9. -/
def execBc (c : CtxId) (w : Low56) (s : State) : Out :=
  issue c w false (fun _ => namedOnly [(46, 33), (18, 0)] w && decide (fCondB w ≤ 9))
    (waitsOn c [.g (fRa w), .g (fRb w)])
    (fun s =>
      let a := s.g c (fRa w)
      let b := s.g c (fRb w)
      if a.poison || b.poison then poisonUse s c 0
      else if (intCond 64 (fCondB w) a.val.toNat b.val.toNat).getD false then .jump s (fTarget w)
      else .done s) s

end Sys2Proof.Machine
end

