-- ==== Sys2Proof/Machine/Health.lean ====
section
/-! DEFINITION. Chapter 18: records, the ring, the lifetime summary (R570 to R582), and the layouts in which they are read. -/

namespace Sys2Proof.Machine

/-- Bytes packed into 64-bit words, the last padded with zero. -/
def packWords (bs : List (BitVec 8)) : List Nat :=
  (List.range ((bs.length + 7) / 8)).map (fun i => leNat ((bs.drop (8 * i)).take 8))

/-! ### Records (R570, R571) -/

/-- Bytes of a record: a header of 48 and the body, in whole units of 16. -/
def Rec.size (r : Rec) : Nat := 48 + (8 * r.body.length + 15) / 16 * 16

def Rec.seq (r : Rec) : Nat := r.startNo * 2 ^ 32 + r.index

/-- A record as it stands in flash (Table 18-3). -/
def Rec.bytes (r : Rec) : List (BitVec 8) :=
  let head (crc : Nat) : List (BitVec 8) :=
    leBytes 8 (0x48E1 * 2 ^ 48 + r.kind % 256 * 2 ^ 40 + r.die % 64 * 2 ^ 34 + r.size / 16 % 65536 * 65536 + 1) ++
    leBytes 8 r.seq ++ leBytes 8 r.gtc ++ leBytes 8 (b2n r.calv * 2 ^ 48 + r.cal % 2 ^ 48) ++
    leBytes 8 (r.startNo * 2 ^ 32) ++ leBytes 8 crc
  let body := fitTo 0 (r.size - 48) (r.body.flatMap (leBytes 8))
  head (crc32c (head 0 ++ body)) ++ body

/-- A record queued for the ring with the next RSEQ of this start. -/
def State.queueRec (s : State) (kind die : Nat) (body : List Nat) : State :=
  let r : Rec := ⟨kind, die, s.obj .startNo, s.hlth.nextIndex, s.gtc, s.obj .calValid == 1, s.obj .cal, body, 0, false⟩
  { s with hlth := { s.hlth with queue := s.hlth.queue ++ [r], nextIndex := s.hlth.nextIndex + 1 } }

/-! ### Counters since a moment -/

/-- The objects that periods and lifetime values count. -/
def isCounted (key : Nat) : Bool :=
  [Obj.throttleTime, .boostTime, .regionTime, .droopCount, .ocCount, .portCounters, .laneCorr, .retryTotals, .energy].any
    (fun o => key / 65536 / 1024 == o.info.code)

/-- A counter at this moment, the part of a time that has not ended included. -/
def State.countNow (s : State) (o : Obj) (i j : Nat) : Nat :=
  match o with
  | .regionTime => s.regionTimeNow i j
  | .throttleTime => s.throttleNow i j
  | .boostTime => s.boostNow i
  | _ => s.obj o i j

/-- Every counter at this moment, by object key. -/
def State.countedObjs (s : State) : List (Nat × Nat) :=
  let put (m : List (Nat × Nat)) (o : Obj) (i j : Nat) : List (Nat × Nat) := aset 0 m (o.key i j) (s.countNow o i j)
  let m := s.objs.filter (fun e => isCounted e.1)
  let m := (List.range 192).foldl (fun m r => put m .regionTime r (s.obj .regionState r)) m
  let m := s.pwr.clusters.foldl (fun m e => if e.2.slowAt.isSome then put m .throttleTime (e.1 / 16) (e.1 % 16) else m) m
  s.pwr.regions.foldl (fun m e => if e.2.boostAt.isSome then put m .boostTime e.1 0 else m) m

/-- What element `j` of an object has gained over a base. -/
def State.gain (s : State) (base : List (Nat × Nat)) (o : Obj) (i j : Nat) : Nat := s.countNow o i j - aget 0 base (o.key i j)

/-- The end of a die's powered time: now, or when its rails went off; never on in this start where that is not known. -/
def State.poweredTo (s : State) (d : Nat) : Nat :=
  if s.pwr.darkDies.contains d then
    (match s.pwr.darkAt.find? (fun e => e.1 == d) with | some e => e.2 | none => 0)
  else s.gtc

def gainSum (s : State) (base : List (Nat × Nat)) (o : Obj) (is js : List Nat) : Nat :=
  (is.flatMap (fun i => js.map (fun j => s.gain base o i j))).sum

/-- The live lifetime values of a die (48 hub) at this moment (R573). -/
def State.liveLife (s : State) (d : Nat) : Life :=
  let x := s.lifeOf d
  let base := s.hlth.lifeBase
  let r16 := List.range 16
  { x with
    powered := x.powered + (s.poweredTo d - s.hlth.lifeAt)
    energy := if d = 48 then x.energy + s.gain base .energy 0 0 else x.energy
    throttle := if d = 48 then 0 else x.throttle + gainSum s base .throttleTime [d] r16
    boost := if d = 48 then 0 else x.boost + gainSum s base .boostTime ((List.range 4).map (fun i => d * 4 + i)) [0]
    fec := if d = 48 then 0 else x.fec + gainSum s base .laneCorr [d] r16
    degrades := if d = 48 then 0 else min 65535 (x.degrades + s.gain base .portCounters d 8)
    lockLosses := if d = 48 then 0 else min 65535 (x.lockLosses + s.gain base .portCounters d 7) }

/-- The live values of every die become the stored ones. -/
def State.settleLives (s : State) : State :=
  let lives := (List.range 49).foldl (fun (m : List (Nat × Life)) d => aset Life.zero m d (s.liveLife d)) s.hlth.life
  { s with hlth := { s.hlth with life := lives, lifeAt := s.gtc, lifeBase := s.countedObjs } }

/-! ### Error records (R572) -/

def State.errTable (s : State) (d : Nat) : List ErrEntry := aget [] s.hlth.exact d ++ aget [] s.hlth.coarse d

/-- An entry (Table 18-2) as words. -/
def ErrEntry.words (e : ErrEntry) : List Nat :=
  let c (k : Nat) : Nat := e.c.getD k 0
  [e.loc.toNat, e.src + c 0 * 2 ^ 32, c 1 + c 2 * 2 ^ 32, c 3, e.first, e.last]

/-- ERROR_TABLE of a die: 1,024 entries of 48 bytes, unused ones zero. -/
def State.errorTable (s : State) (d : Nat) : List (BitVec 8) :=
  let part (l : List ErrEntry) (n : Nat) : List (BitVec 8) := fitTo 0 (48 * n) ((l.flatMap ErrEntry.words).flatMap (leBytes 8))
  part (aget [] s.hlth.exact d) 960 ++ part (aget [] s.hlth.coarse d) 64

/-- Records of at most 64 entries each (Table 18-7). -/
def errBodies (ovf : Nat) : Nat → List ErrEntry → List (List Nat)
  | 0, _ => []
  | _, [] => []
  | fuel + 1, es =>
    let a := es.take 64
    ((a.length + ovf * 2 ^ 32) :: 0 :: a.flatMap ErrEntry.words) :: errBodies ovf fuel (es.drop 64)

/-- The changed entries of a die are written. -/
def State.flushErrors (s : State) (d : Nat) : State :=
  let es := (s.errTable d).filter (fun e => e.changed)
  let s := (errBodies (s.obj .errorOvf d) 16 es).foldl (fun (t : State) b => t.queueRec 4 d b) s
  let clear (l : List ErrEntry) : List ErrEntry := l.map (fun e => { e with changed := false })
  { s with hlth := { s.hlth with
      exact := amod [] s.hlth.exact d clear, coarse := amod [] s.hlth.coarse d clear
      due := s.hlth.due.filter (fun x => x != d) } }

/-- ERRORS_FLUSH: dies with a lasting count, and after FLUSH_S every die with a changed entry. -/
def execErrorsFlush (s : State) : Out :=
  if s.hlth.lastFlush + s.obj .flushS * 1000000000 ≤ s.gtc then
    let s := (List.range 49).foldl (fun (t : State) d => t.flushErrors d) s
    .next { s with hlth := { s.hlth with lastFlush := s.gtc } }
  else .next ((List.range 49).foldl (fun (t : State) d => if t.hlth.due.contains d then t.flushErrors d else t) s)

/-! ### Periods (Tables 18-5, 18-6) -/

/-- A field of `n` bytes that saturates. -/
def satBytes (n v : Nat) : List (BitVec 8) := leBytes n (min v (2 ^ (8 * n) - 1))

/-- A measured value that no command brings: a free value (log 15). -/
def State.measure (s : State) (o : Obj) (i : Nat) : Nat × State :=
  let d := s.draw
  ((Config.measured o.info.code i d.1).toNat, d.2)

def State.periodBody (s : State) (d energy : Nat) : List Nat :=
  let base := s.hlth.periodBase
  let powered := s.poweredTo d - s.hlth.periodStart
  if d = 48 then packWords (leBytes 8 powered ++ leBytes 8 energy) ++ List.replicate 22 0
  else
    let g (o : Obj) (i j : Nat) : Nat := s.gain base o i j
    let r4 := (List.range 4).map (fun i => d * 4 + i)
    let r16 := List.range 16
    let temps := r16.map (fun c => (s.cluster (d * 16 + c)).temp)
    let mean : Int := temps.foldl (fun a b => a + b) 0 / 16
    packWords (leBytes 8 powered ++ leBytes 8 energy ++
      r16.map (fun c => BitVec.ofNat 8 (aget 0 s.hlth.periodTmax (d * 32 + c))) ++
      [BitVec.ofNat 8 (aget 255 s.hlth.periodTmin d), BitVec.ofNat 8 (degC mean)] ++ List.replicate 6 0 ++
      r16.flatMap (fun c => satBytes 4 (g .throttleTime d c / 1000)) ++
      r4.flatMap (fun r => satBytes 4 (g .boostTime r 0 / 1000)) ++
      r4.flatMap (fun r => satBytes 4 (g .regionTime r 2 / 1000000)) ++
      r4.flatMap (fun r => satBytes 4 ((g .regionTime r 3 + g .regionTime r 4) / 1000000)) ++
      r4.flatMap (fun r => satBytes 4 (g .droopCount r 0)) ++
      r4.flatMap (fun r => satBytes 2 (g .ocCount r 0) ++ satBytes 2 (g .ocCount r 1)) ++
      (List.range 4).flatMap (fun i => leBytes 2 (aget 65535 s.hlth.periodVmin (d * 32 + i))))

/-- The power readings of a lane in 0.01 dBm: -32,768 while the port's role is Off, else measured, a free value. -/
def State.lanePower (s : State) (d k n : Nat) : Nat :=
  if s.obj .portRole d = 0 then 0x8000 else (Config.measured Obj.laneOptics.info.code (d * 32 + k) n).toNat % 65536

def State.lanesBody (s : State) (d : Nat) : List Nat :=
  let base := s.hlth.periodBase
  let p := s.port d
  let cnt (k : Nat) : Nat := s.gain base .portCounters d k
  packWords ([BitVec.ofNat 8 p.mode, BitVec.ofNat 8 p.st] ++ List.replicate 6 0 ++
    (List.range 16).flatMap (fun l => satBytes 4 (s.gain base .laneCorr d l)) ++
    (List.range 32).flatMap (fun k => leBytes 2 (s.lanePower d k s.draws)) ++
    satBytes 4 (cnt 2) ++ satBytes 4 (cnt 3) ++ satBytes 4 (cnt 6) ++ satBytes 2 (cnt 7) ++ satBytes 2 (cnt 8) ++
    (List.range 16).flatMap (fun k =>
      let a := aget D2dLane.zero s.fab.d2d (d * 16 + k)
      let b := aget D2dLane.zero s.hlth.periodD2d (d * 16 + k)
      satBytes 2 (a.trans - b.trans) ++ satBytes 2 (a.last - b.last)) ++ List.replicate 8 0)

def State.retryBody (s : State) : List Nat :=
  packWords ((List.range 64).flatMap (fun k => satBytes 4 (s.gain s.hlth.periodBase .retryTotals 0 k)))

/-- A period begins. -/
def State.beginPeriod (s : State) : State :=
  { s with hlth := { s.hlth with
      periodStart := s.gtc, periodLen := s.obj .periodS, periodBase := s.countedObjs, periodD2d := s.fab.d2d,
      periodTmax := [], periodVmin := [], periodTmin := [] } }

/-- PERIOD, LANES and RETRY records of the open period; the energy of a die is its rails' telemetry, a free value. -/
def State.closePeriod (s : State) : State :=
  let s := s.settleLives
  let s := (List.range 48).foldl (fun (t : State) d =>
    let m := t.measure .dieRails d
    (m.2.updLife d (fun x => { x with energy := x.energy + m.1 })).queueRec 2 d (m.2.periodBody d m.1)) s
  let s := s.queueRec 2 48 (s.periodBody 48 (s.gain s.hlth.periodBase .energy 0 0))
  let s := (List.range 48).foldl (fun (t : State) d => (t.queueRec 3 d (t.lanesBody d)).draw.2) s
  (s.queueRec 7 63 s.retryBody).beginPeriod

/-- PERIOD_END: the period's length is that of its beginning (R582). -/
def execPeriodEnd (s : State) : Out :=
  if s.hlth.periodStart + s.hlth.periodLen * 1000000000 ≤ s.gtc then .next s.closePeriod else .next s

/-- HEALTH_FLUSH: 1 writes every changed entry and closes the period. -/
def execHealthFlush (v : BitVec 8) (s : State) : Out :=
  if v = 1 then
    let s := (List.range 49).foldl (fun (t : State) d => t.flushErrors d) s
    .next s.closePeriod
  else .next s

/-! ### The summary (R573, R574) -/

/-- The four VMIN_EVER records of a die, 32 bytes each. -/
def State.vminBytes (s : State) (d : Nat) : List Nat :=
  if d = 48 then [] else (List.range 4).flatMap (fun i => (List.range 32).map (fun j => s.obj .vminEver (d * 4 + i) j))

/-- Physical cores of a die that are fenced now. -/
def State.fencedCores (s : State) (d : Nat) : Nat :=
  if d = 48 then 0 else if s.fencedDie = some d then 272
  else ((aget [] s.boot.factory d ++ aget [] s.boot.field d).filter (fun e => bitsOf (e.getD 1 0) 63 56 == 3)).length

/-- A snapshot of a die is written in its next slot; after the last one, none is. -/
def State.snapshot (s : State) (d : Nat) : State :=
  let n := s.obj .summarySlots d
  if 16384 ≤ n then s
  else
    let s := s.settleLives
    let x : Snap := ⟨s.obj .startNo * 2 ^ 32 + s.hlth.nextIndex, s.gtc, s.obj .calValid == 1, s.obj .cal, s.lifeOf d,
      s.fencedCores d, s.vminBytes d⟩
    let s := { s with hlth := { s.hlth with
      snaps := amod [] s.hlth.snaps d (fun l => l ++ [x]), nextIndex := s.hlth.nextIndex + 1 } }
    let s := s.setObj .summarySlots (n + 1) d
    if n + 1 = 16384 then s.raiseAct 0x0A04 0 0 (BitVec.ofNat 64 d) else s

/-- The powered time at the newest snapshot. -/
def State.lastPowered (s : State) (d : Nat) : Nat := ((aget [] s.hlth.snaps d).getLast?.map (fun x => x.life.powered)).getD 0

/-- SUMMARY_SNAPSHOT: after 24 h of the die's powered time, 30 days while 1,024 or fewer slots remain. -/
def execSummarySnapshot (d : Fin 49) (s : State) : Out :=
  let left := 16384 - s.obj .summarySlots d.val
  let hours := if left ≤ 1024 then 720 else 24
  if s.lastPowered d.val + hours * 3600000000000 ≤ (s.liveLife d.val).powered then .next (s.snapshot d.val) else .next s

/-- VMIN_FLASH_COPY: new VMIN_EVER records of a die reach flash, each with a VMIN record, at most one snapshot in 10 s. -/
def execVminFlashCopy (d : Fin 48) (s : State) : Out :=
  let due := s.pwr.vminDue.filter (fun r => r / 4 == d.val)
  let last := aget 0 s.hlth.vminSnap d.val
  if due.isEmpty ∨ (last ≠ 0 ∧ s.gtc < last - 1 + 10000000000) then .next s
  else
    let s := due.foldl (fun (t : State) r =>
      t.queueRec 5 d.val (r % 4 :: 0 :: packWords ((List.range 32).map (fun j => BitVec.ofNat 8 (t.obj .vminEver r j))))) s
    let s := s.snapshot d.val
    .next { s with
      hlth := { s.hlth with vminSnap := aset 0 s.hlth.vminSnap d.val (s.gtc + 1) }
      pwr := { s.pwr with vminDue := s.pwr.vminDue.filter (fun r => r / 4 != d.val) } }

/-- HEALTH_SUMMARY: the live values in the layout of Table 18-8. -/
def State.summary (s : State) (d : Nat) : List (BitVec 8) :=
  let x := s.liveLife d
  let seq := ((aget [] s.hlth.snaps d).getLast?.map (fun y => y.rseq)).getD 0
  let u4 (l : List Nat) : List (BitVec 8) := l.flatMap (satBytes 4)
  let vm (i : Nat) : List (BitVec 8) :=
    let b (j : Nat) : BitVec 8 := BitVec.ofNat 8 (s.obj .vminEver (d * 4 + i) j)
    -- word 0 of Table 16-3 from its highest field down, then CAL
    [b 6, b 7, b 4, b 5, b 3, b 2, b 1, b 0, b 16, b 17, b 18, b 19, b 20, b 21, BitVec.ofNat 8 (s.obj .calValid), 0]
  let body := leBytes 8 x.powered ++ leBytes 8 x.energy ++ u4 [x.cold, x.warm, if d = 48 then x.bh else 0] ++
    satBytes 2 (s.fencedCores d) ++ [0, 0] ++ leBytes 8 x.throttle ++ leBytes 8 x.boost ++ [BitVec.ofNat 8 x.tmax, 0] ++
    leBytes 6 x.tmaxCal ++ u4 x.eccLocal ++ u4 x.eccStack ++ leBytes 8 x.fec ++ u4 x.felun ++ u4 x.d2d ++
    satBytes 2 x.degrades ++ satBytes 2 x.lockLosses ++ x.nt.flatMap (satBytes 2) ++ x.marginMin.map (BitVec.ofNat 8) ++
    [0, 0, 0, 0] ++ (if d = 48 then List.replicate 64 0 else (List.range 4).flatMap vm) ++ List.replicate 16 0
  let r : Rec := ⟨0x80, d, seq / 2 ^ 32, seq % 2 ^ 32, s.gtc, s.obj .calValid == 1, s.obj .cal, packWords body, 0, false⟩
  r.bytes

/-! ### The ring (R576 to R578) -/

/-- The next block of the ring that is not retired. -/
def nextBlock (retired : List Nat) : Nat → Nat → Nat
  | 0, b => (b + 1) % 4096
  | fuel + 1, b => if retired.contains ((b + 1) % 4096) then nextBlock retired fuel ((b + 1) % 4096) else (b + 1) % 4096

/-- A block is retired: its records are gone with its first bytes, it is counted under SRC 12 (C2) and reported. -/
def State.retireBlock (s : State) (b : Nat) : State :=
  (({ s with hlth := { s.hlth with
      retired := b :: s.hlth.retired, ring := s.hlth.ring.filter (fun x => x.block != b) } }).countErr (hubUnit 7) 12 2).raiseAct
    0x0A05 0 0 (BitVec.ofNat 64 b)

/-- The next block opens, and the oldest records are erased so that two erased blocks lie ahead; `erases` is how many times
that erase failed. A block that fails two erases is retired, and the one after it is erased in its place. -/
def State.openNext (s : State) (erases : Nat) : State :=
  let nb (b : Nat) : Nat := nextBlock s.hlth.retired 4096 b
  let o := nb s.hlth.openBlock
  let e := nb (nb o)
  let erase (t : State) (b : Nat) : State := { t with hlth := { t.hlth with ring := t.hlth.ring.filter (fun r => r.block != b) } }
  let s := erase { s with hlth := { s.hlth with openBlock := o, openUsed := 0 } } e
  if 2 ≤ erases then (erase s (nb e)).retireBlock e else s

/-- A record that does not fit in the open block, its last 128 bytes apart, opens the next. -/
def State.roomFor (s : State) (n erases : Nat) : State := if 65536 - 128 < s.hlth.openUsed + n then s.openNext erases else s

/-- RING_RECORD_WRITE: the record that waits first is written and read back; `ok1` and `ok2` are the read-backs of the first
and second write, `erases` the failed erases of a block. Stamps are of this moment (R580). -/
def execRingRecordWrite (ok1 ok2 : Bool) (erases : Nat) (s : State) : Out :=
  match s.hlth.queue with
  | [] => .next s
  | r :: rest =>
    let n := r.size
    let s := ({ s with hlth := { s.hlth with queue := rest } }).roomFor n erases
    let r := if r.fixed then r else { r with gtc := s.gtc, calv := s.obj .calValid == 1, cal := s.obj .cal }
    let put (t : State) (good : Bool) : State :=
      let h := t.hlth
      { t with hlth := { h with
          openUsed := h.openUsed + n, ring := if good then h.ring ++ [{ r with block := h.openBlock }] else h.ring } }
    if ok1 then .next (put s true)
    else
      let s := (put s false).roomFor n erases
      let loc := hubUnit 7
      if ok2 then .next ((put s true).countErr loc 12 0)
      else
        let b := s.hlth.openBlock
        let s := (put s false).countErr loc 12 1
        .next ({ s with hlth := { s.hlth with openUsed := 65536 } }.retireBlock b)

/-- FAULT_RECORD_WRITE: the event body of a job-stopping or module-removing event. -/
def execFaultRecordWrite (s : State) : Out :=
  match s.hlth.faults with
  | [] => .next s
  | e :: rest =>
    let die := if e.data.getLsbD 63 then bitsOf e.data.toNat 57 52 else 63
    .next (({ s with hlth := { s.hlth with faults := rest } }).queueRec 9 die (packWords e.bytes))

/-- HEALTH_RANGE. -/
def State.healthRange (s : State) : List Nat :=
  let l := s.hlth.ring
  [(l.head?.map Rec.seq).getD 0, (l.getLast?.map Rec.seq).getD 0, (l.head?.map (fun r => r.startNo)).getD 0, s.hlth.retired.length]

/-- Whole records from `left` bytes on that fit. -/
def viewFrom : Nat → List Rec → List (BitVec 8)
  | _, [] => []
  | left, r :: rest => if r.size ≤ left then r.bytes ++ viewFrom (left - r.size) rest else []

/-- HEALTH_VIEW: 1 MiB of the records whose RSEQ is at least HEALTH_VIEW_SEQ. -/
def State.healthView (s : State) : List (BitVec 8) :=
  fitTo 0 1048576 (viewFrom 1048576 (s.hlth.ring.filter (fun r => decide (s.obj .healthViewSeq ≤ r.seq))))

/-! ### Faults (19 R595) -/

/-- FENCE_DIE may take a value: none, or a die other than 0 that raised no die-clock event and ends no lane that is down
since cold start. -/
def State.fenceOk (s : State) (v : Nat) : Bool :=
  let st := s.obj .moduleState
  let lane (d : Nat) : Bool := s.hlth.lostLinks.any (fun e => e.1 == d || d2dPeer e.1 e.2 == some d)
  (st == 1 || st == 5) && (v == 255 || (decide (1 ≤ v ∧ v ≤ 47) && s.obj .clockFaults v 0 == 0 && !lane v))

/-- FENCE_DIE_WRITE: it takes effect at the next cold start. -/
def execFenceDieWrite (v : BitVec 8) (s : State) : Out :=
  if s.fenceOk v.toNat then .next (s.setRwp .fenceDie v.toNat) else .next s

end Sys2Proof.Machine
end

