-- ==== Sys2Proof/Machine/Firmware.lean ====
section
/-! DEFINITION. Chapter 20: bundles and their check, slots and commits, delivery, the chain, activation, settings copies
(R605 to R626); the fuses' security version. -/

namespace Sys2Proof.Machine

/-! ### Settings copies (R623) -/

/-- The newest of copies A and B. -/
def Fw.newest (f : Fw) : Option Settings :=
  match f.copyA, f.copyB with
  | some a, some b => if a.seq < b.seq then some b else some a
  | some a, none => some a
  | none, b => b

/-- A new copy takes the place of the older of A and B. -/
def Fw.putCopy (f : Fw) (c : Settings) : Fw :=
  match f.copyA, f.copyB with
  | some a, some b => if a.seq < b.seq then { f with copyA := some c } else { f with copyB := some c }
  | some _, none => { f with copyB := some c }
  | none, _ => { f with copyA := some c }

/-- RWP_PERSIST: the values that wait go into flash (15 R468). -/
def State.persist (s : State) : State :=
  if s.chb.unsaved.isEmpty then s
  else
    let old := s.fw.newest.getD ⟨s.obj .setv, 0, [], []⟩
    let val (k : Nat) : Nat := s.keyVal k
    let keep (k : Nat) : Bool := !s.chb.unsaved.contains k
    let vals := old.vals.filter (fun e => keep e.1) ++ s.chb.unsaved.map (fun k => (k, val k))
    let blobs := old.blobs.filter (fun e => keep e.1) ++ s.chb.blobs.filter (fun e => s.chb.unsaved.contains e.1)
    { s with
      fw := s.fw.putCopy ⟨s.obj .setv, old.seq + 1, vals, blobs⟩
      chb := { s.chb with unsaved := [] } }

def execRwpPersist (s : State) : Out := .next s.persist

/-! ### Commit records (R563, R613) -/

/-- `a` is the later of two sequence numbers in serial order. -/
def serialLater (a b : Nat) : Bool := let d := (a + 2 ^ 32 - b % 2 ^ 32) % 2 ^ 32; decide (1 ≤ d ∧ d ≤ 2 ^ 31 - 1)

def Fw.newestCommit (f : Fw) : Option Commit :=
  match f.recA, f.recB with
  | some a, some b => if serialLater b.seq a.seq then some b else some a
  | some a, none => some a
  | none, b => b

def Fw.olderCommit (f : Fw) : Option Commit :=
  match f.recA, f.recB with
  | some a, some b => if serialLater b.seq a.seq then some a else some b
  | _, _ => none

/-- The slot that the newest commit record does not name. -/
def Fw.inactive (f : Fw) : Nat := match f.newestCommit with | some c => 1 - c.slot | none => 0

def Fw.slot (f : Fw) (n : Nat) : List (BitVec 8) := if n = 0 then f.slot0 else f.slot1
def Fw.setSlot (f : Fw) (n : Nat) (b : List (BitVec 8)) : Fw := if n = 0 then { f with slot0 := b } else { f with slot1 := b }

/-! ### The bundle (R605, R606) -/

/-- A key or signature record: algorithm, root slot, bytes. -/
structure SigRec where
  alg : Nat
  slot : Nat
  data : List (BitVec 8)
  deriving DecidableEq, Repr

/-- The fixed length of a record's bytes. -/
def recLen (sig : Bool) (alg : Nat) : Nat := if sig then (if alg = 1 then 96 else 4627) else (if alg = 1 then 97 else 2592)

/-- One record from the front: it and what follows, none where it is malformed. -/
def parseRec (sig : Bool) (bs : List (BitVec 8)) : Option (SigRec × List (BitVec 8)) :=
  let alg := natAt bs 0 1
  let slot := natAt bs 1 1
  let n := natAt bs 2 2
  let pad := (n + 7) / 8 * 8
  if (alg = 1 ∨ alg = 2) ∧ slot < 4 ∧ n = recLen sig alg ∧ natAt bs 4 4 = 0 ∧ 8 + pad ≤ bs.length ∧
      natAt bs (8 + n) (pad - n) = 0 then
    some (⟨alg, slot, (bs.drop 8).take n⟩, bs.drop (8 + pad))
  else none

/-- `n` records; what follows them. -/
def parseRecs (sig : Bool) : Nat → List (BitVec 8) → Option (List SigRec × List (BitVec 8))
  | 0, bs => some ([], bs)
  | n + 1, bs =>
    match parseRec sig bs with
    | none => none
    | some (r, rest) => (parseRecs sig n rest).map (fun p => (r :: p.1, p.2))

/-- Records until the bytes end. -/
def parseAll (sig : Bool) : Nat → List (BitVec 8) → Option (List SigRec)
  | _, [] => some []
  | 0, _ => none
  | n + 1, bs =>
    match parseRec sig bs with
    | none => none
    | some (r, rest) => (parseAll sig n rest).map (fun l => r :: l)

/-- Fields of a manifest (Table 20-2). -/
def mVersion (b : List (BitVec 8)) : Nat := natAt b 8 4
def mSvn (b : List (BitVec 8)) : Nat := natAt b 20 1
def mSetv (b : List (BitVec 8)) : Nat := natAt b 24 2
def mSetvFrom (b : List (BitVec 8)) : Nat := natAt b 26 2
def mBlocks (b : List (BitVec 8)) : Nat := natAt b 28 2
def mRevoke (b : List (BitVec 8)) : Nat := natAt b 30 1
def mProvision (b : List (BitVec 8)) : Nat := natAt b 31 1
def mLen (b : List (BitVec 8)) : Nat := 512 + 48 * mBlocks b + natAt b 40 4

/-- DIGEST. -/
def mDigest (b : List (BitVec 8)) : List (BitVec 8) := Config.sha384 (b.take (mLen b))

def mKeys (b : List (BitVec 8)) : Option (List SigRec) :=
  let n := natAt b 40 4
  parseAll false (n / 8 + 1) ((b.drop (512 + 48 * mBlocks b)).take n)

/-- The signature section: its records, and SLEN. -/
def mSigs (b : List (BitVec 8)) : Option (List SigRec × Nat) :=
  let sec := b.drop (mLen b)
  let n := natAt sec 0 1
  if 1 ≤ n ∧ n ≤ 4 ∧ natAt sec 1 7 = 0 then
    (parseRecs true n (sec.drop 8)).map (fun p => (p.1, sec.length - p.2.length))
  else none

def ceil64k (n : Nat) : Nat := (n + 65535) / 65536

/-- The manifest's own fields are as R605 gives. -/
def headerOk (b : List (BitVec 8)) : Bool :=
  let mmc := natAt b 32 4
  let die := natAt b 36 4
  b.length == 65536 && natAt b 0 4 == 0xB7A1F048 && natAt b 4 2 == 1 && natAt b 6 2 == 0 && natAt b 44 4 == 0 &&
  natAt b 112 400 == 0 && decide (mSvn b ≤ 64) && decide (mRevoke b < 16) && (decide (mProvision b < 4) || mProvision b == 255) &&
  decide (1 ≤ mmc ∧ mmc ≤ 8388608) && decide (1 ≤ die ∧ die ≤ 25165824) && mBlocks b == ceil64k mmc + ceil64k die &&
  decide (2 ≤ mBlocks b ∧ mBlocks b ≤ 512) && natAt b 40 4 % 8 == 0 && decide (mLen b ≤ 65536)

/-- Condition 0x01 of Table 20-4: what the two sections hold, none where the bundle is malformed. -/
def manifest (b : List (BitVec 8)) : Option (List SigRec × List SigRec) :=
  if headerOk b then
    match mKeys b, mSigs b with
    | some ks, some (ss, slen) =>
      if mLen b + slen ≤ 65536 ∧ natAt b (mLen b + slen) (65536 - mLen b - slen) = 0 then some (ks, ss) else none
    | _, _ => none
  else none

def twice (l : List SigRec) : Bool :=
  l.zipIdx.any (fun p => l.zipIdx.any (fun q => decide (p.2 < q.2) && p.1.alg == q.1.alg && p.1.slot == q.1.slot))

def Root.digest (r : Root) (alg : Nat) : List (BitVec 8) := if alg = 1 then r.ecdsa else r.mldsa

/-- The key of a record, where the bundle carries one that hashes to its slot's fused digest (R608). -/
def Fw.keyOf (f : Fw) (ks : List SigRec) (alg slot : Nat) : Option (List (BitVec 8)) :=
  let r := f.roots.getD slot ⟨0, [], []⟩
  if r.st ≠ 1 then none
  else (ks.find? (fun k => k.alg == alg && k.slot == slot && Config.sha384 k.data == r.digest alg)).map (fun k => k.data)

/-- PROVISION and REVOKE are permitted (R610). -/
def Fw.rootsOk (f : Fw) (b : List (BitVec 8)) (ks ss : List SigRec) : Bool :=
  let p := mProvision b
  let has (alg : Nat) : Bool := ks.any (fun k => k.alg == alg && k.slot == p)
  (p == 255 || ((f.roots.getD p ⟨0, [], []⟩).st == 0 && has 1 && has 2 && !ss.any (fun x => x.slot == p))) &&
  !ss.any (fun x => (mRevoke b).testBit x.slot)

/-- S: blown bits of the security version (R611). -/
def Fw.svn (f : Fw) : Nat := popCount 64 f.fuses

/-- The stored settings can be loaded or migrated by an image (R623). -/
def Fw.settingsOk (f : Fw) (setv from_ : Nat) : Bool :=
  match f.newest with
  | none => true
  | some c =>
    c.setv == setv || (decide (from_ ≤ c.setv ∧ c.setv < setv)) ||
    (decide (setv < c.setv) && (match f.copyP with | some p => p.setv == setv | none => false))

/-- The module's own identity allows the bundle (reason 0x02). -/
def State.fitsModule (s : State) (b : List (BitVec 8)) : Bool :=
  let step (i : Nat) : Bool := decide (natAt b 22 1 ≤ s.obj .dieStep i ∧ s.obj .dieStep i ≤ natAt b 23 1)
  (b.drop 48).take 64 == fitTo 0 64 (strBytes "EXH-X48-A") && decide (natAt b 21 1 ≤ s.obj .hwRev) && (List.range 49).all step

/-- The first reason of 0x01 to 0x08 that holds, 0 for none (Table 20-4, R607). -/
def State.authority (s : State) (b : List (BitVec 8)) : Nat :=
  match manifest b with
  | none => 1
  | some (ks, ss) =>
    if s.fitsModule b = false then 2
    else if !ss.any (fun x => x.alg == 1) || !ss.any (fun x => x.alg == 2) || twice ss then 3
    else if ss.any (fun x => (s.fw.keyOf ks x.alg x.slot).isNone) then 4
    else if ss.any (fun x => !Config.verifies x.alg ((s.fw.keyOf ks x.alg x.slot).getD []) (mDigest b) x.data) then 5
    else if mSvn b < s.fw.svn then 6
    else if s.fw.rootsOk b ks ss = false then 7
    else if s.fw.settingsOk (mSetv b) (mSetvFrom b) = false then 8
    else 0

/-- Block `k` of a stored bundle agrees with its entry. -/
def blockOk (b : List (BitVec 8)) (k : Nat) (data : List (BitVec 8)) : Bool :=
  Config.sha384 data == (b.drop (512 + 48 * k)).take 48

def blockAt (slot : List (BitVec 8)) (k : Nat) : List (BitVec 8) := (slot.drop (65536 * (k + 1))).take 65536

/-- The whole check of a slot's copy: reasons 0x01 to 0x08, then every block (0x09). -/
def State.slotReason (s : State) (slot : List (BitVec 8)) : Nat :=
  let b := slot.take 65536
  let r := s.authority b
  if r ≠ 0 then r
  else if (List.range (mBlocks b)).all (fun k => (blockAt slot k).length == 65536 && blockOk b k (blockAt slot k)) then 0 else 9

/-- ACCEPT_SLOTS of an accepted bundle (R609). -/
def acceptSlots (b : List (BitVec 8)) : Nat :=
  match manifest b with
  | none => 0
  | some (_, ss) =>
    let bit (x : SigRec) : Nat := 2 ^ (x.slot + (if x.alg = 1 then 0 else 4))
    ss.foldl (fun a x => Nat.lor a (bit x)) 0

/-! ### Delivery (R614) -/

/-- FW_COUNTERS: 0 staged, 1 refused, 2 chains forwarded, 3 and 4 chain retries transient and lasting, 5 and 6 block
mismatches transient and lasting, 7 activations. -/
def State.countFw (s : State) (k : Nat) : State := s.incObj .fwCounters 0 k

/-- A bundle is refused for a reason. -/
def State.refuseBundle (s : State) (version reason : Nat) : State :=
  (s.countFw 1).raiseAct 0x0B02 reason 0 (BitVec.ofNat 64 version)

/-- The delivery ends without a bundle: Empty, with the reason where there is one. -/
def State.dropDelivery (s : State) (reason : Nat) : State :=
  { s with fw := { s.fw with delivery := none, stage := 0, reason := if reason = 0 then s.fw.reason else reason } }

/-- What a run of words does to a delivery. -/
inductive Delivered where
  /-- it goes on; the next word wanted is at byte `next`. -/
  | more (s : State) (next : Nat)
  /-- SEG_ABORT ends it with a status. -/
  | abort (s : State) (status : Nat)

/-- The next unit of a delivery, complete in hub SRAM: the authority words, or a block. -/
def State.takeUnit (s : State) (d : Delivery) : Delivered :=
  let put (t : State) (e : Delivery) : State := { t with fw := { t.fw with delivery := some e } }
  if d.passed = false then
    let n := if d.chain then 16 else 0
    let head := d.buf.take n
    let b := (d.buf.drop n).take 65536
    let bad := d.chain && natAt head 0 4 != 0xC4A14E48
    let reason := if bad then 1 else s.authority b
    if reason ≠ 0 then .abort ((s.dropDelivery reason).refuseBundle (if manifest b = none then 0 else mVersion b) reason) 0x18
    else
      let e := { d with buf := d.buf.drop (n + 65536), header := head, passed := true, auth := b }
      let s := { s with fw := { s.fw.setSlot s.fw.inactive b with blocks := 0 } }
      .more (put s e) d.got
  else
    let data := d.buf.take 65536
    if blockOk d.auth d.blocks data then
      let f := s.fw.setSlot s.fw.inactive (s.fw.slot s.fw.inactive ++ data)
      let s := { s with fw := { f with blocks := d.blocks + 1 } }
      let s := if d.again then (s.countFw 5).countErr (hubUnit 7) 10 0 else s
      .more (put s { d with buf := d.buf.drop 65536, blocks := d.blocks + 1, again := false }) d.got
    else if d.again then
      let s := (s.countFw 6).countErr (hubUnit 7) 10 1
      .abort ((s.dropDelivery 9).refuseBundle (mVersion d.auth) 9) 0x1C
    else
      -- the block is asked for again from its first word
      let back := (if d.chain then 16 else 0) + 65536 * (d.blocks + 1)
      .more (put s { d with buf := [], got := back, again := true }) back

/-- Units are taken while a whole one stands in hub SRAM. -/
def deliverUnits : Nat → Nat → State → Delivered
  | 0, next, s => .more s next
  | fuel + 1, next, s =>
    match s.fw.delivery with
    | none => .more s next
    | some d =>
      let want := if d.passed then 65536 else 65536 + (if d.chain then 16 else 0)
      if want ≤ d.buf.length then
        match s.takeUnit d with
        | .more t n => deliverUnits fuel n t
        | r => r
      else .more s d.got

/-- Words of a delivery that arrived in order. -/
def State.deliverBytes (s : State) (bs : List (BitVec 8)) : Delivered :=
  match s.fw.delivery with
  | none => .abort s 0x1A
  | some d =>
    deliverUnits 4 0 { s with fw := { s.fw with delivery := some { d with buf := d.buf ++ bs, got := d.got + bs.length } } }

/-- The value's bytes as received: chain header and stored bundle. -/
def State.deliveredBytes (s : State) : List (BitVec 8) :=
  match s.fw.delivery with
  | some d => d.header ++ s.fw.slot s.fw.inactive
  | none => []

/-- SEG_END with a matching CRC: the bundle is Staged when every block has arrived (R614 step 4). A chain it came by is
held for forwarding (R617). -/
def State.stageDelivery (s : State) (crc : Nat) : State × Nat :=
  match s.fw.delivery with
  | none => (s, 0x1A)
  | some d =>
    if d.passed ∧ d.blocks = mBlocks d.auth ∧ d.buf.isEmpty then
      let port := if d.chain then d.port else 0xFFFF
      let s := { s with fw := { s.fw with delivery := none, stage := 2, reason := 0 } }
      let s := (s.countFw 0).raiseAct 0x0B01 (if d.chain then 2 else 1) port (BitVec.ofNat 64 (mVersion d.auth))
      let s := match s.fw.chain with
        | some c => { s with fw := { s.fw with chain := some { c with crc := crc } } }
        | none => s
      (s, 0)
    else (s.dropDelivery 1, 0x18)

/-- STAGED_REREAD: within 2 s of C8 the inactive slot is checked, once in a start (R615). -/
def execStagedReread (s : State) : Out :=
  if s.obj .startPhase = 9 ∧ s.fw.delivery = none ∧ s.fw.reread = false then
    let slot := s.fw.slot s.fw.inactive
    let r := if slot.isEmpty then 1 else s.slotReason slot
    .next { s with fw := { s.fw with
      stage := if r = 0 then 2 else 0, blocks := if r = 0 then mBlocks slot else 0, reread := true } }
  else .next s

/-! ### The chain (R616 to R618) -/

/-- The state after zero bytes in the CRC's shift register. -/
def crcZeros (n r : Nat) : Nat := (List.range (8 * n)).foldl (fun r _ => crc32Bit r false) r

/-- The CRC-32C of `a` followed by a string of `n` bytes whose CRC-32C is `cb`. -/
def crcJoin (a : List (BitVec 8)) (n cb : Nat) : Nat :=
  let m := 0xFFFFFFFF
  Nat.xor cb (Nat.xor (crcZeros n (Nat.xor (crc32c a) m)) (crcZeros n m))

def Chain.header (c : Chain) : List (BitVec 8) := leBytes 4 0xC4A14E48 ++ leBytes 4 c.origin ++ leBytes 4 c.id ++ leBytes 4 0

/-- The verified bytes of the chain value that this module can send. -/
def State.chainBytes (s : State) : List (BitVec 8) :=
  match s.fw.chain with
  | none => []
  | some c => if s.fw.stage = 0 then [] else c.header ++ s.fw.slot s.fw.inactive

/-- CHAIN_CMD 1 is refused while the place is not valid, or nothing is Receiving or Staged. -/
def State.chainCmdOk (s : State) (v : Nat) : Bool :=
  if v = 1 then s.obj .placeValid == 1 && s.fw.stage != 0 else v == 2

/-- CHAIN_ORIGIN: this module becomes the origin. While an upload is in progress, length and CRC come from its SEG_INIT. -/
def State.chainOrigin (s : State) : State :=
  let up := s.chb.transfers.find? (fun (t : Transfer) => t.write && t.obj.1 == 0x60 && t.obj.2.1 == 0x10)
  let id := s.gtc % 2 ^ 32
  let c0 : Chain := ⟨s.place, id, none, 0, 0⟩
  let slot := s.fw.slot s.fw.inactive
  let p := match s.fw.stage, up with
    | 1, some t => (4 + t.stop, crcJoin c0.header (4 * t.stop) t.crc)
    | _, _ => (4 + slot.length / 4, crc32c (c0.header ++ slot))
  { s with fw := { s.fw with chain := some { c0 with nwords := p.1, crc := p.2 }, forwards := [] } }

def execChainOrigin (s : State) : Out := if s.chainCmdOk 1 then .next s.chainOrigin else .next s

/-- CHAIN_STOP: forwarding stops. -/
def State.chainStop (s : State) : State := { s with fw := { s.fw with chain := none, forwards := [] } }

def execChainStop (s : State) : Out := .next s.chainStop

def State.forward (s : State) (axis : Nat) : Forward := s.fw.forwards.getD axis Forward.zero

def State.setForward (s : State) (axis : Nat) (f : Forward) : State :=
  let l := fitTo Forward.zero 3 s.fw.forwards
  { s with fw := { s.fw with forwards := l.set axis f } }

/-- Own coordinate on an axis, the origin's, and the axis's size. -/
def State.axisCoords (s : State) (axis place : Nat) : Option (Nat × Nat × Nat) :=
  match axis with
  | 0 => some (coordX s.place, coordX place, 8)
  | 1 => some (coordY s.place, coordY place, 32)
  | _ => match s.coordZ s.place, s.coordZ place with
    | some a, some b => some (a, b, s.obj .nz)
    | _, _ => none

/-- Whether the chain is forwarded on an axis here (R617). -/
def State.covers (s : State) (c : Chain) (axis : Nat) : Bool :=
  (match c.axis with | none => true | some a => decide (axis ≤ a)) &&
  (match s.axisCoords axis c.origin with
   | some (own, org, n) => decide (0 < n) && (own + 1) % n != org
   | none => false)

/-- A request of the forwarding MMC, with SID 0, on BUNDLE_CHAIN. -/
def chainPdu (svc status tid : Nat) (body : List (BitVec 8)) : List (BitVec 8) :=
  pduHeader svc status tid (0x60, 0x11, 0) 0 0 body.length 0 ++ body

def State.chainInit (s : State) (c : Chain) (n tid : Nat) : State :=
  s.sendMgmt n (chainPdu 4 0 tid (leBytes 1 1 ++ leBytes 1 16 ++ leBytes 2 0 ++ leBytes 4 0 ++ leBytes 4 c.nwords ++ leBytes 4 c.crc))

/-- Words in one block over VC5 with SID 0 (Table 15-7). -/
def chainBlock : Nat := 1051

/-- CHAIN_FORWARD: on a covered axis a transfer begins, or goes on with the words that are verified, within its window. -/
def execChainForward (axis : Fin 3) (s : State) : Out :=
  let a := axis.val
  match s.fw.chain with
  | none => .next s
  | some c =>
    let f := s.forward a
    if s.fw.stage = 0 ∨ s.covers c a = false then .next s
    else if f.st = 0 then
      match (s.roleGroup (2 + 2 * a) 6).head? with
      | none => .next s
      | some n =>
        let tid := s.nextId % 65536
        let t := (s.fresh.2.chainInit c n tid).setForward a { Forward.zero with
          st := 1, port := n, tid := tid, triedAt := s.gtc, progressAt := s.gtc }
        .next t
    else if f.st = 1 ∧ f.opened then
      let have_ := s.chainBytes.length / 4
      let lim := min (min have_ c.nwords) (f.words + 16 * chainBlock)
      let upto := min lim (f.sent + chainBlock)
      if f.sent < upto then
        let bs := (s.chainBytes.drop (4 * f.sent)).take (4 * (upto - f.sent))
        .next ((s.sendMgmt f.port (chainPdu 5 0 f.tid (leBytes 4 f.sent ++ bs))).setForward a { f with
          sent := upto, sentAt := s.gtc })
      else .next s
    else .next s

/-- A failure of the chain on an axis counts as lasting (R618). -/
def State.chainFail (s : State) (axis : Nat) : State :=
  let f := s.forward axis
  ((s.setForward axis { f with st := 3, opened := false }).countFw 4).raiseAct 0x0B03 axis f.port
    (BitVec.ofNat 64 ((s.port f.port).peerPlace % 2 ^ 24))

/-- CHAIN_RETRY: a transfer that the peer found busy is asked for again every 1 s, for up to 60 s. -/
def execChainRetry (axis : Fin 3) (s : State) : Out :=
  let a := axis.val
  let f := s.forward a
  match s.fw.chain, f.busy with
  | some c, some t0 =>
    if f.st ≠ 1 then .next s
    else if t0 + 60000000000 ≤ s.gtc then .next (s.chainFail a)
    else if f.triedAt + 1000000000 ≤ s.gtc then
      .next ((s.chainInit c f.port f.tid).setForward a { f with triedAt := s.gtc })
    else .next s
  | _, _ => .next s

/-- A transfer on an axis ends with a status (R618). -/
def State.chainEnd (s : State) (axis status : Nat) : State :=
  let f := s.forward axis
  match s.fw.chain with
  | none => s
  | some c =>
    if status = 0 then
      let s := (s.setForward axis { f with st := 2, opened := false }).countFw 2
      if f.again then s.countFw 3 else s
    else if (status = 0x1B ∨ status = 0x1C) ∧ f.again = false then
      let tid := s.nextId % 65536
      (s.fresh.2.chainInit c f.port tid).setForward axis { f with
        tid := tid, words := 0, sent := 0, busy := none, again := true, opened := false, triedAt := s.gtc, progressAt := s.gtc }
    else if f.again then s.chainFail axis
    else s.setForward axis { f with st := 3, opened := false }

/-- An answer of the peer's MMC to this module's forwarding; `none` where the PDU is no such answer. -/
def State.chainAnswer (s : State) (n : Nat) (pdu : List (BitVec 8)) : Option State :=
  let svc := natAt pdu 0 1
  let status := natAt pdu 1 1
  let tid := natAt pdu 2 2
  match (List.range 3).find? (fun a => (s.forward a).st == 1 && (s.forward a).port == n && (s.forward a).tid == tid) with
  | none => none
  | some a =>
    let f := s.forward a
    match svc with
    | 0x84 =>
      if status = 0 then some (s.setForward a { f with opened := true, busy := none, progressAt := s.gtc })
      else if status = 0x17 then some (s.setForward a { f with busy := some (f.busy.getD s.gtc) })
      else some (s.chainEnd a status)
    | 0x06 =>
      let next := natAt pdu 16 4
      -- NEXT below what was acknowledged asks for a block again
      some (s.setForward a { f with
        words := next, sent := if next < f.words then next else f.sent, progressAt := if f.words < next then s.gtc else f.progressAt })
    | 0x07 => some (s.chainEnd a status)
    | 0x08 => some (s.chainEnd a status)
    | _ => none

/-- The timers of R489 for a transfer that this module sends: without progress in NEXT it goes on from NEXT again, and after
4 × SEG_TIMEOUT it ends with 0x1B. -/
def State.forwardTimer (s : State) (axis : Nat) : State :=
  let f := s.forward axis
  let ms := 1000000 * s.obj .segTimeout
  if f.st ≠ 1 ∨ f.busy.isSome = true then s
  else if f.progressAt + 4 * ms ≤ s.gtc then (s.sendMgmt f.port (chainPdu 8 0x1B f.tid [])).chainEnd axis 0x1B
  else if f.words < f.sent ∧ max f.sentAt f.progressAt + ms ≤ s.gtc then s.setForward axis { f with sent := f.words, sentAt := s.gtc }
  else s

/-! ### Activation (R619, R620) -/

/-- ACTIVATE_CMD's refusals: 0x17 while another runs, 0x18 by its rules, 0 accepted. -/
def State.activateStatus (s : State) (v : Nat) : Nat :=
  let st := s.obj .moduleState
  if (st = 0 ∧ s.obj .recovery = 0) ∨ s.fw.delivery.isSome ∨ s.fw.active.isSome then 0x17
  else if s.fw.stage ≠ 2 ∨ (v = 2 ∧ st ≠ 1 ∧ st ≠ 5) then 0x18
  else if v = 1 ∨ v = 2 then 0 else 0x15

def State.activate (s : State) (v : Nat) : State :=
  if s.activateStatus v = 0 then
    ({ s with fw := { s.fw with active := some v } }).setObj .activateState (2 ^ 24)
  else s

def execActivateCommit (s : State) : Out := .next (s.activate 1)
def execActivateCommitWarm (s : State) : Out := .next (s.activate 2)

/-- ACTIVATION_VERIFY_DONE: the slot's copy is checked under every reason; it is committed, or refused. -/
def execActivationVerifyDone (s : State) : Out :=
  match s.fw.active with
  | none => .next s
  | some v =>
    let n := s.fw.inactive
    let slot := s.fw.slot n
    let r := s.slotReason slot
    let s := { s with fw := { s.fw with active := none } }
    if r ≠ 0 then
      let s := s.setObj .activateState (3 * 2 ^ 24 + r * 65536 + s.fw.blocks % 65536)
      .next ((s.refuseBundle (if manifest (slot.take 65536) = none then 0 else mVersion slot) r).endAct .activateCmd 0 0x1E)
    else
      let seq := ((match s.fw.newestCommit with | some c => c.seq | none => 0) + 1) % 2 ^ 32
      let c : Commit := ⟨n, seq, mVersion slot, mDigest slot, s.gtc⟩
      let inA := match s.fw.newestCommit with | some x => s.fw.recA != some x | none => true
      let f := if inA then { s.fw with recA := some c } else { s.fw with recB := some c }
      let s := { s with fw := { f with stage := 0 } }
      let s := ((s.setObj .activateState (2 * 2 ^ 24 + mBlocks slot % 65536)).setObj .commitSeq seq).countFw 7
      let s := (s.raiseAct 0x0B04 n (acceptSlots slot) (BitVec.ofNat 64 seq)).endAct .activateCmd 0 0
      .next (if v = 2 then { s with boot := { s.boot with due := some 1 } } else s)

/-! ### The security version (R611, R612) -/

/-- The raise toward an SVN: unblown bits in ascending order, each tried; `fails` are those that do not blow. Answers the
fuses and the bits that failed. -/
def raiseSvn (svn fails : Nat) : Nat → Nat → Nat → Nat → Nat × Nat
  | 0, _, fuses, failed => (fuses, failed)
  | fuel + 1, i, fuses, failed =>
    if svn ≤ popCount 64 fuses then (fuses, failed)
    else if fuses.testBit i then raiseSvn svn fails fuel (i + 1) fuses failed
    else if fails.testBit i then raiseSvn svn fails fuel (i + 1) fuses (failed + 2 ^ i)
    else raiseSvn svn fails fuel (i + 1) (fuses + 2 ^ i) failed

/-- The boot ROM raises the security version at a start that runs a bundle. -/
def State.bootSvn (s : State) (svn fails : Nat) : State :=
  let left (fuses failed : Nat) : Nat := 64 - popCount 64 fuses - popCount 64 failed
  if svn ≤ s.fw.svn then
    (s.setObj .svnFailed 0).setObj .svnLeft (left s.fw.fuses 0)
  else
    let fuses0 := s.fw.fuses
    let r := raiseSvn svn fails 64 0 fuses0 0
    let n := left r.1 r.2
    let s := { s with fw := { s.fw with fuses := r.1 } }
    let s := ((s.setObj .svnFailed r.2).setObj .svnLeft n).setObj .svnCount (popCount 64 r.1)
    let s := (List.range 64).foldl (fun (t : State) i =>
      if r.2.testBit i then t.raiseAct 0x0B0D 0 0 (BitVec.ofNat 64 i) else t) s
    let s := if r.1 = fuses0 then s else s.raiseAct 0x0B08 0 n (BitVec.ofNat 64 (popCount 64 r.1))
    if n ≤ 8 then s.raiseAct 0x0B09 0 n (BitVec.ofNat 64 (popCount 64 r.1)) else s

/-- Revocations, then provisioning, of the bundle that runs (R610, R613). -/
def State.bootRoots (s : State) (b : List (BitVec 8)) : State :=
  let rev := (List.range 4).filter (fun i => (mRevoke b).testBit i && (s.fw.roots.getD i ⟨0, [], []⟩).st != 2)
  let s := { s with fw := { s.fw with
    roots := s.fw.roots.zipIdx.map (fun p => if rev.contains p.2 then { p.1 with st := 2 } else p.1) } }
  let s := if rev.isEmpty then s
    else s.raiseAct 0x0B0A 0 0 (BitVec.ofNat 64 (rev.map (fun i => 2 ^ i)).sum)
  let p := mProvision b
  let key (alg : Nat) : List (BitVec 8) :=
    match (mKeys b).bind (fun ks => ks.find? (fun k => k.alg == alg && k.slot == p)) with
    | some k => Config.sha384 k.data
    | none => []
  if p < 4 ∧ (s.fw.roots.getD p ⟨0, [], []⟩).st = 0 then
    let s := { s with fw := { s.fw with roots := s.fw.roots.set p ⟨1, key 1, key 2⟩ } }
    s.raiseAct 0x0B0B 0 0 (BitVec.ofNat 64 p)
  else s

/-! ### What the objects show -/

/-- SLOT_INFO: a record of 64 bytes. -/
def State.slotInfo (s : State) (n : Nat) : List (BitVec 8) :=
  let slot := s.fw.slot n
  let r := s.slotReason slot
  if slot.isEmpty then List.replicate 64 0
  else leBytes 4 (mVersion slot) ++ leBytes 1 (mSvn slot) ++ leBytes 1 (if r = 0 then 1 else 2) ++ leBytes 2 (mSetv slot) ++
    fitTo 0 48 (mDigest slot) ++ leBytes 1 r ++ List.replicate 7 0

def State.stageState (s : State) : Nat := s.fw.stage * 2 ^ 24 + s.fw.reason % 256 * 65536 + s.fw.blocks % 65536

/-- CHAIN_STATE: three records of 16 bytes. -/
def State.chainState (s : State) : List (BitVec 8) :=
  (List.range 3).flatMap (fun a =>
    let f := s.forward a
    leBytes 1 f.port ++ leBytes 1 f.st ++ leBytes 4 (match s.fw.chain with | some c => c.id | none => 0) ++ leBytes 4 f.sent ++
      List.replicate 6 0)

def State.rootSlots (s : State) : List (BitVec 8) :=
  (fitTo ⟨0, [], []⟩ 4 s.fw.roots).flatMap (fun (r : Root) =>
    leBytes 1 r.st ++ List.replicate 7 0 ++ fitTo 0 48 r.ecdsa ++ fitTo 0 48 r.mldsa)

end Sys2Proof.Machine
end

