-- ==== Sys2Proof/Machine/Start.lean ====
section
/-! DEFINITION. Chapter 17: cold and warm start, phase by phase; the neighbour test and its votes; repair (R540 to R565). What
a start clears it clears at its beginning (log 33). -/

namespace Sys2Proof.Machine

/-! ### Defect maps (R556, R557) -/

/-- Every entry that holds for a die. -/
def State.defects (s : State) (d : Nat) : List (List Nat) :=
  aget [] s.boot.factory d ++ aget [] s.boot.field d ++ aget [] s.boot.temp d

def defLoc (e : List Nat) : Nat := e.getD 0 0
def defKind (e : List Nat) : Nat := bitsOf (e.getD 1 0) 63 56
def defSpare (e : List Nat) : Nat := bitsOf (e.getD 1 0) 47 40

/-- DEFECT_MAP of a die: factory entries, then field entries. -/
def State.defectMap (s : State) (d : Nat) : List Nat :=
  (aget [] s.boot.factory d ++ aget [] s.boot.field d).flatMap (fun e => fitTo 0 4 e)

/-- SPARES_USED of a die: columns and subarrays. -/
def State.sparesUsed (s : State) (d k : Nat) : Nat := ((s.defects d).filter (fun e => defKind e == k + 1)).length

/-- A new entry: in the field part while it has room, else for this start only, with a map-full event. -/
def State.addDefect (s : State) (d : Nat) (loc : Word) (kind source spare : Nat) : State :=
  let e := [loc.toNat, kind * 2 ^ 56 + source * 2 ^ 48 + spare * 2 ^ 40, s.gtc, s.obj .calValid * 2 ^ 48 + s.obj .cal % 2 ^ 48]
  if (aget [] s.boot.field d).length < 768 then
    { s with boot := { s.boot with field := amod [] s.boot.field d (fun l => l ++ [e]) } }
  else
    let first := (aget [] s.boot.temp d).isEmpty
    let s := { s with boot := { s.boot with temp := amod [] s.boot.temp d (fun l => l ++ [e]) } }
    if first then s.raiseAct 0x0A03 0 0 (dieUnit d 7 1023) else s

/-- Physical cores of a die that its map fences. -/
def State.fencedIn (s : State) (d : Nat) : List Nat :=
  ((s.defects d).filter (fun e => defKind e == 3)).foldl (fun (l : List Nat) e =>
    let p := bitsOf (defLoc e) 51 43
    if l.contains p then l else l ++ [p]) []

/-- A die is found unusable; the first reason stands. -/
def State.badDie (s : State) (d reason : Nat) (loc : Word) (phase : Nat) : State :=
  if s.boot.bad.any (fun (b : BadDie) => b.die == d) then s
  else { s with boot := { s.boot with bad := s.boot.bad ++ [⟨d, reason, loc, phase⟩] } }

/-! ### Repair (R558 to R561) -/

def State.fencePcore (s : State) (d p : Nat) (loc : Word) (source : Nat) : State :=
  if (s.fencedIn d).contains p then s else s.addDefect d loc 3 source 255

/-- A local SRAM column: the lowest unused spare of its subarray, or its core is fenced. -/
def State.spareColumn (s : State) (l : Word) (source : Nat) : State :=
  let n := l.toNat
  let d := bitsOf n 57 52
  let used := (s.defects d).filter (fun e => defKind e == 1 && bitsOf (defLoc e) 57 32 == bitsOf n 57 32)
  if bitsOf n 31 22 = 1023 then s.fencePcore d (bitsOf n 51 43) l source
  else if used.any (fun e => bitsOf (defLoc e) 31 22 == bitsOf n 31 22) then s
  else
    match (List.range 8).find? (fun k => !used.any (fun e => defSpare e == k)) with
    | some k => s.addDefect d l 1 source k
    | none => s.fencePcore d (bitsOf n 51 43) l source

/-- A stacked-tier subarray: its bank's spare subarray; a second one makes the die unusable. -/
def State.spareSubarray (s : State) (l : Word) (source phase : Nat) : State :=
  let n := l.toNat
  let d := bitsOf n 57 52
  let used := (s.defects d).filter (fun e => defKind e == 2 && bitsOf (defLoc e) 57 38 == bitsOf n 57 38)
  if used.any (fun e => bitsOf (defLoc e) 37 32 == bitsOf n 37 32) then s
  else if used.isEmpty ∧ bitsOf n 37 32 ≠ 63 then s.addDefect d l 2 source 0
  else (s.addDefect d l 5 source 255).badDie d 7 l phase

/-- A lane takes both dies of its link out of use (R548). -/
def State.badLane (s : State) (l : Word) (phase : Nat) : State :=
  let n := l.toNat
  let d := bitsOf n 57 52
  let s := s.badDie d 8 l phase
  match d2dPeer d (bitsOf n 42 38 - 1) with
  | some e => s.badDie e 8 l phase
  | none => s

/-- A lasting defect is repaired, fenced, or makes its die unusable, by its class (Table 1-7). -/
def State.repair (s : State) (source phase : Nat) (l : Word) : State :=
  let n := l.toNat
  let d := bitsOf n 57 52
  let bank := bitsOf n 42 38
  match bitsOf n 62 58 with
  | 1 => s.spareColumn l source
  | 2 => s.spareSubarray l source phase
  | 3 => s.fencePcore d (bitsOf n 51 43) l source
  | 8 => (s.addDefect d l 4 source 255).badLane l phase
  | 6 => s.badDie 48 0 l phase
  | 5 => if 1 ≤ bank ∧ bank ≤ 4 then s.addDefect d l 5 source 255 else (s.addDefect d l 6 source 255).badDie d 6 l phase
  | _ => (s.addDefect d l 6 source 255).badDie d 6 l phase

/-- Columns and subarrays that the error tables of the previous start promote (R561, R569). -/
def promotions (l : List ErrEntry) : List Word :=
  let field (e : ErrEntry) (hi lo : Nat) : Nat := bitsOf e.loc.toNat hi lo
  let colSum (e : ErrEntry) : Nat := ((l.filter (fun x => x.src == 1 && field x 57 22 == field e 57 22)).map (fun x => x.c.getD 1 0)).sum
  (l.filter (fun e =>
    (e.src == 1 && field e 31 22 != 1023 && (decide (1 ≤ e.c.getD 3 0) || decide (16 ≤ colSum e))) ||
    (e.src == 2 && field e 37 32 != 63 && decide (1 ≤ e.c.getD 3 0)))).map (fun e => e.loc)

/-- The logical map of one cluster: logical index j on the (j + 1)-th unfenced physical core (R24). -/
def clusterMap (fenced : List Nat) (c : Nat) : List Nat :=
  ((List.range 17).map (fun p => c * 17 + p)).filter (fun p => !fenced.contains p)

def State.buildMap (s : State) : State :=
  (List.range 48).foldl (fun (t : State) d =>
    let fenced := t.fencedIn d
    if fenced.isEmpty then t
    else (List.range 16).foldl (fun (t : State) c =>
      (((clusterMap fenced c).take 16).zipIdx).foldl (fun (t : State) p => t.setObj .coreMap p.1 d (c * 16 + p.2)) t) t) s

/-- Cells whose column or subarray is spared are no longer read. -/
def State.dropSpared (s : State) : State :=
  let gone (l : Word) : Bool :=
    let n := l.toNat
    (s.defects (bitsOf n 57 52)).any (fun e =>
      (defKind e == 1 && bitsOf (defLoc e) 62 22 == bitsOf n 62 22) || (defKind e == 2 && bitsOf (defLoc e) 62 32 == bitsOf n 62 32))
  { s with cells := s.cells.filter (fun e => !gone (s.cwLocator (e.1 * 8) 255)) }

/-! ### The neighbour test (R549 to R553) -/

/-- Voter `j` of die `d`: its own supervisor, or the die its port faces; 48 is the MMC (R550). -/
def voterOf (d j : Nat) : Option Nat := if j = 0 then some d else d2dPeer d (j - 1)

/-- R551. -/
def outcomeOf (rs : List (Option (List Word))) : Option (List Word) :=
  let given := rs.filterMap (fun (r : Option (List Word)) => r)
  let votes (v : List Word) : Nat := (given.filter (fun x => x == v)).length
  given.find? (fun v => decide (given.length < 2 * votes v) && decide (2 ≤ votes v))

/-- The readings that count: of voters that exist, the MMC's unless it has dissented, a supervisor's own challenge left out. -/
def readings (d : Nat) (challenge mmcOut : Bool) (rs : List (Option (List Word))) : List (Option (List Word)) :=
  (fitTo none 5 rs).zipIdx.map (fun p =>
    match voterOf d p.2 with
    | none => none
    | some v => if (mmcOut && v == 48) || (challenge && p.2 == 0) then none else p.1)

/-- One unit judged: its readings and outcome in both tests, and whether it was retested. -/
structure Judged where
  unit : Word
  r1 : List (Option (List Word))
  o1 : Option (List Word)
  r2 : List (Option (List Word))
  o2 : Option (List Word)
  retest : Bool

def isChallenge (u : Word) : Bool := bitsOf u.toNat 62 58 == 5 && bitsOf u.toNat 42 38 == 7

def judge (d : Nat) (mmcOut : Bool) (u : UnitTest) : Judged :=
  let ch := isChallenge u.unit
  let r1 := readings d ch mmcOut u.first
  let r2 := readings d ch mmcOut u.again
  ⟨u.unit, r1, outcomeOf r1, r2, outcomeOf r2, outcomeOf r1 != some []⟩

/-- The defects that the retest leaves: none when it passes; the unit itself when it has no outcome (R552). -/
def Judged.lasting (j : Judged) : List Word :=
  if j.retest then (match j.o2 with | some l => l | none => [j.unit]) else []

/-- Voter `k` holds another verdict than an outcome, in either test. -/
def Judged.differs (j : Judged) (k : Nat) : Bool :=
  let one (rs : List (Option (List Word))) (o : Option (List Word)) : Bool :=
    match rs.getD k none, o with
    | some v, some w => v != w
    | _, _ => false
  one j.r1 j.o1 || (j.retest && one j.r2 j.o2)

/-- Bits 0 to 4 of the voters for which a test holds. -/
def voteMask (f : Nat → Bool) : Nat := ((List.range 5).map (fun k => if f k then 2 ^ k else 0)).sum

/-- A core's verdict (Table 17-7): a worse outcome of another unit of it stands. -/
def State.setVerdict (s : State) (j : Judged) : State :=
  let n := j.unit.toNat
  let cls := bitsOf n 62 58
  let d := bitsOf n 57 52
  let p := bitsOf n 51 43
  if (cls = 1 ∨ cls = 3) ∧ p < 272 then
    let code := if j.retest = false then 0 else if j.lasting.isEmpty then 1 else 2
    let rs := if j.retest then j.r2 else j.r1
    let o := if j.retest then j.o2 else j.o1
    let got := voteMask (fun k => (rs.getD k none).isSome)
    let agree := voteMask (fun k => o.isSome && rs.getD k none == o)
    if s.obj .ntVerdicts d p / 2 ^ 14 ≤ code ∧ (j.retest ∨ s.obj .ntVerdicts d p / 2 ^ 14 = 0) then
      s.setObj .ntVerdicts (code * 2 ^ 14 + got * 256 + agree) d p
    else s
  else s

def State.tallyOf (s : State) (d : Nat) : Nat × Nat × Nat := aget (0, 0, 0) s.boot.tally d

/-- A judged unit enters the counts, the verdicts and the defects to repair. -/
def State.takeJudged (s : State) (d : Nat) (j : Judged) : State :=
  let s := s.setVerdict j
  if j.retest = false then s
  else
    let bad := !j.lasting.isEmpty
    let s := (s.incObj .ntCounts 0 0).incObj .ntCounts 0 (if bad then 2 else 1)
    let s := s.countErr j.unit 8 (b2n bad)
    let t := s.tallyOf d
    { s with boot := { s.boot with
        tally := aset (0, 0, 0) s.boot.tally d (t.1 + 1, t.2.1 + b2n (!bad), t.2.2 + b2n bad)
        found := if isChallenge j.unit then s.boot.found else s.boot.found ++ j.lasting } }

/-- Dissents of the voters of die `d` (R553): the event, and who dissented. -/
def State.dissents (s : State) (d : Nat) (js : List Judged) : State × List Nat :=
  (List.range 5).foldl (fun (a : State × List Nat) k =>
    let n := (js.filter (fun j => j.differs k)).length
    match voterOf d k with
    | some v =>
      if 4 ≤ n then
        ((a.1.incObj .ntCounts 0 3).raiseAct 0x0A01 d n (if v = 48 then hubUnit 0 else dieUnit v 7 1023), a.2 ++ [v])
      else a
    | none => a) (s, [])

/-- The test of every usable die that is not fenced, in order. -/
def State.neighbourTest (s : State) (x : StartIn) : State :=
  let tested (d : Nat) : Bool := s.fencedDie != some d && !s.boot.bad.any (fun (b : BadDie) => b.die == d)
  let dies := (List.range 48).filter tested
  let one (a : State × Bool × List (Nat × Nat) × List Nat) (d : Nat) : State × Bool × List (Nat × Nat) × List Nat :=
    let fenced := a.1.fencedIn d
    let us := x.units.filter (fun (u : UnitTest) =>
      bitsOf u.unit.toNat 57 52 == d && !fenced.contains (bitsOf u.unit.toNat 51 43))
    let js := us.map (judge d a.2.1)
    let r := (js.foldl (fun (t : State) j => t.takeJudged d j) a.1).dissents d js
    let failed := js.any (fun j => isChallenge j.unit && !j.lasting.isEmpty)
    (r.1, a.2.1 || r.2.contains 48, a.2.2.1 ++ r.2.map (fun v => (v, d)), if failed then a.2.2.2 ++ [d] else a.2.2.2)
  let r := dies.foldl one (s, false, [], [])
  let votes := r.2.2.1
  let fails (v : Nat) : Bool := r.2.2.2.contains v || votes.contains (v, v) || decide (2 ≤ (votes.filter (fun p => p.1 == v)).length)
  dies.foldl (fun (t : State) d => if fails d then t.badDie d 4 (dieUnit d 7 1023) 5 else t) r.1

/-- Hub units that fail their test (class 0x06) are judged by the MMC's own start. -/
def State.hubTest (s : State) (x : StartIn) : State :=
  let us := x.units.filter (fun (u : UnitTest) => bitsOf u.unit.toNat 57 52 == 48)
  us.foldl (fun (t : State) (u : UnitTest) =>
    match outcomeOf u.again with
    | some [] => t.countErr u.unit 8 0
    | _ => (t.countErr u.unit 8 1).badDie 48 0 u.unit 5) s

/-- Cores that stopped in the last run are tested three times (R561). -/
def State.retestCores (s : State) (fails : List (Nat × Nat)) : State :=
  s.boot.retest.foldl (fun (t : State) p =>
    let loc := locator 3 p.1 p.2 31 63 1023 255
    if fails.contains p then
      let t := t.countErr loc 9 1
      { t with boot := { t.boot with found := t.boot.found ++ [loc] } }
    else t.countErr loc 9 0) s

/-- The margin sweep of a region (R554, R555). -/
def State.takeMargin (s : State) (m : Margin) : State :=
  let r := m.region.val
  let d := r / 4
  let s := s.setObj .margins (fstep m.ceiling * 2 ^ 24 + m.h145 % 256 * 65536 + m.h120 % 256 * 256 + b2n m.step0) d (r % 4)
  let s := s.updRegion r (fun x => { x with maxF := m.ceiling })
  let s := s.updLife d (fun x => { x with marginMin := x.marginMin.set (r % 4) (min (x.marginMin.getD (r % 4) 255) m.h120) })
  let s := if m.step0 then s.marginStep r else s
  if m.h120 < 10 then s.raiseAct 0x080E 0 m.h120 (regionLoc r) else s

/-! ### Boot (R546, R613, R623) -/

/-- Objects that a cold start keeps: RWP values, fuses and keys, the calendar, what flash holds, and measurements. -/
def coldKeeps (o : Obj) : Bool :=
  o.info.acc == .rwp ||
  [Obj.serial, .moduleUid, .hwRev, .mac, .dieUid, .dieStep, .mkey, .cal, .calValid, .summarySlots, .vminEver, .startNo,
    .placePins, .inputPower, .feedState, .feedTelem, .regionRail, .dieRails, .clusterTemp, .coolant, .laneOptics, .svnCount,
    .svnLeft, .svnFailed, .setv, .commitSeq, .ethState].contains o

/-- Objects that a warm start does not keep: R540 keeps what a chapter marks kept. -/
def warmClears (o : Obj) : Bool :=
  [Obj.coresLogical, .coresFenced, .coreMap, .poolResult, .censusState, .censusId, .censusCycles, .censusDropped, .swapState, .ctabValid,
    .jobStartTime, .hashSeedTime, .bhLast, .vminStart, .regionState, .regionFreq, .ntVerdicts, .margins, .errorOvf, .canPhy,
    .uartRx, .ptpGtcOffset, .lastMigration, .d2dLanes, .ctxSplitDefault, .hostPoolFirst, .hostPoolCount, .poolAuto,
    .poolAutoMask, .tierFails, .poolMoveFails, .fwdAccesses, .poolRefusals].contains o

def keepObjs (keep : Obj → Bool) (l : List (Nat × Nat)) : List (Nat × Nat) :=
  let codes := (Obj.all.filter keep).map (fun o => o.info.code)
  l.filter (fun e => codes.contains (e.1 / 65536 / 1024))

/-- The highest START_NO in a valid record or snapshot (R570). -/
def State.lastStartNo (s : State) : Nat :=
  let a := s.hlth.ring.foldl (fun m r => max m r.startNo) 0
  s.hlth.snaps.foldl (fun m e => e.2.foldl (fun m x => max m (x.rseq / 2 ^ 32)) m) a

/-- The final records of the previous start, stamped with its end (R583), numbered by the new one. -/
def State.finalRecords (s : State) : State :=
  let s := (List.range 49).foldl (fun (t : State) d => t.flushErrors d) s
  let s := s.closePeriod
  { s with hlth := { s.hlth with queue := s.hlth.queue.map (fun r => { r with fixed := true }) } }

/-- The value of a flash settings copy enters the objects: every RWP object, its default where the copy has none (R623). -/
def State.loadSettings (s : State) : State :=
  let base := { s with objs := keepObjs (fun o => o.info.acc != .rwp) s.objs }
  match s.fw.newest with
  | none => base
  | some c =>
    let t := c.vals.foldl (fun (t : State) e => t.setKeyVal e.1 e.2) base
    { t with chb := { t.chb with blobs := c.blobs } }

/-- Migration to the settings version of the image that runs (R623). -/
def State.migrate (s : State) (setv from_ : Nat) : State :=
  match s.fw.newest with
  | none => s.setObj .setv setv
  | some c =>
    let note (t : State) (how n : Nat) : State :=
      let bs := leBytes 2 c.setv ++ leBytes 2 setv ++ leBytes 4 n ++ leBytes 8 t.gtc
      let t := bs.zipIdx.foldl (fun (t : State) p => t.setObj .lastMigration p.1.toNat 0 p.2) t
      (t.setObj .setv setv).raiseAct 0x0B0C how n (BitVec.ofNat 64 (c.setv * 65536 + setv))
    let good (e : Nat × Nat) : Bool := match keyParts e.1 with
      | some p => p.1.info.acc == .rwp && decide (p.1.info.lo ≤ e.2 ∧ e.2 ≤ p.1.info.hi)
      | none => false
    if c.setv = setv then s.setObj .setv setv
    else if from_ ≤ c.setv ∧ c.setv < setv then
      let vals := c.vals.filter good
      let n := c.vals.length - vals.length
      let f := { s.fw with copyP := some c }
      (note ({ s with fw := f.putCopy { c with setv := setv, seq := c.seq + 1, vals := vals } }).loadSettings 1 n)
    else
      match s.fw.copyP with
      | some p =>
        if setv < c.setv ∧ p.setv = setv then
          note ({ s with fw := s.fw.putCopy { p with seq := c.seq + 1 } }).loadSettings 2 0
        else s.setObj .setv setv
      | none => s.setObj .setv setv

/-- The boot ROM's check of the slot a commit record names: 0, or a reason. -/
def State.bootReason (s : State) (x : StartIn) (c : Commit) : Nat :=
  let slot := s.fw.slot c.slot
  if x.pages.getD c.slot 0 = 2 then 9
  else
    let r := s.slotReason slot
    if r ≠ 0 then r else if mDigest slot = c.digest then 0 else 9

/-- A flash page that reads at the second try counts as transient, one that does not as lasting (R546). -/
def State.countPages (s : State) (x : StartIn) (slot : Nat) : State :=
  match x.pages.getD slot 0 with
  | 1 => s.countErr (hubUnit 7) 10 0
  | 2 => s.countErr (hubUnit 7) 10 1
  | _ => s

/-- Recovery mode: the hub's boot ROM alone runs (R624). Its event takes no action of its class: MODULE_STATE reads 0. -/
def State.enterRecovery (s : State) (why : Nat) : State :=
  let s := (s.setObj .moduleState 0).setObj .recovery 1
  let s := (List.range 192).foldl (fun (t : State) r => t.setObj .regionState 4 r) s
  let s := (List.range 48).foldl (fun (t : State) n => t.updPort n (fun p => { Port.zero with incarn := p.incarn })) s
  { s with pwr := { s.pwr with darkDies := List.range 48 } }.raiseEvent 0x0B07 why 0 0

/-- The bundle of a slot runs: its fuse updates, versions and settings. -/
def State.runBundle (s : State) (x : StartIn) (c : Commit) : State :=
  let b := s.fw.slot c.slot
  let s := (s.bootRoots b).bootSvn (mSvn b) x.unblown.toNat
  let s := ((s.setObj .bundleVersion (mVersion b)).setObj .mmcFwVersion (natAt b 12 4)).setObj .dieFwVersion (natAt b 16 4)
  let s := ((s.setObj .activeSlot c.slot).setObj .acceptSlots (acceptSlots b)).setObj .commitSeq c.seq
  s.migrate (mSetv b) (mSetvFrom b)

/-- The choice of the slot (R613): the newest commit, else the older one that names the other slot, else recovery. -/
def State.boot1 (s : State) (x : StartIn) : State :=
  match s.fw.newestCommit with
  | none => s.enterRecovery 1
  | some c =>
    let s := s.countPages x c.slot
    let r := s.bootReason x c
    if r = 0 then s.runBundle x c
    else
      match s.fw.olderCommit with
      | none => s.enterRecovery 1
      | some o =>
        if o.slot = c.slot then s.enterRecovery 1
        else
          let s := s.countPages x o.slot
          if s.bootReason x o = 0 then
            let s := (s.runBundle x o).raiseAct 0x0B05 c.slot r (hubUnit 7)
            s.raiseAct 0x0B06 o.slot 0 (BitVec.ofNat 64 (s.obj .bundleVersion))
          else s.enterRecovery 1

/-- The place at a cold start (R44 to R46). -/
def State.samplePlace (s : State) (pins : List (BitVec 20)) : State :=
  let p := (pins.getLast?.getD 0).toNat
  let s := s.setObj .placePins p
  let o := s.obj .placeOverride
  if o ≠ 0xFFFFFF then
    ((s.setObj .place o).setObj .placeValid 1).raiseAct 0x0109 0 0 (BitVec.ofNat 64 (p * 2 ^ 24 + o))
  else if pins.length = 3 ∧ pins.all (fun q => q.toNat == p) = true ∧ popCount 20 p % 2 = 1 then
    (s.setObj .place (p % 2 ^ 19)).setObj .placeValid 1
  else ((s.setObj .place 0xFFFFFF).setObj .placeValid 0).raiseAct 0x0108 0 0 (BitVec.ofNat 64 p)

/-! ### The beginning of a start (R501, R540, R562) -/

/-- Lifetime values as flash holds them, when the retained store is lost. -/
def State.livesFromFlash (s : State) : State :=
  let lives := s.hlth.snaps.foldl (fun (m : List (Nat × Life)) e =>
    match e.2.getLast? with
    | some x => aset Life.zero m e.1 x.life
    | none => m) []
  { s with hlth := { s.hlth with life := lives, exact := [], coarse := [], faults := [] } }

/-- VMIN_EVER is reloaded from flash at each start (16 R509). -/
def State.loadVmin (s : State) : State :=
  s.hlth.snaps.foldl (fun (t : State) e =>
    match e.2.getLast? with
    | some x => x.vmin.zipIdx.foldl (fun (t : State) p => t.setObj .vminEver p.1 (e.1 * 4 + p.2 / 32) (p.2 % 32)) t
    | none => t) s

/-- Cores that stopped with cause 0x0B or 0x0C, as physical cores. -/
def State.stoppedCores (s : State) : List (Nat × Nat) :=
  (s.cores.filter (fun e => e.2.fenced.isSome)).map (fun e => (e.1 / 256, s.pcoreOf e.1))

/-- Everything that a start of either kind resets: cores, memory, requests, fabric, ports, queues, sessions, operations. -/
def State.clearUnits (s : State) : State :=
  let ports := (List.range 48).foldl (fun (m : List (Nat × Port)) n =>
    aset Port.zero m n { Port.zero with incarn := ((s.port n).incarn + 1) % 2 ^ 32 }) []
  let s := { s with
    cores := [], reqs := [], pushes := [], credits := [], hostValves := [], pages := [], move := none, poolOp := none,
    census := Census.zero, ports := ports, bells := [], epochTo := none, hst := HostIf.zero
    chb := { s.chb with
      sessions := [], caches := [], transfers := [], mailboxes := [], acts := [], lockouts := [], inbox := [] }
    fw := { s.fw with delivery := none, chain := none, forwards := [], active := none, reread := false, stage := if s.fw.stage = 1 then 0 else s.fw.stage }
    bnd := { s.bnd with can := [], fifo := [] }
    boot := { s.boot with temp := [], due := none, bad := [], found := [], tally := [], retest := s.stoppedCores } }
  s.zeroFillTier 0 (48 * 2 ^ 32)

/-- A warm start keeps the banks and the active bank of each port (12 R415), replay counts, the GTC, ρ, TIME_SYNC and the
measured state of feeds and cooling (16 R538); every router, partition, credit and replay buffer is reset (10 R335).
DESIGN CHOICE (log 83): GTC_STAT.STATE, which Table 16-6 gives as Warm 0, shows the TIME_SYNC that R538 keeps; and the window
counts of hot banks with the 1,000-window hold of a bank whose event was raised do not outlive a warm start, which R53 says
of the cumulative counters alone. -/
def State.clearWarm (s : State) : State :=
  let mouths := s.mouths.foldl (fun (m : List (Nat × Mouth)) e => aset Mouth.zero m e.1 { Mouth.zero with active := e.2.active }) []
  let d2d := s.fab.d2d.foldl (fun (m : List (Nat × D2dLane)) e =>
    aset D2dLane.zero m e.1 { D2dLane.zero with trans := e.2.trans, last := e.2.last }) []
  let lq := (List.range 128).foldl (fun (t : State) q =>
    t.setObj .lqCfg (t.obj .lqCfg q 0 % 2 ^ 63) q 0) { s with objs := keepObjs (fun o => !warmClears o) s.objs }
  let p := s.pwr
  { lq with
    mouths := mouths
    fab := { Fabric.zero with d2d := d2d }
    time := { s.time with hold := false, theta := 0, step := none, dist := 0, parent := 63, good := 0, ptpSince := none }
    pwr := { Pwr.zero with
      regions := (List.range 192).foldl (fun m r => aset Region16.zero m r { Region16.zero with since := s.gtc }) []
      feeds := p.feeds, inputMw := p.inputMw, measAt := p.measAt, energyPj := p.energyPj, holds := p.holds,
      coolBad := p.coolBad, coolOn := p.coolOn, coolOff := p.coolOff, flow := p.flow, darkDies := p.darkDies, darkAt := p.darkAt,
      -- a start within breath-hold leaves its regions gated until the exit
      gated := p.gated, exitAt := p.exitAt } }

/-- A cold start keeps flash, the calendar and RWP values. The watchdog's expiries are kept on the new GTC. -/
def State.clearCold (s : State) : State :=
  let p := s.pwr
  { s with
    objs := keepObjs coldKeeps s.objs
    gtc := 0
    mouths := [], banks := [], fab := Fabric.zero
    chb := { s.chb with events := [], discards := 0, oversize := 0 }
    hlth := { s.hlth with lostLinks := [] }
    fw := { s.fw with reason := 0 }
    time := { TimeSt.zero with
      residual := s.time.residual, secs := s.time.secs, ticks := s.time.ticks, trim := s.time.trim, calSet := s.time.calSet }
    pwr := { Pwr.zero with
      feeds := p.feeds, inputMw := p.inputMw, coolBad := p.coolBad, flow := p.flow }
    boot := { s.boot with expiries := s.boot.expiries.map (fun t => t - (s.gtc : Int)) } }

/-- A start begins: MODULE_STATE reads Starting. `aon`: VDD_AON was kept; `valid`: and the retained store passes its CRC. -/
def State.beginStart (s : State) (kind cause : Nat) (aon valid : Bool) : State :=
  let no := s.lastStartNo + 1
  let s := { s with hlth := { s.hlth with queue := [], nextIndex := 0 } }.setObj .startNo no
  let s := if valid then s.finalRecords else s.livesFromFlash
  let s := if valid then s else { s with chb := { s.chb with unsaved := [] } }
  -- a core that lends stops lending, its time counted (09 R296): LEND_TIME outlives a warm start
  let s := (s.cores.map (fun e => e.1)).foldl (fun (t : State) k => t.endLend k) s
  let s := s.settleTimes.clearUnits
  let s := if kind = 1 then s.clearCold else s.clearWarm
  let s := if aon then s else { s with
    pwr := { s.pwr with feeds := [], inputMw := 0 }
    boot := { s.boot with expiries := [] } }
  let s := { s with hlth := { s.hlth with
    lifeBase := s.countedObjs, lifeAt := s.gtc, vminSnap := [], periodStart := s.gtc, lastFlush := s.gtc } }
  let s := ((s.setObj .moduleState 0).setObj .startKind kind).setObj .startCause cause
  let s := (List.range 9).foldl (fun (t : State) k => t.setObj .startPhases 0 0 k) s
  (s.setObj .startPhase (if kind = 1 then 0 else 1)).loadVmin

/-! ### The phases (Table 17-2) -/

/-- C0: the feeds qualify; after a command they stay as they are, and a trip count begins anew. -/
def State.phase0 (s : State) (x : StartIn) : State :=
  let cause := s.obj .startCause
  let power := cause = 1 ∨ cause = 3
  let s := (List.range 8).foldl (fun (t : State) f =>
    let st := if power then (if x.feeds.getLsbD f then 2 else 0) else (t.feed f).st
    t.setFeed f st (fun g => { g with fails := [], trips := 0 })) s
  if power then s.setObj .calValid (b2n (x.calKept && s.obj .calValid == 1)) else s

/-- C1: boot, the place (cold), and the RWP writes that wait. -/
def State.phase1 (s : State) (x : StartIn) : State :=
  let cold := s.obj .startKind = 1
  let s := s.persist
  let s := if cold then s.loadSettings else s
  let s := s.boot1 x
  if s.obj .recovery = 1 then s
  else if cold then s.updCaps.samplePlace x.pins else s.updCaps

/-- C2: rails and clocks; the fenced die stays dark (19 R596); every other region enters Run at 1.20 GHz. -/
def State.phase2 (s : State) (x : StartIn) : State :=
  let f := s.obj .fenceDie
  let s := if s.obj .startKind = 1 then
      (s.setObj .detour (if 1 ≤ f ∧ f ≤ 47 then 0x8000 + siteOf f else 0)).setObj .degraded (if 1 ≤ f ∧ f ≤ 47 then 1 else 0)
    else s
  let s := x.dead.foldl (fun (t : State) (p : Fin 48 × Nat × Word × Nat) =>
    if p.2.1 ≤ 2 then t.badDie p.1.val p.2.1 p.2.2.1 p.2.2.2 else t) s
  match s.fencedDie with
  | none => s
  | some d =>
    let s := { s with pwr := { s.pwr with darkDies := [d] } }
    (List.range 4).foldl (fun (t : State) i => t.setObj .regionState 4 (d * 4 + i)) s

/-- C3: every lane between two dies that run trains; those that do not take their dies out. -/
def State.phase3 (s : State) (x : StartIn) : State :=
  let off (d : Nat) : Bool := s.fencedDie == some d
  let up (d p l : Nat) : Bool := match d2dPeer d p with
    | some e => !off e && !x.lanes.contains (d2dLoc d p l)
    | none => false
  let s := (List.range 48).foldl (fun (t : State) d =>
    let v := ((List.range 16).map (fun i => if !off d && up d (i / 4) (i % 4) then 2 ^ i else 0)).sum
    let fab := (List.range 16).foldl (fun (f : Fabric) i =>
      if off d || ((d2dPeer d (i / 4)).isSome && !up d (i / 4) (i % 4)) then
        { f with d2d := aset D2dLane.zero f.d2d (d * 16 + i) { aget D2dLane.zero f.d2d (d * 16 + i) with down := true } }
      else f) t.fab
    { t with fab := fab }.setObj .d2dLanes v d) s
  x.lanes.foldl (fun (t : State) l => t.badLane l 3) s

/-- C4: the die firmware is delivered and checked (R547). -/
def State.phase4 (s : State) (x : StartIn) : State :=
  x.dead.foldl (fun (t : State) (p : Fin 48 × Nat × Word × Nat) =>
    match p.2.1 with
    | 3 => (t.countErr (dieUnit p.1.val 7 1023) 11 1).badDie p.1.val 3 p.2.2.1 4
    | 0 => t.countErr (dieUnit p.1.val 7 1023) 11 0
    | _ => t) s

/-- C5: the neighbour test, the re-tests and the margin sweep. -/
def State.phase5 (s : State) (x : StartIn) : State :=
  -- cores fenced before this start have verdict 3
  let s := (List.range 48).foldl (fun (t : State) d =>
    let l := if t.fencedDie = some d then List.range 272 else t.fencedIn d
    l.foldl (fun (t : State) p => t.setObj .ntVerdicts (3 * 2 ^ 14) d p) t) s
  let s := ((s.neighbourTest x).hubTest x).retestCores x.fails
  let s := x.margins.foldl (fun (t : State) m => if t.fencedDie = some (m.region.val / 4) then t else t.takeMargin m) s
  x.dead.foldl (fun (t : State) (p : Fin 48 × Nat × Word × Nat) =>
    if 4 ≤ p.2.1 ∧ p.2.1 ≤ 8 then t.badDie p.1.val p.2.1 p.2.2.1 p.2.2.2 else t) s

/-- Dies with two fenced cores in one cluster are unusable (R548). -/
def State.crowded (s : State) (d : Nat) : Option Nat :=
  (List.range 16).find? (fun c => decide (2 ≤ ((s.fencedIn d).filter (fun p => p / 17 == c)).length))

/-- The MARGIN record of a die (Table 18-4). -/
def State.marginBody (s : State) (d : Nat) : List Nat :=
  let t := s.tallyOf d
  packWords ((List.range 4).flatMap (fun r => leBytes 4 (s.obj .margins d r)) ++ satBytes 2 t.1 ++ satBytes 2 t.2.1 ++
    satBytes 2 t.2.2 ++ satBytes 2 (s.fencedIn d).length ++ List.replicate 8 0)

/-- C6: repair, promotions, the logical map; memory holds zero, the pool is Free and the error tables begin. -/
def State.phase6 (s : State) (x : StartIn) : State :=
  let s := x.mapLost.foldl (fun (t : State) (d : Fin 48) =>
    ({ t with boot := { t.boot with field := aset [] t.boot.field d.val [] } }).raiseAct 0x0A02 0 0 (dieUnit d.val 7 1023)) s
  let s := s.boot.found.foldl (fun (t : State) l => t.repair 1 6 l) s
  let s := (List.range 48).foldl (fun (t : State) d => (promotions (t.errTable d)).foldl (fun (t : State) l => t.repair 2 6 l) t) s
  let s := (List.range 48).foldl (fun (t : State) d =>
    if t.fencedDie = some d then t
    else match t.crowded d with
      | some c => t.badDie d 5 (clusterLoc d c 31) 6
      | none => t) s
  let s := s.buildMap.dropSpared
  let fenced := ((List.range 48).map (fun d => if s.fencedDie = some d then 272 else (s.fencedIn d).length)).sum
  let s := (s.setObj .coresFenced fenced).setObj .coresLogical (if s.fencedDie.isSome then 12032 else 12288)
  let s := (List.range 48).foldl (fun (t : State) d => if t.fencedDie = some d then t else t.queueRec 6 d (t.marginBody d)) s
  let s := { s.zeroFillTier 0 (48 * 2 ^ 32) with pages := [], move := none, poolOp := none }
  { s with hlth := { s.hlth with exact := [], coarse := [], trended := [], due := [] } }

/-- C7: every enabled port trains from step 1; the fenced die's stays dark. -/
def State.phase7 (s : State) : State :=
  (List.range 48).foldl (fun (t : State) n =>
    (t.updPort n (fun p => { p with txoff := t.fencedDie == some n })).retrain n 1) s

/-- Usable dies. -/
def State.usableMask (s : State) : Nat :=
  ((List.range 48).map (fun d => if s.fencedDie = some d ∨ s.boot.bad.any (fun (b : BadDie) => b.die == d) = true then 0 else 2 ^ d)).sum

/-- C8: Idle, or Removed where a die that is not fenced is unusable, with its events (R548, 19 R596). -/
def State.phase8 (s : State) : State :=
  let kind := s.obj .startKind
  let s := (List.range 49).foldl (fun (t : State) d => t.updLife d (fun x =>
    if kind = 1 then { x with cold := sat32 (x.cold + 1) } else { x with warm := sat32 (x.warm + 1) })) s
  let mask := s.usableMask
  let s := match s.boot.bad with
    | [] =>
      let s := (s.setObj .moduleState 1).raiseAct 0x0101 kind (s.obj .startCause) (BitVec.ofNat 64 mask)
      match s.fencedDie with
      | some d => s.raiseAct 0x0104 d 0 (BitVec.ofNat 64 (d * 256 + siteOf d))
      | none => s
    | b :: rest =>
      let s := s.raiseAct 0x0102 b.phase 0 b.loc
      (b :: rest).foldl (fun (t : State) (y : BadDie) => if y.die < 48 then t.raiseAct 0x0103 y.reason 0 y.loc else t) s
  let s := s.queueRec 1 63 ([kind + s.obj .startCause * 256, mask] ++ (List.range 9).map (fun k => s.obj .startPhases 0 k))
  ((List.range 49).foldl (fun (t : State) d => t.snapshot d) s).beginPeriod

/-- The end of a phase: its GTC is recorded, and the next is in progress. -/
def State.endPhase (s : State) (k : Nat) : State := (s.setObj .startPhases s.gtc 0 k).setObj .startPhase (k + 1)

/-- Phase `k`, when it is the one in progress and the command reaches it. A start that enters recovery mode goes no
further, and a start without a feed stays in C0. -/
def State.runPhase (x : StartIn) (s : State) (k : Nat) : State :=
  if s.obj .startPhase ≠ k ∨ x.last.val < k ∨ s.obj .recovery = 1 ∨ s.obj .moduleState ≠ 0 then s
  else
    match k with
    | 0 => let t := s.phase0 x; if t.stable = 0 then t else t.endPhase 0
    | 1 => let t := s.phase1 x; if t.obj .recovery = 1 then t else t.endPhase 1
    | 2 => (s.phase2 x).endPhase 2
    | 3 => (s.phase3 x).endPhase 3
    | 4 => (s.phase4 x).endPhase 4
    | 5 => (s.phase5 x).endPhase 5
    | 6 => (s.phase6 x).endPhase 6
    | 7 => s.phase7.endPhase 7
    | _ => (s.endPhase 8).phase8

def State.runPhases (s : State) (x : StartIn) : State := (List.range 9).foldl (fun (t : State) k => t.runPhase x k) s

/-- A start of this kind is in progress. -/
def State.startRuns (s : State) (kind : Nat) : Bool :=
  s.obj .moduleState == 0 && s.obj .recovery == 0 && s.obj .startKind == kind && decide (s.obj .startPhase < 9)

/-- Only locators that a unit can hold enter a start (01 R28, R29): a die found dead by one of its own die, a lane by one of
class 0x08, a verdict that names something else is no reading. -/
def saneStart (x : StartIn) : StartIn :=
  let verdict (v : Option (List Word)) : Option (List Word) :=
    match v with | some l => if l.all (fun w => locatorOk w && w.getLsbD 63) then some l else none | none => none
  { x with
    dead := x.dead.filter (fun p => locatorOk p.2.2.1)
    lanes := x.lanes.filter (fun w => locatorIn 8 1 4 w)
    units := (x.units.filter (fun (u : UnitTest) => locatorOk u.unit && u.unit.getLsbD 63)).map (fun (u : UnitTest) =>
      { u with first := u.first.map verdict, again := u.again.map verdict }) }

/-- COLD_START: power has come on or returned, or a RESET_CMD 2 that was answered is due; a start in progress goes on. -/
def execColdStart (x : StartIn) (s : State) : Out :=
  let x := saneStart x
  if x.power then .next ((s.beginStart 1 (if x.returned then 3 else 1) false false).runPhases x)
  else if s.boot.due = some 2 ∧ s.holding = false then .next ((s.beginStart 1 2 true x.retained).runPhases x)
  else if s.startRuns 1 then .next (s.runPhases x)
  else .next s

/-- WARM_START: a RESET_CMD 1 or ACTIVATE_CMD 2 that was answered is due; a start in progress goes on. With the retained store
invalid it proceeds as a cold start (R542). -/
def execWarmStart (x : StartIn) (s : State) : Out :=
  let x := saneStart x
  if s.boot.due = some 1 ∧ s.holding = false then
    if x.retained then .next ((s.beginStart 2 2 true true).runPhases x)
    else .next ((s.beginStart 1 5 true false).runPhases x)
  else if s.startRuns 2 then .next (s.runPhases x)
  else .next s

/-- MMC_WATCHDOG_EXPIRY: the first begins a warm start, one within 600 s of an earlier one a cold start, a third within 600 s
recovery mode (R541). -/
def execMmcWatchdogExpiry (s : State) : Out :=
  let now : Int := s.gtc
  let recent := s.boot.expiries.filter (fun t => decide (now - t ≤ 600000000000))
  let s := (s.incObj .wdtRestarts)
  let s := { s with boot := { s.boot with expiries := recent ++ [now] } }
  match recent with
  | [] => .next (s.beginStart 2 4 true true)
  | [_] => .next (s.beginStart 1 4 true true)
  | _ => .next ((s.beginStart 1 4 true true).enterRecovery 2)

end Sys2Proof.Machine
end

