-- ==== Sys2Proof/Machine/Job.lean ====
section
/-! DEFINITION. Chapter 15 R469, R501: the job state's commands and the reset commands. -/

namespace Sys2Proof.Machine

/-- JOB_CMD's status: 0x17 for a start in breath-hold (16 R516), 0x18 where no row of Table 15-3 accepts it. -/
def State.jobStatus (s : State) (v : Nat) : Nat :=
  match v, s.obj .moduleState with
  | 1, 1 => if s.holding then 0x17 else 0
  | 2, 2 => 0
  | 3, 4 => 0
  | _, _ => 0x18

/-- CTX_SPLIT_DEFAULT into every CCB; at its default no core that stands at reset changes. -/
def State.splitAll (s : State) : State :=
  let v := BitVec.ofNat 64 (s.obj .ctxSplitDefault)
  if s.obj .ctxSplitDefault = 0x10100804 then s.cores.foldl (fun (t : State) e => ctxSplitWrite e.1 v t) s
  else (List.range 12288).foldl (fun (t : State) k => ctxSplitWrite k v t) s

/-- A job begins: Running; the last job's census is past (9 R299), and bells take entries again (19 R587). -/
def State.jobStart (s : State) : State :=
  let s := s.splitAll
  let s := ((s.setObj .moduleState 2).setObj .jobStartTime s.gtc).setObj .censusState 0
  let s := (s.setObj .censusId 0).setObj .censusCycles 0
  let s := { s with census := Census.zero }
  (List.range 48).foldl (fun (t : State) n => t.updBell n (fun b => { b with stopped := false })) s

/-- Stopping: Halt to every Running or Waiting context. -/
def State.jobStop (s : State) : State := (s.setObj .moduleState 3).haltAll

def State.jobClear (s : State) : State := s.setObj .moduleState 1

/-- JOB_START: JOB_CMD 1. -/
def execJobStart (s : State) : Out := if s.jobStatus 1 = 0 then .next s.jobStart else .next s

/-- JOB_STOP: JOB_CMD 2. -/
def execJobStop (s : State) : Out := if s.jobStatus 2 = 0 then .next s.jobStop else .next s

/-- A context that is neither Running nor Waiting. -/
def Ctx.quiet (c : Ctx) : Bool := c.st == .halted || c.st == .stopped

/-- JOB_STOPPING_DONE: every context is Halted or Stopped. -/
def execJobStoppingDone (s : State) : Out :=
  if s.obj .moduleState = 3 ∧ s.cores.all (fun e => e.2.c0.quiet && e.2.c1.quiet) = true then .next (s.setObj .moduleState 1)
  else .next s

/-- JOB_CLEAR: JOB_CMD 3. -/
def execJobClear (s : State) : Out := if s.jobStatus 3 = 0 then .next s.jobClear else .next s

/-- RESET_CMD's status: 0x17 while Starting or while one is due; a removed module refuses a warm start (19 R588). In
recovery mode a cold start is served (20 R624). -/
def State.resetStatus (s : State) (v : Nat) : Nat :=
  if v ≠ 1 ∧ v ≠ 2 then 0x15
  else if s.boot.due.isSome then 0x17
  else if s.obj .recovery = 1 then (if v = 2 then 0 else 0x17)
  else if s.obj .moduleState = 0 then 0x17
  else if s.obj .moduleState = 5 ∧ v = 1 then 0x18
  else 0

def State.resetCmd (s : State) (v : Nat) : State :=
  if s.resetStatus v = 0 then { s with boot := { s.boot with due := some v } } else s

/-- RESET_WARM_START: RESET_CMD 1 is answered; the start that is due begins with WARM_START. -/
def execResetWarmStart (s : State) : Out := .next (s.resetCmd 1)

/-- RESET_COLD_START: RESET_CMD 2 is answered; the start that is due begins with COLD_START. -/
def execResetColdStart (s : State) : Out := .next (s.resetCmd 2)

end Sys2Proof.Machine
end

