-- ==== Sys2Proof/Machine/Window.lean ====
section
/-! DEFINITION. Registers as their units' access codes give them (00 R9): the dictionary window of BAR0 and its mailboxes
(15 R496, R497), the other BAR0 blocks (14 R447), and register writes of programs, die supervisors and the MMC. -/

namespace Sys2Proof.Machine

/-! ### The dictionary window -/

/-- The bytes of a PDU in a request buffer. -/
def Mailbox.reqBytes (b : Mailbox) (n : Nat) : List (BitVec 8) :=
  ((List.range ((n + 7) / 8)).flatMap (fun i => leBytes 8 (aget 0 b.req i).toNat)).take n

/-- MB_DB written with LEN not 0 (R497). -/
def State.mbSubmit (s : State) (m len : Nat) : State :=
  let b := s.mailbox m
  if b.busy = false ∧ b.ready = false ∧ 16 ≤ len ∧ len ≤ 4096 then
    (s.updMailbox m (fun x => { x with busy := true })).receivePdu (.pcie m) (b.reqBytes len)
  else s.incObj .barRefused

/-- MB_DB written with LEN 0: the response is released, and a message that waits takes the buffer. -/
def State.mbRelease (s : State) (m : Nat) : State :=
  s.updMailbox m (fun x =>
    match x.waiting with
    | [] => { x with ready := false }
    | b :: r => { x with resp := b, rlen := b.length, ready := true, waiting := r })

/-- MB_SUBMIT: MB_DB is written; LEN 0 there releases the response. -/
def execMbSubmit (m : Fin 16) (len : BitVec 13) (s : State) : Out :=
  if len.toNat = 0 then .next (s.mbRelease m.val) else .next (s.mbSubmit m.val len.toNat)

/-- MB_RELEASE. -/
def execMbRelease (m : Fin 16) (s : State) : Out := .next (s.mbRelease m.val)

/-- The event at an index of the event ring: 32 bytes of body, then zero. -/
def State.ringBytes (s : State) (i : Nat) : List (BitVec 8) :=
  match s.chb.events.find? (fun (e : Event) => e.seq % 4096 == i) with
  | some e => fitTo 0 64 e.bytes
  | none => List.replicate 64 0

/-- A word of the dictionary window; `none` at a reserved offset. -/
def State.windowRead (s : State) (off : Nat) : Option Nat :=
  if off < 0x20000 then
    let b := s.mailbox (off / 0x2000)
    let o := off % 0x2000
    if o < 0x1000 then some (aget 0 b.req (o / 8)).toNat else some (natAt b.resp (o - 0x1000) 8)
  else if 0x400000 ≤ off ∧ off < 0x440000 then some (natAt (s.ringBytes ((off - 0x400000) / 64)) (off % 64) 8)
  else if 0x800000 ≤ off ∧ off < 0x800100 then
    let b := s.mailbox (off % 0x100 / 16)
    if off % 16 = 0 then some 0 else some (b.rlen % 8192 * 2 ^ 32 + b2n b.ready * 2 + b2n b.busy)
  else if off = 0x801000 then some (s.obj .evseq)
  else none

/-- A word of the dictionary window written; `none` at a reserved offset. -/
def State.windowWrite (s : State) (off v : Nat) : Option State :=
  if off < 0x20000 then
    let o := off % 0x2000
    if o < 0x1000 then some (s.updMailbox (off / 0x2000) (fun b => { b with req := aset 0 b.req (o / 8) (BitVec.ofNat 64 v) }))
    else some s
  else if 0x400000 ≤ off ∧ off < 0x440000 then some s
  else if 0x800000 ≤ off ∧ off < 0x800100 then
    let m := off % 0x100 / 16
    if off % 16 ≠ 0 then some s
    else if v % 8192 = 0 then some (s.mbRelease m) else some (s.mbSubmit m (v % 8192))
  else if off = 0x801000 then some s
  else none

/-! ### Host valves and the GTC block as the hub's own registers -/

/-- A store to the host-valve block by the host, a die supervisor or the MMC: HV_STATE, else read only. -/
def State.hvWordWrite (s : State) (off kind v : Nat) : State := if off % 16 = 0 then s.hvHubWrite (off / 16) kind v else s

/-- A store to the GTC block by a die supervisor or the MMC (Table 16-6). -/
def State.gtcWrite (s : State) (off v : Nat) : State :=
  match off with
  | 0x08 => { s with time := { s.time with hold := v.testBit 1 } }
  | 0x20 => s.gtcStepWrite v
  | _ => s

/-! ### DMA registers (Table 14-4) -/

def State.dmaRegRead (s : State) (c off : Nat) : Option Nat :=
  let d := s.dma c
  match off with
  | 0x00 => some (d.link * 4 + b2n d.haltErr * 2 + b2n d.en)
  | 0x08 => some d.rbase.toNat
  | 0x10 => some d.rsize
  | 0x18 => some 0
  | 0x20 => some (d.ci * 2 ^ 32 + d.st)
  | _ => none

/-- DMA_CTL: LINK is written only while the channel is Disabled. -/
def State.dmaCtl (s : State) (c v : Nat) : State :=
  let d := s.dma c
  let s := s.setDma c { d with link := if d.st = 0 then bitsOf v 2 2 else d.link, haltErr := v.testBit 1 }
  let d := s.dma c
  if v.testBit 0 then
    (if d.en then s else s.setDma c { d with en := true, st := if d.pi = d.ci then 2 else 1 })
  else s.setDma c { d with en := false, st := if d.st = 3 then 3 else if d.desc.isEmpty then 0 else d.st }

/-- A DMA register written; `none` at a reserved offset. RBASE and RSIZE outside Disabled, or out of form, are ignored and
counted. -/
def State.dmaRegWrite (s : State) (c off v : Nat) : Option State :=
  let d := s.dma c
  match off with
  | 0x00 => some (s.dmaCtl c v)
  | 0x08 => some (if d.st = 0 ∧ v % 64 = 0 then s.setDma c { d with rbase := BitVec.ofNat 64 v } else s.incObj .barRefused)
  | 0x10 =>
    let n := v % 65536
    some (if d.st = 0 ∧ 16 ≤ n ∧ n ≤ 32768 ∧ isPow2 n = true then s.setDma c { d with rsize := n } else s.incObj .barRefused)
  | 0x18 =>
    let pi := v % 2 ^ 32
    some (if d.rsize < sub32 pi d.ci then s.incObj .doorbellRefused
      else s.setDma c { d with pi := pi, st := if d.st = 2 ∧ pi ≠ d.ci then 1 else d.st })
  | 0x20 => some s
  | _ => none

/-! ### BAR0 (R447, Table 14-1) -/

/-- A word of BAR0 as the function of link `l` reads it; `none` at a reserved offset, which reads zero. -/
def State.bar0Read (s : State) (l off : Nat) : Option Nat :=
  if off < 0x1000000 then s.windowRead off
  else if off < 0x1001000 then some (s.hvRead (off - 0x1000000))
  else if off < 0x1001040 then some (s.gtcRead (off - 0x1001000))
  else if 0x2000000 ≤ off ∧ off < 0x2080000 then
    let x := s.lq ((off - 0x2000000) / 0x1000)
    match off % 0x1000 with
    | 0 => some 0
    | 8 => some 0
    | 0x10 => some (x.ci * 2 ^ 32 + x.hcopy)
    | _ => none
  else if 0x3000000 ≤ off ∧ off < 0x3001000 then some ((s.link l).tword ((off - 0x3000000) / 8)).toNat
  else if 0x3001000 ≤ off ∧ off < 0x3001020 then
    let base := (off - 0x3001000) * 8
    some (packFields 1 (tabulate 64 (fun i => b2n ((s.link l).pend.contains (base + i)))))
  else if 0x3100000 ≤ off ∧ off < 0x3101000 then s.dmaRegRead ((off - 0x3100000) / 0x100) (off % 0x100)
  else none

/-- A word of BAR0 written through link `l`; `none` at a reserved offset. -/
def State.bar0Write (s : State) (l off v : Nat) : Option State :=
  if off < 0x1000000 then s.windowWrite off v
  else if off < 0x1001000 then some (s.hvWordWrite (off - 0x1000000) 5 v)
  else if off < 0x1001040 then some s
  else if 0x2000000 ≤ off ∧ off < 0x2080000 then
    let q := (off - 0x2000000) / 0x1000
    match off % 0x1000 with
    | 0 => some (s.lqDoorbell l q (v % 2 ^ 32))
    | 8 => some (s.setLq q { s.lq q with chead := v % 2 ^ 32 })
    | 0x10 => some s
    | _ => none
  else if 0x3000000 ≤ off ∧ off < 0x3001000 then
    some (s.setLink l ((s.link l).setTword ((off - 0x3000000) / 8) (BitVec.ofNat 64 v)))
  else if 0x3001000 ≤ off ∧ off < 0x3001020 then some s
  else if 0x3100000 ≤ off ∧ off < 0x3101000 then s.dmaRegWrite ((off - 0x3100000) / 0x100) (off % 0x100) v
  else none

/-- BAR0_ACCESS: one aligned 64-bit word; any other access completes with Unsupported Request, or is discarded and
counted; at a reserved offset a read returns zero and a write is ignored and counted. -/
def execBar0Access (link : Fin 2) (off : BitVec 28) (size : Nat) (wr : Option Word) (s : State) : Out :=
  let o := off.toNat
  let ok := size = 8 ∧ o % 8 = 0
  -- the dictionary's path crosses the fabric in W4 (10 R316)
  let s := if o < 0x1000000 then s.post 5 1 (linkEndp link.val) mmcEndp else s
  match wr with
  | none => if ok then .next (s.complete 0 (leBytes 8 ((s.bar0Read link.val o).getD 0)) false) else .next (s.complete 1 [] false)
  | some v =>
    if ok then .next ((s.bar0Write link.val o v.toNat).getD (s.incObj .barRefused)) else .next (s.incObj .barRefused)

/-! ### REGISTER_WRITE -/

/-- Felun port control, written by a die supervisor or the MMC (Table 11-18). -/
def State.portWrite (s : State) (n off v : Nat) : State :=
  if off = 0 then
    let s := s.setTxoff n (v.testBit 1)
    if v.testBit 2 then s.retrain16 n else s
  else s

/-- An address error of the die supervisor of die `d`, counted for its die; the MMC's (48) has no counter of its own (R39,
Table 2-7). -/
def State.hubAddrError (s : State) (d : Nat) : State := if d < 48 then s.incObj .addrErrors d else s

/-- The store of a word by the die supervisor of die `d`, or by the MMC (48): Table 2-4 gives it every range but the reserved
one. A sleeping core is woken first (10 R323), and a stacked tier that is being filled waits (R49): the store is then made
by a later command. LQ_CI and LQ_CPI take the stores of their own core alone (14 R455). -/
def State.hubStore (s : State) (d a v : Nat) : State :=
  let reg := s.region a
  let core := match reg with | .sram k _ => some k | .ccb k _ => some k | _ => none
  if core.any s.asleep then s.holdForWake (core.getD 0) (2 ^ 51 + a)
  else if s.fillWaits reg then s
  else match reg with
    | .ccb k off => if s.memoryOff (.ccb k off) then s else s.ccbWrite k (off / 8 * 8) 6 (BitVec.ofNat 64 v)
    | .dict off => (s.windowWrite (off / 8 * 8) v).getD (s.incObj .barRefused)
    | .port n off => s.portWrite n (off / 8 * 8) v
    | .hostValves off => s.hvWordWrite (off / 8 * 8) 6 v
    | .gtc off => s.gtcWrite (off / 8 * 8) v
    | .launch _ => s
    | .reserved => s.hubAddrError d
    | .aperture off =>
      -- a window that is not valid is an address error (14 R450)
      if (s.obj .apertureMap 0 (off / 2 ^ 30)).testBit 0 = false then s.hubAddrError d
      else (match s.serveWrite a (leBytes 8 v) none false with
        | .done t _ _ _ => t
        | .host t m => t.postToHost m (leBytes 8 v))
    | .stack _ _ | .sram _ _ =>
      (match s.serveWrite a (leBytes 8 v) none false with
       | .done t _ _ _ => t
       | .host t m => t.postToHost m (leBytes 8 v))

/-- A program's write to a register is its store of a word. Where Table 2-4 and the access codes give it no reach, the
context that can issue takes the exception of the store (R39, 03 R79, 07 R241); otherwise the register takes the word as its
unit gives it. -/
def State.progStore (s : State) (c : CtxId) (a v : Nat) : State :=
  let k := c.key
  let x := c.ctx.val
  match s.reach c (globalHere a) 8 true with
  | .bad cause =>
    if (s.core k).canIssue x && !s.gatedCore k then
      (if cause = 2 then s.incObj .addrErrors c.die.val else s).takeException k x
        ⟨cause, 0, 0, (s.ctx k x).pc, globalHere a, 0⟩
    else s
  | _ =>
    match s.region a with
    | .ccb _ off => s.updCore k (fun d => d.plainWrite off (BitVec.ofNat 64 v))
    | .hostValves off => if off % 16 = 0 then s.hvProgWrite (off / 16) k x (s.ctx k x).pc (s.dieGtc c.die.val) v else s
    | .launch off =>
      if 0x8000 ≤ off then s
      else if off % 0x100 = 8 then s.lqCiStore (off / 0x100) (v % 2 ^ 32)
      else if off % 0x100 = 0x10 then s.lqCpiStore (off / 0x100) (v % 2 ^ 32)
      else s
    | _ => s

/-- REGISTER_WRITE: an aligned 64-bit word written by a program, the host through BAR2, or a die supervisor or the MMC, under
the register's access code. A misaligned word is no register. -/
def execRegisterWrite (who : Requester) (addr : BitVec 40) (v : Word) (s : State) : Out :=
  let a := addr.toNat
  if a % 8 ≠ 0 then .next s
  else match who with
    | .host =>
      match s.bar2Region a 8 with
      | some (.ccb k off) =>
        if s.asleep k then .next (s.holdForWake k (2 ^ 50 + a))
        else if s.memoryOff (.ccb k off) then .next (s.incObj .poolRefusals)
        else .next (s.ccbWrite k off 5 v)
      | _ => .next (s.incObj .addrErrorsHost)
    | .supervisor d =>
      -- die supervisors and the MMC reach the fabric in W4 (10 R316)
      let src := if d < 48 then supEndp d else mmcEndp
      .next ((s.post 5 1 src (s.endpOf (s.region a))).hubStore d a v.toNat)
    | .prog c => .next (s.progStore c a v.toNat)

end Sys2Proof.Machine
end

