-- ==== Sys2Proof/Machine/Dictionary.lean ====
section
/-! DEFINITION. Chapter 15 R465 to R470, R484: what the dictionary's objects read as, and what a written value does. -/

namespace Sys2Proof.Machine

/-! ### Types (Table 15-1) -/

/-- Bytes of a value; a STR or BLOB has its own. -/
def typeBytes : ObjType → Nat
  | .bool => 1 | .u8 => 1 | .u16 => 2 | .u32 => 4 | .u64 => 8 | .s32 => 4 | .s64 => 8 | .f32 => 4 | .time64 => 8
  | .cal48 => 6 | .place => 4 | .str => 64 | .blob => 0

def typeCode : ObjType → Nat
  | .bool => 1 | .u8 => 2 | .u16 => 3 | .u32 => 4 | .u64 => 5 | .s32 => 6 | .s64 => 7 | .f32 => 8 | .time64 => 9
  | .cal48 => 10 | .place => 11 | .str => 12 | .blob => 13

def accCode : ObjAcc → Nat
  | .ro => 1 | .rw => 2 | .wo => 3 | .rwp => 4 | .rwl => 5 | .cmd => 6

def accReadable : ObjAcc → Bool
  | .wo => false | .cmd => false | _ => true

def accWritable : ObjAcc → Bool
  | .ro => false | _ => true

/-- Zero bytes to a whole number of words (R466). -/
def padWords (bs : List (BitVec 8)) : List (BitVec 8) := fitTo 0 ((bs.length + 3) / 4 * 4) bs

/-- A byte of UTF-8 text after `need` more continuation bytes; the next one lies in [lo, hi]. -/
def utf8From : Nat → Nat → Nat → List (BitVec 8) → Bool
  | need, _, _, [] => need == 0
  | 0, _, _, b :: r =>
    let n := b.toNat
    if n < 0x80 then utf8From 0 0x80 0xBF r
    else if 0xC2 ≤ n ∧ n ≤ 0xDF then utf8From 1 0x80 0xBF r
    else if n = 0xE0 then utf8From 2 0xA0 0xBF r
    else if n = 0xED then utf8From 2 0x80 0x9F r
    else if 0xE1 ≤ n ∧ n ≤ 0xEF then utf8From 2 0x80 0xBF r
    else if n = 0xF0 then utf8From 3 0x90 0xBF r
    else if 0xF1 ≤ n ∧ n ≤ 0xF3 then utf8From 3 0x80 0xBF r
    else if n = 0xF4 then utf8From 3 0x80 0x8F r
    else false
  | need + 1, lo, hi, b :: r => decide (lo ≤ b.toNat ∧ b.toNat ≤ hi) && utf8From need 0x80 0xBF r

/-! ### What objects read as -/

/-- The numbers that the object store holds for one array element. -/
def State.storedBytes (s : State) (o : Obj) (i : Nat) : List (BitVec 8) :=
  (List.range o.info.elems).flatMap (fun j => leBytes o.info.width (s.obj o i j))

/-- A byte string of a STR object. -/
def State.text (s : State) (o : Obj) (i : Nat) : List (BitVec 8) := aget [] s.chb.blobs (o.key i 0)

/-- CORE_STATE of a core: the two context states. -/
def State.coreStateByte (s : State) (k : Nat) : BitVec 8 :=
  BitVec.ofNat 8 ((s.core k).stNum 1 * 16 + (s.core k).stNum 0)

/-- PORT_STATE: FP_LINK_STAT (Table 11-18). -/
def State.linkStat (s : State) (n : Nat) : Nat :=
  let p := s.port n
  p.peerPlace % 2 ^ 24 * 2 ^ 40 + p.peerPort % 64 * 2 ^ 34 + p.mode % 4 * 2 ^ 32 + p.peerRole % 16 * 2 ^ 28 +
    s.obj .portRole n % 16 * 2 ^ 24 + p.step % 16 * 16 + p.st % 16

/-- LINK_STATE. -/
def PcieLink.word (p : PcieLink) : Nat :=
  p.rate % 65536 * 65536 + p.width % 256 * 256 + b2n p.flit * 4 + b2n p.busMaster * 2 + b2n p.up

/-- PLAN_STATE: its PSEQ field ends where the active bank and the running bit stand (log 34). -/
def State.planState (s : State) (n : Nat) : Nat :=
  let m := s.mouth n
  m.pass % 65536 * 2 ^ 48 + m.entry % 4096 * 2 ^ 32 + m.granted % 2 ^ 32 / 4 * 4 + m.active % 2 * 2 + b2n m.running

/-- PLAN_B0 and PLAN_B1: the bank's entries, then its destination records. -/
def State.bankBytes (s : State) (n b : Nat) : List (BitVec 8) :=
  let x := s.bank n b
  (List.range 8192).flatMap (fun k => leBytes 8 (aget 0 x.entries k).toNat) ++
    (List.range 1024).flatMap (fun k => leBytes 8 (aget 0 x.dests k).toNat)

def pageBytes (p : Page) : List (BitVec 8) := p.words.flatMap (leBytes 8)

/-- Entries of POOL_TABLE or of HOST_POOL_TABLE. -/
def State.stackTable (s : State) (d first n : Nat) : List (BitVec 8) :=
  (List.range n).flatMap (fun p => pageBytes (s.page (handleStack d (first + p))))
def State.hostTable (s : State) (first n : Nat) : List (BitVec 8) :=
  (List.range n).flatMap (fun p => pageBytes (s.page (handleHost (s.obj .hostPoolFirst + first + p))))

/-- SESSIONS: 16 records; the carrier as Table 15-13 numbers it. -/
def carrierOf : Client → Nat
  | .can b _ => if b = 0 then 1 else 2
  | .udp _ _ => 3
  | .pcie _ => 4
  | .felun _ => 5

def State.sessionBytes (s : State) : List (BitVec 8) :=
  let rec_ (x : Session) : List (BitVec 8) :=
    leBytes 2 x.sid ++ leBytes 1 x.role ++ leBytes 1 (carrierOf x.client) ++ leBytes 1 x.kslot ++ [0, 0, 0] ++ leBytes 8 x.last
  fitTo 0 256 ((s.chb.sessions.filter (fun (x : Session) => x.proven)).flatMap rec_)

/-- A host valve as the census has it. -/
def State.hostValveBytes (s : State) (h : Nat) : List (BitVec 8) :=
  let v := s.hostValve h
  leBytes 8 (s.hvState h).toNat ++ leBytes 8 v.src.toNat ++ leBytes 8 v.time ++ leBytes 8 v.arr

/-- A value that is computed from other state; `none` for one that the object store holds. -/
def State.computed (s : State) (o : Obj) (i : Nat) : Option (List (BitVec 8)) :=
  match o with
  | .vendor => some (strBytes "Byarnyan Semiconductor")
  | .orderCode => some (strBytes "EXH-X48-A")
  | .serial => some (s.text o i)
  | .assetTag => some (s.text o i)
  | .gtc => some (leBytes 8 s.gtc)
  | .cal => some (leBytes 6 (s.obj .cal))
  | .eventLog => some (fitTo 0 131072 (s.chb.events.reverse.flatMap Event.bytes))
  | .canNode => some (leBytes 1 (s.canNode i))
  | .ipv6Addrs => some s.ipv6
  | .sessions => some s.sessionBytes
  | .coreState => some ((List.range 256).map (fun c => s.coreStateByte (256 * i + c)))
  | .poolCount => some (leBytes 2 (s.poolPages i))
  | .poolTable => some (s.stackTable i 0 12288)
  | .hostPoolTable => some (s.hostTable 0 (s.obj .hostPoolCount))
  | .tenantUse => some ((List.range 1024).flatMap (fun t => leBytes 4 (s.tenantUse t false) ++ leBytes 4 (s.tenantUse t true)))
  | .poolFree => some (leBytes 4 (s.freeCount i))
  | .hostValves => some ((List.range 256).flatMap (fun h => s.hostValveBytes h))
  | .portState => some (leBytes 8 (s.linkStat i))
  | .planState => some (leBytes 8 (s.planState i))
  | .planB0 => some (s.bankBytes i 0)
  | .planB1 => some (s.bankBytes i 1)
  | .linkState => some (leBytes 4 (s.link i).word)
  | .regionTime => some ((List.range 5).flatMap (fun st => leBytes 8 (s.regionTimeNow i st)))
  | .throttleTime => some ((List.range 16).flatMap (fun c => leBytes 8 (s.throttleNow i c)))
  | .boostTime => some (leBytes 8 (s.boostNow i))
  | .timeState => some (leBytes 8 (s.gtcRead 0x10) ++ leBytes 8 (s.gtcRead 0x18) ++ leBytes 8 (s.gtcRead 0x28))
  | .defectMap => some ((s.defectMap i).flatMap (leBytes 8))
  | .sparesUsed => some (leBytes 4 (s.sparesUsed i 0) ++ leBytes 4 (s.sparesUsed i 1))
  | .healthSummary => some (s.summary i)
  | .healthRange => some (s.healthRange.flatMap (leBytes 8))
  | .healthView => some s.healthView
  | .errorTable => some (s.errorTable i)
  | .slotInfo => some (s.slotInfo 0 ++ s.slotInfo 1)
  | .stageState => some (leBytes 4 s.stageState)
  | .chainState => some s.chainState
  | .rootSlots => some s.rootSlots
  | _ => none

/-- Readings that no command brings: each read takes new ones (log 15). -/
def isMeasured : Obj → Bool
  | .feedTelem => true | .dieRails => true | .laneOptics => true | _ => false

/-- CENSUS_DUMP: the census area as memory holds it. -/
def State.censusBytes (s : State) (off n : Nat) : List (BitVec 8) := memBytes s.mem (censusArea + off) n

/-- The length of a value in bytes, whole words for a BLOB. -/
def State.valueLen (s : State) (o : Obj) (i : Nat) : Nat :=
  match o with
  | .censusDump => 2 ^ 24
  | .hostPoolTable => 32 * s.obj .hostPoolCount
  | .poolTable => 32 * 12288
  | .planB0 => 73728
  | .planB1 => 73728
  | .healthView => 2 ^ 20
  | .errorTable => 49152
  | .eventLog => 131072
  | .poolCmd => 32
  | _ =>
    match o.info.type with
    | .str => (s.text o i).length
    | .blob => (match s.computed o i with
      | some v => (padWords v).length
      | none => (o.info.elems * o.info.width + 3) / 4 * 4)
    | t => typeBytes t

/-- A BLOB above 1 MiB is read live, word by word (R487). -/
def State.readsLive (s : State) (o : Obj) (i : Nat) : Bool := decide (2 ^ 20 < s.valueLen o i)

/-- The value of an object. -/
def State.value (s : State) (o : Obj) (i : Nat) : List (BitVec 8) × State :=
  if isMeasured o then
    ((List.range o.info.elems).flatMap (fun j => leBytes 4 (Config.measured o.info.code i (s.draws + j)).toNat),
      { s with draws := s.draws + o.info.elems })
  else
    let v := match s.computed o i with | some v => v | none => s.storedBytes o i
    (if o.info.type = .blob then padWords v else v, s)

/-- `n` bytes from place `off` of a value that is read live. -/
def State.liveSlice (s : State) (o : Obj) (off n : Nat) : List (BitVec 8) :=
  match o with
  | .censusDump => s.censusBytes off n
  | _ => ((s.hostTable (off / 32) (n / 32 + 2)).drop (off % 32)).take n

/-! ### The value rules of a write -/

/-- The number of a value of at most 8 bytes. -/
def valueNat (bs : List (BitVec 8)) : Nat := leNat bs

/-- Length and type: 0x14, 0x15 or 0. -/
def State.formStatus (s : State) (o : Obj) (i : Nat) (bs : List (BitVec 8)) : Nat :=
  match o.info.type with
  | .str => if 64 < bs.length then 0x14 else if utf8From 0 0x80 0xBF bs then 0 else 0x15
  | .blob =>
    let n := o.info.elems * o.info.width
    if bs.length ≠ s.valueLen o i then 0x14
    else if n ≠ 0 ∧ n < bs.length ∧ (bs.drop n).all (fun b => b == 0) = false then 0x15
    else 0
  | t =>
    if bs.length ≠ typeBytes t then 0x14
    else if t = .bool ∧ 1 < valueNat bs then 0x15
    else if t = .place ∧ 2 ^ 24 ≤ valueNat bs then 0x15
    else if t = .s32 then
      (let v := signed 32 (valueNat bs)
       if -100000 ≤ v ∧ v ≤ 100000 then 0 else 0x15)
    else if (t = .u8 ∨ t = .u16 ∨ t = .u32 ∨ t = .bool ∨ t = .place) ∧ o.info.acc ≠ .cmd ∧
        (valueNat bs < o.info.lo ∨ o.info.hi < valueNat bs) then 0x15
    else 0

/-- A power of two from 16 to 4,096. -/
def queueSizeOk (n : Nat) : Bool := isPow2 n && decide (16 ≤ n ∧ n ≤ 4096)

/-- A plan bank that a running walk has active, or that it has left for a swap that other ports have not taken up yet: the old bank
becomes writable at the swap's completion (12 R406). -/
def State.bankBusy (s : State) (n b : Nat) : Bool :=
  let m := s.mouth n
  m.running && (m.active == b || (s.obj .swapState / 2 ^ 30 == 1 && m.swapAt.isNone))

/-- Key slots of role 3 that a write of MKEY_ROLE leaves (R480). -/
def State.adminLeft (s : State) (k role : Nat) : Bool :=
  (List.range 8).any (fun j => (if j = k then role else s.obj .mkeyRole j) == 3)

def rec8 (bs : List (BitVec 8)) (k : Nat) : Nat := natAt bs (8 * k) 8

/-- The status that the object's own rule gives a value of the right form; 0 when it is accepted. -/
def State.ruleStatus (s : State) (o : Obj) (i : Nat) (bs : List (BitVec 8)) : Nat :=
  let v := valueNat bs
  let no (ok : Bool) : Nat := if ok then 0 else 0x18
  let range (ok : Bool) : Nat := if ok then 0 else 0x15
  match o with
  | .placeOverride => no (!placeMalformed v)
  | .poolFirst => s.rangeStatus 0 i v
  | .poolCount => s.rangeStatus 1 i v
  | .hostPoolFirst => s.rangeStatus 2 0 v
  | .hostPoolCount => s.rangeStatus 3 0 v
  | .poolCmd => (match s.poolOp with | some x => if x.auto && x.waiting.isNone then 0 else 0x17 | none => 0)
  | .fabricWeights => no (fabricWeightsOk v)
  | .felunWeights => no (felunWeightsOk v)
  | .censusCmd => if v ≠ 1 then 0x15 else no (!s.censusMet)
  | .nz => no (s.zmapHolds v)
  | .portRole => range (decide (v < 8))
  | .portCmd => range (decide (1 ≤ v ∧ v ≤ 3))
  | .planCmd =>
    if v = 1 then no (s.weightPorts.all (fun n => (s.bank n 0).valid)) else range (decide (v = 2))
  | .planB0 => no (!s.bankBusy i 0)
  | .planB1 => no (!s.bankBusy i 1)
  | .swapCmd => no (s.swapOk v)
  | .epochCmd => no (s.epochCmdOk v)
  | .mpReqs => no (decide (v + s.obj .bellPages ≤ 3072))
  | .bellPages => no (decide (v + s.obj .mpReqs ≤ 3072))
  | .pageRetry => range (decide (100 ≤ v ∧ v ≤ s.obj .timeoutRemote))
  | .eqBase => range (decide (v % 64 = 0))
  | .cqBase => range (decide (v % 64 = 0))
  | .eqSize => range (queueSizeOk v)
  | .cqSize => range (queueSizeOk v)
  | .scaleHost => range (decide (v % 4096 = 0))
  | .lqCfg => no (s.lqCfgOk (rec8 bs 0) (rec8 bs 1) (rec8 bs 2) (rec8 bs 3))
  | .regionCmd => if v = 1 ∨ v = 2 then no (s.regionCmdOk i v) else 0x15
  | .fenceDie => if v = 255 ∨ (1 ≤ v ∧ v ≤ 47) then no (s.fenceOk v) else 0x15
  | .healthFlush => range (decide (v = 1))
  | .chainCmd => if v = 1 ∨ v = 2 then no (s.chainCmdOk v) else 0x15
  | .activateCmd => s.activateStatus v
  | .jobCmd => s.jobStatus v
  | .resetCmd => s.resetStatus v
  | .mkeyRole => no (s.adminLeft i v)
  | .bundle => 0x18
  | .bundleChain => 0x18
  | _ => 0

/-! ### What a written value does -/

/-- The bits of word `j` of a written value that are fields: reserved ones are ignored and read zero (00 R8). -/
def fieldMask (o : Obj) (j : Nat) : Nat :=
  match o with
  -- Table 3-12
  | .ctxSplitDefault => 0x7F7F1F0F
  -- Table 14-3
  | .lqCfg => if j = 0 then 0xE0FFFFFC0001FFFF else if j = 3 then 2 ^ 64 - 1 else 2 ^ 40 - 1
  -- the five classes of Table 8-4
  | .poolAutoMask => 0x1F
  | _ => 2 ^ 64 - 1

/-- Numbers into the object store; RWP ones wait for flash (R468). -/
def State.storeValue (s : State) (o : Obj) (i : Nat) (bs : List (BitVec 8)) : State :=
  let n := o.info.width
  let put (t : State) (j : Nat) : State :=
    let v := Nat.land (natAt bs (n * j) n) (fieldMask o j)
    if o.info.acc = .rwp then t.setRwp o v i j else t.setObj o v i j
  (List.range o.info.elems).foldl put s

/-- A STR into its object. -/
def State.storeText (s : State) (o : Obj) (bs : List (BitVec 8)) : State :=
  let t := s.setRwp o 0
  { t with chb := { t.chb with blobs := aset [] t.chb.blobs (o.key 0 0) bs } }

/-- APERTURE_MAP: reserved bits of an entry read zero (14 R450). -/
def apEntry (v : Nat) : Nat := v / 2 ^ 30 * 2 ^ 30 + v % 4

/-- A plan bank is loaded; reserved bits of its entries and records read zero (Table 12-3). -/
def State.loadBank (s : State) (n b : Nat) (bs : List (BitVec 8)) : State :=
  let w (base : Nat) (mask : Nat → Nat) (l : List (Nat × Word)) (k : Nat) : List (Nat × Word) :=
    aset 0 l k (BitVec.ofNat 64 (Nat.land (natAt bs (base + 8 * k) 8) (mask k)))
  let entry (k : Nat) : Nat := if k % 2 = 0 then 2 ^ 64 - 1 else 2 ^ 64 - 2 ^ 47
  let dest (_ : Nat) : Nat := 2 ^ 64 - 2 ^ 49 + (2 ^ 44 - 1)
  let x : Bank := ⟨(List.range 8192).foldl (w 0 entry) [], (List.range 1024).foldl (w 65536 dest) []⟩
  { s with banks := aset Bank.zero s.banks (2 * n + b) x }

/-- A commanded action that goes on after the write: it is answered when it ends (R470). -/
def State.beginAct (s : State) (a : CmdAct) : State := { s with chb := { s.chb with acts := s.chb.acts ++ [a] } }

/-- The value takes effect; the status of a command that has ended at once. -/
def State.applyValue (s : State) (o : Obj) (i : Nat) (bs : List (BitVec 8)) : State :=
  let v := valueNat bs
  let w32 : BitVec 32 := BitVec.ofNat 32 v
  let run (f : State → Out) : State := match f s with | .next t => t | _ => s
  match o with
  | .placeOverride => run (execPlaceOverrideWrite (BitVec.ofNat 24 v))
  | .hashSeed => run (execHashSeedWrite (BitVec.ofNat 64 v))
  | .poolCmd =>
    s.poolCommand (bitsOf (rec8 bs 0) 63 56) (BitVec.ofNat 56 (rec8 bs 0)) (BitVec.ofNat 64 (rec8 bs 1)) (BitVec.ofNat 64 (rec8 bs 2))
      (BitVec.ofNat 64 (rec8 bs 3))
  | .censusCmd => run (execCensusCmd (BitVec.ofNat 8 v))
  | .fabricWeights => run (execFabricWeightsWrite (BitVec.ofNat 64 v))
  | .felunWeights => run (execFelunWeightsWrite (BitVec.ofNat 64 v))
  | .nz => run (execZmapNzWrite (BitVec.ofNat 16 v))
  | .portRole => if h : i < 48 then run (execPortRoleWrite ⟨i, h⟩ (BitVec.ofNat 8 v)) else s
  | .portCmd => if v = 1 then s.retrain16 i else s.portCmd i (v == 2)
  | .planCmd => if v = 1 then run execPlanStart else run execPlanStop
  | .planB0 => s.loadBank i 0 bs
  | .planB1 => s.loadBank i 1 bs
  | .bankEpochs =>
    let old := s.obj .bankEpochs i
    s.setObj .bankEpochs (if (s.mouth i).active = 0 then v / 65536 * 65536 + old % 65536 else old / 65536 * 65536 + v % 65536) i
  | .swapCmd => run (execSwapCmd (BitVec.ofNat 16 v))
  | .epochCmd => run (execEpochCmd (BitVec.ofNat 16 v))
  | .apertureMap => (List.range 256).foldl (fun (t : State) j => t.setObj .apertureMap (apEntry (natAt bs (8 * j) 8)) 0 j) s
  | .vecMap => (List.range 401).foldl (fun (t : State) j => t.setObj .vecMap (natAt bs (2 * j) 2 % 512) 0 j) s
  | .regionCmd =>
    if h : i < 192 then (if v = 1 then run (execRegionOn ⟨i, h⟩) else run (execRegionOff ⟨i, h⟩)) else s
  | .powerCap => (s.setRwp .powerCap v).updCaps
  | .fenceDie => run (execFenceDieWrite (BitVec.ofNat 8 v))
  | .healthFlush => run (execHealthFlush (BitVec.ofNat 8 v))
  | .cal => run (execCalWrite (BitVec.ofNat 48 v))
  | .uartBaud => run (execUartBaudWrite w32)
  | .chainCmd => if v = 1 then s.chainOrigin else s.chainStop
  | .activateCmd => s.activate v
  | .jobCmd => if v = 1 then s.jobStart else if v = 2 then s.jobStop else s.jobClear
  | .resetCmd => s.resetCmd v
  | .assetTag => s.storeText o bs
  | _ => s.storeValue o i bs

/-- A command whose action goes on once it has been accepted: it has not ended yet. -/
def State.actsOn (s : State) (o : Obj) : Bool :=
  match o with
  | .poolCmd => s.poolOp.isSome
  | .epochCmd => s.epochTo.isSome
  | .activateCmd => s.fw.active.isSome
  | .hashSeed => s.fab.seedFill
  | _ => false

/-- The status of a command that has ended with its write. -/
def State.endStatus (s : State) (o : Obj) : Nat :=
  match o with
  | .poolCmd => poolStatus (s.obj .poolResult 0 7)
  | _ => 0

end Sys2Proof.Machine
end

