-- ==== Sys2Proof/Machine/Chabohar.lean ====
section
/-! DEFINITION. Chapter 15 R471 to R491, R498: how the MMC serves the PDUs it has received, one at a time and in the order of
their reception: sessions and their protection, the services, segmented transfers, event delivery; and the deliveries of
firmware bundles that chapter 20 runs over them. Each request row takes the PDU at the front when its service is the row's;
a PDU of another service stays. -/

namespace Sys2Proof.Machine

/-- A request, its protection taken off. -/
structure Request where
  client : Client
  sid : Nat
  svc : Nat
  status : Nat
  tid : Nat
  obj : Nat × Nat × Nat
  body : List (BitVec 8)
  /-- the client's role, and whether it has no session and only the rights of R474. -/
  role : Nat
  restricted : Bool
  deriving DecidableEq, Repr

/-! ### Carriers (Table 15-7) -/

/-- Bytes that a body may have: with SID 0, and in a session. -/
def bodyCapacity (c : Client) (sid : Nat) : Nat :=
  match c with
  | .can _ _ => if sid = 0 then 48 else 32
  | .udp _ _ => if sid = 0 then 1216 else 1200
  | .pcie _ => if sid = 0 then 4080 else 4064
  | .felun _ => 4208

def wordsPerBlock (c : Client) (sid : Nat) : Nat := (bodyCapacity c sid - 4) / 4

/-! ### The message (R471) -/

/-- The length agrees with BLEN, reserved bytes are zero, CNODE fits the carrier; PROOF carries no trailer. -/
def pduFormed (c : Client) (p : List (BitVec 8)) : Bool :=
  let svc := natAt p 0 1
  let sid := natAt p 10 2
  let trailer := if sid = 0 ∨ svc = 0x11 then 0 else 16
  let node := natAt p 7 1
  decide (16 ≤ p.length) && p.length == 16 + natAt p 12 2 + trailer && natAt p 15 1 == 0 && decide (natAt p 14 1 < 2) &&
  (natAt p 1 1 == 0 || svc == 8 || decide (0x80 ≤ svc)) &&
  (match c with | .can _ _ => decide (node ≤ 126) | _ => node == 0)

/-- The request that a PDU's header and a body make. -/
def requestOf (c : Client) (p body : List (BitVec 8)) (role : Nat) (restricted : Bool) : Request :=
  ⟨c, natAt p 10 2, natAt p 0 1, natAt p 1 1, natAt p 2 2, (natAt p 4 1, natAt p 5 2, natAt p 8 2), body, role, restricted⟩

/-! ### Protection (R477, R478) -/

/-- The value with low 32 bits `lo` that lies closest to `hi`; the higher one on a tie. -/
def rebuiltCounter (hi lo : Nat) : Nat :=
  let base := hi / 2 ^ 32 * 2 ^ 32 + lo
  if hi < base ∧ 2 ^ 31 < base - hi ∧ 2 ^ 32 ≤ base then base - 2 ^ 32
  else if base < hi ∧ 2 ^ 31 ≤ hi - base then base + 2 ^ 32
  else base

/-- The receive window: above H - 64 and not accepted before. -/
def Session.fresh (x : Session) (c : Nat) : Bool := decide (x.hi < c + 64) && !x.seen.contains c && decide (c < 2 ^ 64)

def Session.accept (x : Session) (c now : Nat) : Session :=
  let hi := max x.hi c
  { x with hi := hi, seen := (c :: x.seen).filter (fun y => decide (hi < y + 64)), last := now }

/-- What becomes of a protected message. -/
inductive Opened where
  | body (bs : List (BitVec 8)) (ctr : Nat)
  | badCounter
  | badTag

def State.openMessage (s : State) (x : Session) (p : List (BitVec 8)) : Opened :=
  let n := natAt p 12 2
  let header := p.take 16
  let ct := (p.drop 16).take n
  let c := rebuiltCounter x.hi (natAt p (16 + n) 4)
  let tag := p.drop (16 + n + 4)
  if x.fresh c = false then .badCounter
  else
    let k := x.dirKey (s.mkeyBytes x.kslot) "chb-c2m" c
    if fitTo 0 12 (Config.gcmTag k (x.nonce c) header ct) = tag then .body (fitTo 0 n (Config.gcmCrypt k (x.nonce c) ct)) c
    else .badTag

/-! ### Answers -/

/-- A response: counted, kept and sent. -/
def State.reply (s : State) (q : Request) (status : Nat) (body : List (BitVec 8)) : State :=
  (s.countChb 0).respond q.client q.sid ⟨q.tid, q.svc, q.obj, q.body, status, body, q.sid⟩

/-- A response that is not kept: the request was not applied. -/
def State.refuse (s : State) (q : Request) (status : Nat) (plain : Bool) : State :=
  (s.countChb 0).sendMsg q.client q.sid (q.svc % 0x80 + 0x80) status q.tid q.obj [] plain false

/-- The response kept for a TID. -/
def State.keptFor (s : State) (q : Request) : Option Kept :=
  match s.chb.caches.find? (fun (x : Cache) => x.sid == q.sid && (q.sid != 0 || x.client == q.client)) with
  | some x => x.kept.find? (fun (k : Kept) => k.tid == q.tid)
  | none => none

def Kept.sameAs (k : Kept) (q : Request) : Bool := k.svc == q.svc && k.obj == q.obj && k.body == q.body

/-! ### Objects named by a request -/

/-- The object, or 0x1D, 0x10 or 0x11 (R465, R467). -/
def State.named (q : Request) : Obj ⊕ Nat :=
  if q.obj.1 = 0x7F then .inr 0x1D
  else match Obj.find (q.obj.1 * 65536 + q.obj.2.1) with
    | none => .inr 0x10
    | some o => if q.obj.2.2 < o.info.count then .inl o else .inr 0x11

/-- A read that the access code and the client's rights permit (R467, R474). -/
def readAccess (q : Request) (o : Obj) : Nat :=
  if accReadable o.info.acc = false then 0x12
  else if q.restricted ∧ 1 < q.obj.1 then 0x13
  else 0

/-- The role that a write needs. -/
def writeRole (q : Request) (o : Obj) : Nat :=
  if q.obj.1 = 0x60 ∨ q.obj.1 = 0x70 ∨ o.info.acc = .rwp then 3 else 2

def writeAccess (q : Request) (o : Obj) : Nat :=
  if accWritable o.info.acc = false then 0x12
  else if q.restricted ∨ q.role < writeRole q o then 0x13
  else 0

/-- A commanded action, or a segmented write, that holds the object (R470, R484). -/
def State.heldBy (s : State) (obj : Nat × Nat × Nat) : Bool :=
  s.chb.acts.any (fun (a : CmdAct) => a.obj == obj) || s.chb.transfers.any (fun (t : Transfer) => t.write && t.obj == obj)

/-! ### READ, DESCRIBE, WRITE (R472) -/

def State.serveReadReq (s : State) (q : Request) : State :=
  match State.named q with
  | .inr st => s.reply q st []
  | .inl o =>
    let st := readAccess q o
    if st ≠ 0 then s.reply q st []
    else if q.body ≠ [] then s.reply q 0x14 []
    else if bodyCapacity q.client q.sid < s.valueLen o q.obj.2.2 then s.reply q 0x19 []
    else
      let v := s.value o q.obj.2.2
      v.2.reply q 0 v.1

/-- The description of an object. -/
def State.description (s : State) (o : Obj) (i : Nat) : List (BitVec 8) :=
  let size := if o.info.type = .str then 64 else s.valueLen o i
  leBytes 1 (typeCode o.info.type) ++ leBytes 1 (accCode o.info.acc) ++ leBytes 2 (if o.info.count = 1 then 0 else o.info.count) ++
    leBytes 4 size

def State.serveDescribe (s : State) (q : Request) : State :=
  match State.named q with
  | .inr st => s.reply q st []
  | .inl o =>
    if q.restricted ∧ 1 < q.obj.1 then s.reply q 0x13 []
    else if q.body ≠ [] then s.reply q 0x14 []
    else s.reply q 0 (s.description o q.obj.2.2)

/-- Sessions of a key slot close when it is emptied or rewritten (R479). -/
def State.closeSlot (s : State) (k : Nat) : State :=
  (s.chb.sessions.filter (fun (x : Session) => x.kslot == k)).foldl (fun (t : State) x => t.closeSession x.sid) s

def State.afterKeyWrite (s : State) (o : Obj) (i : Nat) : State :=
  if o = .mkey ∨ o = .mkeyRole then s.closeSlot i else s

/-- Job state, busy objects and the object's own rule, for a value of the right form (R469, R470, R484). -/
def State.valueStatus (s : State) (q : Request) (o : Obj) (bs : List (BitVec 8)) (held : Bool) : Nat :=
  let i := q.obj.2.2
  let form := s.formStatus o i bs
  if form ≠ 0 then form
  else if o.info.acc = .rwl ∧ s.jobRuns = true then 0x16
  else if held then 0x17
  else s.ruleStatus o i bs

def State.serveWriteOf (s : State) (q : Request) (o : Obj) : State :=
  let i := q.obj.2.2
  let st := writeAccess q o
  let big := decide (bodyCapacity q.client q.sid < max q.body.length (if o.info.type = .str then 0 else s.valueLen o i))
  let st := if st ≠ 0 then st else if big || o == .bundle || o == .bundleChain then 0x19 else s.valueStatus q o q.body (s.heldBy q.obj)
  if st ≠ 0 then s.reply q st []
  else
    let t := s.applyValue o i q.body
    if t.actsOn o then t.beginAct ⟨q.client, q.sid, q.obj, q.tid, q.body, s.gtc, false⟩
    else (t.reply q (t.endStatus o) []).afterKeyWrite o i

def State.serveWriteReq (s : State) (q : Request) : State :=
  match State.named q with
  | .inr st => s.reply q st []
  | .inl o => s.serveWriteOf q o

/-! ### Segmented transfers (R485 to R489) -/

def Transfer.is (t : Transfer) (q : Request) : Bool := t.tid == q.tid && t.sid == q.sid && t.client == q.client

def State.transferOf (s : State) (q : Request) : Option Transfer := s.chb.transfers.find? (fun (t : Transfer) => t.is q)

def Transfer.same (t u : Transfer) : Bool := t.tid == u.tid && t.sid == u.sid && t.client == u.client

def State.putTransfer (s : State) (u : Transfer) : State :=
  { s with chb := { s.chb with transfers := s.chb.transfers.map (fun (t : Transfer) => if t.same u then u else t) } }

def State.dropTransfer (s : State) (u : Transfer) : State :=
  { s with chb := { s.chb with transfers := s.chb.transfers.filter (fun (t : Transfer) => !t.same u) } }

/-- A message of a transfer from the module: SEG_BLOCK, SEG_ACK, SEG_END or SEG_ABORT. -/
def State.sendSeg (s : State) (t : Transfer) (svc status : Nat) (body : List (BitVec 8)) (retx : Bool) : State :=
  s.sendMsg t.client t.sid svc status t.tid t.obj body false retx

def Transfer.isBundle (t : Transfer) : Bool := t.write && t.obj.1 == 0x60 && (t.obj.2.1 == 0x10 || t.obj.2.1 == 0x11)

/-- A transfer ends before its SEG_END: a write changes nothing, a delivery leaves Empty (20 R614). -/
def State.abandon (s : State) (t : Transfer) : State :=
  let s := (s.dropTransfer t).countChb 9
  if t.isBundle then s.dropDelivery 0 else s

/-- SEG_ABORT from the module. -/
def State.abortSeg (s : State) (t : Transfer) (status : Nat) : State := (s.abandon t).sendSeg t 8 status [] false

/-- The words of a block at word `at_`, as they are sent now. -/
def State.blockBytes (s : State) (t : Transfer) (at_ n : Nat) : List (BitVec 8) :=
  if t.live then
    match Obj.find (t.obj.1 * 65536 + t.obj.2.1) with
    | some o => fitTo 0 (4 * n) (s.liveSlice o (4 * at_) (4 * n))
    | none => []
  else fitTo 0 (4 * n) (t.data.drop (4 * at_))

/-- Blocks in ascending order, within the window (R487). -/
def sendBlocks (retx : Bool) : Nat → Transfer → State → State
  | 0, _, s => s
  | fuel + 1, t, s =>
    let lim := min t.stop (t.next + t.window * t.perBlock)
    if t.sentTo < lim then
      let n := min t.perBlock (t.stop - t.sentTo)
      let bs := s.blockBytes t t.sentTo n
      let u := { t with
        sentTo := t.sentTo + n, sentAt := s.gtc
        data := if t.live then t.data.take (4 * (t.sentTo - t.start)) ++ bs else t.data }
      sendBlocks retx fuel u ((s.sendSeg t 5 0 (leBytes 4 t.sentTo ++ bs) retx).putTransfer u)
    else s

/-- The words that a read has moved. -/
def Transfer.moved (t : Transfer) : List (BitVec 8) :=
  if t.live then t.data else (t.data.drop (4 * t.start)).take (4 * (t.stop - t.start))

/-- A resent block that was acknowledged: transient after one resend, lasting after more (R489, source 13). -/
def State.countResent (s : State) (resends : Nat) : State :=
  if resends = 1 then (s.countChb 5).countErr 0 13 0 else (s.countChb 6).countErr 0 13 1

/-- SEG_ACK of a read: NEXT advances, the window moves on, and the last word ends the transfer. -/
def State.ackRead (s : State) (t : Transfer) (next : Nat) : State :=
  if next ≤ t.next then s
  else
    let done := t.again.filter (fun e => decide (e.1 < next))
    let s := done.foldl (fun (u : State) e => u.countResent e.2) s
    let t := { t with next := next, again := t.again.filter (fun e => decide (next ≤ e.1)), lastProgress := s.gtc }
    let s := s.putTransfer t
    if next = t.stop then (s.dropTransfer t).sendSeg t 7 0 (leBytes 4 (crc32c t.moved)) false
    else sendBlocks false 16 t s

/-- The value of a segmented write without its padding; `none` where the words are not the value's. -/
def unpadded (o : Obj) (bs : List (BitVec 8)) : Option (List (BitVec 8)) :=
  match o.info.type with
  | .blob => some bs
  | .str =>
    let cut (l : List (BitVec 8)) : List (BitVec 8) := if l.getLast? = some 0 then l.dropLast else l
    some (cut (cut (cut bs)))
  | t =>
    let n := typeBytes t
    if bs.length = (n + 3) / 4 * 4 ∧ (bs.drop n).all (fun b => b == 0) = true then some (bs.take n) else none

/-- The last word of a write has arrived: the value is applied under R484 when its CRC-32C matches. -/
def State.finishWrite (s : State) (q : Request) (t : Transfer) : State :=
  let s := s.dropTransfer t
  let fin (u : State) (st : Nat) : State := u.sendSeg t 7 st [] false
  if crc32c t.data ≠ t.crc then fin s 0x1C
  else match State.named q with
    | .inr st => fin s st
    | .inl o =>
      match unpadded o t.data with
      | none => fin s 0x14
      | some bs =>
        let st := s.valueStatus q o bs (s.heldBy t.obj)
        if st ≠ 0 then fin s st
        else
          let u := s.applyValue o t.obj.2.2 bs
          -- a command that goes on has been accepted; command-done tells its end
          if u.actsOn o then fin (u.beginAct ⟨t.client, t.sid, t.obj, t.tid, bs, s.gtc, true⟩) 1
          else (fin u (u.endStatus o)).afterKeyWrite o t.obj.2.2

/-- A chain is held once its header has been verified (20 R616 to R618). -/
def State.noteChain (s : State) (t : Transfer) : State :=
  match s.fw.delivery, t.client with
  | some d, .felun n =>
    if d.chain ∧ d.passed ∧ s.fw.chain = none then
      let axis := (s.obj .portRole n - 2) / 2
      { s with fw := { s.fw with chain := some ⟨natAt d.header 4 4, natAt d.header 8 4, some axis, t.stop, t.crc⟩ } }
    else s
  | _, _ => s

/-- A block of a delivery that arrived in order (20 R614). -/
def State.deliverBlock (s : State) (t : Transfer) (bs : List (BitVec 8)) : State :=
  match s.deliverBytes bs with
  | .abort u st => ((u.dropTransfer t).countChb 9).sendSeg t 8 st [] false
  | .more u next =>
    let t := { t with next := next / 4, lastProgress := s.gtc }
    let u := ((u.putTransfer t).noteChain t).sendSeg t 6 0 (leBytes 4 (next / 4)) false
    if t.next < t.stop then u
    else
      let u := u.dropTransfer t
      if crc32c u.deliveredBytes ≠ t.crc then (u.dropDelivery 0).sendSeg t 7 0x1C [] false
      else
        let r := u.stageDelivery t.crc
        r.1.sendSeg t 7 r.2 [] false

/-- SEG_BLOCK: in order it is taken, past the end it ends the transfer, otherwise it is discarded (R488). -/
def State.serveBlock (s : State) (q : Request) : State :=
  match s.transferOf q with
  | none => s.refuse q 0x1A false
  | some t =>
    let off := natAt q.body 0 4
    let bs := q.body.drop 4
    if t.write = false then s.refuse q 0x1A false
    else if off ≠ t.next ∨ bs = [] ∨ bs.length % 4 ≠ 0 then s.sendSeg t 6 0 (leBytes 4 t.next) false
    else if t.stop < off + bs.length / 4 then s.abortSeg t 0x1A
    else if t.isBundle then s.deliverBlock t bs
    else
      let t := { t with next := off + bs.length / 4, data := t.data ++ bs, lastProgress := s.gtc }
      let s := (s.putTransfer t).sendSeg t 6 0 (leBytes 4 t.next) false
      if t.next < t.stop then s else s.finishWrite q t

/-- SEG_ACK. -/
def State.serveAck (s : State) (q : Request) : State :=
  match s.transferOf q with
  | none => s.refuse q 0x1A false
  | some t =>
    let next := natAt q.body 0 4
    if t.write ∨ q.body.length ≠ 4 ∨ t.sentTo < next then s.refuse q 0x1A false else s.ackRead t next

/-- SEG_ABORT from the client ends the transfer at once. -/
def State.serveAbort (s : State) (q : Request) : State :=
  match s.transferOf q with
  | none => s
  | some t => s.abandon t

/-- Transfers of a client's session, or of the client without one. -/
def State.transfersOf (s : State) (q : Request) : Nat :=
  (s.chb.transfers.filter (fun (t : Transfer) => t.sid == q.sid && (q.sid != 0 || t.client == q.client))).length

/-- The inactive slot is in use: a delivery, an activation or a forwarding, or a start outside recovery (20 R614 step 1). -/
def State.slotBusy (s : State) : Bool :=
  s.fw.delivery.isSome || s.fw.active.isSome || s.fw.forwards.any (fun (f : Forward) => f.st == 1) ||
  (s.obj .moduleState == 0 && s.obj .recovery == 0)

/-- A delivery begins: Receiving. -/
def State.beginDelivery (s : State) (q : Request) (nwords : Nat) : State :=
  let d : Delivery :=
    { chain := q.obj.2.1 == 0x11, port := (match q.client with | .felun n => n | _ => 0xFFFF), tid := q.tid, total := nwords
      got := 0, buf := [], header := [], passed := false, blocks := 0, again := false, auth := [] }
  { s with fw := { s.fw with stage := 1, blocks := 0, delivery := some d, chain := none, forwards := [] } }

/-- The transfer that a SEG_INIT names. -/
def Request.transfer (q : Request) (write : Bool) (start stop now : Nat) : Transfer :=
  { tid := q.tid, sid := q.sid, client := q.client, write := write, obj := q.obj, window := natAt q.body 1 1, start := start
    stop := stop, crc := natAt q.body 12 4, next := start, data := [], perBlock := wordsPerBlock q.client q.sid
    sentTo := start, again := [], sentAt := now, live := false, lastProgress := now }

def State.addTransfer (s : State) (t : Transfer) : State := { s with chb := { s.chb with transfers := s.chb.transfers ++ [t] } }

/-- The response body of SEG_INIT. -/
def segAnswer (q : Request) (words : Nat) : List (BitVec 8) := leBytes 4 words ++ leBytes 4 (wordsPerBlock q.client q.sid)

/-- SEG_INIT of a read. -/
def State.initRead (s : State) (q : Request) (o : Obj) : State :=
  let i := q.obj.2.2
  let len := (s.valueLen o i + 3) / 4
  let start := natAt q.body 4 4
  let n := natAt q.body 8 4
  let stop := if n = 0 then len else start + n
  let st := readAccess q o
  if st ≠ 0 then s.reply q st []
  else if natAt q.body 12 4 ≠ 0 then s.reply q 0x1F []
  else if len ≤ start ∨ len < stop then s.reply q 0x1A []
  else
    let live := s.readsLive o i
    let v := if live then ([], s) else s.value o i
    let t := { q.transfer false start stop s.gtc with live := live, data := padWords v.1 }
    sendBlocks false 16 t ((v.2.reply q 0 (segAnswer q len)).addTransfer t)

/-- A SEG_INIT of a bundle's delivery is accepted, or refused with a status. -/
def State.bundleStatus (s : State) (q : Request) (o : Obj) : Nat :=
  match o, q.client with
  | .bundleChain, .felun n =>
    if s.obj .chainEn = 0 then 0x18
    else if s.obj .portRole n < 2 then 0x13
    else if s.slotBusy then 0x17 else 0
  | .bundle, .felun _ => 0x13
  | .bundle, _ => if s.slotBusy then 0x17 else 0
  | _, _ => 0x18

/-- SEG_INIT of a write: role, access and job state are checked now (R484). -/
def State.initWrite (s : State) (q : Request) (o : Obj) : State :=
  let n := natAt q.body 8 4
  let chain := o == .bundleChain && (match q.client with | .felun _ => true | _ => false)
  let st := if chain then 0 else writeAccess q o
  let deliver := o == .bundle || o == .bundleChain
  if st ≠ 0 then s.reply q st []
  else if natAt q.body 4 4 ≠ 0 then s.reply q 0x1A []
  else if n = 0 then s.reply q 0x15 []
  else if o.info.acc = .rwl ∧ s.jobRuns = true then s.reply q 0x16 []
  else if s.heldBy q.obj then s.reply q 0x17 []
  else if deliver then
    let st := s.bundleStatus q o
    if st ≠ 0 then s.reply q st []
    else ((s.beginDelivery q n).reply q 0 (segAnswer q n)).addTransfer (q.transfer true 0 n s.gtc)
  else (s.reply q 0 (segAnswer q n)).addTransfer (q.transfer true 0 n s.gtc)

def State.serveInit (s : State) (q : Request) : State :=
  match State.named q with
  | .inr st => s.reply q st []
  | .inl o =>
    if q.body.length ≠ 16 then s.reply q 0x14 []
    else if natAt q.body 2 2 ≠ 0 then s.reply q 0x1F []
    else if 1 < natAt q.body 0 1 ∨ natAt q.body 1 1 = 0 ∨ 16 < natAt q.body 1 1 then s.reply q 0x15 []
    else if 8 ≤ s.chb.transfers.length ∨ 2 ≤ s.transfersOf q ∨ (s.transferOf q).isSome = true then s.reply q 0x21 []
    else if natAt q.body 0 1 = 0 then s.initRead q o else s.initWrite q o

/-- One transfer's timers: the read sends again from NEXT, and 4 × SEG_TIMEOUT without progress ends either (R489). -/
def State.segTimer (s : State) (t : Transfer) : State :=
  let ms := 1000000 * s.obj .segTimeout
  if t.lastProgress + 4 * ms ≤ s.gtc then
    let s := (t.again.filter (fun e => decide (2 ≤ e.2))).foldl (fun (u : State) e => u.countResent e.2) s
    s.abortSeg t 0x1B
  else if t.write = false ∧ t.next < t.sentTo ∧ max t.sentAt t.lastProgress + ms ≤ s.gtc then
    let starts := (List.range 16).map (fun k => t.next + k * t.perBlock)
    let sent := starts.filter (fun a => decide (a < t.sentTo))
    let times (a : Nat) : Nat := match t.again.find? (fun e => e.1 == a) with | some e => e.2 | none => 0
    let u := { t with sentTo := t.next, again := sent.map (fun a => (a, times a + 1)), sentAt := s.gtc }
    sendBlocks true 16 u (s.putTransfer u)
  else s

/-! ### Events to subscribers (R491) -/

/-- SUBSCRIBE sets the session's mask; 0 ends the subscription. -/
def State.serveSubscribe (s : State) (q : Request) : State :=
  let mask := natAt q.body 0 4
  let others := (s.chb.sessions.filter (fun (x : Session) => x.mask != 0 && x.sid != q.sid)).length
  if q.sid = 0 then s.reply q 0x13 []
  else if q.body.length ≠ 8 then s.reply q 0x14 []
  else if natAt q.body 4 4 ≠ 0 then s.reply q 0x1F []
  else if mask ≠ 0 ∧ 8 ≤ others then s.reply q 0x21 []
  else
    (s.updSession q.sid (fun x => { x with mask := mask, unacked := if mask = 0 then [] else x.unacked })).reply q 0 []

/-- A resent event that ends: transient after one resend, lasting after more or without acknowledgement (source 14). -/
def State.countEventResent (s : State) (transient : Bool) : State :=
  if transient then (s.countChb 7).countErr 0 14 0 else (s.countChb 8).countErr 0 14 1

/-- A subscriber's acknowledgement. -/
def State.serveEventAck (s : State) (q : Request) : State :=
  match s.session q.sid with
  | none => s
  | some x =>
    match x.unacked.find? (fun (e : Unacked) => e.seq % 65536 == q.tid) with
    | none => s
    | some e =>
      let t := s.updSession q.sid (fun y => { y with unacked := y.unacked.filter (fun (f : Unacked) => f.seq != e.seq) })
      if e.resends = 0 then t else t.countEventResent (e.resends == 1)

/-- One unacknowledged event of a session, when EVENT_RETRY has passed. -/
def State.retryEvent (s : State) (sid : Nat) (e : Unacked) : State :=
  let upd (t : State) (f : List Unacked → List Unacked) : State := t.updSession sid (fun y => { y with unacked := f y.unacked })
  if s.gtc < e.sentAt + 1000000 * s.obj .eventRetry then s
  else match s.chb.events.find? (fun (v : Event) => v.seq == e.seq), s.session sid with
    | some v, some x =>
      if 4 ≤ e.resends then (upd s (fun l => l.filter (fun (f : Unacked) => f.seq != e.seq))).countEventResent false
      else
        let t := upd s (fun l => l.map (fun (f : Unacked) => if f.seq = e.seq then ⟨f.seq, f.resends + 1, s.gtc⟩ else f))
        t.sendMsg x.client sid 0x0A 0 (e.seq % 65536) (0, 0, 0) v.bytes false true
    | _, _ => upd s (fun l => l.filter (fun (f : Unacked) => f.seq != e.seq))

/-! ### Sessions (R475, R476, R479) -/

def State.lockout (s : State) (carrier : Nat) : Lockout := aget Lockout.zero s.chb.lockouts carrier
def State.setLockout (s : State) (carrier : Nat) (l : Lockout) : State :=
  { s with chb := { s.chb with lockouts := aset Lockout.zero s.chb.lockouts carrier l } }

/-- A carrier answers no OPEN for 10 s after 16 refused proofs in a row. -/
def State.lockedOut (s : State) (carrier : Nat) : Bool :=
  match (s.lockout carrier).since with
  | some t => decide (s.gtc < t + 10000000000)
  | none => false

/-- The next SID: from 1 to 0xFFFE in a ring, without those in use. -/
def freeSid (used : List Nat) : Nat → Nat → Nat
  | 0, n => n
  | fuel + 1, n =>
    let n := if n = 0 ∨ 0xFFFE < n then 1 else n
    if used.contains n then freeSid used fuel (n + 1) else n

/-- OPEN: a SID, nonces and a salt; or a refusal. -/
def State.serveOpen (s : State) (q : Request) : State :=
  let k := natAt q.body 0 1
  let role := natAt q.body 1 1
  if s.lockedOut (carrierOf q.client) then s.reply q 0x13 []
  else if q.body.length ≠ 20 then s.reply q 0x14 []
  else if natAt q.body 2 2 ≠ 0 then s.reply q 0x1F []
  else if 8 ≤ k ∨ role = 0 ∨ 3 < role then s.reply q 0x15 []
  else if s.obj .mkeyRole k < role ∨ (s.obj .recovery = 1 ∧ k ≠ 0) then s.reply q 0x13 []
  else if 16 ≤ s.chb.sessions.length then s.reply q 0x21 []
  else
    let sid := freeSid (s.chb.sessions.map (fun (x : Session) => x.sid)) 17 s.chb.nextSid
    let a := s.draw
    let b := a.2.draw
    let mnonce := leBytes 16 (Config.freshRandom a.1).toNat
    let salt := (Config.freshRandom b.1).toNat % 2 ^ 32
    let x : Session :=
      { sid := sid, client := q.client, kslot := k, role := role, cnonce := q.body.drop 4, mnonce := mnonce, salt := salt
        openedAt := s.gtc, proven := false, last := s.gtc, hi := 0, seen := [], sendCtr := 0, mask := 0, unacked := [] }
    let t := b.2
    let t : State := { t with chb := { t.chb with sessions := t.chb.sessions ++ [x], nextSid := if sid = 0xFFFE then 1 else sid + 1 } }
    (t.countChb 0).respond q.client q.sid
      ⟨q.tid, q.svc, q.obj, q.body, 0, mnonce ++ leBytes 4 salt ++ leBytes 4 s.place, sid⟩

/-- A refused proof: counted, its SID discarded; the 16th in a row locks the carrier. -/
def State.refuseProof (s : State) (q : Request) : State :=
  let c := carrierOf q.client
  let n := (s.lockout c).run + 1
  let s := (s.closeSession q.sid).countChb 4
  let s := s.setLockout c ⟨if n = 16 then 0 else n, if n = 16 then some s.gtc else (s.lockout c).since⟩
  let s := if n = 16 then s.raiseAct 0x0706 c 0 0 else s
  s.refuse q 0x13 true

/-- PROOF: the client's proof is checked and the role granted. The answer is the session's first protected message. -/
def State.serveProof (s : State) (q : Request) : State :=
  match s.chb.sessions.find? (fun (x : Session) => x.sid == q.sid) with
  | none => s.refuseProof q
  | some x =>
    if x.client ≠ q.client then s.refuse q 0x20 true
    else if x.proven then
      match s.keptFor q with
      | some k => if k.sameAs q then (s.countChb 1).sendMsg q.client q.sid 0x91 k.status q.tid q.obj k.answer false false
        else s.refuse q 0x1F false
      | none => s.refuse q 0x1F false
    else
      let key := s.mkeyBytes x.kslot
      if x.openedAt + 5000000000 < s.gtc ∨ x.proof key "client" s.place ≠ q.body then s.refuseProof q
      else
        let s := s.updSession q.sid (fun y => { y with proven := true, last := s.gtc })
        let s := s.setLockout (carrierOf q.client) ⟨0, (s.lockout (carrierOf q.client)).since⟩
        s.reply q 0 (x.proof key "module" s.place ++ leBytes 1 x.role)

/-- CLOSE: answered, then the session is closed; with SID 0 there is none to close. -/
def State.serveClose (s : State) (q : Request) : State :=
  let s := s.reply q 0 []
  if q.sid = 0 then s else s.closeSession q.sid

/-! ### Which services are served (R474, R498, R501; 20 R618, R624) -/

/-- Services while the module is Starting, and in recovery mode. -/
def State.available (s : State) (q : Request) : Bool :=
  let open_ := q.svc == 0x10 || q.svc == 0x11 || q.svc == 0x12
  let look := q.svc == 1 || q.svc == 3
  if s.obj .recovery = 1 then
    open_ || (look && (q.obj.1 == 0x00 || q.obj.1 == 0x60)) ||
    (q.svc == 2 && ((q.obj == (0x60, 0x20, 0) && q.body == [1]) || (q.obj == (0x02, 0x02, 0) && q.body == [2]))) ||
    (q.svc == 4 && q.obj == (0x60, 0x10, 0) && natAt q.body 0 1 == 1) || q.svc == 5 || q.svc == 8
  else if s.obj .moduleState = 0 then open_ || (look && decide (q.obj.1 ≤ 2))
  else true

/-- What VC5 is served: the chain's transfer, and READ of STAGE_STATE. -/
def felunServes (q : Request) : Bool :=
  q.sid == 0 && ((q.svc == 1 && q.obj == (0x60, 0x12, 0)) || (q.svc == 4 && q.obj == (0x60, 0x11, 0) && natAt q.body 0 1 == 1) ||
    q.svc == 5 || q.svc == 6 || q.svc == 8)

/-- Services with SID 0 and without the rights of PCIE_TRUST. -/
def restrictedServes (svc : Nat) : Bool := svc == 1 || svc == 2 || svc == 3 || svc == 4 || svc == 0x10 || svc == 0x12

def isFelun : Client → Bool
  | .felun _ => true
  | _ => false

/-- The service of a request. -/
def State.dispatch (s : State) (q : Request) : State :=
  match q.svc with
  | 1 => s.serveReadReq q
  | 2 => s.serveWriteReq q
  | 3 => s.serveDescribe q
  | 4 => s.serveInit q
  | 5 => s.serveBlock q
  | 6 => s.serveAck q
  | 8 => s.serveAbort q
  | 9 => s.serveSubscribe q
  | 0x10 => if q.sid = 0 then s.serveOpen q else s.reply q 0x1F []
  | 0x12 => s.serveClose q
  | _ => s.reply q 0x1F []

/-- A request with its rights: answered from the kept responses, refused, or served. -/
def State.serve (s : State) (q : Request) : State :=
  let keeps := wantsAnswer q.svc
  match (if keeps then s.keptFor q else none) with
  | some k =>
    if k.sameAs q then (s.countChb 1).sendMsg q.client k.rsid (q.svc + 0x80) k.status q.tid q.obj k.answer false false
    else s.refuse q 0x1F false
  | none =>
    if s.available q = false then (if keeps then s.reply q 0x17 [] else s)
    else if isFelun q.client ∧ felunServes q = false then (if keeps then s.reply q 0x13 [] else s)
    else if q.restricted ∧ isFelun q.client = false ∧ restrictedServes q.svc = false then
      (if keeps then s.reply q 0x13 [] else s)
    else s.dispatch q

/-! ### The front of the queue (R481) -/

/-- A PDU whose session's protection has been taken off, or that has no session. -/
def State.serveInbound (s : State) (x : Inbound) (q : Request) : State :=
  if q.svc = 0x8A then s.serveEventAck q
  else if 0x80 ≤ q.svc then s
  else if x.extra then s.refuse q 0x21 false
  else s.serve q

/-- The role of a client without a session (R474). Over VC5 no role is needed for what is served. -/
def State.plainRole (s : State) (c : Client) : Nat × Bool :=
  match c with
  | .pcie _ => if s.obj .pcieTrust = 1 then (2, false) else (1, true)
  | .felun _ => (1, false)
  | _ => (1, true)

/-- A received PDU is handled. -/
def State.handle (s : State) (x : Inbound) : State :=
  let p := x.pdu
  let svc := natAt p 0 1
  let sid := natAt p 10 2
  let none_ := requestOf x.client p [] 0 true
  if pduFormed x.client p = false then
    (if svc < 0x80 ∧ svc ≠ 0x0B then
      s.refuse none_ 0x1F ((s.session sid).all (fun (y : Session) => decide (y.client ≠ x.client)))
     else { s with chb := { s.chb with discards := s.chb.discards + 1 } })
  else if sid = 0 then
    let r := s.plainRole x.client
    s.serveInbound x (requestOf x.client p (p.drop 16) r.1 r.2)
  else if svc = 0x11 then s.serveProof (requestOf x.client p (p.drop 16) 0 true)
  else match s.session sid with
    | none => if svc < 0x80 then s.refuse none_ 0x20 true else s
    | some y =>
      if y.client ≠ x.client then (if svc < 0x80 then s.refuse none_ 0x20 true else s)
      else match s.openMessage y p with
        | .badCounter => s.countChb 3
        | .badTag => s.countChb 2
        | .body bs c =>
          let t := (s.updSession sid (fun z => z.accept c s.gtc)).closeWorn sid
          if (t.session sid).isNone then t else t.serveInbound x (requestOf x.client p bs y.role false)

/-- A mailbox whose PDU got no response is free again, without READY. -/
def State.freeBox (s : State) (c : Client) : State :=
  match c with
  | .pcie m =>
    if (s.mailbox m).busy ∧ s.chb.acts.any (fun (a : CmdAct) => a.client == c && !a.answered) = false then
      s.updMailbox m (fun b => { b with busy := false })
    else s
  | _ => s

/-- The PDU at the front is taken when it is one of `mine`. -/
def State.takeFront (s : State) (mine : Inbound → Bool) : State :=
  match s.chb.inbox with
  | [] => s
  | x :: rest =>
    if mine x then (({ s with chb := { s.chb with inbox := rest } } : State).handle x).freeBox x.client else s

/-- The row that takes a service; CHB_READ takes those that no other row names. -/
def rowOf (x : Inbound) : Nat :=
  let svc := natAt x.pdu 0 1
  if [2, 3, 4, 5, 6, 8, 9, 0x8A, 0x10, 0x11, 0x12].contains svc then svc else 1

/-- The object that a PDU's header names. -/
def Inbound.obj (x : Inbound) : Nat × Nat × Nat := (natAt x.pdu 4 1, natAt x.pdu 5 2, natAt x.pdu 8 2)

/-- CHB_READ (R472); also PDUs of reserved services, and responses to nothing. -/
def execChbRead (s : State) : Out := .next (s.takeFront (fun x => rowOf x == 1))

/-- CHB_WRITE (R472). -/
def execChbWrite (s : State) : Out := .next (s.takeFront (fun x => rowOf x == 2))

/-- DESCRIBE (R472). -/
def execDescribe (s : State) : Out := .next (s.takeFront (fun x => rowOf x == 3))

/-- SEG_INIT (R486). -/
def execSegInit (s : State) : Out := .next (s.takeFront (fun x => rowOf x == 4))

/-- SEG_BLOCK (R488). -/
def execSegBlock (s : State) : Out := .next (s.takeFront (fun x => rowOf x == 5))

/-- SEG_ACK (R487). -/
def execSegAck (s : State) : Out := .next (s.takeFront (fun x => rowOf x == 6))

/-- SEG_ABORT (R489). -/
def execSegAbort (s : State) : Out := .next (s.takeFront (fun x => rowOf x == 8))

/-- SEG_TIMEOUT (R489), of the transfers that this module serves and of those that it makes (20 R618). -/
def execSegTimeout (s : State) : Out :=
  .next ([0, 1, 2].foldl (fun (t : State) a => t.forwardTimer a) (s.chb.transfers.foldl (fun (t : State) u => t.segTimer u) s))

/-- SUBSCRIBE (R491). -/
def execSubscribe (s : State) : Out := .next (s.takeFront (fun x => rowOf x == 9))

/-- EVENT_ACK (R491). -/
def execEventAck (s : State) : Out := .next (s.takeFront (fun x => rowOf x == 0x8A))

/-- EVENT_RETRY (R491). -/
def execEventRetry (s : State) : Out :=
  .next (s.chb.sessions.foldl (fun (t : State) (x : Session) => x.unacked.foldl (fun (u : State) e => u.retryEvent x.sid e) t) s)

/-- HEARTBEAT: on each enabled bus, every 1 s less at most 10 ms (R494). -/
def State.beatOn (s : State) (b : Nat) : State :=
  if s.obj .canEn b = 1 ∧ (s.can b).beat + 990000000 ≤ s.gtc then
    (s.updCan b (fun c => { c with beat := s.gtc })).sendMsg (.can b 0) 0 0x0B 0 0 (0, 0, 0)
      (leBytes 1 (s.obj .moduleState) ++ leBytes 3 0 ++ leBytes 4 (s.obj .evseq)) true false
  else s

def execHeartbeat (s : State) : Out := .next ((s.beatOn 0).beatOn 1)

/-- OPEN (R475). -/
def execOpenSession (s : State) : Out := .next (s.takeFront (fun x => rowOf x == 0x10))

/-- PROOF (R475). -/
def execProof (s : State) : Out := .next (s.takeFront (fun x => rowOf x == 0x11))

/-- CLOSE (R479). -/
def execClose (s : State) : Out := .next (s.takeFront (fun x => rowOf x == 0x12))

/-- PROOF_TIMEOUT: SIDs 5 s after their OPEN without PROOF. -/
def execProofTimeout (s : State) : Out :=
  let old (x : Session) : Bool := !x.proven && decide (x.openedAt + 5000000000 < s.gtc)
  .next ((s.chb.sessions.filter old).foldl (fun (t : State) (x : Session) => t.closeSession x.sid) s)

/-- SESSION_IDLE_TIMEOUT: sessions without an accepted message for SESSION_IDLE. -/
def execSessionIdleTimeout (s : State) : Out :=
  let idle (x : Session) : Bool := x.proven && decide (x.last + 1000000 * s.obj .sessionIdle ≤ s.gtc)
  .next ((s.chb.sessions.filter idle).foldl (fun (t : State) (x : Session) => t.closeSession x.sid) s)

/-- SESSION_LOCKOUT_END: 10 s after its begin. -/
def execSessionLockoutEnd (s : State) : Out :=
  .next ([1, 2, 3, 4, 5].foldl (fun (t : State) c =>
    if (t.lockout c).since.isSome ∧ t.lockedOut c = false then t.setLockout c ⟨(t.lockout c).run, none⟩ else t) s)

/-- One action's 50 ms: its write is answered with 0x01; a write of an RWL object waits for its end. -/
def State.actTimer (s : State) (a : CmdAct) : State :=
  let cmd := match Obj.find (a.obj.1 * 65536 + a.obj.2.1) with | some o => o.info.acc == .cmd | none => false
  if a.answered ∨ cmd = false ∨ s.gtc < a.since + 50000000 then s
  else
    let s : State := { s with chb := { s.chb with
      acts := s.chb.acts.map (fun (b : CmdAct) => if b.obj = a.obj then { b with answered := true } else b) } }
    if a.sid ≠ 0 ∧ (s.session a.sid).isNone then s
    else (s.countChb 0).respond a.client a.sid ⟨a.tid, 2, a.obj, a.body, 1, [], a.sid⟩

/-- COMMAND_DONE_TIMER (R470). -/
def execCommandDoneTimer (s : State) : Out := .next (s.chb.acts.foldl (fun (t : State) a => t.actTimer a) s)

/-- MKEY_WRITE: a WRITE of MKEY or MKEY_ROLE (R480). -/
def execMkeyWrite (s : State) : Out :=
  .next (s.takeFront (fun x => rowOf x == 2 && x.obj.1 == 0x70 && (x.obj.2.1 == 0x30 || x.obj.2.1 == 0x31)))

/-- BUNDLE_UPLOAD: a message of a write of BUNDLE (20 R614). -/
def execBundleUpload (s : State) : Out :=
  .next (s.takeFront (fun x => (rowOf x == 4 || rowOf x == 5) && x.obj == (0x60, 0x10, 0)))

/-- BUNDLE_CHAIN_RECEIVE: a message of a neighbour's delivery over VC5 (20 R616, R618). -/
def execBundleChainReceive (s : State) : Out :=
  .next (s.takeFront (fun x => isFelun x.client && (rowOf x == 4 || rowOf x == 5) && x.obj == (0x60, 0x11, 0)))

/-- FELUN_MGMT: the content of a MGMT packet is a PDU for this module's MMC: an answer to its own forwarding, or a request
(R498). -/
def execFelunMgmt (port : Fin 48) (s : State) : Out :=
  let n := port.val
  match (s.port n).rxHead 6 with
  | none => .next s
  | some p =>
    if p.opc ≠ 0x20 then .next s
    else
      -- it crosses the wafer to the MMC in W4 (10 R311)
      let t := (s.rxDrop n 6).post 5 p.wafer.2 (attachEndp n 0) mmcEndp
      match t.chainAnswer n p.content with
      | some u => .next u
      | none => .next (t.receivePdu (.felun n) p.content)

end Sys2Proof.Machine
end

