-- ==== Sys2Proof/Machine/Engine.lean ====
section
/-! DEFINITION. The engines (05 R133 to R147, R160; 04 R109 to R123): the arithmetic of an operation, how it is queued
at issue (06 R185), started (R61, R138, R212) and written (R111, R112, R116 to R122). -/

namespace Sys2Proof.Machine

/-! ### Fields of format E (Table 6-5) -/

def eEng (w : Low56) : Nat := fld w 51 50
def eT (w : Low56) : Nat := fld w 49 47
def eU (w : Low56) : Nat := fld w 46 44
def eKt (w : Low56) : Nat := fld w 43 40 + 1
def eFA (w : Low56) : Nat := fld w 39 36
def eFB (w : Low56) : Nat := fld w 35 32
def eAs (w : Low56) : Bool := fld w 31 31 == 1
def eA (w : Low56) : Nat := fld w 30 26
def eBs (w : Low56) : Bool := fld w 25 25 == 1
def eB (w : Low56) : Nat := fld w 24 20
def eGmd (w : Low56) : Nat := fld w 19 15
def eGanc (w : Low56) : Nat := fld w 14 10
def eSp (w : Low56) : Bool := fld w 9 9 == 1
def eZ (w : Low56) : Bool := fld w 8 8 == 1
def eH (w : Low56) : Bool := fld w 7 7 == 1
def eAm (w : Low56) : Bool := fld w 6 6 == 1
def eN (w : Low56) : Nat := fld w 5 4 + 1

/-- Kt of a format (R135). -/
def ktOf (f : Nat) : Nat :=
  match codeBits f with
  | 4 => 256
  | 16 => 64
  | _ => 128

/-- Whole K positions an operation reduces (R136). -/
def kExtent (kt fA fB : Nat) (sp : Bool) : Nat := kt * min (ktOf fA) (ktOf fB) * (1 + b2n sp)

/-- K positions that one B tile covers (R141). -/
def ktB (fB : Nat) (sp : Bool) : Nat := ktOf fB * (1 + b2n sp)

/-- The formats of an operation agree (R91). -/
def pairOk (fA fB : Nat) : Bool := isEngineFmt fA && isEngineFmt fB && isIntFmt fA == isIntFmt fB

/-! ### Elements of operand tiles -/

/-- Element `i` of a tile, before its scale. -/
def OpTile.elem (t : OpTile) (f i : Nat) : Val := elemVal f (fieldAt (codeBits f) t.payload.toNat i)

/-- The scale byte of element `i` of a tile (Table 4-4); 127, a factor of 1, for a format without scales. -/
def OpTile.scaleOf (t : OpTile) (f i : Nat) : Nat :=
  if isMx f then fieldAt 8 t.scales.toNat (if f = 9 then i / 64 else i / 32) else 127

def OpTile.zero : OpTile := ⟨0, 0, 0, 0, 0⟩

/-- Positive zero. -/
def vZero : Val := .fin false 0 0

/-- Thirty-two consecutive elements of line `l` (a row of A or a column of dense B) from K position `p`, and their
block's scale (R135, R136). -/
def denseBlock (f : Nat) (ts : List OpTile) (l p : Nat) : List Val × Nat :=
  let kt := ktOf f
  let t := ts.getD (p / kt) OpTile.zero
  let base := l * kt + p % kt
  (tabulate 32 (fun i => t.elem f (base + i)), t.scaleOf f base)

/-- The metadata entry of group `g` of column `l` of a sparse B tile: the two kept positions (R142). -/
def metaEntry (f : Nat) (meta_ : Nat) (tile l g : Nat) : Nat × Nat :=
  let e := fieldAt 4 meta_ (tile * 16 * ktOf f + l * (ktOf f / 2) + g)
  (e % 4, e / 4)

/-- Thirty-two dense K positions of column `l` of a sparse B operand, expanded (R113, R141 to R143). -/
def sparseBlock (f : Nat) (ts : List OpTile) (meta_ : Nat) (l p : Nat) : List Val × Nat :=
  let kt := 2 * ktOf f
  let tile := p / kt
  let t := ts.getD tile OpTile.zero
  let q := p % kt
  let one (i : Nat) : Val :=
    let g := (q + i) / 4
    let m := metaEntry f meta_ tile l g
    let kept := l * ktOf f + 2 * g
    if m.2 ≤ m.1 then vZero
    else if (q + i) % 4 = m.1 then t.elem f kept
    else if (q + i) % 4 = m.2 then t.elem f (kept + 1)
    else vZero
  (tabulate 32 one, t.scaleOf f (l * ktOf f + q / 2))

/-- D of one block (R109, R110), with the flags of R110. -/
def blockDot (a b : List Val × Nat) : Val × Flags :=
  if a.2 = 0xFF ∨ b.2 = 0xFF then (.nan, flSCNAN)
  else
    let ps := List.zipWith Val.mul a.1 b.1
    let pos := ps.any (fun p => p.1 == .inf false)
    let neg := ps.any (fun p => p.1 == .inf true)
    let nv := (pos && neg) || ps.any (fun p => p.2 != flNone)
    let fl := if nv then flNV else flNone
    if nv || ps.any (fun p => p.1 == .nan) then (.nan, fl)
    else if pos then (.inf false, fl)
    else if neg then (.inf true, fl)
    else
      match ps.foldl (fun acc p => (Val.add acc p.1).1) vZero with
      | .fin s m e => (if m = 0 then vZero else .fin s m (e + (a.2 : Int) - 127 + (b.2 : Int) - 127), fl)
      | v => (v, fl)

/-- A finite value that is an integer. -/
def Val.toInt : Val → Int
  | .fin s m e => (if s then -1 else 1) * ((m : Int) * 2 ^ e.toNat)
  | _ => 0

/-- The INT32 addition of R112: clipped, raising SAT. -/
def addClip (acc : Nat) (d : Int) : Nat × Flags :=
  let r := signed 32 acc + d
  if r < -(2 ^ 31) then (2 ^ 31, flSAT)
  else if 2 ^ 31 - 1 < r then (2 ^ 31 - 1, flSAT)
  else (wrap 32 r, flNone)

/-- The D values of output element (i, j), in ascending k, with their flags. -/
def EngRun.dots (r : EngRun) (i j : Nat) : List (Val × Flags) :=
  let o := r.op
  let md := leNat r.meta_
  tabulate (kExtent o.kt o.fA o.fB o.sparse / 32) (fun k =>
    blockDot (denseBlock o.fA r.aTiles i (32 * k))
      (if o.sparse then sparseBlock o.fB r.bTiles md j (32 * k) else denseBlock o.fB r.bTiles j (32 * k)))

/-- One element of MMA (R111, R112). -/
def mmaElem (isInt : Bool) (acc : Nat) (ds : List (Val × Flags)) : Nat × Flags :=
  ds.foldl
    (fun a d =>
      if isInt then
        let r := addClip a.1 d.1.toInt
        (r.1, a.2 ||| d.2 ||| r.2)
      else
        let x := fmtFP32.encode .rne false d.1
        let r := fpAdd fmtFP32 .rne a.1 x.1
        (r.1, a.2 ||| d.2 ||| x.2 ||| r.2)) (acc, flNone)

/-! ### Poison (R160) -/

/-- The lines (rows of A, columns of B) that a range of payload bytes has elements of. -/
def linesOf (f first last : Nat) : List Nat :=
  let lb := ktOf f * codeBits f / 8
  (List.range 32).filter (fun l => decide (first < (l + 1) * lb) && decide (l * lb ≤ last))

/-- The lines of an operand tile that poison reaches: by payload granules, and by sidecar granules of an MX format. -/
def OpTile.badLines (t : OpTile) (f : Nat) : List Nat :=
  let sb := if codeBits f = 6 then 24 else 32
  ((List.range 64).filter (fun g => t.poison.getLsbD g)).flatMap (fun g => linesOf f (64 * g) (64 * g + 63)) ++
  ((List.range 2).filter (fun h => isMx f && t.scalePoison.getLsbD h)).flatMap
    (fun h => linesOf f (64 * h * sb) ((64 * h + 64) * sb - 1))

/-- The columns that poisoned metadata granules reach. -/
def EngRun.badMeta (r : EngRun) : List Nat :=
  let per := ktOf r.op.fB / 2
  (List.range r.metaPoison.length).flatMap (fun g =>
    if r.metaPoison.getD g false then
      (List.range 128).map (fun i => (128 * g + i) / per % 32)
    else [])

/-- The half rows that poison reaches: bit 2 * row + half. -/
def EngRun.poisonMask (r : EngRun) : BitVec 64 :=
  let o := r.op
  let rows := r.aTiles.flatMap (fun t => t.badLines o.fA)
  let cols := r.bTiles.flatMap (fun t => t.badLines o.fB) ++ (if o.sparse then r.badMeta else [])
  let h0 := cols.any (fun c => decide (c < 16))
  let h1 := cols.any (fun c => decide (16 ≤ c))
  BitVec.ofNat 64 (packFields 1 (tabulate 64 (fun b =>
    b2n (rows.contains (b / 2) || (if b % 2 = 0 then h0 else h1)))))

/-- The NV of R143: a sparse group whose second position does not follow its first, poisoned metadata apart. -/
def EngRun.metaFlags (r : EngRun) : Flags :=
  let o := r.op
  let md := leNat r.meta_
  let n := kExtent o.kt o.fA o.fB true / ktB o.fB true * 16 * ktOf o.fB
  if o.sparse && (List.range n).any (fun i =>
      decide (fieldAt 4 md i / 4 ≤ fieldAt 4 md i % 4) && !r.metaPoison.getD (i / 128) false) then flNV
  else flNone

/-! ### MMA -/

/-- Word `i` of a tile. -/
def Tile.word (t : Tile) (i : Nat) : Nat := fieldAt 32 t.val.toNat i

def Tile.ofWords (ws : List Nat) : BitVec 32768 := BitVec.ofNat 32768 (packFields 32 ws)

/-- The tile that an MMA leaves, with the flags it raises: poisoned half rows hold NaN or 0 and raise nothing (R159). -/
def mmaResult (r : EngRun) (old : Tile) : Tile × Flags :=
  let o := r.op
  let isInt := isIntFmt o.fA
  let pm := r.poisonMask ||| (if o.z then 0 else old.poison)
  let outs := tabulate 1024 (fun e =>
    if pm.getLsbD (2 * (e / 32) + e % 32 / 16) then (if isInt then 0 else 0x7FC00000, flNone)
    else mmaElem isInt (if o.z then 0 else old.word e) (r.dots (e / 32) (e % 32)))
  ({ old with val := Tile.ofWords (outs.map (fun p => p.1)), poison := pm },
   outs.foldl (fun f p => f ||| p.2) r.metaFlags)

/-! ### Long-bore blocks (R116 to R122) -/

/-- A long-bore block: its 512 windows and the fields of its tag (R116, R117). -/
structure Block where
  wins : List Nat
  poison : Nat
  isSet : Bool
  nf : Bool
  hi : Bool
  lo : Bool
  anchor : Int
  deriving DecidableEq, Repr

def Block.clear : Block := ⟨List.replicate 512 0, 0, false, false, false, false, 0⟩

/-- The tag word (R117). -/
def Block.tag (b : Block) : Word :=
  BitVec.ofNat 64 (b.poison % 2 ^ 32 * 2 ^ 32 + b2n b.isSet * 2 ^ 19 + b2n b.nf * 2 ^ 18 + b2n b.hi * 2 ^ 17 +
    b2n b.lo * 2 ^ 16 + wrap 16 b.anchor)

/-- The block at tiles n, n + 1, n + 2. -/
def Core.block (c : Core) (n : Nat) : Block :=
  let v := (c.tile n).val.toNat + 2 ^ 32768 * ((c.tile (n + 1)).val.toNat + 2 ^ 32768 * (c.tile (n + 2)).val.toNat)
  let t := (c.tile n).tag.toNat
  ⟨tabulate 512 (fun e => fieldAt 192 v e), t / 2 ^ 32, t.testBit 19, t.testBit 18, t.testBit 17, t.testBit 16,
    signed 16 t⟩

/-- A block written to tiles n, n + 1, n + 2. The tiles' own half-row poison bits are not used while they form a block
(R117): they are cleared, so that a raw readout of the words is exact (R154). -/
def Core.setBlock (c : Core) (n : Nat) (b : Block) : Core :=
  let v := packFields 192 b.wins
  let one (d : Core) (i : Nat) : Core :=
    d.setTile (n + i) { d.tile (n + i) with val := BitVec.ofNat 32768 (fieldAt 32768 v i), poison := 0 }
  let d := one (one (one c 0) 1) 2
  d.setTile n { d.tile n with tag := b.tag }

/-- One value added to a window with anchor `a` (R118, R120): the window, SPILL_LO, SPILL_HI. -/
def winAdd (a : Int) (w : Nat) (neg : Bool) (m : Nat) (e : Int) : Nat × Bool × Bool :=
  if m = 0 then (w, false, false)
  else
    let r := roundAt .rne ⟨m, e, false⟩ (a - 128)
    let sum := signed 192 w + (if neg then -(r.1 : Int) else (r.1 : Int))
    (wrap 192 sum, r.2, decide (sum < -(2 ^ 191)) || decide (2 ^ 191 ≤ sum))

/-- One contribution over the elements of a block (R119, R120), with the flags it raises; `ds` is D of each element,
`none` where the element is poisoned. -/
def Block.contribute (b : Block) (explicit : Bool) (anchor : Int) (ds : List (Option Val)) : Block × Flags :=
  let vals := ds.filterMap id
  let bad := vals.any (fun v => !v.isFinite)
  let nv := if bad then flNV else flNone
  let anc : Option Int :=
    if b.isSet then some b.anchor else if explicit then some anchor else maxLog2 vals
  match anc with
  | none => ({ b with nf := b.nf || bad }, nv)
  | some a =>
    let outs := List.zipWith (fun w d =>
      match d with
      | some (.fin s m e) => winAdd a w s m e
      | _ => (w, false, false)) b.wins ds
    let lo := outs.any (fun o => o.2.1)
    let hi := outs.any (fun o => o.2.2)
    ({ b with wins := outs.map (fun o => o.1), isSet := true, anchor := a, nf := b.nf || bad,
              lo := b.lo || lo, hi := b.hi || hi }, nv ||| (if lo || hi then flSPILL else flNone))

/-- Everything an operation's result depends on (R89): its fields, its operands and the windows it starts from. -/
def EngRun.operands (r : EngRun) (old : Block) : List Nat :=
  [r.op.word.toNat, r.op.t, wrap 16 r.op.anchor, leNat r.meta_, packFields 1 (r.metaPoison.map b2n)] ++
  (r.aTiles ++ r.bTiles).flatMap (fun t => [t.payload.toNat, t.scales.toNat, t.poison.toNat, t.scalePoison.toNat]) ++
  [old.tag.toNat] ++ old.wins

/-- The block that an MMX leaves, and its flags (R144). `free` gives the words of poisoned windows, which the spec does
not state: a free value of the operands alone (R89, R115, log 16). -/
def mmxResult (r : EngRun) (old : Block) (free : Nat → Nat) : Block × Flags :=
  let o := r.op
  let b0 := if o.z then Block.clear else old
  let h := b2n o.h
  let pm := Nat.lor (fieldAt 32 r.poisonMask.toNat h) b0.poison
  let bad (e : Nat) : Bool := pm.testBit (2 * (e / 32) + e % 32 / 16)
  let dots := tabulate 512 (fun e => if bad e then [] else r.dots (16 * h + e / 32) (e % 32))
  let b1 := (List.range (kExtent o.kt o.fA o.fB o.sparse / 32)).foldl
    (fun (acc : Block × Flags) k =>
      let c := acc.1.contribute o.explicit o.anchor (dots.map (fun l => (l[k]?).map (fun d => d.1)))
      (c.1, acc.2 ||| c.2)) (b0, r.metaFlags)
  let wins := b1.1.wins.zipIdx.map (fun p =>
    if bad p.2 then free p.2 else p.1)
  ({ b1.1 with wins := wins, poison := pm }, (dots.flatten).foldl (fun f d => f ||| d.2) b1.2)

/-- Two blocks merged (R122, R145): `none` where both anchors are set and differ. A merge into a block with SET = 0 copies the
source, tag included, but for POISON, which R160 combines by OR. A poisoned window raises nothing (R159). Flags that `t` takes
over from `u` raise nothing in CTX_FLAGS; a sum that leaves the range raises SPILL (DESIGN CHOICE, log 76). -/
def Block.merge (t u : Block) : Option (Block × Flags) :=
  if t.isSet && u.isSet && t.anchor != u.anchor then none
  else
    let p := Nat.lor t.poison u.poison
    if !t.isSet then some ({ u with poison := p }, flNone)
    else
      let outs := List.zipWith (fun a b =>
        let sum := signed 192 a + (if u.isSet then signed 192 b else 0)
        (wrap 192 sum, decide (sum < -(2 ^ 191)) || decide (2 ^ 191 ≤ sum))) t.wins u.wins
      let spill := outs.zipIdx.any (fun o => o.1.2 && !p.testBit (2 * (o.2 / 32) + o.2 % 32 / 16))
      some ({ t with wins := outs.map (fun o => o.1), poison := p, nf := t.nf || u.nf,
                     hi := t.hi || u.hi || spill, lo := t.lo || u.lo }, if spill then flSPILL else flNone)

/-- One element read out (R121). A block whose only contributions were not finite has NF = 1 and SET = 0, for which R121 says
both canonical NaN and +0: it reads as NaN (DESIGN CHOICE, log 76). -/
def Block.readout (b : Block) (w : Nat) : Nat × Flags :=
  if b.nf || b.hi then (0x7FC00000, flNone)
  else if !b.isSet then (0, flNone)
  else
    let i := signed 192 w
    fmtFP32.encode .rne false (.fin (decide (i < 0)) i.natAbs (b.anchor - 128))

/-- The tile that LBR leaves (R146, R160). -/
def lbrResult (b : Block) (h : Bool) (old : Tile) : Tile × Flags :=
  let outs := b.wins.zipIdx.map (fun p =>
    if b.poison.testBit (2 * (p.2 / 32) + p.2 % 32 / 16) then (0x7FC00000, flNone) else b.readout p.1)
  let half := packFields 32 (outs.map (fun o => o.1))
  ({ old with
      val := BitVec.ofNat 32768 (setBits old.val.toNat (b2n h * 16384) 16384 half)
      poison := BitVec.ofNat 64 (setBits old.poison.toNat (b2n h * 32) 32 b.poison) },
   outs.foldl (fun f o => f ||| o.2) flNone)

/-! ### Issue (R134, R136, R185) -/

/-- Legality of MMA and MMX words. -/
def macLegal (exact : Bool) (w : Low56) : Bool :=
  let fs := [(51, 47), (43, 20), (9, 8)] ++ (if eSp w then [(19, 15)] else []) ++
    (if exact then [(7, 6)] ++ (if eAm w then [(14, 10)] else []) else [])
  let k := kExtent (eKt w) (eFA w) (eFB w) (eSp w)
  namedOnly fs w && pairOk (eFA w) (eFB w) && (!exact || (!isIntFmt (eFA w) && decide (eT w ≤ 5))) &&
    k % ktOf (eFA w) == 0 && k % ktB (eFB w) (eSp w) == 0 &&
    (eAs w || decide (eA w < 16)) && (eBs w || decide (eB w < 16))

/-- Registers that an engine-issue word reads. -/
def macRegs (exact : Bool) (w : Low56) : List RegRef :=
  (if eAs w then [.g (eA w)] else []) ++ (if eBs w then [.g (eB w)] else []) ++
  (if eSp w then [.g (eGmd w)] else []) ++ (if exact && eAm w then [.g (eGanc w)] else [])

/-- What is wrong with an address source of `n` bytes (R137, R185, Table 6-2): the cause, or its offset. -/
def engAddr (c : CtxId) (g : GReg) (n align : Nat) : Nat × Nat :=
  if g.poison then (5, 0)
  else match ownOff c.key g.val with
    | none => (2, 0)
    | some off => if 2 ^ 22 < off + n then (2, 0) else if off % align ≠ 0 then (3, 0) else (0, off)

/-- The first fault among sources, with the address in question. -/
def firstFault : List ((Nat × Nat) × Word) → Option (Nat × Word)
  | [] => none
  | (r, a) :: l => if r.1 ≠ 0 then some (r.1, a) else firstFault l

/-- A slot's tiles are taken at issue (R211); a Closed slot is found at the head. -/
def takeForEngine (k slot n : Nat) (s : State) : State :=
  s.updSlot k slot (fun x => if x.armed then { x with taken := x.taken + n } else x)

/-- A slot that an operation of engine `e` may not name (R211). -/
def bindingBad (sl : Slot) (e : Nat) : Bool := sl.armed && sl.cons != 4 + e

/-- The issue of MMA and MMX. Where A and B name one slot, A takes the earlier tiles; the low 16 bits of g[ganc], read as a
signed number, are the explicit anchor, whatever the rest of the register holds (DESIGN CHOICE, log 76). -/
def issueMac (kind : EngKind) (c : CtxId) (w : Low56) (s : State) : Body :=
  let exact := kind == .mmx
  let e := eEng w
  let k := c.key
  let x := c.ctx.val
  let core := s.core k
  let unit := 2 + e
  let ext := kExtent (eKt w) (eFA w) (eFB w) (eSp w)
  let na := ext / ktOf (eFA w)
  let nb := ext / ktB (eFB w) (eSp w)
  let tiles := if exact then [eT w, eT w + 1, eT w + 2] else [eT w]
  if 8 ≤ (core.queue e x).length then .stall
  else if tiles.any (fun t => core.tileOwner t != x) then .trap s 4 unit 0 0 0
  else if (!eAs w && core.slotOwner (eA w) != x) || (!eBs w && core.slotOwner (eB w) != x) then .trap s 4 unit 0 0 0
  else
    let ra := s.g c (eA w)
    let rb := s.g c (eB w)
    let rm := s.g c (eGmd w)
    let rn := s.g c (eGanc w)
    let fa := if eAs w then engAddr c ra (na * 4096) 4096 else (0, 0)
    let fb := if eBs w then engAddr c rb (nb * 4096) 4096 else (0, 0)
    let fm := if eSp w then engAddr c rm (nb * 8 * ktOf (eFB w)) 64 else (0, 0)
    match firstFault [(fa, ra.val), (fb, rb.val), (fm, rm.val),
        (if exact && eAm w && rn.poison then (5, 0) else (0, 0), 0)] with
    | some (5, _) => poisonUse s c unit
    | some (cause, a) =>
      .trap (if cause = 2 then s.incObj .addrErrors c.die.val else s) cause unit 0 (globalHere (mlaOf a)) 0
    | none =>
      let sa := core.slot (eA w)
      let sb := core.slot (eB w)
      let bind := if !eAs w && bindingBad sa e then some (eA w) else if !eBs w && bindingBad sb e then some (eB w) else none
      match bind with
      | some n => .trap (s.noteFault k n 6) 6 unit n 0 (core.slot n).loc
      | none =>
        let s1 := if eAs w then s else takeForEngine k (eA w) na s
        let sb1 := (s1.core k).slot (eB w)
        let s2 := if eBs w then s1 else takeForEngine k (eB w) nb s1
        let o : EngOp :=
          { kind := kind, word := w, t := eT w, u := eU w, kt := eKt w, fA := eFA w, fB := eFB w,
            a := if eAs w then .addr fa.2 else .slot (eA w), b := if eBs w then .addr fb.2 else .slot (eB w),
            md := fm.2, anchor := signed 16 rn.val.toNat, sparse := eSp w, z := eZ w, h := eH w, explicit := eAm w,
            n := 1, aFirst := sa.taken, aCount := na, bFirst := sb1.taken, bCount := nb, aGen := sa.gen, bGen := sb.gen }
        .done (s2.updCore k (fun d => d.setQueue e x (d.queue e x ++ [o])))

def execMma (c : CtxId) (w : Low56) (s : State) : Out :=
  issue c w false (fun _ => macLegal false w) (waitsOn c (macRegs false w)) (issueMac .mma c w) s

def execMmx (c : CtxId) (w : Low56) (s : State) : Out :=
  issue c w false (fun _ => macLegal true w) (waitsOn c (macRegs true w)) (issueMac .mmx c w) s

/-- An operation on tiles alone: LBM, LBR, TZ. -/
def tileOp (kind : EngKind) (w : Low56) : EngOp :=
  { kind := kind, word := w, t := eT w, u := eU w, kt := 0, fA := 0, fB := 0, a := .addr 0, b := .addr 0, md := 0,
    anchor := 0, sparse := false, z := false, h := eH w, explicit := false, n := eN w, aFirst := 0, aCount := 0,
    bFirst := 0, bCount := 0, aGen := 0, bGen := 0 }

/-- The issue of LBM, LBR and TZ: every tile named must be the context's own (R56). -/
def issueTileOp (kind : EngKind) (tiles : List Nat) (c : CtxId) (w : Low56) (s : State) : Body :=
  let e := eEng w
  let x := c.ctx.val
  -- a full queue stalls (R59, R63)
  if 8 ≤ ((s.core c.key).queue e x).length then .stall
  else if tiles.any (fun t => (s.core c.key).tileOwner t != x) then .trap s 4 (2 + e) 0 0 0
  else .done (s.updCore c.key (fun d => d.setQueue e x (d.queue e x ++ [tileOp kind w])))

def execLbm (c : CtxId) (w : Low56) (s : State) : Out :=
  issue c w false
    (fun _ => namedOnly [(51, 44)] w && decide (eT w ≤ 5) && decide (eU w ≤ 5) &&
      (decide (eU w + 2 < eT w) || decide (eT w + 2 < eU w)))
    (fun _ => false)
    (issueTileOp .lbm [eT w, eT w + 1, eT w + 2, eU w, eU w + 1, eU w + 2] c w) s

def execLbr (c : CtxId) (w : Low56) (s : State) : Out :=
  issue c w false
    (fun _ => namedOnly [(51, 44), (7, 7)] w && decide (eT w ≤ 5) && (decide (eU w < eT w) || decide (eT w + 2 < eU w)))
    (fun _ => false) (issueTileOp .lbr [eT w, eT w + 1, eT w + 2, eU w] c w) s

def execTz (c : CtxId) (w : Low56) (s : State) : Out :=
  issue c w false
    (fun _ => namedOnly [(51, 47), (5, 4)] w && decide (eN w ≤ 3) && decide (eT w + eN w ≤ 8))
    (fun _ => false) (issueTileOp .tz (tabulate (eN w) (fun i => eT w + i)) c w) s

/-- The tiles a context's operations on an engine name, queued or running. -/
def Core.namedTiles (c : Core) (e x : Nat) : List Nat :=
  (c.queue e x ++ ((c.run e).filter (fun r => r.ctx == x)).map (fun r => r.op)).flatMap
    (fun o => o.dests e ++ o.sources e)

/-- A tile whose words a vector result in flight will write (R140). -/
def Core.vecWrites (c : Core) (n : Nat) : Bool :=
  [c.c0, c.c1].any (fun d => d.vecPend.any (fun p => p.writes.any (fun v => v.ref == .tile n)))

/-- LBTR and LBTW wait in Running until the tile is free (R186). -/
def tagStall (c : CtxId) (w : Low56) (s : State) : Bool :=
  let core := s.core c.key
  let n := eEng w * 8 + eT w
  (core.namedTiles (eEng w) c.ctx.val).contains n || core.busyTiles.contains n || core.vecWrites n

def execLbtr (c : CtxId) (w : Low56) (s : State) : Out :=
  issue c w false (fun _ => namedOnly [(51, 47), (14, 10)] w) (waitsOn c [.g (eGanc w)])
    (fun s =>
      if (s.core c.key).tileOwner (eT w) ≠ c.ctx.val then .trap s 4 (2 + eEng w) 0 0 0
      else if tagStall c w s then .stall
      else .done (s.setG c (eGanc w) ⟨((s.core c.key).tile (eEng w * 8 + eT w)).tag, false⟩)) s

def execLbtw (c : CtxId) (w : Low56) (s : State) : Out :=
  issue c w false (fun _ => namedOnly [(51, 47), (14, 10)] w) (waitsOn c [.g (eGanc w)])
    (fun s =>
      let v := s.g c (eGanc w)
      if (s.core c.key).tileOwner (eT w) ≠ c.ctx.val then .trap s 4 (2 + eEng w) 0 0 0
      else if v.poison then poisonUse s c (2 + eEng w)
      else if tagStall c w s then .stall
      else
        let n := eEng w * 8 + eT w
        .done (s.updCore c.key (fun d => d.setTile n { d.tile n with
          tag := BitVec.ofNat 64 (setBits v.val.toNat 20 12 0) }))) s

/-! ### Start (R61, R138, R212) -/

/-- Why an operation's slot source can never become ready (R138, R212): the fault reason. -/
def sourceDoomed (c : Core) (src : OpSrc) (gen first n : Nat) : Option (Nat × Nat) :=
  match src with
  | .addr _ => none
  | .slot i =>
    let sl := c.slot i
    if !sl.armed || sl.gen != gen then some (i, 8)
    else
      let ended := sl.nextBase + (if sl.queued.isSome then sl.count else 0)
      if sl.ring < n ∨ first / sl.count ≠ (first + n - 1) / sl.count ∨ ended < first + n then some (i, 7) else none

/-- An operation whose A and B name one slot consumes the tiles of both from it. -/
def opDoomed (c : Core) (o : EngOp) : Option (Nat × Nat) :=
  match o.a, o.b with
  | .slot i, .slot j =>
    if i = j then sourceDoomed c o.a o.aGen o.aFirst (o.aCount + o.bCount)
    else match sourceDoomed c o.a o.aGen o.aFirst o.aCount with
      | some r => some r
      | none => sourceDoomed c o.b o.bGen o.bFirst o.bCount
  | _, _ =>
    match sourceDoomed c o.a o.aGen o.aFirst o.aCount with
    | some r => some r
    | none => sourceDoomed c o.b o.bGen o.bFirst o.bCount

/-- Every tile the source needs is present (R138). -/
def sourceReady (c : Core) (src : OpSrc) (first n : Nat) : Bool :=
  match src with
  | .addr _ => true
  | .slot i => decide (first + n ≤ (c.slot i).presented)

/-- A head is ready (R61, R138, R140). -/
def opReady (c : Core) (e : Nat) (o : EngOp) : Bool :=
  sourceReady c o.a o.aFirst o.aCount && sourceReady c o.b o.bFirst o.bCount &&
    !(o.dests e ++ o.sources e).any (fun n => c.vecWrites n)

/-- One operand tile read from local SRAM at `mla` (R135): MXFP6 padding, and a sidecar that the format does not use, are not
read (R98, R99). -/
def State.readOpTile (s : State) (mla f : Nat) : State × OpTile :=
  let n := payloadUsed f
  let p := s.touch mla n
  let q := if isMx f then p.1.touch (scaleAddr mla) 128 else (p.1, [])
  let bits (l : List (Nat × Option Word)) : Nat := packFields 1 (l.map (fun g => b2n g.2.isSome))
  (q.1, ⟨BitVec.ofNat 32768 (leNat (memBytes q.1.mem mla n)),
    BitVec.ofNat 1024 (if isMx f then leNat (memBytes q.1.mem (scaleAddr mla) 128) else 0),
    BitVec.ofNat 64 (bits p.2), BitVec.ofNat 2 (bits q.2), (firstPoison (p.2 ++ q.2)).getD 0⟩)

/-- The MLAs of the tiles an operation reads from a source. -/
def State.sourceMlas (s : State) (k : Nat) (src : OpSrc) (first n : Nat) : List Nat :=
  match src with
  | .addr off => tabulate n (fun i => sramMla k (off + 4096 * i))
  | .slot i =>
    let sl := (s.core k).slot i
    tabulate n (fun j => sl.posMla (sl.posOf (first + j)))

def State.readOpTiles (s : State) (f : Nat) (mlas : List Nat) : State × List OpTile :=
  mlas.foldl (fun acc m =>
    let r := acc.1.readOpTile m f
    (r.1, acc.2 ++ [r.2])) (s, [])

/-- Any poison in a tile: its locator, as the latch takes it. -/
def OpTile.consumed (t : OpTile) : Option Word := if t.poison = 0 ∧ t.scalePoison = 0 then none else some t.loc

/-- A ready head starts: it reads its operands (R136), the tiles go back to their streams (R137), and the engine
remembers whose operation it ran. -/
def startOp (k e x : Nat) (o : EngOp) (s : State) : State :=
  let reads := o.kind == .mma || o.kind == .mmx
  let ra := if reads then s.readOpTiles o.fA (s.sourceMlas k o.a o.aFirst o.aCount) else (s, [])
  let rb := if reads then ra.1.readOpTiles o.fB (ra.1.sourceMlas k o.b o.bFirst o.bCount) else (ra.1, [])
  let nm := if o.sparse then o.bCount * 8 * ktOf o.fB else 0
  let rm := if o.sparse then rb.1.touch (sramMla k o.md) nm else (rb.1, [])
  let meta_ := if o.sparse then memBytes rm.1.mem (sramMla k o.md) nm else []
  let s := rm.1.updCtx k x (fun c =>
    (((ra.2 ++ rb.2).map OpTile.consumed) ++ [firstPoison rm.2]).foldl (fun d l => d.latchPoison l) c)
  let s := s.returnOpTiles k o
  let run : EngRun := ⟨x, o, ra.2, rb.2, meta_, rm.2.map (fun g => g.2.isSome), false⟩
  s.updCore k (fun c =>
    let c := c.setQueue e x (c.queue e x).tail
    { c.setRun e (c.run e ++ [run]) with lastRan := aset 2 c.lastRan e x })

/-- A head that can never become ready is discarded with a stream fault (R138, R212); a discard in a Stopped context is
counted in DISCARDED (R76). -/
def discardOp (k e x : Nat) (o : EngOp) (slot reason : Nat) (s : State) : State :=
  let s := s.updCore k (fun c => c.setQueue e x (c.queue e x).tail)
  let s := (s.returnOpTiles k o).noteFault k slot reason
  let s := s.updCtx k x (fun c => if c.st = .stopped then { c with discarded := min 65535 (c.discarded + 1) } else c)
  s.takeException k x ⟨6, 2 + e, slot, (s.ctx k x).pc, 0, ((s.core k).slot slot).loc⟩

/-- ENGINE_OP_START: the engine stands at an operation boundary. A head that can never become ready is discarded; else
of two ready heads the one of the context that did not run the previous operation starts (R61). An error in the engine's
control that poison cannot carry stops the core with cause 0x0C (03 R73, 05 R160). -/
def execEngineOpStart (c : CoreId) (e : Fin 4) (s : State) : Out :=
  let k := c.key
  if s.gatedCore k then .next s else
  if s.upsets.contains (.engCtl k e.val) then
    .next ((s.clearUpset (.engCtl k e.val)).takeCoreException k 0xC (2 + e.val) (s.coreLoc k (2 + e.val))) else
  let core := s.core k
  let h0 := (core.queue e.val 0).head?
  let h1 := (core.queue e.val 1).head?
  match h0.bind (opDoomed core), h1.bind (opDoomed core) with
  | some (i, r), _ => match h0 with
    | some o => .next (discardOp k e.val 0 o i r s)
    | none => .next s
  | none, some (i, r) => match h1 with
    | some o => .next (discardOp k e.val 1 o i r s)
    | none => .next s
  | none, none =>
    let r0 := h0.filter (opReady core e.val)
    let r1 := h1.filter (opReady core e.val)
    match r0, r1 with
    | some a, some b =>
      if aget 2 core.lastRan e.val = 0 then .next (startOp k e.val 1 b s) else .next (startOp k e.val 0 a s)
    | some a, none => .next (startOp k e.val 0 a s)
    | none, some b => .next (startOp k e.val 1 b s)
    | none, none => .next s

/-! ### Write (R133) -/

/-- The oldest started operation writes its destination and raises its flags in its context (R130); the result of an
operation whose context was reset is discarded (R86). -/
def writeOp (k e : Nat) (r : EngRun) (s : State) : State :=
  let s := s.updCore k (fun c => c.setRun e (c.run e).tail)
  let o := r.op
  let n := e * 8 + o.t
  let fresh (s : State) (n m : Nat) : State := (List.range m).foldl (fun t i => t.accWritten k (n + i) 0 1024) s
  if r.discard then s
  else match o.kind with
    | .mma =>
      let s := fresh (if o.z then s else s.accRead k [n]) n 1
      let p := mmaResult r ((s.core k).tile n)
      (s.updCore k (fun c => c.setTile n p.1)).raise k r.ctx p.2
    | .mmx =>
      let s := fresh (if o.z then s else s.accReadBlock k n) n 3
      let b := (s.core k).block n
      let p := mmxResult r b (fun i => (Config.poisonWindow (r.operands b) i).toNat)
      (s.updCore k (fun c => c.setBlock n p.1)).raise k r.ctx p.2
    | .lbm =>
      let s := (s.accReadBlock k n).accReadBlock k (e * 8 + o.u)
      match ((s.core k).block n).merge ((s.core k).block (e * 8 + o.u)) with
      | some p => (s.updCore k (fun c => c.setBlock n p.1)).raise k r.ctx p.2
      | none => (s.noteFault k 0 0xB).takeException k r.ctx ⟨6, 2 + e, o.t, (s.ctx k r.ctx).pc, 0, 0⟩
    | .lbr =>
      let s := (s.accReadBlock k n).accWritten k (e * 8 + o.u) (512 * b2n o.h) (512 * b2n o.h + 512)
      let p := lbrResult ((s.core k).block n) o.h ((s.core k).tile (e * 8 + o.u))
      (s.updCore k (fun c => c.setTile (e * 8 + o.u) p.1)).raise k r.ctx p.2
    | .tz => (fresh s n o.n).updCore k (fun c => (List.range o.n).foldl (fun d i => d.setTile (n + i) Tile.zero) c)

def execEngineOpWrite (c : CoreId) (e : Fin 4) (s : State) : Out :=
  if s.gatedCore c.key then .next s else
  match (s.core c.key).run e.val with
  | [] => .next s
  | r :: _ => .next (writeOp c.key e.val r s)

end Sys2Proof.Machine
end

