-- ==== Sys2Proof/Machine/Predicate.lean ====
section
/-! DEFINITION. The predicate instructions, opcodes 0x50 to 0x59 (Table 6-8, R181). A poisoned source of a predicate
write is a poison use (R58). -/

namespace Sys2Proof.Machine

/-- A comparison writes every bit of pd. -/
def comparePd (c : CtxId) (w : Low56) (s : State) (a b : GReg) : Body :=
  if a.poison || b.poison then poisonUse s c 0
  else .done (s.setP c (fPd w) (spread ((intCond 64 (fPcond w) a.val.toNat b.val.toNat).getD false)))

/-- PCMP: cond 0 to 9. -/
def execPcmp (c : CtxId) (w : Low56) (s : State) : Out :=
  issue c w false (fun _ => namedOnly [(51, 35)] w && decide (fPcond w ≤ 9))
    (waitsOn c [.p (fPd w), .g (fPra w), .g (fPrb w)])
    (fun s => comparePd c w s (s.g c (fPra w)) (s.g c (fPrb w))) s

/-- PCMPI: the immediate is sign-extended (R170). -/
def execPcmpi (c : CtxId) (w : Low56) (s : State) : Out :=
  issue c w false (fun _ => namedOnly [(51, 40), (31, 0)] w && decide (fPcond w ≤ 9))
    (waitsOn c [.p (fPd w), .g (fPra w)])
    (fun s => comparePd c w s (s.g c (fPra w)) ⟨fImm w, false⟩) s

/-- pd = f(pa, pb). -/
def pred2 (f : Word → Word → Word) (c : CtxId) (w : Low56) (s : State) : Out :=
  issue c w false (fun _ => namedOnly [(51, 49), (34, 29)] w) (waitsOn c [.p (fPd w), .p (fPa w), .p (fPb w)])
    (fun s => .done (s.setP c (fPd w) (f (s.pr c (fPa w)) (s.pr c (fPb w))))) s

def execPand := pred2 (fun a b => a &&& b)
def execPor := pred2 (fun a b => a ||| b)
def execPxor := pred2 (fun a b => a ^^^ b)
def execPandn := pred2 (fun a b => a &&& ~~~b)

/-- PFROMG: pd = g[ra]. -/
def execPfromg (c : CtxId) (w : Low56) (s : State) : Out :=
  issue c w false (fun _ => namedOnly [(51, 44)] w) (waitsOn c [.p (fPd w), .g (fPra w)])
    (fun s =>
      let a := s.g c (fPra w)
      if a.poison then poisonUse s c 0 else .done (s.setP c (fPd w) a.val)) s

/-- g[rb] = f(pa). -/
def predToG (f : Word → Word) (c : CtxId) (w : Low56) (s : State) : Out :=
  issue c w false (fun _ => namedOnly [(39, 32)] w) (waitsOn c [.g (fPrb w), .p (fPa w)])
    (fun s => .done (s.setG c (fPrb w) ⟨f (s.pr c (fPa w)), false⟩)) s

def execPtog := predToG (fun a => a)
def execPcnt := predToG (fun a => BitVec.ofNat 64 (popCount 64 a.toNat))
/-- PFIRST: the index of the lowest set bit; 64 when none. -/
def execPfirst := predToG (fun a => BitVec.ofNat 64 ((lowestSet 64 0 a.toNat).getD 64))

end Sys2Proof.Machine
end

