-- ==== Sys2Proof/Machine/Scalar.lean ====
section
/-! DEFINITION. The scalar instructions, opcodes 0x10 to 0x2D (Table 6-7, R179). A result is poisoned when a source it
reads is; a write to g0 is discarded. -/

namespace Sys2Proof.Machine

/-- rd = f(ra, rb) (format S with rd, ra, rb named). -/
def alu2 (f : Word → Word → Word) (c : CtxId) (w : Low56) (s : State) : Out :=
  issue c w false (fun _ => namedOnly [(51, 37)] w) (waitsOn c [.g (fRd w), .g (fRa w), .g (fRb w)])
    (fun s =>
      let a := s.g c (fRa w)
      let b := s.g c (fRb w)
      .done (s.setG c (fRd w) ⟨f a.val b.val, a.poison || b.poison⟩)) s

/-- rd = f(ra, imm32 sign-extended) (R170). -/
def aluImm (f : Word → Word → Word) (extra : Low56 → Bool) (c : CtxId) (w : Low56) (s : State) : Out :=
  issue c w false (fun _ => namedOnly [(51, 42), (31, 0)] w && extra w) (waitsOn c [.g (fRd w), .g (fRa w)])
    (fun s =>
      let a := s.g c (fRa w)
      .done (s.setG c (fRd w) ⟨f a.val (fImm w), a.poison⟩)) s

/-- rd = f(ra). -/
def alu1 (f : Word → Word) (c : CtxId) (w : Low56) (s : State) : Out :=
  issue c w false (fun _ => namedOnly [(51, 42)] w) (waitsOn c [.g (fRd w), .g (fRa w)])
    (fun s =>
      let a := s.g c (fRa w)
      .done (s.setG c (fRd w) ⟨f a.val, a.poison⟩)) s

/-- A shift immediate above 63 is illegal (R170). -/
def shiftImm (w : Low56) : Bool := fld w 31 6 == 0

/-- Low six bits of a shift count (R170). -/
def shAmt (b : Word) : Nat := b.toNat % 64

/-- Quotient and remainder of Table 6-7: division by zero and the overflow of -2^63 / -1 as the table gives them. -/
def divU (a b : Word) : Word := if b = 0 then BitVec.allOnes 64 else a / b
def remU (a b : Word) : Word := if b = 0 then a else a % b
def divS (a b : Word) : Word := if b = 0 then BitVec.allOnes 64 else BitVec.ofInt 64 (Int.tdiv a.toInt b.toInt)
def remS (a b : Word) : Word := if b = 0 then a else BitVec.ofInt 64 (Int.tmod a.toInt b.toInt)

def execAdd := alu2 (fun a b => a + b)
def execSub := alu2 (fun a b => a - b)
def execMul := alu2 (fun a b => a * b)
/-- High 64 bits of the unsigned product. -/
def execMulhu := alu2 (fun a b => BitVec.ofNat 64 (a.toNat * b.toNat / 2 ^ 64))
def execDivu := alu2 divU
def execDivs := alu2 divS
def execRemu := alu2 remU
def execRems := alu2 remS
def execAnd := alu2 (fun a b => a &&& b)
def execOr := alu2 (fun a b => a ||| b)
def execXor := alu2 (fun a b => a ^^^ b)
def execShl := alu2 (fun a b => a <<< shAmt b)
def execShr := alu2 (fun a b => a >>> shAmt b)
def execSra := alu2 (fun a b => a.sshiftRight (shAmt b))
def execMin := alu2 (fun a b => if a.toInt ≤ b.toInt then a else b)
def execMax := alu2 (fun a b => if a.toInt ≤ b.toInt then b else a)
def execMinu := alu2 (fun a b => if a.toNat ≤ b.toNat then a else b)
def execMaxu := alu2 (fun a b => if a.toNat ≤ b.toNat then b else a)
def execAddi := aluImm (fun a b => a + b) (fun _ => true)
def execAndi := aluImm (fun a b => a &&& b) (fun _ => true)
def execOri := aluImm (fun a b => a ||| b) (fun _ => true)
def execXori := aluImm (fun a b => a ^^^ b) (fun _ => true)
def execShli := aluImm (fun a b => a <<< shAmt b) shiftImm
def execShri := aluImm (fun a b => a >>> shAmt b) shiftImm
def execSrai := aluImm (fun a b => a.sshiftRight (shAmt b)) shiftImm

/-- LIP: the place of rd is imm[23:0], the rest is ra's (Table 6-7); imm[31:24] must be zero. -/
def execLip := aluImm (fun a b => BitVec.ofNat 64 (b.toNat % 2 ^ 24 * 2 ^ 40 + a.toNat % 2 ^ 40))
  (fun w => fld w 31 24 == 0)

def execClz := alu1 (fun a => BitVec.ofNat 64 (leadingZeros 64 a.toNat))
def execPopc := alu1 (fun a => BitVec.ofNat 64 (popCount 64 a.toNat))

/-- LIW: rd = imm47 sign-extended (format L). -/
def execLiw (c : CtxId) (w : Low56) (s : State) : Out :=
  issue c w false (fun _ => true) (waitsOn c [.g (fRd w)])
    (fun s => .done (s.setG c (fRd w) ⟨fImm47 w, false⟩)) s

/-- SEL: ra when bit 0 of p[rc[2:0]] is 1, otherwise rb; only the selected source is read (R179). -/
def execSel (c : CtxId) (w : Low56) (s : State) : Out :=
  issue c w false (fun _ => namedOnly [(51, 37), (34, 32)] w)
    (waitsOn c [.g (fRd w), .g (fRa w), .g (fRb w), .p (fRc w)])
    (fun s => .done (s.setG c (fRd w) (if (s.pr c (fRc w)).getLsbD 0 then s.g c (fRa w) else s.g c (fRb w)))) s

end Sys2Proof.Machine
end

