-- ==== Sys2Proof/Machine/System.lean ====
section
/-! DEFINITION. The system instructions, opcodes 0x01 to 0x08 (Table 6-6), and the completion of a waiting FENCE. -/

namespace Sys2Proof.Machine

/-- NOP: no effect. -/
def execNop (c : CtxId) (w : Low56) (s : State) : Out :=
  issue c w false (fun _ => namedOnly [] w) (fun _ => false) (fun s => .done s) s

/-- The conditions of a FENCE (Table 3-4) over everything issued before request number `upto`. Near stores are written
at issue (R70), so bit 0 always holds. Transfers of a slot that has been closed meanwhile count as its context's still. -/
def State.fenceHolds (s : State) (c : CtxId) (mask upto : Nat) : Bool :=
  let core := s.core c.key
  let x := c.ctx.val
  let engines := (core.queued x).isEmpty && (List.range 4).all (fun e => (core.run e).all (fun r => r.ctx != x))
  let streams := (core.slotsOf x).all (fun n =>
    let sl := core.slot n
    sl.inflight.all (fun t => decide (upto ≤ t.id)) &&
    (sl.inbound || sl.kind == 4 || !sl.armed || decide (sl.handed ≤ sl.completed))) &&
    core.orphans.all (fun o => o.ctx != x || o.req.allAnswered || decide (upto ≤ o.req.id))
  let writes := (s.remoteWrites c).all (fun r => decide (upto ≤ r.id))
  (!mask.testBit 1 || engines) && (!mask.testBit 2 || streams) && (!mask.testBit 3 || writes)

/-- What a completed FENCE with mask bit 3 leaves: the remote-error count in rd, and the count at 0 (R174). -/
def State.fenceEffect (s : State) (c : CtxId) (mask rd : Nat) : State :=
  if mask.testBit 3 then
    s.updCtx c.key c.ctx.val (fun x => { x.setG rd ⟨BitVec.ofNat 64 x.remErr, false⟩ with remErr := 0 })
  else s

/-- FENCE: the mask must not be 0; rd is named only with mask bit 3. -/
def execFence (c : CtxId) (w : Low56) (s : State) : Out :=
  issue c w false
    (fun _ => (if (fXmask w).testBit 3 then namedOnly [(51, 47), (19, 16)] w else namedOnly [(19, 16)] w) && fXmask w != 0)
    (waitsOn c [.g (fRd w)])
    (fun s =>
      if s.fenceHolds c (fXmask w) s.nextId then .done (s.fenceEffect c (fXmask w) (fRd w))
      else .wait (s.enterWait c.key c.ctx.val (.fence (fXmask w) (fRd w) s.nextId) 4 (fXmask w) 0 0)) s

/-- FENCE_COMPLETE: a waiting FENCE whose conditions have come to hold completes; else it waits on. -/
def execFenceComplete (c : CtxId) (s : State) : Out :=
  let x := s.ctx c.key c.ctx.val
  match x.wait with
  | some (.fence mask rd upto) =>
    if x.st = .waiting ∧ s.fenceHolds c mask upto = true then
      .next ((s.fenceEffect c mask rd).completeWait c.key c.ctx.val)
    else .next s
  | _ => .next s

/-- ISYNC: earlier stores are written (they are, R70); the instruction buffer is invalidated (R64). -/
def execIsync (c : CtxId) (w : Low56) (s : State) : Out :=
  issue c w false (fun _ => namedOnly [] w) (fun _ => false)
    (fun s => .done (s.updCore c.key (fun d => { d with ibuf := [] }))) s

/-- TRAP: cause 0x0A; the code stays in the instruction word. -/
def execTrap (c : CtxId) (w : Low56) (s : State) : Out :=
  issue c w false (fun _ => namedOnly [(15, 0)] w) (fun _ => false) (fun s => .trap s 0xA 0 0 0 0) s

/-- ERET: illegal while INH is 0; clears INH and continues at g[ra][21:3]. -/
def execEret (c : CtxId) (w : Low56) (s : State) : Out :=
  issue c w false (fun s => namedOnly [(46, 42)] w && (s.ctx c.key c.ctx.val).inh) (waitsOn c [.g (fRa w)])
    (fun s =>
      let a := s.g c (fRa w)
      if a.poison then poisonUse s c 0
      else if a.val.toNat % 8 ≠ 0 then .trap s 3 0 0 (globalHere (sramMla c.key (a.val.toNat % 2 ^ 22))) 0
      else
        let pc : Pc := BitVec.ofNat 19 (bitsOf a.val.toNat 21 3)
        .jump (s.exceptionReturn c.key c.ctx.val pc) pc) s

/-- HALT: earlier instructions complete as for the Halt command; Halted, with CTX_PC at the next word. -/
def execHalt (c : CtxId) (w : Low56) (s : State) : Out :=
  issue c w false (fun _ => namedOnly [] w) (fun _ => false)
    (fun s => .own ((s.haltCtx c.key c.ctx.val).updCtx c.key c.ctx.val (fun x => { x with pc := x.pc + 1 }))) s

/-- RDGTC: the die's GTC value. -/
def execRdgtc (c : CtxId) (w : Low56) (s : State) : Out :=
  issue c w false (fun _ => namedOnly [(51, 47)] w) (waitsOn c [.g (fRd w)])
    (fun s => .done (s.setG c (fRd w) ⟨BitVec.ofNat 64 (s.dieGtc c.die.val), false⟩)) s

/-- What RDID reads (Table 6-6). -/
def State.idWord (s : State) (c : CtxId) : Word :=
  let place := if s.obj .placeValid = 1 then s.place else 0xFFFFFF
  BitVec.ofNat 64 (place % 2 ^ 24 * 2 ^ 40 + c.die.val * 2 ^ 16 + c.core.val * 2 ^ 8 + c.ctx.val)

/-- RDID. -/
def execRdid (c : CtxId) (w : Low56) (s : State) : Out :=
  issue c w false (fun _ => namedOnly [(51, 47)] w) (waitsOn c [.g (fRd w)])
    (fun s => .done (s.setG c (fRd w) ⟨s.idWord c, false⟩)) s

end Sys2Proof.Machine
end

