-- ==== Sys2Proof/Machine/VectorBase.lean ====
section
/-! DEFINITION. What every vector instruction shares: the fields of format V (Table 6-4), legality (R168, R177, R182),
operands from registers and accumulator row pairs (R154, R177), masks and poison (R159, R161, R167). -/

namespace Sys2Proof.Machine

def fVd (w : Low56) : Nat := fld w 51 47
def fVa (w : Low56) : Nat := fld w 46 42
def fVb (w : Low56) : Nat := fld w 41 37
def fVc (w : Low56) : Nat := fld w 36 32
def fRm (w : Low56) : Nat := fld w 31 30
def fFs (w : Low56) : Nat := fld w 29 26
def fFd (w : Low56) : Nat := fld w 25 22
def fSat (w : Low56) : Bool := fld w 21 21 == 1
def fTD (w : Low56) : Bool := fld w 20 20 == 1
def fTA (w : Low56) : Bool := fld w 19 19 == 1
def fTB (w : Low56) : Bool := fld w 18 18 == 1
def fRp (w : Low56) : Nat := fld w 17 14
def fGs (w : Low56) : Nat := fld w 9 5
def fGt (w : Low56) : Nat := fld w 4 0

def anyTile (w : Low56) : Bool := fTD w || fTA w || fTB w

/-- Which tile flags an opcode permits (R177). -/
structure TileOk where
  td : Bool
  ta : Bool
  tb : Bool

def noTiles : TileOk := ⟨false, false, false⟩

/-- Legality of a vector word (R163, R168, R177, R182): the named fields, the permitted tile flags with their row pair
and offset, rm with gs and gt under SR, and whatever the opcode adds. -/
def vLegal (named : List (Nat × Nat)) (usesRm : Bool) (ok : TileOk) (cross : Bool) (extra : Bool) (w : Low56) : Bool :=
  let fs := named ++ (if usesRm then [(31, 30)] else []) ++
    (if usesRm && fRm w == 2 then [(9, 0)] else []) ++
    (if ok.td then [(20, 20)] else []) ++ (if ok.ta then [(19, 19)] else []) ++ (if ok.tb then [(18, 18)] else []) ++
    (if anyTile w then [(17, 14), (4, 0)] else [])
  namedOnly fs w && !(usesRm && fRm w == 3) && (!cross || plainHeader w) && extra

/-- The row pair that a tile operand names (R177). -/
def State.rowPair (s : State) (c : CtxId) (w : Low56) : Nat :=
  if fRm w = 2 then fRp w else (fRp w + (s.g c (fGt w)).val.toNat % 16) % 16

/-- Row pair `rp` of a tile as a vector value (R154). -/
def Tile.rowPair (t : Tile) (rp : Nat) : VReg :=
  ⟨BitVec.ofNat 2048 (fieldAt 2048 t.val.toNat rp), BitVec.ofNat 4 (fieldAt 4 t.poison.toNat rp)⟩

/-- A vector source: a register, or the named row pair of tile `i` (engine * 8 + tile). -/
def State.vsrc (s : State) (c : CtxId) (w : Low56) (flag : Bool) (i : Nat) : VReg :=
  if flag then ((s.core c.key).tile i).rowPair (s.rowPair c w) else (s.ctx c.key c.ctx.val).vreg i

/-- The checks at issue of the tile operands (R56, R183): a poisoned row-pair offset, a tile of the other context. -/
def tileTrap (c : CtxId) (w : Low56) (s : State) : Option Body :=
  let own (i : Nat) : Bool := (s.core c.key).tileOwner (i % 8) == c.ctx.val
  if anyTile w && fRm w != 2 && (s.g c (fGt w)).poison then some (poisonUse s c 1)
  else if (fTD w && !own (fVd w)) || (fTA w && !own (fVa w)) || (fTB w && !own (fVb w)) then some (.trap s 4 1 0 0 0)
  else none

/-- The rest of an issue, its tile operands checked; words of them that fail their parity check poison their half rows (R160). -/
def withTiles (c : CtxId) (w : Low56) (s : State) (f : State → Body) : Body :=
  match tileTrap c w s with
  | some b => b
  | none =>
    f (s.accRead c.key ((if fTD w then [fVd w] else []) ++ (if fTA w then [fVa w] else []) ++ (if fTB w then [fVb w] else [])))

/-- A register or tile reference by flag. -/
def vref (flag : Bool) (i : Nat) : RegRef := if flag then .tile i else .v i

/-- The mode of each element, and whether a poisoned seed or base index poisons the result (R108, R183). -/
def State.rmodes (s : State) (c : CtxId) (w : Low56) : Nat → RMode :=
  rmodeFor (fRm w) (s.g c (fGs w)).val.toNat (s.g c (fGt w)).val.toNat

def State.srPoison (s : State) (c : CtxId) (w : Low56) : Bool :=
  fRm w == 2 && ((s.g c (fGs w)).poison || (s.g c (fGt w)).poison)

/-- The destination written under M: a register or a row pair (R167). -/
def vdest (s : State) (c : CtxId) (w : Low56) (m : Word) (new : VReg) : VWrite :=
  if fTD w then .row (fVd w) (s.rowPair c w) (mergeLanes m (((s.core c.key).tile (fVd w)).rowPair (s.rowPair c w)) new)
  else .v (fVd w) (mergeLanes m ((s.ctx c.key c.ctx.val).vreg (fVd w)) new)

/-- Four poison bits from a function of the group. -/
def groups (f : Nat → Bool) : BitVec 4 := BitVec.ofNat 4 (packFields 1 (tabulate 4 (fun q => b2n (f q))))

def VReg.bad (v : VReg) (q : Nat) : Bool := v.poison.getLsbD q

/-- Any group poisoned. -/
def VReg.anyBad (v : VReg) : Bool := v.poison != 0

/-- An elementwise instruction (R159, R161, R167). `poisonLane` is what a poisoned lane is written as, `none` for a bit
move. `lane i a b d` gives lane `i` of the result and its flags from lanes of va, vb, vc. -/
structure ElemOp where
  named : List (Nat × Nat)
  usesRm : Bool
  ok : TileOk
  useB : Bool
  useC : Bool
  extra : Low56 → Bool
  poisonLane : Low56 → Option Nat
  lane : Low56 → (Nat → RMode) → Word → Nat → Nat → Nat → Nat → Nat × Flags

/-- The result of an elementwise instruction on its sources: the register before masking, and the flags of the written
lanes that no poison reached. -/
def elemResult (o : ElemOp) (w : Low56) (m sel : Word) (rm : Nat → RMode) (allBad : Bool) (a b d : VReg) : VReg × Flags :=
  let bad (q : Nat) : Bool := allBad || a.bad q || (o.useB && b.bad q) || (o.useC && d.bad q)
  let one (i : Nat) : Nat × Flags :=
    let r := o.lane w rm sel i (lane a.val i) (lane b.val i) (lane d.val i)
    if bad (i / 16) then
      (match o.poisonLane w with | some v => v | none => r.1, flNone)
    else if m.getLsbD i then r else (r.1, flNone)
  let outs := tabulate 64 one
  (⟨ofLanes (outs.map (fun r => r.1)), groups bad⟩, outs.foldl (fun f r => f ||| r.2) flNone)

/-- The execution of an elementwise instruction. -/
def execElem (o : ElemOp) (c : CtxId) (w : Low56) (s : State) : Out :=
  issue c w true (fun _ => vLegal o.named o.usesRm o.ok false (o.extra w) w)
    (waitsOn c ([vref (fTD w) (fVd w), vref (fTA w) (fVa w), .g (fGs w), .g (fGt w)] ++
      (if o.useB then [vref (fTB w) (fVb w)] else []) ++ (if o.useC then [.v (fVc w)] else [.p (fVc w % 8)])))
    (fun s =>
      withTiles c w s fun s =>
        let m := (s.ctx c.key c.ctx.val).mask w
        let a := s.vsrc c w (fTA w) (fVa w)
        let b := s.vsrc c w (fTB w) (fVb w)
        let d := s.vsrc c w false (fVc w)
        let r := elemResult o w m (s.pr c (fVc w % 8)) (s.rmodes c w) (s.srPoison c w) a b d
        .done (s.pend c ⟨[vdest s c w m r.1], r.2⟩)) s

/-- All lanes written (a lane-crossing instruction carries the plain header, R168). -/
def allLanes : Word := BitVec.allOnes 64

/-- The value of a scalar result. -/
def gres (v : Nat) (poison : Bool) : GReg := ⟨BitVec.ofNat 64 v, poison⟩

end Sys2Proof.Machine
end

