-- ==== Sys2Proof/Machine/VectorArith.lean ====
section
/-! DEFINITION. Elementwise vector instructions: FP and integer arithmetic, logic, shifts, bore-24 add, compare, select,
transcendentals, copy and random draws (Table 6-9; R103, R151, R152, R157, R181). -/

namespace Sys2Proof.Machine

def tilesABD : TileOk := ⟨true, true, true⟩

/-- Canonical NaN in every element of a lane, for FP32 or BF16 (R159). -/
def nanLane (w : Low56) : Option Nat := some (if fFs w = 1 then 0x7FC07FC0 else 0x7FC00000)

/-- An FP form: one FP32 element, or two BF16 elements numbered 2i and 2i + 1 (R148, R108). -/
def fpLane (f : FloatFmt → RMode → Nat → Nat → Nat → Nat × Flags) (w : Low56) (rm : Nat → RMode) (i a b d : Nat) :
    Nat × Flags :=
  if fFs w = 1 then
    let lo := f fmtBF16 (rm (2 * i)) (a % 65536) (b % 65536) (d % 65536)
    let hi := f fmtBF16 (rm (2 * i + 1)) (a / 65536) (b / 65536) (d / 65536)
    (lo.1 + hi.1 * 65536, lo.2 ||| hi.2)
  else f fmtFP32 (rm i) a b d

def fsFloat (w : Low56) : Bool := decide (fFs w ≤ 1)

/-- FP arithmetic with rm and fs (0x60 to 0x63). -/
def fpOp (useC : Bool) (f : FloatFmt → RMode → Nat → Nat → Nat → Nat × Flags) : ElemOp :=
  { named := [(51, 37), (29, 26)] ++ (if useC then [(36, 32)] else []), usesRm := true, ok := tilesABD, useB := true,
    useC := useC, extra := fsFloat, poisonLane := nanLane,
    lane := fun w rm _ i a b d => fpLane f w rm i a b d }

def execVadd := execElem (fpOp false (fun f rm a b _ => fpAdd f rm a b))
def execVsub := execElem (fpOp false (fun f rm a b _ => fpSub f rm a b))
def execVmul := execElem (fpOp false (fun f rm a b _ => fpMul f rm a b))
def execVfma := execElem (fpOp true fpFma)

/-- Minimum and maximum: no rm field (0x64, 0x65). -/
def fpMinMax (f : FloatFmt → Nat → Nat → Nat) : ElemOp :=
  { fpOp false (fun g _ a b _ => (f g a b, flNone)) with usesRm := false }

def execVmin := execElem (fpMinMax fpMin)
def execVmax := execElem (fpMinMax fpMax)

/-- An integer form on 32-bit lanes (0x70 to 0x78); a poisoned lane is written as 0. -/
def intOp (named : List (Nat × Nat)) (f : Low56 → Nat → Nat → Nat × Flags) : ElemOp :=
  { named := named, usesRm := false, ok := tilesABD, useB := true, useC := false, extra := fun _ => true,
    poisonLane := fun _ => some 0, lane := fun w _ _ _ a b _ => f w a b }

/-- INT32 add or subtract: wraps, or clips and raises SAT when sat is 1. -/
def intSum (w : Low56) (r : Int) : Nat × Flags :=
  if fSat w then
    if 2 ^ 31 ≤ r then (0x7FFFFFFF, flSAT)
    else if r < -(2 ^ 31 : Int) then (0x80000000, flSAT)
    else (wrap 32 r, flNone)
  else (wrap 32 r, flNone)

def execViadd := execElem (intOp [(51, 37), (21, 21)] (fun w a b => intSum w (signed 32 a + signed 32 b)))
def execVisub := execElem (intOp [(51, 37), (21, 21)] (fun w a b => intSum w (signed 32 a - signed 32 b)))
def execVand := execElem (intOp [(51, 37)] (fun _ a b => (Nat.land a b, flNone)))
def execVor := execElem (intOp [(51, 37)] (fun _ a b => (Nat.lor a b, flNone)))
def execVxor := execElem (intOp [(51, 37)] (fun _ a b => (Nat.xor a b, flNone)))
def execVshl := execElem (intOp [(51, 37)] (fun _ a b => (a * 2 ^ (b % 32) % 2 ^ 32, flNone)))
def execVshr := execElem (intOp [(51, 37)] (fun _ a b => (a / 2 ^ (b % 32), flNone)))
def execVsra := execElem (intOp [(51, 37)]
  (fun _ a b => (((BitVec.ofNat 32 a).sshiftRight (b % 32)).toNat, flNone)))

/-- Whether a lane holds a number sign-extended from 24 bits (R152). -/
def isBoreLane (a : Nat) : Bool := wrap 32 (signed 24 a) == a

/-- The bore-24 lane add (R152). -/
def boreAdd (a b : Nat) : Nat × Flags :=
  if isBoreLane a && isBoreLane b then
    let r := signed 24 a + signed 24 b
    if 2 ^ 23 ≤ r then (wrap 32 (2 ^ 23 - 1), flSAT)
    else if r < -(2 ^ 23 : Int) then (wrap 32 (-(2 ^ 23 : Int)), flSAT)
    else (wrap 32 r, flNone)
  else ((Config.boreBadSum a b).toNat, flNone)

def execVbadd := execElem (intOp [(51, 37)] (fun _ a b => boreAdd a b))

/-- VSEL: va where bit i of p is 1, otherwise vb; a bit move. -/
def execVsel := execElem
  { named := [(51, 37), (34, 32)], usesRm := false, ok := tilesABD, useB := true, useC := false,
    extra := fun _ => true, poisonLane := fun _ => none,
    lane := fun _ _ sel i a b _ => (if sel.getLsbD i then a else b, flNone) }

/-- VMOV: copy; a bit move. -/
def execVmov := execElem
  { named := [(51, 42)], usesRm := false, ok := ⟨true, true, false⟩, useB := false, useC := false,
    extra := fun _ => true, poisonLane := fun _ => none, lane := fun _ _ _ _ a _ _ => (a, flNone) }

/-- The transcendentals (0x93 to 0x96): FP32, no tile operands. -/
def transOp (f : RMode → Val → Nat × Flags) : ElemOp :=
  { named := [(51, 42)], usesRm := true, ok := noTiles, useB := false, useC := false, extra := fun _ => true,
    poisonLane := fun _ => some 0x7FC00000, lane := fun _ rm _ i a _ _ => f (rm i) (f32 a) }

def execVexp2 := execElem (transOp fpExp2)
def execVlog2 := execElem (transOp fpLog2)
def execVrcp := execElem (transOp fpRcp)
def execVrsq := execElem (transOp fpRsq)

/-- A compare to predicate (0x79, 0x7A): bit i of pd where M allows it; a bit written from a poisoned group is a poison
use (R161, R167; DEDUCED, log 36). -/
def execVcmp (legalCond : Nat → Bool) (f : Nat → Nat → Nat → Bool) (c : CtxId) (w : Low56) (s : State) : Out :=
  issue c w true
    (fun _ => vLegal [(49, 47), (46, 37), (35, 32)] false ⟨false, true, true⟩ false (legalCond (fVc w)) w)
    (waitsOn c [.p (fVd w), vref (fTA w) (fVa w), vref (fTB w) (fVb w), .g (fGt w)])
    (fun s =>
      withTiles c w s fun s =>
        let a := s.vsrc c w (fTA w) (fVa w)
        let b := s.vsrc c w (fTB w) (fVb w)
        let m := (s.ctx c.key c.ctx.val).mask w
        if (List.range 4).any (fun q => fieldAt 16 m.toNat q != 0 && (a.bad q || b.bad q)) then poisonUse s c 1
        else
          let new : Word := BitVec.ofNat 64 (packFields 1 (tabulate 64 (fun i => b2n (f (fVc w) (lane a.val i) (lane b.val i)))))
          let old := s.pr c (fVd w)
          .done (s.pend c ⟨[.p (fVd w) ((new &&& m) ||| (old &&& ~~~m))], flNone⟩)) s

def execVfcmp := execVcmp (fun n => (fpCond n .nan .nan).isSome) (fun n a b => (fpCond n (f32 a) (f32 b)).getD false)
def execVicmp := execVcmp (fun n => decide (n ≤ 9)) (fun n a b => (intCond 32 n a b).getD false)

/-- RNDU and RNDF (R157): a poisoned seed or base poisons every group (R183). -/
def execRandom (f : Nat → Nat) (purpose : Nat) (pl : Nat) (c : CtxId) (w : Low56) (s : State) : Out :=
  issue c w true (fun _ => vLegal [(51, 47), (9, 0)] false noTiles false true w)
    (waitsOn c [.v (fVd w), .g (fGs w), .g (fGt w)])
    (fun s =>
      let seed := s.g c (fGs w)
      let base := s.g c (fGt w)
      let bad := seed.poison || base.poison
      let m := (s.ctx c.key c.ctx.val).mask w
      let val := ofLanes (tabulate 64 (fun i =>
        if bad then pl else f (philoxWord seed.val.toNat (base.val.toNat + i) purpose)))
      let new : VReg := ⟨val, groups (fun _ => bad)⟩
      .done (s.pend c ⟨[.v (fVd w) (mergeLanes m ((s.ctx c.key c.ctx.val).vreg (fVd w)) new)], flNone⟩)) s

def execVrndu := execRandom (fun r => r) 1 0
/-- ((r >> 8) + 1) * 2^-24 as FP32, exact. -/
def execVrndf := execRandom (fun r => (fmtFP32.encode .rne false (.fin false (r / 256 + 1) (-24))).1) 2 0x7FC00000

/-- RNDM: bit k of pd when r is below the threshold g[vc][31:0]; any poisoned scalar is a poison use (R183). -/
def execVrndm (c : CtxId) (w : Low56) (s : State) : Out :=
  issue c w true (fun _ => vLegal [(49, 47), (36, 32), (9, 0)] false noTiles false true w)
    (waitsOn c [.p (fVd w), .g (fVc w), .g (fGs w), .g (fGt w)])
    (fun s =>
      let seed := s.g c (fGs w)
      let base := s.g c (fGt w)
      let th := s.g c (fVc w)
      if seed.poison || base.poison || th.poison then poisonUse s c 1
      else
        let m := (s.ctx c.key c.ctx.val).mask w
        let new : Word := BitVec.ofNat 64 (packFields 1 (tabulate 64 (fun i =>
          b2n (decide (philoxWord seed.val.toNat (base.val.toNat + i) 3 < th.val.toNat % 2 ^ 32)))))
        let old := s.pr c (fVd w)
        .done (s.pend c ⟨[.p (fVd w) ((new &&& m) ||| (old &&& ~~~m))], flNone⟩)) s

/-- VECTOR_COMPLETE: the `n`-th vector result in flight is written and its flags are raised (R130, R149). -/
def execVectorComplete (c : CtxId) (n : Nat) (s : State) : Out :=
  if s.gatedCore c.key then .next s else
  match (s.ctx c.key c.ctx.val).vecPend[n]? with
  | none => .next s
  | some p =>
    let s := s.updCtx c.key c.ctx.val (fun x => { x with vecPend := x.vecPend.eraseIdx n })
    let s := p.writes.foldl (fun t w => match w with | .row n rp _ => t.accWritten c.key n (64 * rp) (64 * rp + 64) | _ => t) s
    .next ((s.updCore c.key (fun d => d.applyVec c.ctx.val p)).settleStep c.key c.ctx.val)

end Sys2Proof.Machine
end

