-- ==== Sys2Proof/Machine/VectorCross.lean ====
section
/-! DEFINITION. Lane-crossing vector instructions: conversion and packing (R184, R153), moves and permutes, reductions
(R150), online softmax (R155), top-k (R156), sampling (R158) and exponent bytes (R124). -/

namespace Sys2Proof.Machine

/-- A lane-crossing move (0x83 to 0x88): all lanes written; any poisoned source poisons every group (R161). -/
def crossMove (c : CtxId) (s : State) (vd : Nat) (bad : Bool) (lanes : List Nat) : Body :=
  .done (s.pend c ⟨[.v vd ⟨ofLanes lanes, groups (fun _ => bad)⟩], flNone⟩)

/-- VPERM's selectors (Table 6-14). -/
def permLane (sel i : Nat) (a b : Nat → Nat) : Nat :=
  match sel with
  | 0 => a (63 - i)
  | 1 => a ((i + 32) % 64)
  | 2 => a (Nat.xor i 1)
  | 3 => if i % 2 = 0 then a (i / 2) else b ((i - 1) / 2)
  | 4 => if i % 2 = 0 then a (32 + i / 2) else b (32 + (i - 1) / 2)
  | 5 => if i < 32 then a (2 * i) else b (2 * (i - 32))
  | 6 => if i < 32 then a (2 * i + 1) else b (2 * (i - 32) + 1)
  | _ => a ((i + 16) % 64)

def execVbcast (c : CtxId) (w : Low56) (s : State) : Out :=
  issue c w true (fun _ => vLegal [(51, 42), (9, 5)] false noTiles true true w)
    (waitsOn c [.v (fVd w), .v (fVa w), .g (fGs w)])
    (fun s =>
      let n := s.g c (fGs w)
      let a := s.vsrc c w false (fVa w)
      if n.poison then poisonUse s c 1
      else crossMove c s (fVd w) a.anyBad (List.replicate 64 (lane a.val (n.val.toNat % 64)))) s

def execVsplat (c : CtxId) (w : Low56) (s : State) : Out :=
  issue c w true (fun _ => vLegal [(51, 47), (9, 5)] false noTiles true true w)
    (waitsOn c [.v (fVd w), .g (fGs w)])
    (fun s =>
      let n := s.g c (fGs w)
      crossMove c s (fVd w) n.poison (List.replicate 64 (n.val.toNat % 2 ^ 32))) s

def execVsegb (c : CtxId) (w : Low56) (s : State) : Out :=
  issue c w true (fun _ => vLegal [(51, 42), (9, 5)] false noTiles true true w)
    (waitsOn c [.v (fVd w), .v (fVa w), .g (fGs w)])
    (fun s =>
      let n := s.g c (fGs w)
      let a := s.vsrc c w false (fVa w)
      if n.poison then poisonUse s c 1
      else crossMove c s (fVd w) a.anyBad (tabulate 64 (fun i => lane a.val (i / 32 * 32 + n.val.toNat % 32)))) s

def execVperm (c : CtxId) (w : Low56) (s : State) : Out :=
  issue c w true (fun _ => vLegal [(51, 37), (34, 32)] false noTiles true true w)
    (waitsOn c [.v (fVd w), .v (fVa w), .v (fVb w)])
    (fun s =>
      let a := s.vsrc c w false (fVa w)
      let b := s.vsrc c w false (fVb w)
      crossMove c s (fVd w) (a.anyBad || b.anyBad)
        (tabulate 64 (fun i => permLane (fVc w) i (lane a.val) (lane b.val)))) s

/-- VEXT: poisoned exactly when the group of the lane it reads is (R161). -/
def execVext (c : CtxId) (w : Low56) (s : State) : Out :=
  issue c w true (fun _ => vLegal [(46, 42), (9, 0)] false noTiles true true w)
    (waitsOn c [.v (fVa w), .g (fGs w), .g (fGt w)])
    (fun s =>
      let n := s.g c (fGs w)
      let a := s.vsrc c w false (fVa w)
      let i := n.val.toNat % 64
      if n.poison then poisonUse s c 1
      else .done (s.pend c ⟨[.g (fGt w) (gres (lane a.val i) (a.bad (i / 16)))], flNone⟩)) s

/-- VINS: other lanes and other groups' poison are kept (R161). -/
def execVins (c : CtxId) (w : Low56) (s : State) : Out :=
  issue c w true (fun _ => vLegal [(51, 47), (9, 0)] false noTiles true true w)
    (waitsOn c [.v (fVd w), .g (fGs w), .g (fGt w)])
    (fun s =>
      let v := s.g c (fGs w)
      let n := s.g c (fGt w)
      let d := s.vsrc c w false (fVd w)
      let i := n.val.toNat % 64
      if n.poison then poisonUse s c 1
      else .done (s.pend c ⟨[.v (fVd w) ⟨ofLanes (tabulate 64 (fun j => if j = i then v.val.toNat % 2 ^ 32 else lane d.val j)),
        groups (fun q => d.bad q || (q == i / 16 && v.poison))⟩], flNone⟩)) s

/-! ### Conversion (R184) -/

/-- Whether VCVT with these formats crosses lanes (R168). -/
def cvtCross (fs fd : Nat) : Bool := !((fs == 0 || fs == 0xD || fs == 0xE) && (fd == 0 || fd == 0xD || fd == 0xE))

/-- Whether a format uses g[vc] (R184). -/
def usesVc (f : Nat) : Bool := isMx f || f == 0xE

/-- Bits an element takes in a register: bore-24 sits one to a lane (R184). -/
def regBits (f : Nat) : Nat := if f = 0xE then 32 else codeBits f

/-- VCVT of a register: the destination value, its poison, what g[vc] becomes if it is written, and the flags. A lane
that `m` leaves unwritten raises none (R130, R167). -/
def convertReg (fs fd : Nat) (sat : Bool) (rm : Nat → RMode) (src : VReg) (gvc : Nat) (allBad : Bool) (m : Word) :
    VReg × Option Nat × Flags :=
  let sc := [gvc % 256, gvc / 256 % 256]
  let ms := [gvc / 2 ^ 16 % 2, gvc / 2 ^ 17 % 2]
  let sw := regBits fs
  let bad (k : Nat) : Bool := allBad || src.bad (k * sw / 512)
  let es := (sourceElems fs 64 src.val.toNat sw sc ms bad).zipIdx.map
    (fun (p : Elem × Nat) => if m.getLsbD p.2 then p.1 else ⟨.fin false 0 0, false, 0⟩)
  let r := convertElems fd rm sat sc es
  let dw := regBits fd
  let elems := if fd = 0xE then r.elems.map (fun v => wrap 32 (signed 24 v)) else r.elems
  let any := allBad || src.anyBad
  let pois := if cvtCross fs fd then groups (fun _ => any) else groups (fun q => allBad || src.bad q)
  let scOut := if fd = 0x9 then (r.scales.getD 0 0) * 257 else r.scales.getD 0 0 + r.scales.getD 1 0 * 256
  (⟨BitVec.ofNat 2048 (packFields dw elems), pois⟩, if isMx fd then some scOut else none,
    r.flags ||| sourceFlags fs sc (fun b => (List.range 32).any (fun i => bad (32 * b + i))))

/-- VCVT. -/
def execVcvt (c : CtxId) (w : Low56) (s : State) : Out :=
  let fs := fFs w
  let fd := fFd w
  let vc := usesVc fs || usesVc fd
  issue c w true
    (fun _ => vLegal ([(51, 42), (29, 21)] ++ (if vc then [(36, 32)] else [])) true ⟨false, true, false⟩
      (cvtCross fs fd) (isConvFmt fs && isConvFmt fd) w)
    (waitsOn c ([.v (fVd w), vref (fTA w) (fVa w), .g (fGs w), .g (fGt w)] ++ (if vc then [.g (fVc w)] else [])))
    (fun s =>
      withTiles c w s fun s =>
        let src := s.vsrc c w (fTA w) (fVa w)
        let g := s.g c (fVc w)
        let reads := isMx fs || fs == 0xE || fd == 0xE
        let allBad := s.srPoison c w || (reads && g.poison)
        let m := if cvtCross fs fd then allLanes else (s.ctx c.key c.ctx.val).mask w
        let r := convertReg fs fd (fSat w) (s.rmodes c w) src g.val.toNat allBad m
        let any := allBad || src.anyBad
        let ws : List VWrite := [.v (fVd w) (mergeLanes m ((s.ctx c.key c.ctx.val).vreg (fVd w)) r.1)]
        .done (s.pend c ⟨ws ++ (match r.2.1 with | some v => [.g (fVc w) (gres v any)] | none => []), r.2.2⟩)) s

/-- VPACK: x lanes 0 to 31, y lanes 0 to 31, x lanes 32 to 63, y lanes 32 to 63 (R153). -/
def execVpack (c : CtxId) (w : Low56) (s : State) : Out :=
  issue c w true
    (fun _ => vLegal [(51, 37), (25, 22)] true ⟨false, true, true⟩ true (fFd w == 1 || fFd w == 2) w)
    (waitsOn c [.v (fVd w), vref (fTA w) (fVa w), vref (fTB w) (fVb w), .g (fGs w), .g (fGt w)])
    (fun s =>
      withTiles c w s fun s =>
        let x := s.vsrc c w (fTA w) (fVa w)
        let y := s.vsrc c w (fTB w) (fVb w)
        let allBad := s.srPoison c w
        let order : List (Nat × Bool) := tabulate 128 (fun e =>
          let i := e / 64 * 32 + e % 32
          if e / 32 % 2 = 0 then (lane x.val i, allBad || x.bad (i / 16)) else (lane y.val i, allBad || y.bad (i / 16)))
        let es := order.map (fun p => (⟨f32 p.1, p.2, p.1⟩ : Elem))
        let r := convertElems (fFd w) (s.rmodes c w) false [] es
        let any := x.anyBad || y.anyBad || allBad
        .done (s.pend c ⟨[.v (fVd w) ⟨BitVec.ofNat 2048 (packFields 16 r.elems), groups (fun _ => any)⟩], r.flags⟩)) s

/-- VBEXP: exponent bytes of each 32-element block (R124): two blocks of FP32 or four of BF16. A poisoned result is 0
(R159). -/
def execVbexp (c : CtxId) (w : Low56) (s : State) : Out :=
  issue c w true (fun _ => vLegal [(46, 42), (29, 26), (4, 0)] false noTiles true (fsFloat' w) w)
    (waitsOn c [.v (fVa w), .g (fGt w)])
    (fun s =>
      let a := s.vsrc c w false (fVa w)
      let n := if fFs w = 1 then 4 else 2
      let bits := if fFs w = 1 then 16 else 32
      let f := if fFs w = 1 then fmtBF16 else fmtFP32
      let bytes := if a.anyBad then [] else tabulate n (fun b => boreByte (tabulate 32 (fun i => f.decode (fieldAt bits a.val.toNat (32 * b + i)))))
      .done (s.pend c ⟨[.g (fGt w) (gres (packFields 8 bytes) a.anyBad)], flNone⟩)) s
where
  fsFloat' (w : Low56) : Bool := decide (fFs w ≤ 1)

/-! ### Reductions (R150) -/

/-- One level of a pairwise tree. -/
def pairUp (f : Nat → Nat → Nat × Flags) : List Nat → List Nat × Flags
  | a :: b :: r =>
    let x := f a b
    let t := pairUp f r
    (x.1 :: t.1, x.2 ||| t.2)
  | l => (l, flNone)

/-- A tree past 2^n values (R150). -/
def treeReduce (f : Nat → Nat → Nat × Flags) : Nat → List Nat → Nat × Flags
  | 0, l => (l.headD 0, flNone)
  | n + 1, l =>
    let x := pairUp f l
    let t := treeReduce f n x.1
    (t.1, x.2 ||| t.2)

/-- Lanes of segment `s`. -/
def segLanes (v : BitVec 2048) (s : Nat) : List Nat := tabulate 32 (fun i => lane v (32 * s + i))

def VReg.segBad (v : VReg) (s : Nat) : Bool := v.bad (2 * s) || v.bad (2 * s + 1)

/-- The state lanes of segment `s`, lanes 32s to 32s + 3, are poisoned (R155, R161). -/
def VReg.stateBad (v : VReg) (s : Nat) : Bool := v.bad (2 * s)

/-- A reduction: FP32 or INT32, full or segment form (R150, R161, R182). -/
def execReduce (ff fi : Nat → Nat → Nat × Flags) (c : CtxId) (w : Low56) (s : State) : Out :=
  issue c w true
    (fun _ => vLegal [(51, 42), (32, 32), (29, 26)] false noTiles true (fFs w == 0 || fFs w == 0xD) w)
    (waitsOn c [.v (fVd w), .v (fVa w)])
    (fun s =>
      let a := s.vsrc c w false (fVa w)
      let f := if fFs w = 0 then ff else fi
      let pv := if fFs w = 0 then 0x7FC00000 else 0
      let r0 := treeReduce f 5 (segLanes a.val 0)
      let r1 := treeReduce f 5 (segLanes a.val 1)
      if fVc w = 0 then
        let t := f r0.1 r1.1
        let bad := a.anyBad
        .done (s.pend c ⟨[.v (fVd w) ⟨ofLanes [if bad then pv else t.1], groups (fun _ => bad)⟩],
          if bad then flNone else r0.2 ||| r1.2 ||| t.2⟩)
      else
        let b0 := a.segBad 0
        let b1 := a.segBad 1
        .done (s.pend c ⟨[.v (fVd w) ⟨ofLanes ((if b0 then pv else r0.1) :: List.replicate 31 0 ++ [if b1 then pv else r1.1]),
            groups (fun q => if q < 2 then b0 else b1)⟩],
          (if b0 then flNone else r0.2) ||| (if b1 then flNone else r1.2)⟩)) s

def execVrsum := execReduce (fpAdd fmtFP32 .rne) (fun a b => ((a + b) % 2 ^ 32, flNone))
def execVrmax := execReduce (fun a b => (fpMax fmtFP32 a b, flNone))
  (fun a b => (if signed 32 a ≤ signed 32 b then b else a, flNone))
def execVrmin := execReduce (fun a b => (fpMin fmtFP32 a b, flNone))
  (fun a b => (if signed 32 a ≤ signed 32 b then a else b, flNone))

/-! ### Online softmax (R155) -/

def negInf32 : Nat := 0xFF800000
def nan32 : Nat := 0x7FC00000

/-- The sum of a list of flags. -/
def orFlags (l : List Flags) : Flags := l.foldl (fun a b => a ||| b) flNone

/-- A state register with lanes `upd` of segment `s` replaced, by lane number within the segment. -/
def updSeg (v : BitVec 2048) (s : Nat) (upd : List (Nat × Nat)) : BitVec 2048 :=
  ofLanes (tabulate 64 (fun i =>
    if i / 32 = s then ((upd.find? (fun p => p.1 == i % 32)).map (fun p => p.2)).getD (lane v i) else lane v i))

/-- Poison of the state register after a softmax instruction: a poisoned segment poisons both its groups (R161). -/
def segPoison (old : VReg) (b : Nat → Bool) : BitVec 4 := groups (fun q => old.bad q || b (q / 2))

/-- VSEGMAX: m_next = max(m_next, segment max of x'). -/
def execVsegmax (c : CtxId) (w : Low56) (s : State) : Out :=
  issue c w true (fun _ => vLegal [(51, 42), (9, 5)] false ⟨false, true, false⟩ true true w)
    (waitsOn c [.v (fVd w), vref (fTA w) (fVa w), .g (fGs w), .g (fGt w)])
    (fun s =>
      withTiles c w s fun s =>
        let x := s.vsrc c w (fTA w) (fVa w)
        let st := s.vsrc c w false (fVd w)
        let g := s.g c (fGs w)
        let bad (i : Nat) : Bool := g.poison || x.segBad i || st.stateBad i
        let one (i : Nat) : Nat × Flags :=
          let xs := (segLanes x.val i).map (fun v => fpMul fmtFP32 .rne v (g.val.toNat % 2 ^ 32))
          let mx := treeReduce (fun a b => (fpMax fmtFP32 a b, flNone)) 5 (xs.map (fun p => p.1))
          if bad i then (nan32, flNone)
          else (fpMax fmtFP32 (lane st.val (32 * i + 3)) mx.1, orFlags (xs.map (fun p => p.2)))
        let r0 := one 0
        let r1 := one 1
        .done (s.pend c ⟨[.v (fVd w) ⟨updSeg (updSeg st.val 0 [(3, r0.1)]) 1 [(3, r1.1)], segPoison st bad⟩],
          r0.2 ||| r1.2⟩)) s

/-- VOSMC: the correction is formed and the running maximum advances. -/
def execVosmc (c : CtxId) (w : Low56) (s : State) : Out :=
  issue c w true (fun _ => vLegal [(51, 47)] false noTiles true true w) (waitsOn c [.v (fVd w)])
    (fun s =>
      let st := s.vsrc c w false (fVd w)
      let bad (i : Nat) : Bool := st.stateBad i
      let one (i : Nat) : List (Nat × Nat) × Flags :=
        let m := lane st.val (32 * i)
        let l := lane st.val (32 * i + 1)
        let mn := lane st.val (32 * i + 3)
        if bad i then ([(0, nan32), (1, nan32), (2, nan32)], flNone)
        else if mn = negInf32 then ([(2, 0x3F800000)], flNone)
        else
          let d := fpSub fmtFP32 .rne m mn
          let e := fpExp2 .rne (f32 d.1)
          let cc := if m = negInf32 then (0, flNone) else (e.1, d.2 ||| e.2)
          let l' := fpMul fmtFP32 .rne l cc.1
          ([(0, mn), (1, l'.1), (2, cc.1)], cc.2 ||| l'.2)
      let r0 := one 0
      let r1 := one 1
      .done (s.pend c ⟨[.v (fVd w) ⟨updSeg (updSeg st.val 0 r0.1) 1 r1.1, segPoison st bad⟩], r0.2 ||| r1.2⟩)) s

/-- VOSM: probabilities into vd, the running sum into lane 1 of each segment of the state register vc, the other lanes of
which keep what they hold, also when vc is vd (log 36). -/
def execVosm (c : CtxId) (w : Low56) (s : State) : Out :=
  issue c w true (fun _ => vLegal [(51, 42), (36, 32), (9, 5)] false ⟨false, true, false⟩ true true w)
    (waitsOn c [.v (fVd w), .v (fVc w), vref (fTA w) (fVa w), .g (fGs w), .g (fGt w)])
    (fun s =>
      withTiles c w s fun s =>
        let x := s.vsrc c w (fTA w) (fVa w)
        let st := s.vsrc c w false (fVc w)
        let g := s.g c (fGs w)
        let bad (i : Nat) : Bool := g.poison || x.segBad i || st.stateBad i
        let one (i : Nat) : List Nat × Nat × Flags :=
          let m := lane st.val (32 * i)
          let l := lane st.val (32 * i + 1)
          if bad i then (List.replicate 32 nan32, nan32, flNone)
          else
            let ps : List (Nat × Flags) := (segLanes x.val i).map (fun v =>
              if m = negInf32 then (0, flNone)
              else
                let y := fpMul fmtFP32 .rne v (g.val.toNat % 2 ^ 32)
                let d := fpSub fmtFP32 .rne y.1 m
                let e := fpExp2 .rne (f32 d.1)
                (e.1, y.2 ||| d.2 ||| e.2))
            let sum := treeReduce (fpAdd fmtFP32 .rne) 5 (ps.map (fun p => p.1))
            let l' := fpAdd fmtFP32 .rne l sum.1
            (ps.map (fun p => p.1), l'.1, orFlags (ps.map (fun p => p.2)) ||| sum.2 ||| l'.2)
        let r0 := one 0
        let r1 := one 1
        let p : VReg := ⟨ofLanes (r0.1 ++ r1.1), groups (fun q => bad (q / 2))⟩
        let old := if fVc w = fVd w then p else st
        .done (s.pend c ⟨[.v (fVd w) p,
            .v (fVc w) ⟨updSeg (updSeg old.val 0 [(1, r0.2.1)]) 1 [(1, r1.2.1)], segPoison old bad⟩],
          r0.2.2 ||| r1.2.2⟩)) s

/-! ### Top-k (R156) -/

/-- Whether entry (value, index) `a` ranks above `b`: descending value, NaN last, then the lower index. -/
def topAbove (a b : Nat × Nat) : Bool :=
  let va := f32 a.1
  let vb := f32 b.1
  match va, vb with
  | .nan, .nan => decide (a.2 < b.2)
  | .nan, _ => false
  | _, .nan => true
  | _, _ => if Val.below vb va then true else if Val.below va vb then false else decide (a.2 < b.2)

/-- An entry put in its place among ranked ones. -/
def topInsert (a : Nat × Nat) : List (Nat × Nat) → List (Nat × Nat)
  | [] => [a]
  | b :: r => if topAbove a b then a :: b :: r else b :: topInsert a r

/-- The result register of the `k` best real entries (R156); a NaN is written as the canonical one (R93). -/
def topResult (k : Nat) (es : List (Nat × Nat)) : BitVec 2048 :=
  let real := es.filter (fun e => e.2 != 0xFFFFFFFF)
  let best := (real.foldl (fun l e => topInsert e l) []).take k
  ofLanes (fitTo negInf32 32 (best.map (fun e => if f32 e.1 = .nan then nan32 else e.1)) ++ fitTo 0xFFFFFFFF 32 (best.map (fun e => e.2)))

/-- A poisoned result: canonical NaN in the value lanes, 0 in the index lanes (R159). -/
def topPoison : BitVec 2048 := ofLanes (List.replicate 32 nan32 ++ List.replicate 32 0)

/-- k outside 1 to 32 is taken as 1 or 32 (R182); the register is read as a signed number (DEDUCED, log 36). -/
def topK (n : Int) : Nat := if n < 1 then 1 else if 32 < n then 32 else n.toNat

def execVtopk (c : CtxId) (w : Low56) (s : State) : Out :=
  issue c w true (fun _ => vLegal [(51, 42), (9, 0)] false noTiles true true w)
    (waitsOn c [.v (fVd w), .v (fVa w), .g (fGs w), .g (fGt w)])
    (fun s =>
      let kk := s.g c (fGs w)
      let base := s.g c (fGt w)
      let a := s.vsrc c w false (fVa w)
      if kk.poison then poisonUse s c 1
      else
        let es := tabulate 64 (fun i => (lane a.val i, (base.val.toNat + i) % 2 ^ 32))
        let bad := a.anyBad || base.poison
        .done (s.pend c ⟨[.v (fVd w) ⟨if bad then topPoison else topResult (topK kk.val.toInt) es, groups (fun _ => bad)⟩],
          flNone⟩)) s

/-- The 32 entries of a top-k register. -/
def topEntries (v : BitVec 2048) : List (Nat × Nat) := tabulate 32 (fun i => (lane v i, lane v (32 + i)))

def execVtopkm (c : CtxId) (w : Low56) (s : State) : Out :=
  issue c w true (fun _ => vLegal [(51, 37), (9, 5)] false noTiles true true w)
    (waitsOn c [.v (fVd w), .v (fVa w), .v (fVb w), .g (fGs w)])
    (fun s =>
      let kk := s.g c (fGs w)
      let a := s.vsrc c w false (fVa w)
      let b := s.vsrc c w false (fVb w)
      if kk.poison then poisonUse s c 1
      else
        let bad := a.anyBad || b.anyBad
        .done (s.pend c ⟨[.v (fVd w)
          ⟨if bad then topPoison else topResult (topK kk.val.toInt) (topEntries a.val ++ topEntries b.val),
            groups (fun _ => bad)⟩], flNone⟩)) s

/-! ### Sampling (R158) -/

/-- The weight that enters the sum: a negative or NaN weight raises NV and counts as +0. -/
def smplWeight (v : Nat) : Nat × Flags :=
  match f32 v with
  | .nan => (0, flNV)
  | .inf neg => if neg then (0, flNV) else (v, flNone)
  | .fin neg m _ => if neg && m != 0 then (0, flNV) else (v, flNone)

/-- Prefix sums in lane order: the first lane whose sum exceeds the threshold, the last sum, the flags. -/
def smplScan (tau : Nat) : List Nat → Nat → Nat → Option Nat → Flags → Option Nat × Nat × Flags
  | [], _, acc, hit, f => (hit, acc, f)
  | v :: r, i, acc, hit, f =>
    let x := smplWeight v
    let t := fpAdd fmtFP32 .rne acc x.1
    let past := (fpCond 7 (f32 t.1) (f32 tau)).getD false
    smplScan tau r (i + 1) t.1 (match hit with | some h => some h | none => if past then some i else none)
      (f ||| x.2 ||| t.2)

/-- VSMPL: index to g[vd], S_63 to g[vc]. -/
def execVsmpl (c : CtxId) (w : Low56) (s : State) : Out :=
  issue c w true (fun _ => vLegal [(51, 42), (36, 32), (9, 0)] false noTiles true true w)
    (waitsOn c [.g (fVd w), .g (fVc w), .v (fVa w), .g (fGs w), .g (fGt w)])
    (fun s =>
      let tau := s.g c (fGs w)
      let base := s.g c (fGt w)
      let a := s.vsrc c w false (fVa w)
      let bad := a.anyBad || tau.poison || base.poison
      let r := smplScan (tau.val.toNat % 2 ^ 32) (tabulate 64 (fun i => lane a.val i)) 0 0 none flNone
      let idx : Word := match r.1 with
        | some i => base.val + BitVec.ofNat 64 i
        | none => BitVec.allOnes 64
      .done (s.pend c ⟨[.g (fVd w) ⟨if bad then 0 else idx, bad⟩,
          .g (fVc w) (gres (if bad then nan32 else r.2.1) bad)], if bad then flNone else r.2.2⟩)) s

end Sys2Proof.Machine
end

