-- ==== Sys2Proof/Machine/Dispatch.lean ====
section
/-! DEFINITION. One arm for every command: its meaning on everything but the queue. -/

namespace Sys2Proof.Machine

def exec (i : Instr) (s : State) : Host.Outcome State Fault Refusal :=
  match i with
  | .nop c w => Sys2Proof.Machine.execNop c w s
  | .fence c w => Sys2Proof.Machine.execFence c w s
  | .fenceComplete c => Sys2Proof.Machine.execFenceComplete c s
  | .isync c w => Sys2Proof.Machine.execIsync c w s
  | .trap c w => Sys2Proof.Machine.execTrap c w s
  | .eret c w => Sys2Proof.Machine.execEret c w s
  | .halt c w => Sys2Proof.Machine.execHalt c w s
  | .rdgtc c w => Sys2Proof.Machine.execRdgtc c w s
  | .rdid c w => Sys2Proof.Machine.execRdid c w s
  | .add c w => Sys2Proof.Machine.execAdd c w s
  | .sub c w => Sys2Proof.Machine.execSub c w s
  | .mul c w => Sys2Proof.Machine.execMul c w s
  | .mulhu c w => Sys2Proof.Machine.execMulhu c w s
  | .divu c w => Sys2Proof.Machine.execDivu c w s
  | .divs c w => Sys2Proof.Machine.execDivs c w s
  | .remu c w => Sys2Proof.Machine.execRemu c w s
  | .rems c w => Sys2Proof.Machine.execRems c w s
  | .and c w => Sys2Proof.Machine.execAnd c w s
  | .or c w => Sys2Proof.Machine.execOr c w s
  | .xor c w => Sys2Proof.Machine.execXor c w s
  | .shl c w => Sys2Proof.Machine.execShl c w s
  | .shr c w => Sys2Proof.Machine.execShr c w s
  | .sra c w => Sys2Proof.Machine.execSra c w s
  | .min c w => Sys2Proof.Machine.execMin c w s
  | .max c w => Sys2Proof.Machine.execMax c w s
  | .addi c w => Sys2Proof.Machine.execAddi c w s
  | .andi c w => Sys2Proof.Machine.execAndi c w s
  | .ori c w => Sys2Proof.Machine.execOri c w s
  | .xori c w => Sys2Proof.Machine.execXori c w s
  | .shli c w => Sys2Proof.Machine.execShli c w s
  | .shri c w => Sys2Proof.Machine.execShri c w s
  | .srai c w => Sys2Proof.Machine.execSrai c w s
  | .liw c w => Sys2Proof.Machine.execLiw c w s
  | .lip c w => Sys2Proof.Machine.execLip c w s
  | .sel c w => Sys2Proof.Machine.execSel c w s
  | .clz c w => Sys2Proof.Machine.execClz c w s
  | .popc c w => Sys2Proof.Machine.execPopc c w s
  | .minu c w => Sys2Proof.Machine.execMinu c w s
  | .maxu c w => Sys2Proof.Machine.execMaxu c w s
  | .ld c w => Sys2Proof.Machine.execLd c w s
  | .st c w => Sys2Proof.Machine.execSt c w s
  | .ldp c w => Sys2Proof.Machine.execLdp c w s
  | .stp c w => Sys2Proof.Machine.execStp c w s
  | .vld c w => Sys2Proof.Machine.execVld c w s
  | .vst c w => Sys2Proof.Machine.execVst c w s
  | .j c w => Sys2Proof.Machine.execJ c w s
  | .jal c w => Sys2Proof.Machine.execJal c w s
  | .jr c w => Sys2Proof.Machine.execJr c w s
  | .jalr c w => Sys2Proof.Machine.execJalr c w s
  | .bc c w => Sys2Proof.Machine.execBc c w s
  | .pcmp c w => Sys2Proof.Machine.execPcmp c w s
  | .pcmpi c w => Sys2Proof.Machine.execPcmpi c w s
  | .pand c w => Sys2Proof.Machine.execPand c w s
  | .por c w => Sys2Proof.Machine.execPor c w s
  | .pxor c w => Sys2Proof.Machine.execPxor c w s
  | .pandn c w => Sys2Proof.Machine.execPandn c w s
  | .pfromg c w => Sys2Proof.Machine.execPfromg c w s
  | .ptog c w => Sys2Proof.Machine.execPtog c w s
  | .pcnt c w => Sys2Proof.Machine.execPcnt c w s
  | .pfirst c w => Sys2Proof.Machine.execPfirst c w s
  | .vadd c w => Sys2Proof.Machine.execVadd c w s
  | .vsub c w => Sys2Proof.Machine.execVsub c w s
  | .vmul c w => Sys2Proof.Machine.execVmul c w s
  | .vfma c w => Sys2Proof.Machine.execVfma c w s
  | .vmin c w => Sys2Proof.Machine.execVmin c w s
  | .vmax c w => Sys2Proof.Machine.execVmax c w s
  | .viadd c w => Sys2Proof.Machine.execViadd c w s
  | .visub c w => Sys2Proof.Machine.execVisub c w s
  | .vand c w => Sys2Proof.Machine.execVand c w s
  | .vor c w => Sys2Proof.Machine.execVor c w s
  | .vxor c w => Sys2Proof.Machine.execVxor c w s
  | .vshl c w => Sys2Proof.Machine.execVshl c w s
  | .vshr c w => Sys2Proof.Machine.execVshr c w s
  | .vsra c w => Sys2Proof.Machine.execVsra c w s
  | .vbadd c w => Sys2Proof.Machine.execVbadd c w s
  | .vfcmp c w => Sys2Proof.Machine.execVfcmp c w s
  | .vicmp c w => Sys2Proof.Machine.execVicmp c w s
  | .vsel c w => Sys2Proof.Machine.execVsel c w s
  | .vcvt c w => Sys2Proof.Machine.execVcvt c w s
  | .vpack c w => Sys2Proof.Machine.execVpack c w s
  | .vmov c w => Sys2Proof.Machine.execVmov c w s
  | .vbcast c w => Sys2Proof.Machine.execVbcast c w s
  | .vsplat c w => Sys2Proof.Machine.execVsplat c w s
  | .vsegb c w => Sys2Proof.Machine.execVsegb c w s
  | .vperm c w => Sys2Proof.Machine.execVperm c w s
  | .vext c w => Sys2Proof.Machine.execVext c w s
  | .vins c w => Sys2Proof.Machine.execVins c w s
  | .vsmpl c w => Sys2Proof.Machine.execVsmpl c w s
  | .vbexp c w => Sys2Proof.Machine.execVbexp c w s
  | .vrsum c w => Sys2Proof.Machine.execVrsum c w s
  | .vrmax c w => Sys2Proof.Machine.execVrmax c w s
  | .vrmin c w => Sys2Proof.Machine.execVrmin c w s
  | .vexp2 c w => Sys2Proof.Machine.execVexp2 c w s
  | .vlog2 c w => Sys2Proof.Machine.execVlog2 c w s
  | .vrcp c w => Sys2Proof.Machine.execVrcp c w s
  | .vrsq c w => Sys2Proof.Machine.execVrsq c w s
  | .vsegmax c w => Sys2Proof.Machine.execVsegmax c w s
  | .vosmc c w => Sys2Proof.Machine.execVosmc c w s
  | .vosm c w => Sys2Proof.Machine.execVosm c w s
  | .vtopk c w => Sys2Proof.Machine.execVtopk c w s
  | .vtopkm c w => Sys2Proof.Machine.execVtopkm c w s
  | .vrndu c w => Sys2Proof.Machine.execVrndu c w s
  | .vrndf c w => Sys2Proof.Machine.execVrndf c w s
  | .vrndm c w => Sys2Proof.Machine.execVrndm c w s
  | .vectorComplete c n => Sys2Proof.Machine.execVectorComplete c n s
  | .mma c w => Sys2Proof.Machine.execMma c w s
  | .mmx c w => Sys2Proof.Machine.execMmx c w s
  | .lbm c w => Sys2Proof.Machine.execLbm c w s
  | .lbr c w => Sys2Proof.Machine.execLbr c w s
  | .tz c w => Sys2Proof.Machine.execTz c w s
  | .lbtr c w => Sys2Proof.Machine.execLbtr c w s
  | .lbtw c w => Sys2Proof.Machine.execLbtw c w s
  | .engineOpStart k e => Sys2Proof.Machine.execEngineOpStart k e s
  | .engineOpWrite k e => Sys2Proof.Machine.execEngineOpWrite k e s
  | .sarm c w => Sys2Proof.Machine.execSarm c w s
  | .srarm c w => Sys2Proof.Machine.execSrarm c w s
  | .sclose c w => Sys2Proof.Machine.execSclose c w s
  | .shead c w => Sys2Proof.Machine.execShead c w s
  | .srel c w => Sys2Proof.Machine.execSrel c w s
  | .sstat c w => Sys2Proof.Machine.execSstat c w s
  | .swait c w => Sys2Proof.Machine.execSwait c w s
  | .vopen c w => Sys2Proof.Machine.execVopen c w s
  | .vclose c w => Sys2Proof.Machine.execVclose c w s
  | .vwait c w => Sys2Proof.Machine.execVwait c w s
  | .vtest c w => Sys2Proof.Machine.execVtest c w s
  | .vsetr c w => Sys2Proof.Machine.execVsetr c w s
  | .hvset c w => Sys2Proof.Machine.execHvset c w s
  | .hvclr c w => Sys2Proof.Machine.execHvclr c w s
  | .hvwait c w => Sys2Proof.Machine.execHvwait c w s
  | .hvtest c w => Sys2Proof.Machine.execHvtest c w s
  | .tcadd c w => Sys2Proof.Machine.execTcadd c w s
  | .tcwait c w => Sys2Proof.Machine.execTcwait c w s
  | .tcrd c w => Sys2Proof.Machine.execTcrd c w s
  | .tcaddr c w => Sys2Proof.Machine.execTcaddr c w s
  | .fsend c w => Sys2Proof.Machine.execFsend c w s
  | .fsendr c w => Sys2Proof.Machine.execFsendr c w s
  | .ccbStart c => Sys2Proof.Machine.execCcbStart c s
  | .ccbHalt c => Sys2Proof.Machine.execCcbHalt c s
  | .ccbStep c => Sys2Proof.Machine.execCcbStep c s
  | .ccbClearException c => Sys2Proof.Machine.execCcbClearException c s
  | .ccbContextReset c => Sys2Proof.Machine.execCcbContextReset c s
  | .ccbCoreReset k => Sys2Proof.Machine.execCcbCoreReset k s
  | .ccbCoreResetZeroFill k => Sys2Proof.Machine.execCcbCoreResetZeroFill k s
  | .ctxSplitWrite k v => Sys2Proof.Machine.execCtxSplitWrite k v s
  | .registerWrite who addr v => Sys2Proof.Machine.execRegisterWrite who addr v s
  | .supervisorStopReport c => Sys2Proof.Machine.execSupervisorStopReport c s
  | .streamRequestIssue k => Sys2Proof.Machine.execStreamRequestIssue k s
  | .streamResponseLand id => Sys2Proof.Machine.execStreamResponseLand id s
  | .tileRequestTimeout id => Sys2Proof.Machine.execTileRequestTimeout id s
  | .storeWrite id piece => Sys2Proof.Machine.execStoreWrite id piece s
  | .storeWriteAck id => Sys2Proof.Machine.execStoreWriteAck id s
  | .pushTileSend k n => Sys2Proof.Machine.execPushTileSend k n s
  | .pushedTileArrive id => Sys2Proof.Machine.execPushedTileArrive id s
  | .pushCreditArrive id => Sys2Proof.Machine.execPushCreditArrive id s
  | .reduceSum k n => Sys2Proof.Machine.execReduceSum k n s
  | .rotateForward k => Sys2Proof.Machine.execRotateForward k s
  | .rotateTileArrive id => Sys2Proof.Machine.execRotateTileArrive id s
  | .streamWatchdogExpiry k n => Sys2Proof.Machine.execStreamWatchdogExpiry k n s
  | .fippleQueueSend k => Sys2Proof.Machine.execFippleQueueSend k s
  | .fippleDelivery id => Sys2Proof.Machine.execFippleDelivery id s
  | .farLoadResponse id => Sys2Proof.Machine.execFarLoadResponse id s
  | .remoteWriteAck id => Sys2Proof.Machine.execRemoteWriteAck id s
  | .requestTimeout id => Sys2Proof.Machine.execRequestTimeout id s
  | .remoteSignalSend id => Sys2Proof.Machine.execRemoteSignalSend id s
  | .valveOpenArrive id => Sys2Proof.Machine.execValveOpenArrive id s
  | .tallyAddArrive id => Sys2Proof.Machine.execTallyAddArrive id s
  | .syncOpenValve k host v => Sys2Proof.Machine.execSyncOpenValve k host v s
  | .syncCloseValve k v => Sys2Proof.Machine.execSyncCloseValve k v s
  | .syncAddCounter k host t => Sys2Proof.Machine.execSyncAddCounter k host t s
  | .hvOpenWrite h => Sys2Proof.Machine.execHvOpenWrite h s
  | .hvCloseWrite h => Sys2Proof.Machine.execHvCloseWrite h s
  | .lendingStart k => Sys2Proof.Machine.execLendingStart k s
  | .valveWatchdogScan d => Sys2Proof.Machine.execValveWatchdogScan d s
  | .censusCmd v => Sys2Proof.Machine.execCensusCmd v s
  | .censusRequestReceive port => Sys2Proof.Machine.execCensusRequestReceive port s
  | .censusSnapshot => Sys2Proof.Machine.execCensusSnapshot s
  | .censusRecordsWrite => Sys2Proof.Machine.execCensusRecordsWrite s
  | .censusProbeReceive port => Sys2Proof.Machine.execCensusProbeReceive port s
  | .censusReportReceive port => Sys2Proof.Machine.execCensusReportReceive port s
  | .censusComplete => Sys2Proof.Machine.execCensusComplete s
  | .poolAlloc w0 w1 w2 w3 => Sys2Proof.Machine.execPoolAlloc w0 w1 w2 w3 s
  | .poolFree w0 w1 w2 w3 => Sys2Proof.Machine.execPoolFree w0 w1 w2 w3 s
  | .poolSetfl w0 w1 w2 w3 => Sys2Proof.Machine.execPoolSetfl w0 w1 w2 w3 s
  | .poolMove w0 w1 w2 w3 => Sys2Proof.Machine.execPoolMove w0 w1 w2 w3 s
  | .poolEvict w0 w1 w2 w3 => Sys2Proof.Machine.execPoolEvict w0 w1 w2 w3 s
  | .poolRead w0 w1 w2 w3 => Sys2Proof.Machine.execPoolRead w0 w1 w2 w3 s
  | .poolOldest w0 w1 w2 w3 => Sys2Proof.Machine.execPoolOldest w0 w1 w2 w3 s
  | .poolMoveSwitch data => Sys2Proof.Machine.execPoolMoveSwitch data s
  | .poolMoveFail => Sys2Proof.Machine.execPoolMoveFail s
  | .poolAutoEvict d => Sys2Proof.Machine.execPoolAutoEvict d s
  | .poolRangeWrite which d v => Sys2Proof.Machine.execPoolRangeWrite which d v s
  | .hotBankWindow d => Sys2Proof.Machine.execHotBankWindow d s
  | .hashSeedWrite v => Sys2Proof.Machine.execHashSeedWrite v s
  | .hashSeedFillDone => Sys2Proof.Machine.execHashSeedFillDone s
  | .placeOverrideWrite v => Sys2Proof.Machine.execPlaceOverrideWrite v s
  | .placePinSample pins => Sys2Proof.Machine.execPlacePinSample pins s
  | .routerForward gx gy out parity => Sys2Proof.Machine.execRouterForward gx gy out parity s
  | .headUrgent gx gy input cls part => Sys2Proof.Machine.execHeadUrgent gx gy input cls part s
  | .fabricCreditReturn gx gy input cls part => Sys2Proof.Machine.execFabricCreditReturn gx gy input cls part s
  | .d2dFlitReceive d port lane ok => Sys2Proof.Machine.execD2dFlitReceive d port lane ok s
  | .fabricWeightsWrite v => Sys2Proof.Machine.execFabricWeightsWrite v s
  | .markerRecognised port l pos bytes => Sys2Proof.Machine.execMarkerRecognised port l pos bytes s
  | .codewordReceive port lanes errs => Sys2Proof.Machine.execCodewordReceive port lanes errs s
  | .signalDetectHeld port lanes => Sys2Proof.Machine.execSignalDetectHeld port lanes s
  | .receiverStepTimeout port locked => Sys2Proof.Machine.execReceiverStepTimeout port locked s
  | .alignmentTimeout port => Sys2Proof.Machine.execAlignmentTimeout port s
  | .handshakeTimeout port => Sys2Proof.Machine.execHandshakeTimeout port s
  | .portFailedTimeout port => Sys2Proof.Machine.execPortFailedTimeout port s
  | .failedPortRestart port => Sys2Proof.Machine.execFailedPortRestart port s
  | .linkInitSend port => Sys2Proof.Machine.execLinkInitSend port s
  | .linkInitReceive port => Sys2Proof.Machine.execLinkInitReceive port s
  | .laneBad port l lost => Sys2Proof.Machine.execLaneBad port l lost s
  | .degradeSend port => Sys2Proof.Machine.execDegradeSend port s
  | .degradeReceive port => Sys2Proof.Machine.execDegradeReceive port s
  | .flitTransmit port => Sys2Proof.Machine.execFlitTransmit port s
  | .dataFlitReceive port => Sys2Proof.Machine.execDataFlitReceive port s
  | .nakReceive port => Sys2Proof.Machine.execNakReceive port s
  | .nakRetryTimeout port => Sys2Proof.Machine.execNakRetryTimeout port s
  | .felunRead port => Sys2Proof.Machine.execFelunRead port s
  | .felunRdata port => Sys2Proof.Machine.execFelunRdata port s
  | .felunWrite port => Sys2Proof.Machine.execFelunWrite port s
  | .felunPush port => Sys2Proof.Machine.execFelunPush port s
  | .felunFipple port => Sys2Proof.Machine.execFelunFipple port s
  | .felunVset port => Sys2Proof.Machine.execFelunVset port s
  | .felunTadd port => Sys2Proof.Machine.execFelunTadd port s
  | .felunCredit port => Sys2Proof.Machine.execFelunCredit port s
  | .felunAck port => Sys2Proof.Machine.execFelunAck port s
  | .felunMgmt port => Sys2Proof.Machine.execFelunMgmt port s
  | .felunCensus port => Sys2Proof.Machine.execFelunCensus port s
  | .packetForward port vc => Sys2Proof.Machine.execPacketForward port vc s
  | .tagTimeout port tag => Sys2Proof.Machine.execTagTimeout port tag s
  | .portImbalanceWindow => Sys2Proof.Machine.execPortImbalanceWindow s
  | .tsyncSend port => Sys2Proof.Machine.execTsyncSend port s
  | .tsyncReceive port => Sys2Proof.Machine.execTsyncReceive port s
  | .timeLoopUpdate => Sys2Proof.Machine.execTimeLoopUpdate s
  | .portRoleWrite port role => Sys2Proof.Machine.execPortRoleWrite port role s
  | .portRetrain port => Sys2Proof.Machine.execPortRetrain port s
  | .portDisable port => Sys2Proof.Machine.execPortDisable port s
  | .portEnable port => Sys2Proof.Machine.execPortEnable port s
  | .fpRetrain port => Sys2Proof.Machine.execFpRetrain port s
  | .fpTxoff port off => Sys2Proof.Machine.execFpTxoff port off s
  | .felunWeightsWrite v => Sys2Proof.Machine.execFelunWeightsWrite v s
  | .zmapNzWrite nz => Sys2Proof.Machine.execZmapNzWrite nz s
  | .pgreqIssue port => Sys2Proof.Machine.execPgreqIssue port s
  | .pgtileReceive port => Sys2Proof.Machine.execPgtileReceive port s
  | .mouthpieceCopyWrite port id => Sys2Proof.Machine.execMouthpieceCopyWrite port id s
  | .pgerrReceive port => Sys2Proof.Machine.execPgerrReceive port s
  | .ctabReceive port => Sys2Proof.Machine.execCtabReceive port s
  | .pgrantSend port => Sys2Proof.Machine.execPgrantSend port s
  | .mouthpieceCredit id => Sys2Proof.Machine.execMouthpieceCredit id s
  | .pageRetryTimeout port pseq => Sys2Proof.Machine.execPageRetryTimeout port pseq s
  | .tileLastingTimeout port pseq => Sys2Proof.Machine.execTileLastingTimeout port pseq s
  | .egressPoll port => Sys2Proof.Machine.execEgressPoll port s
  | .gackReceive port => Sys2Proof.Machine.execGackReceive port s
  | .gradientRetryTimeout port idx => Sys2Proof.Machine.execGradientRetryTimeout port idx s
  | .planStart => Sys2Proof.Machine.execPlanStart s
  | .planStop => Sys2Proof.Machine.execPlanStop s
  | .swapCmd p => Sys2Proof.Machine.execSwapCmd p s
  | .epochCmd e => Sys2Proof.Machine.execEpochCmd e s
  | .epochAdvanceComplete => Sys2Proof.Machine.execEpochAdvanceComplete s
  | .chunkQueuePoll port => Sys2Proof.Machine.execChunkQueuePoll port s
  | .chunkLand port => Sys2Proof.Machine.execChunkLand port s
  | .chunkAckReceive port => Sys2Proof.Machine.execChunkAckReceive port s
  | .chunkAckTimeout port idx => Sys2Proof.Machine.execChunkAckTimeout port idx s
  | .bar0Access link off size wr => Sys2Proof.Machine.execBar0Access link off size wr s
  | .bar2Read link x n => Sys2Proof.Machine.execBar2Read link x n s
  | .bar2Write link x data ep => Sys2Proof.Machine.execBar2Write link x data ep s
  | .pcieLinkLoss link => Sys2Proof.Machine.execPcieLinkLoss link s
  | .pcieLinkUp link rate width fmask => Sys2Proof.Machine.execPcieLinkUp link rate width fmask s
  | .pcieLinkTrainFail link => Sys2Proof.Machine.execPcieLinkTrainFail link s
  | .pcieFunctionReset link => Sys2Proof.Machine.execPcieFunctionReset link s
  | .apertureCompletion n outcome data bad => Sys2Proof.Machine.execApertureCompletion n outcome data bad s
  | .apertureWriteAck ref => Sys2Proof.Machine.execApertureWriteAck ref s
  | .apertureTimeout n => Sys2Proof.Machine.execApertureTimeout n s
  | .lqDoorbell link q v => Sys2Proof.Machine.execLqDoorbell link q v s
  | .lqCheadWrite q v => Sys2Proof.Machine.execLqCheadWrite q v s
  | .lqCiStore k q v => Sys2Proof.Machine.execLqCiStore k q v s
  | .lqCpiStore k q v => Sys2Proof.Machine.execLqCpiStore k q v s
  | .completionCopy q => Sys2Proof.Machine.execCompletionCopy q s
  | .lqCfgWrite q w0 w1 w2 w3 => Sys2Proof.Machine.execLqCfgWrite q w0 w1 w2 w3 s
  | .dmaDoorbell c v => Sys2Proof.Machine.execDmaDoorbell c v s
  | .dmaDescriptorExecute c words => Sys2Proof.Machine.execDmaDescriptorExecute c words s
  | .dmaDescriptorComplete c data scales bad refused => Sys2Proof.Machine.execDmaDescriptorComplete c data scales bad refused s
  | .dmaEnable c => Sys2Proof.Machine.execDmaEnable c s
  | .dmaDisable c => Sys2Proof.Machine.execDmaDisable c s
  | .msixSend link vec => Sys2Proof.Machine.execMsixSend link vec s
  | .mbSubmit m len => Sys2Proof.Machine.execMbSubmit m len s
  | .mbRelease m => Sys2Proof.Machine.execMbRelease m s
  | .chbRead => Sys2Proof.Machine.execChbRead s
  | .chbWrite => Sys2Proof.Machine.execChbWrite s
  | .describe => Sys2Proof.Machine.execDescribe s
  | .segInit => Sys2Proof.Machine.execSegInit s
  | .segBlock => Sys2Proof.Machine.execSegBlock s
  | .segAck => Sys2Proof.Machine.execSegAck s
  | .segAbort => Sys2Proof.Machine.execSegAbort s
  | .segTimeout => Sys2Proof.Machine.execSegTimeout s
  | .subscribe => Sys2Proof.Machine.execSubscribe s
  | .eventAck => Sys2Proof.Machine.execEventAck s
  | .eventRetry => Sys2Proof.Machine.execEventRetry s
  | .heartbeat => Sys2Proof.Machine.execHeartbeat s
  | .openSession => Sys2Proof.Machine.execOpenSession s
  | .proof => Sys2Proof.Machine.execProof s
  | .close => Sys2Proof.Machine.execClose s
  | .proofTimeout => Sys2Proof.Machine.execProofTimeout s
  | .sessionIdleTimeout => Sys2Proof.Machine.execSessionIdleTimeout s
  | .sessionLockoutEnd => Sys2Proof.Machine.execSessionLockoutEnd s
  | .commandDoneTimer => Sys2Proof.Machine.execCommandDoneTimer s
  | .rwpPersist => Sys2Proof.Machine.execRwpPersist s
  | .mkeyWrite => Sys2Proof.Machine.execMkeyWrite s
  | .jobStart => Sys2Proof.Machine.execJobStart s
  | .jobStop => Sys2Proof.Machine.execJobStop s
  | .jobStoppingDone => Sys2Proof.Machine.execJobStoppingDone s
  | .jobClear => Sys2Proof.Machine.execJobClear s
  | .resetWarmStart => Sys2Proof.Machine.execResetWarmStart s
  | .resetColdStart => Sys2Proof.Machine.execResetColdStart s
  | .feedQualifyBegin f mv => Sys2Proof.Machine.execFeedQualifyBegin f mv s
  | .feedQualifyTimer f => Sys2Proof.Machine.execFeedQualifyTimer f s
  | .feedQualifyFail f mv reversed => Sys2Proof.Machine.execFeedQualifyFail f mv reversed s
  | .feedVoltageLow f mv => Sys2Proof.Machine.execFeedVoltageLow f mv s
  | .feedReversed f => Sys2Proof.Machine.execFeedReversed f s
  | .feedOverVoltage f mv => Sys2Proof.Machine.execFeedOverVoltage f mv s
  | .feedOverVoltageClear f mv => Sys2Proof.Machine.execFeedOverVoltageClear f mv s
  | .feedTrip f => Sys2Proof.Machine.execFeedTrip f s
  | .feedTripRetry f => Sys2Proof.Machine.execFeedTripRetry f s
  | .powerCapEnforce mw top => Sys2Proof.Machine.execPowerCapEnforce mw top s
  | .breathHoldExit bus => Sys2Proof.Machine.execBreathHoldExit bus s
  | .regionUngate r => Sys2Proof.Machine.execRegionUngate r s
  | .bhMaxExpiry => Sys2Proof.Machine.execBhMaxExpiry s
  | .powerLossShutdown bus => Sys2Proof.Machine.execPowerLossShutdown bus s
  | .regulatorUpdate r sensor v ma => Sys2Proof.Machine.execRegulatorUpdate r sensor v ma s
  | .marginStepDown r => Sys2Proof.Machine.execMarginStepDown r s
  | .droopStretch r sensor v => Sys2Proof.Machine.execDroopStretch r sensor v s
  | .stretchEnd d cluster => Sys2Proof.Machine.execStretchEnd d cluster s
  | .vminFlashCopy d => Sys2Proof.Machine.execVminFlashCopy d s
  | .railWarning rail n ma => Sys2Proof.Machine.execRailWarning rail n ma s
  | .railTrip rail n ma => Sys2Proof.Machine.execRailTrip rail n ma s
  | .railTripResume r => Sys2Proof.Machine.execRailTripResume r s
  | .pllLockLoss d => Sys2Proof.Machine.execPllLockLoss d s
  | .dcoLockLoss d c => Sys2Proof.Machine.execDcoLockLoss d c s
  | .gtcReferenceEdge => Sys2Proof.Machine.execGtcReferenceEdge s
  | .gtcStepWrite v => Sys2Proof.Machine.execGtcStepWrite v s
  | .calendarTick => Sys2Proof.Machine.execCalendarTick s
  | .calWrite v => Sys2Proof.Machine.execCalWrite v s
  | .ptpMessageReceive domain offset tai utc drift => Sys2Proof.Machine.execPtpMessageReceive domain offset tai utc drift s
  | .regionIdleEntry r => Sys2Proof.Machine.execRegionIdleEntry r s
  | .regionWake r => Sys2Proof.Machine.execRegionWake r s
  | .regionDozeEntry r => Sys2Proof.Machine.execRegionDozeEntry r s
  | .regionRetainEntry r => Sys2Proof.Machine.execRegionRetainEntry r s
  | .regionOff r => Sys2Proof.Machine.execRegionOff r s
  | .regionOn r => Sys2Proof.Machine.execRegionOn r s
  | .lendingGrantUpdate d => Sys2Proof.Machine.execLendingGrantUpdate d s
  | .throttleUpdate d readings => Sys2Proof.Machine.execThrottleUpdate d readings s
  | .thermalCriticalGate d c readings => Sys2Proof.Machine.execThermalCriticalGate d c readings s
  | .thermalUngate d c readings => Sys2Proof.Machine.execThermalUngate d c readings s
  | .thermalShutdown d c readings => Sys2Proof.Machine.execThermalShutdown d c readings s
  | .coolantSample v => Sys2Proof.Machine.execCoolantSample v s
  | .coolingRestored => Sys2Proof.Machine.execCoolingRestored s
  | .coolantSensorFault k => Sys2Proof.Machine.execCoolantSensorFault k s
  | .coldStart x => Sys2Proof.Machine.execColdStart x s
  | .warmStart x => Sys2Proof.Machine.execWarmStart x s
  | .mmcWatchdogExpiry => Sys2Proof.Machine.execMmcWatchdogExpiry s
  | .stagedReread => Sys2Proof.Machine.execStagedReread s
  | .periodEnd => Sys2Proof.Machine.execPeriodEnd s
  | .errorsFlush => Sys2Proof.Machine.execErrorsFlush s
  | .healthFlush v => Sys2Proof.Machine.execHealthFlush v s
  | .summarySnapshot d => Sys2Proof.Machine.execSummarySnapshot d s
  | .ringRecordWrite ok1 ok2 erases => Sys2Proof.Machine.execRingRecordWrite ok1 ok2 erases s
  | .faultRecordWrite => Sys2Proof.Machine.execFaultRecordWrite s
  | .jobStoppingEvent code a8 a16 data => Sys2Proof.Machine.execJobStoppingEvent code a8 a16 data s
  | .moduleRemovingEvent code a8 a16 data => Sys2Proof.Machine.execModuleRemovingEvent code a8 a16 data s
  | .fenceDieWrite v => Sys2Proof.Machine.execFenceDieWrite v s
  | .bundleUpload => Sys2Proof.Machine.execBundleUpload s
  | .bundleChainReceive => Sys2Proof.Machine.execBundleChainReceive s
  | .chainOrigin => Sys2Proof.Machine.execChainOrigin s
  | .chainStop => Sys2Proof.Machine.execChainStop s
  | .chainForward axis => Sys2Proof.Machine.execChainForward axis s
  | .chainRetry axis => Sys2Proof.Machine.execChainRetry axis s
  | .activateCommit => Sys2Proof.Machine.execActivateCommit s
  | .activateCommitWarm => Sys2Proof.Machine.execActivateCommitWarm s
  | .activationVerifyDone => Sys2Proof.Machine.execActivationVerifyDone s
  | .canFrameReceive bus kind id data => Sys2Proof.Machine.execCanFrameReceive bus kind id data s
  | .canBusOff bus => Sys2Proof.Machine.execCanBusOff bus s
  | .canLineMeasure bus m => Sys2Proof.Machine.execCanLineMeasure bus m s
  | .udpDatagramReceive addr sport dport data => Sys2Proof.Machine.execUdpDatagramReceive addr sport dport data s
  | .ethLinkChange up => Sys2Proof.Machine.execEthLinkChange up s
  | .uartFrameReceive samples early taken => Sys2Proof.Machine.execUartFrameReceive samples early taken s
  | .uartFrameSend b => Sys2Proof.Machine.execUartFrameSend b s
  | .uartBaudWrite v => Sys2Proof.Machine.execUartBaudWrite v s
  | .markerMissed port l => Sys2Proof.Machine.execMarkerMissed port l s
  | .receiverConverged port => Sys2Proof.Machine.execReceiverConverged port s
  | .endpointRequestArrive id piece => Sys2Proof.Machine.execEndpointRequestArrive id piece s
  | .canBusOffRecovery bus => Sys2Proof.Machine.execCanBusOffRecovery bus s
  | .tapTckEdge rising tms tdi trst => Sys2Proof.Machine.execTapTckEdge rising tms tdi trst s
  | .slaacAddressAcquire pfx drop => Sys2Proof.Machine.execSlaacAddressAcquire pfx drop s

end Sys2Proof.Machine
end

