-- ==== Sys2Proof/Safety.lean ====
section
/-! DEFINITION. The terms in which claims about the block are stated: the canonical form of its stores, when an
instruction of a context takes effect, and what an instruction leaves as it was. -/

namespace Sys2Proof.Machine

/-- Every sparse store of the state is in canonical form: its keys rise strictly and it lists no default, so equal
contents are equal data. -/
structure State.Sound (s : State) : Prop where
  mem : Memory.wf s.mem = true
  poison : awf 0 s.poison = true
  cells : awf CellErr.zero s.cells = true
  objs : akeysFrom s.objs none = true
  cores : awf Core.zero s.cores = true
  hostValves : awf HostValve.closed s.hostValves = true
  pages : awf Page.free s.pages = true
  ports : awf Port.zero s.ports = true
  mouths : awf Mouth.zero s.mouths = true
  banks : awf Bank.zero s.banks = true
  bells : awf Bell.zero s.bells = true

/-- The state in which an instruction of `c` finds itself: its word has been fetched (R64). -/
def State.fetched (s : State) (c : CtxId) : State := (s.fetch c.key c.ctx.val).1

/-- The context that `c` names. -/
def State.cx (s : State) (c : CtxId) : Ctx := s.ctx c.key c.ctx.val

/-- The place of the next instruction word (R164). -/
def State.nextPc (s : State) (c : CtxId) : Pc := (s.cx c).pc + 1

/-- Context `c` issues the word `w` and the word takes effect unless it is illegal or waits on a register: the context is
Running with its Step unspent, nothing gates its core, no error stands in the core's register files, no breakpoint stands at its pc, the word reads clean, its predicate
is not still to be written, and bit 0 of its mask M is 1 (a vector instruction executes whatever M is, R165). -/
structure Ready (vector : Bool) (s : State) (c : CtxId) (w : Low56) : Prop where
  running : (s.core c.key).canIssue c.ctx.val = true
  ungated : s.gatedCore c.key = false
  sane : s.upsets.contains (.regFile c.key) = false
  noBreak : ((s.core c.key).brkEn && (s.cx c).pc == (s.core c.key).brkPc && (s.cx c).stepping == .off) = false
  clean : (s.fetch c.key c.ctx.val).2 = none
  predicate : ((s.fetched c).inFlight c.key c.ctx.val).contains (.p (bitsOf w.toNat 55 53)) = false
  enabled : vector = true ∨ ((s.cx c).mask w).getLsbD 0 = true

/-- Context `c` issues the word at its pc: it is Running with its Step unspent, nothing gates its core, no error stands in the
core's register files, no breakpoint stands at its pc, and the word reads clean. -/
structure Issuing (s : State) (c : CtxId) : Prop where
  running : (s.core c.key).canIssue c.ctx.val = true
  ungated : s.gatedCore c.key = false
  sane : s.upsets.contains (.regFile c.key) = false
  noBreak : ((s.core c.key).brkEn && (s.cx c).pc == (s.core c.key).brkPc && (s.cx c).stepping == .off) = false
  clean : (s.fetch c.key c.ctx.val).2 = none

/-- Every tile that a vector word names is open to the context, its row-pair offset clean (R56, R177, R183), and no word of the
core's accumulators fails its parity check. -/
structure TilesOpen (s : State) (c : CtxId) (w : Low56) : Prop where
  own : tileTrap c w (s.fetched c) = none
  sane : ∀ n i, .acc c.key n i ∉ s.upsets

/-- No register of the list has a write in flight, no tile of it is busy (R60, R62). -/
def Free (s : State) (c : CtxId) (rs : List RegRef) : Prop := (s.fetched c).hazardOn c.key c.ctx.val rs = false

/-- What an instruction leaves that acts on its own context alone: the context is `cx`, but for the end of a Step; the rest
of the core is as before, but for the instruction buffer, the issue counts and CMD_BUSY; every other core is as before; and
outside the cores poison, requests, pushes, credits, valves, pages and every unit are as before: the fetch of the word may
count an error or a bank conflict, report it, and scrub an error out of a cell (R64, 08 R226). Memory is as the fetch left it,
and where no error stands in the cells every byte of it is as before. -/
structure Leaves (s t : State) (c : CtxId) (cx : Ctx) : Prop where
  ctx : t.cx c = { cx with st := (t.cx c).st, stepping := (t.cx c).stepping }
  runs : (s.cx c).stepping = .off → (t.cx c).st = cx.st ∧ (t.cx c).stepping = .off
  core : t.core c.key = ({ s.core c.key with
    ibuf := (t.core c.key).ibuf, perf0 := (t.core c.key).perf0, perf1 := (t.core c.key).perf1,
    cmdBusy := (t.core c.key).cmdBusy }).setCtx c.ctx.val (t.cx c)
  cores : ∀ j, j ≠ c.key → t.core j = s.core j
  rest : t = { s with cores := t.cores, mem := t.mem, objs := t.objs, chb := t.chb, hst := t.hst, hlth := t.hlth,
                      cells := t.cells, fab := t.fab }
  mem : t.mem = (s.fetched c).mem
  still : s.cells = [] → t.mem = s.mem

/-- What an instruction leaves that also changes its core, to `d`: the context is `cx` but for the end of a Step, the core is
`d` but for the same bookkeeping, and everything else is as `Leaves` says. -/
structure LeavesCore (s t : State) (c : CtxId) (d : Core) (cx : Ctx) : Prop where
  ctx : t.cx c = { cx with st := (t.cx c).st, stepping := (t.cx c).stepping }
  runs : (s.cx c).stepping = .off → (t.cx c).st = cx.st ∧ (t.cx c).stepping = .off
  core : t.core c.key = ({ d with
    ibuf := (t.core c.key).ibuf, perf0 := (t.core c.key).perf0, perf1 := (t.core c.key).perf1,
    cmdBusy := (t.core c.key).cmdBusy }).setCtx c.ctx.val (t.cx c)
  cores : ∀ j, j ≠ c.key → t.core j = s.core j
  rest : t = { s with cores := t.cores, mem := t.mem, objs := t.objs, chb := t.chb, hst := t.hst, hlth := t.hlth,
                      cells := t.cells, fab := t.fab }
  mem : t.mem = (s.fetched c).mem
  still : s.cells = [] → t.mem = s.mem

/-- The ten integer conditions of Table 6-13. -/
def condHolds (cond : Nat) (a b : Word) : Bool :=
  match cond with
  | 0 => a == b
  | 1 => a != b
  | 2 => a.slt b
  | 3 => b.sle a
  | 4 => a.ult b
  | 5 => b.ule a
  | 6 => a.sle b
  | 7 => b.slt a
  | 8 => a.ule b
  | 9 => b.ult a
  | _ => false

/-- Instruction `i` of context `c` completes and leaves the context as `cx`, with the frame of `Leaves`. -/
def Runs (i : Instr) (s : State) (c : CtxId) (cx : Ctx) : Prop := ∃ t, exec i s = .next t ∧ Leaves s t c cx

/-- It writes scalar register `rd` (a write to g0 is discarded) and goes on at the next word. -/
def Writes (i : Instr) (s : State) (c : CtxId) (rd : Nat) (r : GReg) : Prop :=
  Runs i s c { (s.cx c).setG rd r with pc := s.nextPc c }

/-- It writes predicate `pd` (a write to p0 is discarded) and goes on at the next word. -/
def WritesP (i : Instr) (s : State) (c : CtxId) (pd : Nat) (v : Word) : Prop :=
  Runs i s c { (s.cx c).setP pd v with pc := s.nextPc c }

/-- It puts result `p` in flight and goes on at the next word. -/
def Pends (i : Instr) (s : State) (c : CtxId) (p : VecPend) : Prop :=
  Runs i s c { s.cx c with vecPend := (s.cx c).vecPend ++ [p], pc := s.nextPc c }

/-- An elementwise vector instruction with all sources clean: its result stands in flight for vd under M, clean, with lane
`i` as `f i` says (R148, R149, R167). -/
def Lanes (i : Instr) (s : State) (c : CtxId) (w : Low56) (f : Nat → Nat) : Prop :=
  ∃ (r : VReg) (fl : Flags), Pends i s c ⟨[vdest s c w ((s.cx c).mask w) r], fl⟩ ∧ r.poison = 0 ∧
    ∀ n < 64, lane r.val n = f n

/-- The registers that an elementwise vector instruction names are free. -/
def FreeElem (s : State) (c : CtxId) (w : Low56) (useB useC : Bool) : Prop :=
  Free s c ([vref (fTD w) (fVd w), vref (fTA w) (fVa w), .g (fGs w), .g (fGt w)] ++
    (if useB then [vref (fTB w) (fVb w)] else []) ++ (if useC then [.v (fVc w)] else [.p (fVc w % 8)]))

/-- It completes, its core becomes `d` and its context `cx`. -/
def RunsCore (i : Instr) (s : State) (c : CtxId) (d : Core) (cx : Ctx) : Prop :=
  ∃ t, exec i s = .next t ∧ LeavesCore s t c d cx

/-- A command completes, and what it leaves is as `p` says. -/
def Does (i : Instr) (s : State) (p : State → Prop) : Prop := ∃ t, exec i s = .next t ∧ p t

/-- A command has no effect. -/
def Idles (i : Instr) (s : State) : Prop := exec i s = .next s

/-- `t` is `s` but for counters and other objects, events and messages, and health data. -/
def Told (s t : State) : Prop := t = { s with objs := t.objs, chb := t.chb, hst := t.hst, hlth := t.hlth }

/-- It completes, and the state is what its effect made of the fetched state, `u`, with the issue counted and the pc moved
to `pc` (R79, R164, R192). -/
def Issues (i : Instr) (s : State) (c : CtxId) (u : State) (pc : Pc) : Prop :=
  exec i s = .next ((u.countIssue c.key c.ctx.val).finish c.key c.ctx.val pc)

/-- Instruction `i` of context `c` takes an exception of cause `cause`, unit `unit`, with address `addr` and locator `loc`
(R73), from the fetched state. -/
def Traps (i : Instr) (s : State) (c : CtxId) (cause unit : Nat) (addr loc : Word) : Prop :=
  exec i s = .next (((s.fetched c).noteStep c.key c.ctx.val).takeException c.key c.ctx.val
    ⟨cause, unit, 0, (s.cx c).pc, addr, loc⟩)

end Sys2Proof.Machine
end

