-- ==== Sys2Proof/Certificates/Slice0/Obligations.lean ====
section
/-! DEFINITION. The statements for the provers. Each docstring names the rules of spec/ that it states. -/

open Sys2Proof Sys2Proof.Machine

/-! ### The block -/

/-- A step takes the command at the front of the queue and runs it on the state with the queue's rest.
On an empty queue the block idles (the model's choice, log 1). -/
def Obligations.StepRunsFrontCommand : Prop :=
  (∀ (s : State) (c : Instr) (rest : List Instr),
     step { s with pending := c :: rest } = exec c { s with pending := rest }) ∧
  (∀ s : State, s.pending = [] → step s = .next s)

/-- The state after reset is in canonical form and its queue is empty. -/
def Obligations.ResetIsSound : Prop :=
 State.reset.Sound ∧ State.reset.pending = []

/-- Every command completes, whatever the state: the block never faults and never refuses; and no command touches the queue. -/
def Obligations.EveryCommandCompletes : Prop :=
  ∀ (i : Instr) (s : State), ∃ t, exec i s = .next t ∧ t.pending = s.pending

/-- Every step keeps the canonical form of every store. -/
def Obligations.StepKeepsSound : Prop :=
  ∀ s t : State, s.Sound → step s = .next t → t.Sound

/-- What reset leaves where the spec gives the value: contexts Halted, registers zero and clean, valves closed, slots Closed,
CCB_CTL with IBUF_EN and PERF_EN, the division of the core, memory zero, and the RWL objects at their defaults. -/
def Obligations.ResetLeavesTheSpecsValues : Prop :=
  (∀ k x, (State.reset.ctx k x).st = .halted ∧ (State.reset.ctx k x).pc = 0 ∧ (State.reset.ctx k x).hen = false ∧
    (State.reset.ctx k x).inh = false ∧ (State.reset.ctx k x).flags = 0 ∧
    (∀ r, (State.reset.ctx k x).greg r = ⟨0, false⟩) ∧ (∀ r, r ≠ 0 → (State.reset.ctx k x).preg r = 0) ∧
    (State.reset.ctx k x).preg 0 = BitVec.allOnes 64 ∧ (∀ r, (State.reset.ctx k x).vreg r = ⟨0, 0⟩)) ∧
  (∀ k, (State.reset.core k).ibufEn = true ∧ (State.reset.core k).perfEn = true ∧ (State.reset.core k).brkEn = false ∧
    (State.reset.core k).haltBoth = false ∧ (State.reset.core k).treq0 = 16 ∧ (State.reset.core k).treq1 = 16 ∧
    (State.reset.core k).slot0 = 8 ∧ (State.reset.core k).acc0 = 4 ∧
    (∀ n, ((State.reset.core k).valve n).isOpen = false) ∧ (∀ n, ((State.reset.core k).tally n).value = 0) ∧
    (∀ n, ((State.reset.core k).slot n).st = .closed) ∧ (∀ n, (State.reset.core k).tile n = ⟨0, 0, 0⟩)) ∧
  (∀ a, memByte State.reset.mem a = 0) ∧ (∀ h, (State.reset.page h).st = .free) ∧
  State.reset.obj .streamWdt = 2000 ∧ State.reset.obj .valveWdt = 2000 ∧ State.reset.obj .timeoutModule = 1000 ∧
  State.reset.obj .timeoutRemote = 10000 ∧ State.reset.obj .timeoutHost = 50000 ∧ State.reset.obj .powerCap = 30000 ∧
  State.reset.obj .ageCycles = 256 ∧ State.reset.obj .uartBaud = 115200

/-! ### Scalar instructions -/

/-- Scalar instructions with three registers: the result of Table 6-7 goes to rd, poisoned when a source is (R179).
Division: quotient and remainder of the exact division rounded toward zero; a divisor of 0 gives all ones and the
dividend, and -2^63 / -1 wraps (R179, Table 6-7).
Scalar instructions with an immediate (R170), LIW and LIP.
CLZ, POPC and SEL (Table 6-7): SEL passes on the selected source alone, with its poison. -/
def Obligations.ScalarInstructions : Prop :=
  (∀ (s : State) (c : CtxId) (w : Low56), Ready false s c w → namedOnly [(51, 37)] w = true →
     Free s c [.g (fRd w), .g (fRa w), .g (fRb w)] →
     let a := ((s.cx c).greg (fRa w)).val
     let b := ((s.cx c).greg (fRb w)).val
     let w' (i : Instr) (v : Word) : Prop :=
       Writes i s c (fRd w) ⟨v, ((s.cx c).greg (fRa w)).poison || ((s.cx c).greg (fRb w)).poison⟩
     w' (.add c w) (a + b) ∧ w' (.sub c w) (a - b) ∧ w' (.mul c w) (a * b) ∧
     w' (.mulhu c w) (BitVec.ofNat 64 (a.toNat * b.toNat / 2 ^ 64)) ∧
     w' (.and c w) (a &&& b) ∧ w' (.or c w) (a ||| b) ∧ w' (.xor c w) (a ^^^ b) ∧
     w' (.shl c w) (a <<< (b.toNat % 64)) ∧ w' (.shr c w) (a >>> (b.toNat % 64)) ∧
     w' (.sra c w) (a.sshiftRight (b.toNat % 64)) ∧
     w' (.min c w) (if a.slt b then a else b) ∧ w' (.max c w) (if a.slt b then b else a) ∧
     w' (.minu c w) (if a < b then a else b) ∧ w' (.maxu c w) (if a < b then b else a)) ∧
  (∀ (s : State) (c : CtxId) (w : Low56), Ready false s c w → namedOnly [(51, 37)] w = true →
     Free s c [.g (fRd w), .g (fRa w), .g (fRb w)] →
     let a := ((s.cx c).greg (fRa w)).val
     let b := ((s.cx c).greg (fRb w)).val
     let w' (i : Instr) (v : Word) : Prop :=
       Writes i s c (fRd w) ⟨v, ((s.cx c).greg (fRa w)).poison || ((s.cx c).greg (fRb w)).poison⟩
     (b = 0 → w' (.divu c w) (BitVec.allOnes 64) ∧ w' (.divs c w) (BitVec.allOnes 64) ∧ w' (.remu c w) a ∧
       w' (.rems c w) a) ∧
     (b ≠ 0 → w' (.divu c w) (BitVec.ofNat 64 (a.toNat / b.toNat)) ∧ w' (.remu c w) (BitVec.ofNat 64 (a.toNat % b.toNat)) ∧
       w' (.divs c w) (BitVec.ofInt 64 (a.toInt.tdiv b.toInt)) ∧ w' (.rems c w) (BitVec.ofInt 64 (a.toInt.tmod b.toInt))) ∧
     (a = BitVec.intMin 64 → b = BitVec.allOnes 64 → w' (.divs c w) (BitVec.intMin 64) ∧ w' (.rems c w) 0)) ∧
  (∀ (s : State) (c : CtxId) (w : Low56), Ready false s c w →
     (namedOnly [(51, 42), (31, 0)] w = true → Free s c [.g (fRd w), .g (fRa w)] →
       let a := ((s.cx c).greg (fRa w)).val
       let imm := (BitVec.ofNat 32 (fld w 31 0)).signExtend 64
       let w' (i : Instr) (v : Word) : Prop := Writes i s c (fRd w) ⟨v, ((s.cx c).greg (fRa w)).poison⟩
       w' (.addi c w) (a + imm) ∧ w' (.andi c w) (a &&& imm) ∧ w' (.ori c w) (a ||| imm) ∧ w' (.xori c w) (a ^^^ imm) ∧
       (fld w 31 0 < 64 → w' (.shli c w) (a <<< fld w 31 0) ∧ w' (.shri c w) (a >>> fld w 31 0) ∧
         w' (.srai c w) (a.sshiftRight (fld w 31 0))) ∧
       (fld w 31 24 = 0 → w' (.lip c w) (BitVec.ofNat 64 (fld w 23 0 * 2 ^ 40 + a.toNat % 2 ^ 40)))) ∧
     (Free s c [.g (fRd w)] → Writes (.liw c w) s c (fRd w) ⟨(BitVec.ofNat 47 (fld w 46 0)).signExtend 64, false⟩)) ∧
  (∀ (s : State) (c : CtxId) (w : Low56), Ready false s c w →
     (namedOnly [(51, 42)] w = true → Free s c [.g (fRd w), .g (fRa w)] →
       let a := (s.cx c).greg (fRa w)
       (∃ n ≤ 64, Writes (.clz c w) s c (fRd w) ⟨BitVec.ofNat 64 n, a.poison⟩ ∧
         (∀ i, 64 - n ≤ i → a.val.getLsbD i = false) ∧ (n < 64 → a.val.getLsbD (63 - n) = true)) ∧
       Writes (.popc c w) s c (fRd w) ⟨BitVec.ofNat 64 ((List.range 64).filter (fun i => a.val.getLsbD i)).length, a.poison⟩) ∧
     (namedOnly [(51, 37), (34, 32)] w = true → Free s c [.g (fRd w), .g (fRa w), .g (fRb w), .p (fRc w)] →
       Writes (.sel c w) s c (fRd w)
         (if ((s.cx c).preg (fRc w)).getLsbD 0 then (s.cx c).greg (fRa w) else (s.cx c).greg (fRb w))))

/-- An instruction with a word outside its format's named fields has no effect but the exception of cause 0x01 (R163):
scalar instructions with three registers, with an immediate, branches and system instructions.
A scalar instruction whose predicate bit is 0 has no effect but the pc's (R165). -/
def Obligations.IllegalAndSkippedWords : Prop :=
  (∀ (s : State) (c : CtxId) (w : Low56), Issuing s c →
     (namedOnly [(51, 37)] w = false →
       (∀ i ∈ [Instr.add c w, .sub c w, .mul c w, .mulhu c w, .divu c w, .divs c w, .remu c w, .rems c w, .and c w, .or c w,
         .xor c w, .shl c w, .shr c w, .sra c w, .min c w, .max c w, .minu c w, .maxu c w], Traps i s c 1 0 0 0)) ∧
     (namedOnly [(51, 42), (31, 0)] w = false →
       (∀ i ∈ [Instr.addi c w, .andi c w, .ori c w, .xori c w, .shli c w, .shri c w, .srai c w, .lip c w, .vld c w, .vst c w],
         Traps i s c 1 0 0 0)) ∧
     (namedOnly [] w = false → (∀ i ∈ [Instr.nop c w, .isync c w, .halt c w], Traps i s c 1 0 0 0)) ∧
     ((s.cx c).inh = false → Traps (.eret c w) s c 1 0 0 0) ∧
     (64 ≤ fld w 31 0 → (∀ i ∈ [Instr.shli c w, .shri c w, .srai c w], Traps i s c 1 0 0 0)) ∧
     (fXmask w = 0 → Traps (.fence c w) s c 1 0 0 0)) ∧
  (∀ (s : State) (c : CtxId) (w : Low56), Issuing s c →
     ((s.fetched c).inFlight c.key c.ctx.val).contains (.p (bitsOf w.toNat 55 53)) = false →
     ((s.cx c).mask w).getLsbD 0 = false →
     (namedOnly [(51, 37)] w = true → Runs (.add c w) s c { s.cx c with pc := s.nextPc c } ∧
       Runs (.divs c w) s c { s.cx c with pc := s.nextPc c }) ∧
     (namedOnly [(51, 42), (31, 0)] w = true → Runs (.addi c w) s c { s.cx c with pc := s.nextPc c }) ∧
     (namedOnly [(51, 40), (31, 0)] w = true → Runs (.st c w) s c { s.cx c with pc := s.nextPc c }) ∧
     (namedOnly [(18, 0)] w = true → Runs (.j c w) s c { s.cx c with pc := s.nextPc c }) ∧
     (namedOnly [] w = true → Runs (.halt c w) s c { s.cx c with pc := s.nextPc c }))

/-- Register 0: g0 reads as zero and clean, p0 as all ones, and a write to either changes nothing (R55, R179). -/
def Obligations.RegisterZero : Prop :=
  ∀ x : Ctx, x.greg 0 = ⟨0, false⟩ ∧ x.preg 0 = BitVec.allOnes 64 ∧ (∀ r, x.setG 0 r = x) ∧ (∀ v, x.setP 0 v = x) ∧
    (∀ n r, n ≠ 0 → (x.setG n r).greg n = r ∧ (∀ m, m ≠ n → (x.setG n r).greg m = x.greg m)) ∧
    (∀ n v, n ≠ 0 → (x.setP n v).preg n = v ∧ (∀ m, m ≠ n → (x.setP n v).preg m = x.preg m))

/-! ### Branches, predicates, system instructions -/

/-- Branches (R164, R180): J and JAL go to the absolute word target; JR and JALR to bits [21:3] of an aligned register; the
link register takes the byte offset of the next word, after ra is read.
BC, PCMP, PCMPI (R180, R181, Table 6-13): the condition is taken on whole 64-bit words, and every bit of pd takes it; a
poisoned source is a poison use.
With the predicate off none of them branches, and each goes on at the next word. -/
def Obligations.BranchesAndCompares : Prop :=
  (∀ (s : State) (c : CtxId) (w : Low56), Ready false s c w →
     let link : GReg := ⟨BitVec.ofNat 64 ((s.nextPc c).toNat * 8), false⟩
     let a := (s.cx c).greg (fRa w)
     let dest : Pc := BitVec.ofNat 19 (a.val.toNat / 8)
     (namedOnly [(18, 0)] w = true → Runs (.j c w) s c { s.cx c with pc := BitVec.ofNat 19 (fld w 18 0) }) ∧
     (namedOnly [(51, 47), (18, 0)] w = true → Free s c [.g (fRd w)] →
       Runs (.jal c w) s c { (s.cx c).setG (fRd w) link with pc := BitVec.ofNat 19 (fld w 18 0) }) ∧
     (namedOnly [(46, 42)] w = true → Free s c [.g (fRa w)] → a.poison = false → a.val.toNat % 8 = 0 →
       Runs (.jr c w) s c { s.cx c with pc := dest }) ∧
     (namedOnly [(51, 42)] w = true → Free s c [.g (fRd w), .g (fRa w)] → a.poison = false → a.val.toNat % 8 = 0 →
       Runs (.jalr c w) s c { (s.cx c).setG (fRd w) link with pc := dest }) ∧
     (namedOnly [(46, 42)] w = true → Free s c [.g (fRa w)] → a.poison = false → a.val.toNat % 8 ≠ 0 →
       Traps (.jr c w) s c 3 0 (globalHere (sramMla c.key (a.val.toNat % 2 ^ 22))) 0) ∧
     (namedOnly [(46, 42)] w = true → Free s c [.g (fRa w)] → a.poison = true →
       Traps (.jr c w) s c 5 0 0 ((s.cx c).latch.getD 0))) ∧
  (∀ (s : State) (c : CtxId) (w : Low56), Ready false s c w →
     let g (r : Nat) : GReg := (s.cx c).greg r
     let imm : Word := (BitVec.ofNat 32 (fld w 31 0)).signExtend 64
     let all (b : Bool) : Word := if b then BitVec.allOnes 64 else 0
     (namedOnly [(46, 33), (18, 0)] w = true → fCondB w ≤ 9 → Free s c [.g (fRa w), .g (fRb w)] →
       ((g (fRa w)).poison = false → (g (fRb w)).poison = false →
         Runs (.bc c w) s c { s.cx c with
           pc := if condHolds (fCondB w) (g (fRa w)).val (g (fRb w)).val then BitVec.ofNat 19 (fld w 18 0) else s.nextPc c }) ∧
       ((g (fRa w)).poison || (g (fRb w)).poison = true → Traps (.bc c w) s c 5 0 0 ((s.cx c).latch.getD 0))) ∧
     (namedOnly [(51, 35)] w = true → fPcond w ≤ 9 → Free s c [.p (fPd w), .g (fPra w), .g (fPrb w)] →
       ((g (fPra w)).poison = false → (g (fPrb w)).poison = false →
         WritesP (.pcmp c w) s c (fPd w) (all (condHolds (fPcond w) (g (fPra w)).val (g (fPrb w)).val))) ∧
       ((g (fPra w)).poison || (g (fPrb w)).poison = true → Traps (.pcmp c w) s c 5 0 0 ((s.cx c).latch.getD 0))) ∧
     (namedOnly [(51, 40), (31, 0)] w = true → fPcond w ≤ 9 → Free s c [.p (fPd w), .g (fPra w)] →
       ((g (fPra w)).poison = false →
         WritesP (.pcmpi c w) s c (fPd w) (all (condHolds (fPcond w) (g (fPra w)).val imm))) ∧
       ((g (fPra w)).poison = true → Traps (.pcmpi c w) s c 5 0 0 ((s.cx c).latch.getD 0)))) ∧
  (∀ (s : State) (c : CtxId) (w : Low56), Issuing s c →
     ((s.fetched c).inFlight c.key c.ctx.val).contains (.p (bitsOf w.toNat 55 53)) = false →
     ((s.cx c).mask w).getLsbD 0 = false →
     let on (i : Instr) : Prop := Runs i s c { s.cx c with pc := s.nextPc c }
     (namedOnly [(18, 0)] w = true → on (.j c w)) ∧ (namedOnly [(51, 47), (18, 0)] w = true → on (.jal c w)) ∧
     (namedOnly [(46, 42)] w = true → on (.jr c w)) ∧ (namedOnly [(51, 42)] w = true → on (.jalr c w)) ∧
     (namedOnly [(46, 33), (18, 0)] w = true → fCondB w ≤ 9 → on (.bc c w)))

/-- The predicate instructions (R181, Table 6-8).
NOP, RDGTC and RDID (R178): no effect; the die's GTC; place, die, logical core and context. -/
def Obligations.PredicateAndSystemResults : Prop :=
  (∀ (s : State) (c : CtxId) (w : Low56), Ready false s c w →
     let p (r : Nat) : Word := (s.cx c).preg r
     (namedOnly [(51, 49), (34, 29)] w = true → Free s c [.p (fPd w), .p (fPa w), .p (fPb w)] →
       WritesP (.pand c w) s c (fPd w) (p (fPa w) &&& p (fPb w)) ∧ WritesP (.por c w) s c (fPd w) (p (fPa w) ||| p (fPb w)) ∧
       WritesP (.pxor c w) s c (fPd w) (p (fPa w) ^^^ p (fPb w)) ∧
       WritesP (.pandn c w) s c (fPd w) (p (fPa w) &&& ~~~ p (fPb w))) ∧
     (namedOnly [(51, 44)] w = true → Free s c [.p (fPd w), .g (fPra w)] →
       (((s.cx c).greg (fPra w)).poison = false → WritesP (.pfromg c w) s c (fPd w) ((s.cx c).greg (fPra w)).val) ∧
       (((s.cx c).greg (fPra w)).poison = true → Traps (.pfromg c w) s c 5 0 0 ((s.cx c).latch.getD 0))) ∧
     (namedOnly [(39, 32)] w = true → Free s c [.g (fPrb w), .p (fPa w)] →
       Writes (.ptog c w) s c (fPrb w) ⟨p (fPa w), false⟩ ∧
       Writes (.pcnt c w) s c (fPrb w) ⟨BitVec.ofNat 64 ((List.range 64).filter (fun i => (p (fPa w)).getLsbD i)).length, false⟩ ∧
       ∃ n ≤ 64, Writes (.pfirst c w) s c (fPrb w) ⟨BitVec.ofNat 64 n, false⟩ ∧ (∀ i < n, (p (fPa w)).getLsbD i = false) ∧
         (n < 64 → (p (fPa w)).getLsbD n = true))) ∧
  (∀ (s : State) (c : CtxId) (w : Low56), Ready false s c w →
     (namedOnly [] w = true → Runs (.nop c w) s c { s.cx c with pc := s.nextPc c }) ∧
     (namedOnly [(51, 47)] w = true → Free s c [.g (fRd w)] →
       Writes (.rdgtc c w) s c (fRd w) ⟨BitVec.ofNat 64 (s.dieGtc c.die.val), false⟩ ∧
       Writes (.rdid c w) s c (fRd w) ⟨BitVec.ofNat 64 ((if (s.fetched c).obj .placeValid = 1 then (s.fetched c).obj .place else 0xFFFFFF) % 2 ^ 24 * 2 ^ 40 +
         c.die.val * 2 ^ 16 + c.core.val * 2 ^ 8 + c.ctx.val), false⟩))

/-- TRAP takes the exception of cause 0x0A; with HEN 1 and INH 0 the context goes on at its handler with INH 1 and its
record written, and nothing else of the context changes; without a handler it stops, and in a handler
it stops with the double exception 0x0D (R73, R74, R75).
ERET in a handler clears INH and the poison-origin latch and goes on at the address in ra; an address that is not
aligned takes cause 0x03 (R74, R178, 08 R253). -/
def Obligations.TrapsAndReturns : Prop :=
  (∀ (s : State) (c : CtxId) (w : Low56), Ready false s c w → namedOnly [(15, 0)] w = true →
     Traps (.trap c w) s c 0xA 0 0 0 ∧
     ((s.cx c).hen = true → (s.cx c).inh = false → ∃ t, exec (.trap c w) s = .next t ∧
       t.cx c = { s.cx c with
         excCause := 0xA, excUnit := 0, excSlot := 0, excPc := (s.cx c).pc, excAddr := 0, excLoc := 0, swait := none
         wait := none, waitBlk := { (s.cx c).waitBlk with live := false }, inh := true, pc := (s.cx c).handler
         handled := min 65535 ((s.cx c).handled + 1), st := if (s.cx c).stepping = .off then .running else .halted
         stepping := .off } ∧
       (∀ j, j ≠ c.key → t.core j = s.core j) ∧ t.mem = (s.fetched c).mem) ∧
     ((s.cx c).hen = false → (s.cx c).inh = false → ∃ t, exec (.trap c w) s = .next t ∧ (t.cx c).st = .stopped ∧ (t.cx c).excCause = 0xA ∧
       (t.cx c).excPc = (s.cx c).pc ∧ (t.cx c).pc = (s.cx c).pc ∧ (t.cx c).g = (s.cx c).g ∧
       (∀ j, j ≠ c.key → t.core j = s.core j) ∧ t.mem = (s.fetched c).mem) ∧
     ((s.cx c).inh = true → ∃ t, exec (.trap c w) s = .next t ∧ (t.cx c).st = .stopped ∧ (t.cx c).excCause = 0xD ∧
       (t.cx c).excPc = (s.cx c).pc)) ∧
  (∀ (s : State) (c : CtxId) (w : Low56), Ready false s c w → namedOnly [(46, 42)] w = true → (s.cx c).inh = true →
     Free s c [.g (fRa w)] →
     let a := (s.cx c).greg (fRa w)
     (a.poison = false → a.val.toNat % 8 = 0 →
       Runs (.eret c w) s c { s.cx c with inh := false, latch := none, pc := BitVec.ofNat 19 (a.val.toNat / 8) }) ∧
     (a.poison = false → a.val.toNat % 8 ≠ 0 → Traps (.eret c w) s c 3 0 (globalHere (sramMla c.key (a.val.toNat % 2 ^ 22))) 0) ∧
     (a.poison = true → Traps (.eret c w) s c 5 0 0 ((s.cx c).latch.getD 0)))

/-- HALT leaves the context Halted at the next word with nothing in flight; ISYNC empties the instruction buffer; a FENCE whose
conditions hold completes, returning and clearing the remote-error count with mask bit 3, and one whose conditions do not
hold waits (R71, R64, R178, R190).
A waiting FENCE completes once its conditions hold: the context leaves Waiting at the next word (R190); while they do not
hold, or with no FENCE waiting, nothing changes. -/
def Obligations.HaltSyncAndFence : Prop :=
  (∀ (s : State) (c : CtxId) (w : Low56), Ready false s c w →
     (namedOnly [] w = true → ∃ t, exec (.halt c w) s = .next t ∧ (t.cx c).st = .halted ∧ (t.cx c).pc = s.nextPc c ∧
       (t.cx c).vecPend = [] ∧ (t.cx c).wait = none ∧ (t.cx c).stepping = .off ∧
       (∀ j, j ≠ c.key → t.core j = s.core j) ∧ t.mem = (s.fetched c).mem) ∧
     (namedOnly [] w = true → ∃ t, exec (.isync c w) s = .next t ∧ Leaves s t c { s.cx c with pc := s.nextPc c } ∧
       (t.core c.key).ibuf = []) ∧
     (namedOnly [(19, 16)] w = true → fXmask w ≠ 0 → (fXmask w).testBit 3 = false → Free s c [.g (fRd w)] →
       ((s.fetched c).fenceHolds c (fXmask w) (s.fetched c).nextId = true →
         Runs (.fence c w) s c { s.cx c with pc := s.nextPc c }) ∧
       ((s.fetched c).fenceHolds c (fXmask w) (s.fetched c).nextId = false → ∃ t, exec (.fence c w) s = .next t ∧
         (t.cx c).st = .waiting ∧ (t.cx c).wait = some (.fence (fXmask w) (fRd w) s.nextId) ∧ (t.cx c).pc = (s.cx c).pc)) ∧
     (namedOnly [(51, 47), (19, 16)] w = true → (fXmask w).testBit 3 = true → Free s c [.g (fRd w)] →
       (s.fetched c).fenceHolds c (fXmask w) (s.fetched c).nextId = true →
       Runs (.fence c w) s c { (s.cx c).setG (fRd w) ⟨BitVec.ofNat 64 (s.cx c).remErr, false⟩ with
         remErr := 0, pc := s.nextPc c })) ∧
  (∀ (s : State) (c : CtxId),
     (∀ mask rd upto, (s.cx c).wait = some (.fence mask rd upto) → (s.cx c).st = .waiting →
       (s.fenceHolds c mask upto = true → (s.cx c).stepping = .off → ∃ t, exec (.fenceComplete c) s = .next t ∧
         (t.cx c).st = .running ∧ (t.cx c).pc = s.nextPc c ∧ (t.cx c).wait = none ∧
         (mask.testBit 3 = true → (t.cx c).greg rd = (if rd = 0 then ⟨0, false⟩ else ⟨BitVec.ofNat 64 (s.cx c).remErr, false⟩) ∧ (t.cx c).remErr = 0) ∧
         (∀ r, r ≠ rd → (t.cx c).greg r = (s.cx c).greg r) ∧ (∀ j, j ≠ c.key → t.core j = s.core j) ∧ t.mem = s.mem) ∧
       (s.fenceHolds c mask upto = false → exec (.fenceComplete c) s = .next s)) ∧
     ((s.cx c).wait = none → exec (.fenceComplete c) s = .next s))

/-! ### Loads and stores -/

/-- LD from the own local SRAM: the bytes of the operand, zero- or sign-extended; with no poisoned granule rd is clean; the
address is base plus offset modulo 2^40 with the base's place kept (R171, R172, Table 6-8). The bytes are those that the read
delivers; where no error stands in a cell they are the bytes of memory, and neither the fetch nor the read changes one.
LD from a poisoned granule: rd is poisoned, the pc goes on, and the poison-origin latch takes the locator if it was
empty (R58, 08 R253). -/
def Obligations.LocalLoads : Prop :=
  ∀ (s : State) (c : CtxId) (w : Low56), Ready false s c w → namedOnly [(51, 39), (31, 0)] w = true →
    (fSx w && fSz w == 3) = false → Free s c [.g (fRd w), .g (fRa w)] → ((s.cx c).greg (fRa w)).poison = false →
    let n := 2 ^ fSz w
    let a := effAddr ((s.cx c).greg (fRa w)).val (fOff w)
    let u := s.fetched c
    (s.cells = [] → u.mem = s.mem) ∧
    ∀ off, u.reach c a n false = .near off →
      let r := u.readMem (sramMla c.key off) n
      (r.2.2 = none → ∃ t, exec (.ld c w) s = .next t ∧
        t.cx c = { (s.cx c).setG (fRd w) ⟨loadValue n (fSx w) r.2.1, false⟩ with
          pc := s.nextPc c, st := (t.cx c).st, stepping := (t.cx c).stepping } ∧
        t.mem = r.1.mem ∧ (∀ j, j ≠ c.key → t.core j = s.core j) ∧ t.poison = s.poison ∧ t.reqs = s.reqs) ∧
      (r.2.2 = none → s.cells = [] →
        Writes (.ld c w) s c (fRd w) ⟨loadValue n (fSx w) (memBytes s.mem (sramMla c.key off) n), false⟩) ∧
      (∀ loc, r.2.2 = some loc → ∃ t, exec (.ld c w) s = .next t ∧ (fRd w ≠ 0 → ((t.cx c).greg (fRd w)).poison = true) ∧
        (∀ q, q ≠ fRd w → (t.cx c).greg q = (s.cx c).greg q) ∧ (t.cx c).pc = s.nextPc c ∧
        (t.cx c).latch = some ((s.cx c).latch.getD loc) ∧ (t.cx c).p = (s.cx c).p ∧ (t.cx c).v = (s.cx c).v ∧
        t.mem = r.1.mem ∧ ∀ j, j ≠ c.key → t.core j = s.core j)

/-- Stores of LD's sizes to the own local SRAM: the bytes at the computed address hold the low bytes of rd, every other byte of
memory is as the fetch left it, and no register changes (R171, R172). The granule stored to reads clean.
A poisoned value stored writes poison over its whole granule with the locator that the context's latch holds, and no
other granule changes (R58, 08 R251). -/
def Obligations.LocalStores : Prop :=
  ∀ (s : State) (c : CtxId) (w : Low56), Ready false s c w → namedOnly [(51, 40), (31, 0)] w = true →
    Free s c [.g (fRd w), .g (fRa w)] → ((s.cx c).greg (fRa w)).poison = false →
    let n := 2 ^ fSz w
    let a := effAddr ((s.cx c).greg (fRa w)).val (fOff w)
    let u := s.fetched c
    ∀ off, u.reach c a n true = .near off →
      let m := sramMla c.key off
      let kept (t : State) : Prop :=
        t.core c.key = ({ s.core c.key with
          ibuf := (t.core c.key).ibuf, perf0 := (t.core c.key).perf0, perf1 := (t.core c.key).perf1,
          cmdBusy := (t.core c.key).cmdBusy }).setCtx c.ctx.val (t.cx c) ∧
        t.cx c = { s.cx c with pc := s.nextPc c, st := (t.cx c).st, stepping := (t.cx c).stepping } ∧
        (∀ j, j ≠ c.key → t.core j = s.core j) ∧ t.reqs = s.reqs
      (((s.cx c).greg (fRd w)).poison = false → u.granule (m / 64) = none → u.cellErr m = CellErr.zero →
        ∃ t, exec (.st c w) s = .next t ∧ memBytes t.mem m n = leBytes n ((s.cx c).greg (fRd w)).val.toNat ∧
          (∀ b, b < m ∨ m + n ≤ b → memByte t.mem b = memByte u.mem b) ∧ t.poison = s.poison ∧ kept t) ∧
      (((s.cx c).greg (fRd w)).poison = true →
        ∃ t, exec (.st c w) s = .next t ∧ t.granule (m / 64) = some ((s.cx c).latch.getD 0) ∧
          (∀ g, g ≠ m / 64 → t.granule g = s.granule g) ∧
          (∀ b, b / 64 ≠ m / 64 → memByte t.mem b = memByte u.mem b) ∧ kept t)

/-- LD and ST elsewhere: a far access becomes a request with its address, size and data, and the context goes on, unless 8
loads or 32 writes are outstanding; an access that R172 refuses takes its cause, with the address (R172 to R175). -/
def Obligations.FarAccessesBecomeRequests : Prop :=
  ∀ (s : State) (c : CtxId) (w : Low56), Ready false s c w → Free s c [.g (fRd w), .g (fRa w)] →
    ((s.cx c).greg (fRa w)).poison = false →
    let n := 2 ^ fSz w
    let a := effAddr ((s.cx c).greg (fRa w)).val (fOff w)
    let u := s.fetched c
    (namedOnly [(51, 39), (31, 0)] w = true → (fSx w && fSz w == 3) = false →
      (u.reach c a n false = .far → (u.farLoads c).length < 8 → u.storeAhead c a n = false →
        Issues (.ld c w) s c (u.addReq c (.load (fRd w) (fSz w) (fSx w)) a n [] none .sent []) (s.nextPc c)) ∧
      (∀ cause, u.reach c a n false = .bad cause → cause ≠ 2 → Traps (.ld c w) s c cause 0 a 0)) ∧
    (namedOnly [(51, 40), (31, 0)] w = true →
      (u.reach c a n true = .far → (u.remoteWrites c).length < 32 →
        Issues (.st c w) s c (u.addReq c .store a n (leBytes n ((s.cx c).greg (fRd w)).val.toNat)
          (if ((s.cx c).greg (fRd w)).poison then some ((s.cx c).latch.getD 0) else none) .sent []) (s.nextPc c)) ∧
      (∀ cause, u.reach c a n true = .bad cause → cause ≠ 2 → Traps (.st c w) s c cause 0 a 0))

/-- LDP and STP move eight bytes between a predicate and the own local SRAM; VLD puts 256 bytes in flight for vd, merged under M,
and VST stores the bytes of enabled lanes and no other byte (R148, R167, R171). The bytes loaded are those that the read
delivers; where no error stands in a cell they are the bytes of memory. -/
def Obligations.PredicateAndVectorMemory : Prop :=
  ∀ (s : State) (c : CtxId) (w : Low56), ((s.cx c).greg (fRa w)).poison = false →
    let a := effAddr ((s.cx c).greg (fRa w)).val (fOff w)
    let m (off : Nat) := sramMla c.key off
    let u := s.fetched c
    (Ready false s c w → namedOnly [(49, 42), (31, 0)] w = true → Free s c [.p (fRd w % 8), .g (fRa w)] →
      ∀ off, ownAccess c a 8 = .near off →
        ((u.readMem (m off) 8).2.2 = none → ∃ t, exec (.ldp c w) s = .next t ∧
          t.cx c = { (s.cx c).setP (fRd w % 8) (BitVec.ofNat 64 (leNat (u.readMem (m off) 8).2.1)) with
            pc := s.nextPc c, st := (t.cx c).st, stepping := (t.cx c).stepping } ∧
          t.mem = (u.readMem (m off) 8).1.mem ∧ ∀ j, j ≠ c.key → t.core j = s.core j) ∧
        ((u.readMem (m off) 8).2.2 = none → s.cells = [] →
          WritesP (.ldp c w) s c (fRd w % 8) (BitVec.ofNat 64 (leNat (memBytes s.mem (m off) 8)))) ∧
        (u.granule (m off / 64) = none → u.cellErr (m off) = CellErr.zero →
          ∃ t, exec (.stp c w) s = .next t ∧ memBytes t.mem (m off) 8 = leBytes 8 ((s.cx c).preg (fRd w % 8)).toNat ∧
            (∀ b, b < m off ∨ m off + 8 ≤ b → memByte t.mem b = memByte u.mem b) ∧
            t.cx c = { s.cx c with pc := s.nextPc c, st := (t.cx c).st, stepping := (t.cx c).stepping } ∧
            ∀ j, j ≠ c.key → t.core j = s.core j)) ∧
    (Ready true s c w → namedOnly [(51, 42), (31, 0)] w = true → Free s c [.v (fRd w), .g (fRa w)] →
      ∀ off, ownAccess c a 256 = .near off →
        let r := u.touch (m off) 256
        let lands (bs : List (BitVec 8)) : VecPend :=
          ⟨[.v (fRd w) (mergeLanes ((s.cx c).mask w) ((s.cx c).vreg (fRd w)) ⟨BitVec.ofNat 2048 (leNat bs), 0⟩)], 0⟩
        ((s.cx c).mask w ≠ 0 → firstPoison r.2 = none → ∃ t, exec (.vld c w) s = .next t ∧
          t.cx c = { s.cx c with
            vecPend := (s.cx c).vecPend ++ [lands (memBytes r.1.mem (m off) 256)]
            pc := s.nextPc c, st := (t.cx c).st, stepping := (t.cx c).stepping } ∧
          t.mem = r.1.mem ∧ ∀ j, j ≠ c.key → t.core j = s.core j) ∧
        ((s.cx c).mask w ≠ 0 → firstPoison r.2 = none → s.cells = [] →
          Pends (.vld c w) s c (lands (memBytes s.mem (m off) 256))) ∧
        ((s.cx c).mask w = 0 → Runs (.vld c w) s c { s.cx c with pc := s.nextPc c }) ∧
        ((∀ q, q < 4 → u.granule (m off / 64 + q) = none) →
          (∀ i, i < 32 → u.cellErr (m off + 8 * i) = CellErr.zero) → ((s.cx c).vreg (fRd w)).poison = 0 →
          ∃ t, exec (.vst c w) s = .next t ∧
            (∀ i, i < 64 → ((s.cx c).mask w).getLsbD i = true →
              memBytes t.mem (m off + 4 * i) 4 = leBytes 4 (lane ((s.cx c).vreg (fRd w)).val i)) ∧
            (∀ b, (b < m off ∨ m off + 256 ≤ b ∨ ((s.cx c).mask w).getLsbD ((b - m off) / 4) = false) →
              memByte t.mem b = memByte u.mem b) ∧
            t.cx c = { s.cx c with pc := s.nextPc c, st := (t.cx c).st, stepping := (t.cx c).stepping } ∧
            ∀ j, j ≠ c.key → t.core j = s.core j))

/-! ### Vector instructions -/

/-- Integer vector instructions lane by lane, from registers or tile row pairs (R148, R152, R154, Table 6-9): sums wrap at 32
bits or clip with sat 1; VBADD clips to 24 bits; shifts take the low five bits of the count; VSEL follows the bits of p.
VMOV copies a register or row pair, under M (Table 6-9). -/
def Obligations.VectorIntegerLanes : Prop :=
  (∀ (s : State) (c : CtxId) (w : Low56), Ready true s c w → FreeElem s c w true false → TilesOpen s c w →
     let a := s.vsrc c w (fTA w) (fVa w)
     let b := s.vsrc c w (fTB w) (fVb w)
     let x (i : Nat) : Nat := lane a.val i
     let y (i : Nat) : Nat := lane b.val i
     let clip (lo hi r : Int) : Nat := wrap 32 (if hi < r then hi else if r < lo then lo else r)
     a.poison = 0 → b.poison = 0 →
     (vLegal [(51, 37), (21, 21)] false tilesABD false true w = true →
       (fSat w = false → Lanes (.viadd c w) s c w (fun i => (x i + y i) % 2 ^ 32) ∧
         Lanes (.visub c w) s c w (fun i => (x i + 2 ^ 32 - y i) % 2 ^ 32)) ∧
       (fSat w = true → Lanes (.viadd c w) s c w (fun i => clip (-2 ^ 31) (2 ^ 31 - 1) (signed 32 (x i) + signed 32 (y i))) ∧
         Lanes (.visub c w) s c w (fun i => clip (-2 ^ 31) (2 ^ 31 - 1) (signed 32 (x i) - signed 32 (y i))))) ∧
     (vLegal [(51, 37)] false tilesABD false true w = true →
       Lanes (.vand c w) s c w (fun i => x i &&& y i) ∧ Lanes (.vor c w) s c w (fun i => x i ||| y i) ∧
       Lanes (.vxor c w) s c w (fun i => x i ^^^ y i) ∧ Lanes (.vshl c w) s c w (fun i => x i * 2 ^ (y i % 32) % 2 ^ 32) ∧
       Lanes (.vshr c w) s c w (fun i => x i / 2 ^ (y i % 32)) ∧
       Lanes (.vsra c w) s c w (fun i => ((BitVec.ofNat 32 (x i)).sshiftRight (y i % 32)).toNat) ∧
       ((∀ i < 64, isBoreLane (x i) = true ∧ isBoreLane (y i) = true) →
         Lanes (.vbadd c w) s c w (fun i => clip (-2 ^ 23) (2 ^ 23 - 1) (signed 24 (x i) + signed 24 (y i))))) ∧
     (vLegal [(51, 37), (34, 32)] false tilesABD false true w = true →
       Lanes (.vsel c w) s c w (fun i => if ((s.cx c).preg (fVc w % 8)).getLsbD i then x i else y i))) ∧
  (∀ (s : State) (c : CtxId) (w : Low56), Ready true s c w → FreeElem s c w false false → TilesOpen s c w →
     vLegal [(51, 42)] false ⟨true, true, false⟩ false true w = true → (s.vsrc c w (fTA w) (fVa w)).poison = 0 →
     Lanes (.vmov c w) s c w (fun i => lane (s.vsrc c w (fTA w) (fVa w)).val i))

/-- FP vector instructions lane by lane: FP32 elements, or two BF16 elements a lane, each rounded once in the mode of its
element (R103, R108, R148, R151). -/
def Obligations.VectorFloatLanes : Prop :=
  ∀ (s : State) (c : CtxId) (w : Low56), Ready true s c w → TilesOpen s c w →
    let a := s.vsrc c w (fTA w) (fVa w)
    let b := s.vsrc c w (fTB w) (fVb w)
    let d := (s.cx c).vreg (fVc w)
    let rm := s.rmodes c w
    let x (i : Nat) : Nat := lane a.val i
    let y (i : Nat) : Nat := lane b.val i
    let z (i : Nat) : Nat := lane d.val i
    let two (f : RMode → Nat → Nat → Nat → Nat) (i : Nat) : Nat :=
      f (rm (2 * i)) (x i % 65536) (y i % 65536) (z i % 65536) + f (rm (2 * i + 1)) (x i / 65536) (y i / 65536) (z i / 65536) * 65536
    a.poison = 0 →
    (FreeElem s c w true false → b.poison = 0 →
      (s.srPoison c w = false → vLegal [(51, 37), (29, 26)] true tilesABD false (fsFloat w) w = true →
        (fFs w = 0 →
          Lanes (.vadd c w) s c w (fun i => (fpAdd fmtFP32 (rm i) (x i) (y i)).1 % 2 ^ 32) ∧
          Lanes (.vsub c w) s c w (fun i => (fpSub fmtFP32 (rm i) (x i) (y i)).1 % 2 ^ 32) ∧
          Lanes (.vmul c w) s c w (fun i => (fpMul fmtFP32 (rm i) (x i) (y i)).1 % 2 ^ 32)) ∧
        (fFs w = 1 →
          Lanes (.vadd c w) s c w (fun i => two (fun m p q _ => (fpAdd fmtBF16 m p q).1) i % 2 ^ 32) ∧
          Lanes (.vsub c w) s c w (fun i => two (fun m p q _ => (fpSub fmtBF16 m p q).1) i % 2 ^ 32) ∧
          Lanes (.vmul c w) s c w (fun i => two (fun m p q _ => (fpMul fmtBF16 m p q).1) i % 2 ^ 32))) ∧
      (vLegal [(51, 37), (29, 26)] false tilesABD false (fsFloat w) w = true → s.srPoison c w = false → fFs w = 0 →
        Lanes (.vmin c w) s c w (fun i => fpMin fmtFP32 (x i) (y i) % 2 ^ 32) ∧
        Lanes (.vmax c w) s c w (fun i => fpMax fmtFP32 (x i) (y i) % 2 ^ 32)) ∧
      (vLegal [(51, 37), (29, 26)] false tilesABD false (fsFloat w) w = true → s.srPoison c w = false → fFs w = 1 →
        Lanes (.vmin c w) s c w (fun i => two (fun _ p q _ => fpMin fmtBF16 p q) i % 2 ^ 32) ∧
        Lanes (.vmax c w) s c w (fun i => two (fun _ p q _ => fpMax fmtBF16 p q) i % 2 ^ 32))) ∧
    (FreeElem s c w true true → b.poison = 0 → d.poison = 0 → s.srPoison c w = false →
      vLegal ([(51, 37), (29, 26)] ++ [(36, 32)]) true tilesABD false (fsFloat w) w = true →
      (fFs w = 0 → Lanes (.vfma c w) s c w (fun i => (fpFma fmtFP32 (rm i) (x i) (y i) (z i)).1 % 2 ^ 32)) ∧
      (fFs w = 1 → Lanes (.vfma c w) s c w (fun i => two (fun m p q t => (fpFma fmtBF16 m p q t).1) i % 2 ^ 32))) ∧
    (FreeElem s c w false false → s.srPoison c w = false → vLegal [(51, 42)] true noTiles false true w = true →
      Lanes (.vexp2 c w) s c w (fun i => (fpExp2 (rm i) (f32 (x i))).1 % 2 ^ 32) ∧
      Lanes (.vlog2 c w) s c w (fun i => (fpLog2 (rm i) (f32 (x i))).1 % 2 ^ 32) ∧
      Lanes (.vrcp c w) s c w (fun i => (fpRcp (rm i) (f32 (x i))).1 % 2 ^ 32) ∧
      Lanes (.vrsq c w) s c w (fun i => (fpRsq (rm i) (f32 (x i))).1 % 2 ^ 32))

/-- Poison in elementwise instructions (R159, R161, R167): a group of the result that is written under M is poisoned exactly
when the same group of a source is; a group that M leaves alone keeps its poison. -/
def Obligations.VectorPoisonByGroups : Prop :=
  ∀ (s : State) (c : CtxId) (w : Low56), Ready true s c w → FreeElem s c w true false → TilesOpen s c w →
    vLegal [(51, 37)] false tilesABD false true w = true → fTD w = false → s.srPoison c w = false →
    let a := s.vsrc c w (fTA w) (fVa w)
    let b := s.vsrc c w (fTB w) (fVb w)
    let m := (s.cx c).mask w
    ∀ i ∈ [Instr.vand c w, .vor c w, .vxor c w, .vshl c w, .vshr c w, .vsra c w, .vbadd c w], ∃ (r : VReg) (fl : Flags),
      Pends i s c ⟨[.v (fVd w) r], fl⟩ ∧ ∀ q < 4,
        ((∀ k < 16, m.getLsbD (16 * q + k) = true) → r.poison.getLsbD q = (a.poison.getLsbD q || b.poison.getLsbD q)) ∧
        ((∀ k < 16, m.getLsbD (16 * q + k) = false) →
          r.poison.getLsbD q = ((s.cx c).vreg (fVd w)).poison.getLsbD q ∧
          ∀ k < 16, lane r.val (16 * q + k) = lane ((s.cx c).vreg (fVd w)).val (16 * q + k)) ∧
        ((a.poison.getLsbD q || b.poison.getLsbD q) = true → ∀ k < 16, m.getLsbD (16 * q + k) = true → lane r.val (16 * q + k) = 0)

/-- Vector compares write the bits of pd that M allows and keep the others (R167, R181, Tables 6-13). -/
def Obligations.VectorCompares : Prop :=
  ∀ (s : State) (c : CtxId) (w : Low56), Ready true s c w → TilesOpen s c w →
    Free s c [.p (fVd w), vref (fTA w) (fVa w), vref (fTB w) (fVb w), .g (fGt w)] →
    let a := s.vsrc c w (fTA w) (fVa w)
    let b := s.vsrc c w (fTB w) (fVb w)
    let m := (s.cx c).mask w
    let bits (i : Instr) (f : Nat → Bool) : Prop := ∃ v : Word, Pends i s c ⟨[.p (fVd w) v], 0⟩ ∧
      ∀ n < 64, v.getLsbD n = if m.getLsbD n then f n else ((s.cx c).preg (fVd w)).getLsbD n
    (vLegal [(49, 47), (46, 37), (35, 32)] false ⟨false, true, true⟩ false (decide (fVc w ≤ 9)) w = true →
      a.poison = 0 → b.poison = 0 → bits (.vicmp c w) (fun n => condHolds (fVc w) ((BitVec.ofNat 32 (lane a.val n)).signExtend 64)
        ((BitVec.ofNat 32 (lane b.val n)).signExtend 64))) ∧
    (vLegal [(49, 47), (46, 37), (35, 32)] false ⟨false, true, true⟩ false (fpCond (fVc w) .nan .nan).isSome w = true →
      a.poison = 0 → b.poison = 0 → bits (.vfcmp c w) (fun n => (fpCond (fVc w) (f32 (lane a.val n)) (f32 (lane b.val n))).getD false)) ∧
    (vLegal [(49, 47), (46, 37), (35, 32)] false ⟨false, true, true⟩ false (decide (fVc w ≤ 9)) w = true → a.poison = 15 → m ≠ 0 →
      Traps (.vicmp c w) s c 5 1 0 ((s.cx c).latch.getD 0))

/-- Lane-crossing moves write every lane; any poisoned source poisons every group (R161, R168, Table 6-9): VBCAST, VSPLAT,
VSEGB, VPERM; VEXT and VINS move one lane. A poisoned lane number is a poison use. -/
def Obligations.VectorMoves : Prop :=
  ∀ (s : State) (c : CtxId) (w : Low56), Ready true s c w →
    let a := (s.cx c).vreg (fVa w)
    let b := (s.cx c).vreg (fVb w)
    let d := (s.cx c).vreg (fVd w)
    let n := (s.cx c).greg (fGs w)
    let t := (s.cx c).greg (fGt w)
    let puts (i : Instr) (bad : Bool) (f : Nat → Nat) : Prop :=
      Pends i s c ⟨[.v (fVd w) ⟨ofLanes (tabulate 64 f), if bad then 15 else 0⟩], 0⟩
    (vLegal [(51, 42), (9, 5)] false noTiles true true w = true → Free s c [.v (fVd w), .v (fVa w), .g (fGs w)] →
      (n.poison = false →
        puts (.vbcast c w) (a.poison != 0) (fun _ => lane a.val (n.val.toNat % 64)) ∧
        puts (.vsegb c w) (a.poison != 0) (fun i => lane a.val (i / 32 * 32 + n.val.toNat % 32))) ∧
      (n.poison = true → Traps (.vbcast c w) s c 5 1 0 ((s.cx c).latch.getD 0) ∧
        Traps (.vsegb c w) s c 5 1 0 ((s.cx c).latch.getD 0))) ∧
    (vLegal [(51, 47), (9, 5)] false noTiles true true w = true → Free s c [.v (fVd w), .g (fGs w)] →
      puts (.vsplat c w) n.poison (fun _ => n.val.toNat % 2 ^ 32)) ∧
    (vLegal [(51, 37), (34, 32)] false noTiles true true w = true → Free s c [.v (fVd w), .v (fVa w), .v (fVb w)] →
      puts (.vperm c w) (a.poison != 0 || b.poison != 0) (fun i =>
        let x := lane a.val
        let y := lane b.val
        match fVc w with
        | 0 => x (63 - i)
        | 1 => x ((i + 32) % 64)
        | 2 => x (if i % 2 = 0 then i + 1 else i - 1)
        | 3 => if i % 2 = 0 then x (i / 2) else y (i / 2)
        | 4 => if i % 2 = 0 then x (32 + i / 2) else y (32 + i / 2)
        | 5 => if i < 32 then x (2 * i) else y (2 * i - 64)
        | 6 => if i < 32 then x (2 * i + 1) else y (2 * i - 63)
        | _ => x ((i + 16) % 64))) ∧
    (vLegal [(46, 42), (9, 0)] false noTiles true true w = true → Free s c [.v (fVa w), .g (fGs w), .g (fGt w)] →
      n.poison = false →
      let i := n.val.toNat % 64
      Pends (.vext c w) s c ⟨[.g (fGt w) ⟨BitVec.ofNat 64 (lane a.val i), a.poison.getLsbD (i / 16)⟩], 0⟩) ∧
    (vLegal [(51, 47), (9, 0)] false noTiles true true w = true → Free s c [.v (fVd w), .g (fGs w), .g (fGt w)] →
      t.poison = false →
      let i := t.val.toNat % 64
      ∃ p : BitVec 4, (∀ q < 4, p.getLsbD q = (d.poison.getLsbD q || (q == i / 16 && n.poison))) ∧
        Pends (.vins c w) s c ⟨[.v (fVd w) ⟨ofLanes (tabulate 64 (fun j => if j = i then n.val.toNat % 2 ^ 32 else lane d.val j)), p⟩], 0⟩)

/-- Random draws (R107, R157): lane i takes the Philox word of the seed at element base + i for the purpose of the
instruction; VRNDM sets bit i of pd where the word is below the threshold. -/
def Obligations.VectorRandomDraws : Prop :=
  ∀ (s : State) (c : CtxId) (w : Low56), Ready true s c w →
    let seed := (s.cx c).greg (fGs w)
    let base := (s.cx c).greg (fGt w)
    let th := (s.cx c).greg (fVc w)
    let m := (s.cx c).mask w
    let word (p i : Nat) : Nat := philoxWord seed.val.toNat (base.val.toNat + i) p
    seed.poison = false → base.poison = false →
    (vLegal [(51, 47), (9, 0)] false noTiles false true w = true → Free s c [.v (fVd w), .g (fGs w), .g (fGt w)] →
      Pends (.vrndu c w) s c ⟨[.v (fVd w) (mergeLanes m ((s.cx c).vreg (fVd w)) ⟨ofLanes (tabulate 64 (word 1)), 0⟩)], 0⟩ ∧
      Pends (.vrndf c w) s c ⟨[.v (fVd w) (mergeLanes m ((s.cx c).vreg (fVd w))
        ⟨ofLanes (tabulate 64 (fun i => (fmtFP32.encode .rne false (.fin false (word 2 i / 256 + 1) (-24))).1)), 0⟩)], 0⟩) ∧
    (vLegal [(49, 47), (36, 32), (9, 0)] false noTiles false true w = true →
      Free s c [.p (fVd w), .g (fVc w), .g (fGs w), .g (fGt w)] →
      (th.poison = false → ∃ v : Word, Pends (.vrndm c w) s c ⟨[.p (fVd w) v], 0⟩ ∧
        ∀ n < 64, v.getLsbD n = if m.getLsbD n then decide (word 3 n < th.val.toNat % 2 ^ 32)
          else ((s.cx c).preg (fVd w)).getLsbD n) ∧
      (th.poison = true → Traps (.vrndm c w) s c 5 1 0 ((s.cx c).latch.getD 0)))

/-- VCVT, VPACK, VBEXP (R124, R153, R184): the converted register under M (all lanes where lanes cross), the scale bytes to
g[vc] for an MX destination, the flags with it; the 128 elements of VPACK in their order; the exponent bytes, 0 where a source is
poisoned (R159). -/
def Obligations.VectorConversions : Prop :=
  ∀ (s : State) (c : CtxId) (w : Low56), Ready true s c w → TilesOpen s c w →
    let a := s.vsrc c w (fTA w) (fVa w)
    let b := s.vsrc c w (fTB w) (fVb w)
    let g := (s.cx c).greg (fVc w)
    let vc := usesVc (fFs w) || usesVc (fFd w)
    let cross := cvtCross (fFs w) (fFd w)
    (vLegal ([(51, 42), (29, 21)] ++ (if vc then [(36, 32)] else [])) true ⟨false, true, false⟩ cross
        (isConvFmt (fFs w) && isConvFmt (fFd w)) w = true →
      Free s c ([.v (fVd w), vref (fTA w) (fVa w), .g (fGs w), .g (fGt w)] ++ (if vc then [.g (fVc w)] else [])) →
      a.poison = 0 → s.srPoison c w = false → g.poison = false →
      let m := if cross then allLanes else (s.cx c).mask w
      let r := convertReg (fFs w) (fFd w) (fSat w) (s.rmodes c w) a g.val.toNat false m
      (isMx (fFd w) = false → Pends (.vcvt c w) s c ⟨[.v (fVd w) (mergeLanes m ((s.cx c).vreg (fVd w)) r.1)], r.2.2⟩) ∧
      (isMx (fFd w) = true → ∃ v, r.2.1 = some v ∧ Pends (.vcvt c w) s c
        ⟨[.v (fVd w) (mergeLanes m ((s.cx c).vreg (fVd w)) r.1), .g (fVc w) ⟨BitVec.ofNat 64 v, false⟩], r.2.2⟩)) ∧
    (vLegal [(51, 37), (25, 22)] true ⟨false, true, true⟩ true (fFd w == 1 || fFd w == 2) w = true →
      Free s c [.v (fVd w), vref (fTA w) (fVa w), vref (fTB w) (fVb w), .g (fGs w), .g (fGt w)] →
      a.poison = 0 → b.poison = 0 → s.srPoison c w = false →
      let e (k : Nat) : Elem :=
        let v := if k / 32 % 2 = 0 then lane a.val (k / 64 * 32 + k % 32) else lane b.val (k / 64 * 32 + k % 32)
        ⟨f32 v, false, v⟩
      let r := convertElems (fFd w) (s.rmodes c w) false [] (tabulate 128 e)
      Pends (.vpack c w) s c ⟨[.v (fVd w) ⟨BitVec.ofNat 2048 (packFields 16 r.elems), 0⟩], r.flags⟩) ∧
    (vLegal [(46, 42), (29, 26), (4, 0)] false noTiles true (decide (fFs w ≤ 1)) w = true → Free s c [.v (fVa w), .g (fGt w)] →
      let v := (s.cx c).vreg (fVa w)
      (fFs w = 0 → Pends (.vbexp c w) s c ⟨[.g (fGt w) ⟨BitVec.ofNat 64
        (if v.poison = 0 then boreByte (tabulate 32 (fun i => f32 (lane v.val i))) % 256 +
          256 * (boreByte (tabulate 32 (fun i => f32 (lane v.val (32 + i)))) % 256) else 0), v.poison != 0⟩], 0⟩) ∧
      (fFs w = 1 → Pends (.vbexp c w) s c ⟨[.g (fGt w) ⟨BitVec.ofNat 64 (if v.poison = 0 then packFields 8 (tabulate 4 (fun b =>
        boreByte (tabulate 32 (fun i => fmtBF16.decode (fieldAt 16 v.val.toNat (32 * b + i)))))) else 0), v.poison != 0⟩], 0⟩))

/-- Reductions (R150): a fixed binary tree over the lanes of each segment and then the two segments; FP32 sums are rounded at each
node, INT32 sums wrap.
Online softmax (R155) on clean sources, one segment at a time: VSEGMAX advances the next maximum, VOSMC the maximum, the
sum and the correction, VOSM writes the probabilities and the sum; all other lanes of the state register stay. Where VOSM names
one register for both, the sums go into the probabilities (the model's reading, log 36). -/
def Obligations.VectorReductions : Prop :=
  (∀ (s : State) (c : CtxId) (w : Low56), Ready true s c w →
     vLegal [(51, 42), (32, 32), (29, 26)] false noTiles true (fFs w == 0 || fFs w == 0xD) w = true →
     Free s c [.v (fVd w), .v (fVa w)] →
     let a := (s.cx c).vreg (fVa w)
     let seg (i : Nat) : List Nat := tabulate 32 (fun k => lane a.val (32 * i + k))
     let full (f : Nat → Nat → Nat × Flags) : VReg × Flags :=
       let x := treeReduce f 5 (seg 0)
       let y := treeReduce f 5 (seg 1)
       let t := f x.1 y.1
       (⟨ofLanes [t.1], 0⟩, x.2 ||| y.2 ||| t.2)
     let segs (f : Nat → Nat → Nat × Flags) : VReg × Flags :=
       let x := treeReduce f 5 (seg 0)
       let y := treeReduce f 5 (seg 1)
       (⟨ofLanes (x.1 :: List.replicate 31 0 ++ [y.1]), 0⟩, x.2 ||| y.2)
     let puts (i : Instr) (r : VReg × Flags) : Prop := Pends i s c ⟨[.v (fVd w) r.1], r.2⟩
     let sumI (x y : Nat) : Nat × Flags := ((x + y) % 2 ^ 32, 0)
     let maxI (x y : Nat) : Nat × Flags := (if signed 32 x ≤ signed 32 y then y else x, 0)
     let minI (x y : Nat) : Nat × Flags := (if signed 32 x ≤ signed 32 y then x else y, 0)
     a.poison = 0 →
     (fFs w = 0 → fVc w = 0 → puts (.vrsum c w) (full (fpAdd fmtFP32 .rne)) ∧
       puts (.vrmax c w) (full (fun x y => (fpMax fmtFP32 x y, 0))) ∧ puts (.vrmin c w) (full (fun x y => (fpMin fmtFP32 x y, 0)))) ∧
     (fFs w = 0 → fVc w ≠ 0 → puts (.vrsum c w) (segs (fpAdd fmtFP32 .rne)) ∧
       puts (.vrmax c w) (segs (fun x y => (fpMax fmtFP32 x y, 0))) ∧ puts (.vrmin c w) (segs (fun x y => (fpMin fmtFP32 x y, 0)))) ∧
     (fFs w = 0xD → fVc w = 0 → puts (.vrsum c w) (full sumI) ∧ puts (.vrmax c w) (full maxI) ∧ puts (.vrmin c w) (full minI)) ∧
     (fFs w = 0xD → fVc w ≠ 0 → puts (.vrsum c w) (segs sumI) ∧ puts (.vrmax c w) (segs maxI) ∧ puts (.vrmin c w) (segs minI))) ∧
  (∀ (s : State) (c : CtxId) (w : Low56), Ready true s c w → TilesOpen s c w →
     let x := s.vsrc c w (fTA w) (fVa w)
     let g := (s.cx c).greg (fGs w)
     let mul (v : Nat) : Nat := (fpMul fmtFP32 .rne v (g.val.toNat % 2 ^ 32)).1
     let max := fpMax fmtFP32
     let st (r : Nat) : VReg := (s.cx c).vreg r
     let clean := x.poison = 0 ∧ g.poison = false
     let puts (i : Instr) (r : Nat) (f : Nat → Nat) : Prop := ∃ (v : VReg) (ws : List VWrite) (fl : Flags),
       Pends i s c ⟨ws ++ [.v r v], fl⟩ ∧ v.poison = 0 ∧ ∀ n < 64, lane v.val n = f n % 2 ^ 32
     (vLegal [(51, 42), (9, 5)] false ⟨false, true, false⟩ true true w = true →
       Free s c [.v (fVd w), vref (fTA w) (fVa w), .g (fGs w), .g (fGt w)] → clean → (st (fVd w)).poison = 0 →
       puts (.vsegmax c w) (fVd w) (fun n => if n % 32 = 3 then
         max (lane (st (fVd w)).val n) (treeReduce (fun p q => (max p q, 0)) 5
           (tabulate 32 (fun k => mul (lane x.val (n / 32 * 32 + k))))).1 else lane (st (fVd w)).val n)) ∧
     (vLegal [(51, 47)] false noTiles true true w = true → Free s c [.v (fVd w)] → (st (fVd w)).poison = 0 →
       let o (n : Nat) : Nat := lane (st (fVd w)).val n
       let cor (h : Nat) : Nat := if o (32 * h) = negInf32 then 0
         else (fpExp2 .rne (f32 (fpSub fmtFP32 .rne (o (32 * h)) (o (32 * h + 3))).1)).1
       puts (.vosmc c w) (fVd w) (fun n =>
         let h := n / 32
         if o (32 * h + 3) = negInf32 then (if n % 32 = 2 then 0x3F800000 else o n)
         else if n % 32 = 0 then o (32 * h + 3)
         else if n % 32 = 1 then (fpMul fmtFP32 .rne (o n) (cor h)).1
         else if n % 32 = 2 then cor h else o n)) ∧
     (vLegal [(51, 42), (36, 32), (9, 5)] false ⟨false, true, false⟩ true true w = true →
       Free s c [.v (fVd w), .v (fVc w), vref (fTA w) (fVa w), .g (fGs w), .g (fGt w)] → clean →
       (st (fVc w)).poison = 0 →
       let o (n : Nat) : Nat := lane (st (fVc w)).val n
       let p (n : Nat) : Nat := if o (n / 32 * 32) = negInf32 then 0
         else (fpExp2 .rne (f32 (fpSub fmtFP32 .rne (mul (lane x.val n)) (o (n / 32 * 32))).1)).1
       puts (.vosm c w) (fVc w) (fun n => if n % 32 = 1 then
         (fpAdd fmtFP32 .rne (o n) (treeReduce (fpAdd fmtFP32 .rne) 5 (tabulate 32 (fun k => p (n / 32 * 32 + k)))).1).1
         else if fVc w = fVd w then p n else o n) ∧
       ∃ (v sv : VReg) (fl : Flags), Pends (.vosm c w) s c ⟨[.v (fVd w) v, .v (fVc w) sv], fl⟩ ∧ v.poison = 0 ∧
         ∀ n < 64, lane v.val n = p n % 2 ^ 32))

/-- Top-k and sampling (R156, R158): the k largest entries, k taken as 1 to 32, with the index of each; VTOPKM merges two such
registers; VSMPL finds the first lane whose running sum is past the threshold, or gives -1, and the whole sum. -/
def Obligations.TopKAndSampling : Prop :=
  ∀ (s : State) (c : CtxId) (w : Low56), Ready true s c w →
    let a := (s.cx c).vreg (fVa w)
    let b := (s.cx c).vreg (fVb w)
    let n := (s.cx c).greg (fGs w)
    let t := (s.cx c).greg (fGt w)
    let k : Nat := if n.val.toInt < 1 then 1 else if 32 < n.val.toInt then 32 else n.val.toInt.toNat
    let ent (v : VReg) : List (Nat × Nat) := tabulate 32 (fun i => (lane v.val i, lane v.val (32 + i)))
    (vLegal [(51, 42), (9, 0)] false noTiles true true w = true → Free s c [.v (fVd w), .v (fVa w), .g (fGs w), .g (fGt w)] →
      (n.poison = false → t.poison = false → a.poison = 0 →
        Pends (.vtopk c w) s c ⟨[.v (fVd w) ⟨topResult k (tabulate 64 (fun i => (lane a.val i, (t.val.toNat + i) % 2 ^ 32))), 0⟩], 0⟩) ∧
      (n.poison = true → Traps (.vtopk c w) s c 5 1 0 ((s.cx c).latch.getD 0))) ∧
    (vLegal [(51, 37), (9, 5)] false noTiles true true w = true → Free s c [.v (fVd w), .v (fVa w), .v (fVb w), .g (fGs w)] →
      n.poison = false → a.poison = 0 → b.poison = 0 →
      Pends (.vtopkm c w) s c ⟨[.v (fVd w) ⟨topResult k (ent a ++ ent b), 0⟩], 0⟩) ∧
    (vLegal [(51, 42), (36, 32), (9, 0)] false noTiles true true w = true →
      Free s c [.g (fVd w), .g (fVc w), .v (fVa w), .g (fGs w), .g (fGt w)] → n.poison = false → t.poison = false → a.poison = 0 →
      let r := smplScan (n.val.toNat % 2 ^ 32) (tabulate 64 (fun i => lane a.val i)) 0 0 none flNone
      (∀ i, r.1 = some i → Pends (.vsmpl c w) s c
        ⟨[.g (fVd w) ⟨t.val + BitVec.ofNat 64 i, false⟩, .g (fVc w) ⟨BitVec.ofNat 64 r.2.1, false⟩], r.2.2⟩) ∧
      (r.1 = none → Pends (.vsmpl c w) s c
        ⟨[.g (fVd w) ⟨BitVec.allOnes 64, false⟩, .g (fVc w) ⟨BitVec.ofNat 64 r.2.1, false⟩], r.2.2⟩))

/-- VECTOR_COMPLETE writes the results of the vector instruction it names, in order, raises its flags, and takes it out of flight;
nothing outside the core changes but the parity of the accumulator words it writes, which is fresh (R160), and the other
context stays (R60, R130, R149). -/
def Obligations.VectorResultsLand : Prop :=
  ∀ (s : State) (c : CtxId) (n : Nat) (p : VecPend), s.gatedCore c.key = false → (s.cx c).vecPend[n]? = some p →
    (s.cx c).stepping = .off →
    ∃ t, exec (.vectorComplete c n) s = .next t ∧ (t.cx c).vecPend = (s.cx c).vecPend.eraseIdx n ∧
      (t.cx c).flags = (s.cx c).flags ||| p.flags ∧ (t.cx c).pc = (s.cx c).pc ∧
      (∀ vd r, p.writes = [.v vd r] → (t.cx c).vreg vd = r ∧ (∀ v, v ≠ vd → (t.cx c).vreg v = (s.cx c).vreg v) ∧
        (t.cx c).g = (s.cx c).g ∧ (t.cx c).p = (s.cx c).p ∧ (t.core c.key).tiles = (s.core c.key).tiles) ∧
      (∀ i rp r, rp < 16 → p.writes = [.row i rp r] → ((t.core c.key).tile i).rowPair rp = r ∧
        (∀ q, q ≠ rp → q < 16 → ((t.core c.key).tile i).rowPair q = ((s.core c.key).tile i).rowPair q) ∧
        ∀ j, j ≠ i → (t.core c.key).tile j = (s.core c.key).tile j) ∧
      (∀ rd r, p.writes = [.g rd r] → t.cx c = { (s.cx c).setG rd r with
        vecPend := (s.cx c).vecPend.eraseIdx n, flags := (s.cx c).flags ||| p.flags }) ∧
      (∀ pd v, p.writes = [.p pd v] → t.cx c = { (s.cx c).setP pd v with
        vecPend := (s.cx c).vecPend.eraseIdx n, flags := (s.cx c).flags ||| p.flags }) ∧
      (t.core c.key).ctx (1 - c.ctx.val) = (s.core c.key).ctx (1 - c.ctx.val) ∧
      t = { s with cores := t.cores, upsets := t.upsets } ∧ (∀ u ∈ t.upsets, u ∈ s.upsets) ∧
      (∀ i rp r, p.writes = [.row i rp r] → ∀ n, 64 * rp ≤ n → n < 64 * rp + 64 → .acc c.key i n ∉ t.upsets) ∧
      ∀ j, j ≠ c.key → t.core j = s.core j

/-! ### Engines -/

/-- Issue of MMA and MMX (R57, R61, R134, R137, R185): with room in the queue, tiles of the own share and operands that can be
read, one operation joins the context's queue of the engine, register operands read at issue; tiles of an armed slot operand
are taken at once, those of A before those of B (R211; which of the two comes first where both name one slot is the model's
choice, log 76). A tile or a slot of the other context takes cause 0x04 (R56). -/
def Obligations.MacIssueQueuesTheOperation : Prop :=
  ∀ (s : State) (c : CtxId) (w : Low56) (exact : Bool), Ready false s c w → macLegal exact w = true → Free s c (macRegs exact w) →
    let i : Instr := if exact then .mmx c w else .mma c w
    let u := s.fetched c
    let k := c.key
    let core := s.core k
    let g (r : Nat) : GReg := (s.cx c).greg r
    let ext := kExtent (eKt w) (eFA w) (eFB w) (eSp w)
    let na := ext / ktOf (eFA w)
    let nb := ext / ktB (eFB w) (eSp w)
    let tiles := if exact then [eT w, eT w + 1, eT w + 2] else [eT w]
    -- a source's tiles leave its slot; a slot that holds no stream is found when the operation comes to the head
    let takes (slot n : Nat) (s : State) : State :=
      s.updSlot k slot (fun x => if x.st = .closed then x else { x with taken := x.taken + n })
    let s1 := if eAs w then u else takes (eA w) na u
    let s2 := if eBs w then s1 else takes (eB w) nb s1
    let op (oa ob md : Nat) : EngOp :=
      { kind := if exact then .mmx else .mma, word := w, t := eT w, u := eU w, kt := eKt w, fA := eFA w, fB := eFB w
        a := if eAs w then .addr oa else .slot (eA w), b := if eBs w then .addr ob else .slot (eB w)
        md := md, anchor := signed 16 (g (eGanc w)).val.toNat, sparse := eSp w, z := eZ w, h := eH w
        explicit := eAm w, n := 1, aFirst := (core.slot (eA w)).taken, aCount := na
        bFirst := ((s1.core k).slot (eB w)).taken, bCount := nb
        aGen := (core.slot (eA w)).gen, bGen := (core.slot (eB w)).gen }
    let reads (addr : Bool) (r n : Nat) (off : Nat) : Prop :=
      if addr then engAddr c (g r) (n * 4096) 4096 = (0, off)
      else core.slotOwner r = c.ctx.val ∧ ((core.slot r).st ≠ .closed → (core.slot r).cons = 4 + eEng w)
    (core.queue (eEng w) c.ctx.val).length < 8 →
    ((∀ t ∈ tiles, core.tileOwner t = c.ctx.val) → (exact = true → eAm w = true → (g (eGanc w)).poison = false) →
      ∀ oa ob md, reads (eAs w) (eA w) na oa → reads (eBs w) (eB w) nb ob →
        (if eSp w then engAddr c (g (eGmd w)) (nb * 8 * ktOf (eFB w)) 64 else (0, 0)) = (0, md) →
        Issues i s c (s2.updCore k (fun d => d.setQueue (eEng w) c.ctx.val (d.queue (eEng w) c.ctx.val ++ [op oa ob md])))
          (s.nextPc c)) ∧
    ((∃ t ∈ tiles, core.tileOwner t ≠ c.ctx.val) → Traps i s c 4 (2 + eEng w) 0 0) ∧
    ((eAs w = false → core.slotOwner (eA w) ≠ c.ctx.val → Traps i s c 4 (2 + eEng w) 0 0) ∧
      (eBs w = false → core.slotOwner (eB w) ≠ c.ctx.val → Traps i s c 4 (2 + eEng w) 0 0))

/-- Issue of LBM, LBR and TZ (R134, R144 to R147): the operation joins the context's queue of the engine when there is room and
every tile it names is of the own share; a tile of the other context takes cause 0x04 (R56).
LBTR and LBTW move the tag word of a tile that no operation names and no vector result will write (R186): LBTW clears
bits [31:20], and no other tile changes. -/
def Obligations.TileOperationsAndTags : Prop :=
  (∀ (s : State) (c : CtxId) (w : Low56), Ready false s c w →
     let core := s.core c.key
     let own (ts : List Nat) : Prop := ∀ t ∈ ts, core.tileOwner t = c.ctx.val
     let lbm := [eT w, eT w + 1, eT w + 2, eU w, eU w + 1, eU w + 2]
     let lbr := [eT w, eT w + 1, eT w + 2, eU w]
     let tz := tabulate (eN w) (fun i => eT w + i)
     let queued (i : Instr) (kind : EngKind) : Prop :=
       Issues i s c ((s.fetched c).updCore c.key (fun d =>
         d.setQueue (eEng w) c.ctx.val (d.queue (eEng w) c.ctx.val ++ [tileOp kind w]))) (s.nextPc c)
     (core.queue (eEng w) c.ctx.val).length < 8 →
     (namedOnly [(51, 44)] w = true → eT w ≤ 5 → eU w ≤ 5 → (eU w + 2 < eT w ∨ eT w + 2 < eU w) →
       (own lbm → queued (.lbm c w) .lbm) ∧ (¬ own lbm → Traps (.lbm c w) s c 4 (2 + eEng w) 0 0)) ∧
     (namedOnly [(51, 44), (7, 7)] w = true → eT w ≤ 5 → (eU w < eT w ∨ eT w + 2 < eU w) →
       (own lbr → queued (.lbr c w) .lbr) ∧ (¬ own lbr → Traps (.lbr c w) s c 4 (2 + eEng w) 0 0)) ∧
     (namedOnly [(51, 47), (5, 4)] w = true → eN w ≤ 3 → eT w + eN w ≤ 8 →
       (own tz → queued (.tz c w) .tz) ∧ (¬ own tz → Traps (.tz c w) s c 4 (2 + eEng w) 0 0))) ∧
  (∀ (s : State) (c : CtxId) (w : Low56), Ready false s c w → namedOnly [(51, 47), (14, 10)] w = true → Free s c [.g (eGanc w)] →
     let n := eEng w * 8 + eT w
     let v := (s.cx c).greg (eGanc w)
     ((s.core c.key).tileOwner (eT w) = c.ctx.val → tagStall c w (s.fetched c) = false →
       Writes (.lbtr c w) s c (eGanc w) ⟨((s.core c.key).tile n).tag, false⟩ ∧
       (v.poison = false → ∃ t, exec (.lbtw c w) s = .next t ∧
         (t.core c.key).tile n = { (s.core c.key).tile n with tag := v.val &&& ~~~ 0xFFF00000 } ∧
         (∀ m, m ≠ n → (t.core c.key).tile m = (s.core c.key).tile m) ∧ (t.cx c).pc = s.nextPc c ∧ (t.cx c).g = (s.cx c).g ∧
         (∀ j, j ≠ c.key → t.core j = s.core j) ∧ t.mem = (s.fetched c).mem) ∧
       (v.poison = true → Traps (.lbtw c w) s c 5 (2 + eEng w) 0 ((s.cx c).latch.getD 0))) ∧
     ((s.core c.key).tileOwner (eT w) ≠ c.ctx.val →
       Traps (.lbtr c w) s c 4 (2 + eEng w) 0 0 ∧ Traps (.lbtw c w) s c 4 (2 + eEng w) 0 0))

/-- An engine at an operation boundary starts a ready head: the operation leaves its queue with its operands read, and no tile
changes; of two ready heads the one of the context that did not run last starts (R61, R136). A head whose slot source can never
become ready is discarded, with a stream fault of its slot and cause 0x06 in its context (R138, R212).
An engine writes the oldest operation it has started (R133, R130): MMA one tile, MMX and LBM a block of three, LBR one half
of a tile, TZ zeroes with clear tags and no poison; its flags join the flags of its context; other tiles stay. What a poisoned
window of MMX holds is free (log 16). A merge of blocks whose anchors differ writes nothing and takes cause 0x06 (R145); the
result of an operation whose context was reset is dropped (R86). -/
def Obligations.EngineRunsOperations : Prop :=
  (∀ (s : State) (c : CoreId) (e : Fin 4), s.gatedCore c.key = false → s.upsets.contains (.engCtl c.key e.val) = false →
     let k := c.key
     let core := s.core k
     let i : Instr := .engineOpStart c e
     (∀ x o rest, x < 2 → core.queue e.val x = o :: rest → core.queue e.val (1 - x) = [] → opDoomed core o = none →
       opReady core e.val o = true → Does i s fun t => ∃ r : EngRun,
         (t.core k).queue e.val x = rest ∧ (t.core k).run e.val = core.run e.val ++ [r] ∧ r.ctx = x ∧ r.op = o ∧ r.discard = false ∧
         (t.core k).tiles = core.tiles ∧ aget 2 (t.core k).lastRan e.val = x ∧ (∀ j, j ≠ k → t.core j = s.core j) ∧
         (o.kind = .mma ∨ o.kind = .mmx → s.cells = [] → t.mem = s.mem ∧
           (∀ off, o.a = .addr off → ∀ n, n < o.aCount → ∃ q, r.aTiles[n]? = some q ∧
             q.payload = BitVec.ofNat 32768 (leNat (memBytes s.mem (sramMla k (off + 4096 * n)) (payloadUsed o.fA)))) ∧
           (∀ off, o.b = .addr off → ∀ n, n < o.bCount → ∃ q, r.bTiles[n]? = some q ∧
             q.payload = BitVec.ofNat 32768 (leNat (memBytes s.mem (sramMla k (off + 4096 * n)) (payloadUsed o.fB)))))) ∧
     (∀ o0 r0 o1 r1, core.queue e.val 0 = o0 :: r0 → core.queue e.val 1 = o1 :: r1 → opDoomed core o0 = none →
       opDoomed core o1 = none → opReady core e.val o0 = true → opReady core e.val o1 = true → Does i s fun t => ∃ r : EngRun,
         (t.core k).run e.val = core.run e.val ++ [r] ∧ r.ctx = (if aget 2 core.lastRan e.val = 0 then 1 else 0) ∧
         r.op = (if aget 2 core.lastRan e.val = 0 then o1 else o0) ∧ aget 2 (t.core k).lastRan e.val = r.ctx) ∧
     (∀ x o rest n why, x < 2 → core.queue e.val x = o :: rest → core.queue e.val (1 - x) = [] →
       opDoomed core o = some (n, why) → Does i s fun t =>
         (t.core k).run e.val = core.run e.val ∧ (t.core k).tiles = core.tiles ∧ ((t.core k).slot n).fault = why ∧
         ((s.ctx k x).st = .stopped → (t.core k).queue e.val x = rest ∧
           (t.ctx k x).discarded = min 65535 ((s.ctx k x).discarded + 1)) ∧
         ((s.ctx k x).st ≠ .stopped → (s.ctx k x).inh = false →
           (t.ctx k x).excCause = 6 ∧ (t.ctx k x).excUnit = 2 + e.val ∧ (t.ctx k x).excSlot = n)) ∧
     (core.queue e.val 0 = [] → core.queue e.val 1 = [] → Idles i s)) ∧
  (∀ (s : State) (c : CoreId) (e : Fin 4) (r : EngRun) (rest : List EngRun), s.gatedCore c.key = false →
     (s.core c.key).run e.val = r :: rest → (∀ n w, .acc c.key n w ∉ s.upsets) →
     let k := c.key
     let core := s.core k
     let i : Instr := .engineOpWrite c e
     let n := e.val * 8 + r.op.t
     let m := e.val * 8 + r.op.u
     let wrote (f : Flags) (ts : List Nat) (p : State → Prop) : Prop := Does i s fun t =>
       (t.core k).run e.val = rest ∧ (t.ctx k r.ctx).flags = (s.ctx k r.ctx).flags ||| f ∧
         (∀ q, q ∉ ts → (t.core k).tile q = core.tile q) ∧ (∀ j, j ≠ k → t.core j = s.core j) ∧ t.mem = s.mem ∧ p t
     (r.discard = true → exec i s = .next (s.updCore k (fun d => d.setRun e.val rest))) ∧
     (r.discard = false →
       (r.op.kind = .mma → wrote (mmaResult r (core.tile n)).2 [n] fun t => (t.core k).tile n = (mmaResult r (core.tile n)).1) ∧
       (r.op.kind = .mmx → ∃ free : Nat → Nat, wrote (mmxResult r (core.block n) free).2 [n, n + 1, n + 2] fun t =>
         (t.core k).tiles = (core.setBlock n (mmxResult r (core.block n) free).1).tiles) ∧
       (r.op.kind = .lbm → ∀ p, (core.block n).merge (core.block m) = some p → wrote p.2 [n, n + 1, n + 2] fun t =>
         (t.core k).tiles = (core.setBlock n p.1).tiles) ∧
       (r.op.kind = .lbm → (core.block n).merge (core.block m) = none → Does i s fun t =>
         (t.core k).run e.val = rest ∧ (t.core k).tiles = core.tiles ∧
         ((s.ctx k r.ctx).st ≠ .stopped → (s.ctx k r.ctx).inh = false →
           (t.ctx k r.ctx).excCause = 6 ∧ (t.ctx k r.ctx).excUnit = 2 + e.val ∧ (t.ctx k r.ctx).excSlot = r.op.t)) ∧
       (r.op.kind = .lbr → wrote (lbrResult (core.block n) r.op.h (core.tile m)).2 [m] fun t =>
         (t.core k).tile m = (lbrResult (core.block n) r.op.h (core.tile m)).1) ∧
       (r.op.kind = .tz → wrote 0 (tabulate r.op.n (fun q => n + q)) fun t =>
         ∀ q < r.op.n, (t.core k).tile (n + q) = ⟨0, 0, 0⟩)))

/-- Errors that the arrays of a core detect (03 R73, R78, 05 R160): a failing word of a tile that an operation adds to poisons its
half row and stands no more, and the same of a tile that a vector instruction reads; an error in a register file stops both
contexts with cause 0x0B at the next issue, an error in an engine's control with cause 0x0C at its next operation, each context's
record naming its own next instruction. -/
def Obligations.CoreErrorsAreDetected : Prop :=
  (∀ (s : State) (c : CoreId) (e : Fin 4) (r : EngRun) (rest : List EngRun) (w : Nat), s.gatedCore c.key = false →
     (s.core c.key).run e.val = r :: rest → r.discard = false → r.op.kind = .mma → r.op.z = false → w < 1024 →
     let n := e.val * 8 + r.op.t
     .acc c.key n w ∈ s.upsets → Does (.engineOpWrite c e) s fun t =>
       ((t.core c.key).tile n).poison.getLsbD (w / 16) = true ∧ .acc c.key n w ∉ t.upsets) ∧
  (∀ (s : State) (c : CtxId) (w : Low56) (n : Nat), Ready true s c w → FreeElem s c w true false →
     tileTrap c w (s.fetched c) = none → vLegal [(51, 37)] false tilesABD false true w = true → fTA w = true → n < 1024 →
     .acc c.key (fVa w) n ∈ s.upsets → Does (.vxor c w) s fun t =>
       ((t.core c.key).tile (fVa w)).poison.getLsbD (n / 16) = true ∧ .acc c.key (fVa w) n ∉ t.upsets) ∧
  (∀ (s : State) (c : CtxId) (w : Low56), (s.core c.key).canIssue c.ctx.val = true → s.gatedCore c.key = false →
     s.upsets.contains (.regFile c.key) = true → Does (.add c w) s fun t => .regFile c.key ∉ t.upsets ∧ t.mem = s.mem ∧
       ∀ x, x < 2 → (s.ctx c.key x).st ≠ .stopped → (t.ctx c.key x).st = .stopped ∧ (t.ctx c.key x).excCause = 0xB ∧
         (t.ctx c.key x).excPc = (s.ctx c.key x).pc ∧ (t.ctx c.key x).g = (s.ctx c.key x).g) ∧
  (∀ (s : State) (c : CoreId) (e : Fin 4), s.gatedCore c.key = false → s.upsets.contains (.engCtl c.key e.val) = true →
     Does (.engineOpStart c e) s fun t => .engCtl c.key e.val ∉ t.upsets ∧ t.mem = s.mem ∧
       ∀ x, x < 2 → (s.ctx c.key x).st ≠ .stopped → (t.ctx c.key x).st = .stopped ∧ (t.ctx c.key x).excCause = 0xC ∧
         (t.ctx c.key x).excUnit = 2 + e.val ∧ (t.ctx c.key x).excPc = (s.ctx c.key x).pc)

/-! ### Stream and synchronisation instructions -/

/-- The stream instructions on a slot of the own share (07 R197, R198, R209, R210, R215, R221 to R223): arming reads the
descriptor and starts a new arm generation, or faults with reason 1, and with reason 4 where the slot holds a stream; a further
pass is queued, or starts at once where the last one has issued everything, and faults with reason 0x0A where it may not be
queued; a close empties the slot and keeps its generation; tiles are taken and given back in order, and a return of more tiles
than are held faults with reason 5; SWAIT waits for what was in flight when it first issued; a slot of the other context takes
cause 0x04 (R56). A slot keeps the numbering toward its receiver over a close (the model's reading of R218, log 20), and a
producer is checked at arming (log 77). -/
def Obligations.StreamInstructions : Prop :=
  ∀ (s : State) (c : CtxId) (w : Low56), Ready false s c w →
    let k := c.key
    let n := fSlot w
    let core := s.core k
    let x := core.slot n
    let cx := s.cx c
    let u := s.fetched c
    let next : Ctx := { cx with pc := s.nextPc c }
    let same (t : State) : Prop := (∀ m, m ≠ n → (t.core k).slot m = core.slot m) ∧ (∀ j, j ≠ k → t.core j = s.core j) ∧
      (t.cx c).g = cx.g ∧ (t.cx c).pc = s.nextPc c
    let faults (i : Instr) (why : Nat) : Prop := cx.inh = false → Does i s fun t =>
      (t.cx c).excCause = 6 ∧ (t.cx c).excUnit = 6 ∧ (t.cx c).excSlot = n ∧ (t.cx c).excPc = cx.pc ∧ (t.cx c).g = cx.g ∧
      ((t.core k).slot n).fault = why ∧ ∀ j, j ≠ k → t.core j = s.core j
    let waits (i : Instr) (m : Option (Nat × Nat × Nat)) : Prop := Does i s fun t =>
      t.cx c = { cx with swait := m, stepping := (t.cx c).stepping } ∧ (t.core k).slots = core.slots ∧ t.mem = u.mem ∧
      ∀ j, j ≠ k → t.core j = s.core j
    (core.slotOwner n ≠ c.ctx.val →
      (namedOnly [(51, 43)] w = true → Free s c [.g (fTra w)] → Traps (.sarm c w) s c 4 6 0 0) ∧
      (namedOnly [(51, 38)] w = true → Free s c [.g (fTra w), .g (fTrb w)] → Traps (.srarm c w) s c 4 6 0 0) ∧
      (namedOnly [(51, 48)] w = true → Traps (.sclose c w) s c 4 6 0 0 ∧ Traps (.swait c w) s c 4 6 0 0) ∧
      (namedOnly [(51, 48), (37, 33)] w = true → Free s c [.g (fTrd w)] →
        Traps (.shead c w) s c 4 6 0 0 ∧ Traps (.sstat c w) s c 4 6 0 0) ∧
      (namedOnly [(51, 48), (32, 27)] w = true → Traps (.srel c w) s c 4 6 0 0)) ∧
    (core.slotOwner n = c.ctx.val →
      (namedOnly [(51, 43)] w = true → Free s c [.g (fTra w)] → (cx.greg (fTra w)).poison = false →
        ∀ off, ownAccess c (cx.greg (fTra w)).val 64 = .near off →
          let r := u.readMem (sramMla k off) 64
          let ws : List Word := tabulate 8 (fun i => BitVec.ofNat 64 (leNat ((r.2.1.drop (8 * i)).take 8)))
          let d : Slot := { x with desc := ws }
          (x.st ≠ .closed → faults (.sarm c w) 4) ∧
          (x.st = .closed → r.2.2 = none → d.refused k = false → r.1.producersBad d = false → Does (.sarm c w) s fun t =>
            let y := (t.core k).slot n
            y.desc = ws ∧ y.st = .active ∧ y.gen = x.gen + 1 ∧ y.taken = 0 ∧ y.presented = 0 ∧ y.released = 0 ∧
            y.handed = 0 ∧ y.completed = 0 ∧ y.inflight = [] ∧ y.nextBase = y.count ∧ y.fault = 0 ∧ y.paused = false ∧
            same t ∧ t.mem = r.1.mem ∧ (s.cells = [] → t.mem = s.mem)) ∧
          (x.st = .closed → r.2.2.isSome = true ∨ d.refused k = true → faults (.sarm c w) 1)) ∧
      (namedOnly [(51, 38)] w = true → Free s c [.g (fTra w), .g (fTrb w)] → (cx.greg (fTra w)).poison = false →
        (cx.greg (fTrb w)).poison = false →
        let may : Prop := x.drone = true ∧ (x.st = .active ∨ x.st = .ended) ∧ x.queued = none ∧
          (if x.kind = 0 ∨ x.kind = 1 then x.pat = 2 ∨ fTrb w = 0 else fTra w = 0 ∧ fTrb w = 0)
        let d := if x.kind = 0 ∨ x.kind = 1 then (cx.greg (fTra w)).val else x.desc.getD 2 0
        let ix := if (x.kind = 0 ∨ x.kind = 1) ∧ x.pat = 2 then (cx.greg (fTrb w)).val else x.desc.getD 4 0
        (may → Does (.srarm c w) s fun t =>
          let y := (t.core k).slot n
          (x.st = .active → x.passIssued = false → y = { x with queued := some (d, ix) }) ∧
          (x.st = .ended ∨ x.passIssued = true → y.queued = none ∧ y.nextBase = x.nextBase + x.count ∧ y.st = .active ∧
            y.desc = (x.desc.set 2 d).set 4 ix ∧ y.taken = x.taken ∧ y.released = x.released ∧ y.gen = x.gen) ∧
          same t ∧ t.mem = u.mem) ∧
        (¬ may → faults (.srarm c w) 0xA)) ∧
      (namedOnly [(51, 48)] w = true →
        let mark : Nat × Nat := match cx.swait with
          | some (m, upto, handed) => if m = n then (upto, handed) else (s.nextId, x.handed)
          | none => (s.nextId, x.handed)
        let done : Prop := (∀ q ∈ x.inflight, mark.1 ≤ q.id) ∧
          (x.inbound = true ∨ x.st = .closed ∨ x.st = .faulted ∨ x.kind = 4 ∨ mark.2 ≤ x.completed)
        RunsCore (.sclose c w) s c { core.setSlot n { Slot.closed with
            gen := x.gen, fault := x.fault, pushTo := x.pushTo, pushGen := x.pushGen, pushSeq := x.pushSeq } with
          orphans := core.orphans ++ x.inflight.map (fun t => Orphan.mk c.ctx.val t.holdsEntry t) } next ∧
        (done → Runs (.swait c w) s c { cx with swait := none, pc := s.nextPc c }) ∧
        (¬ done → waits (.swait c w) (some (n, mark.1, mark.2)))) ∧
      (namedOnly [(51, 48), (37, 33)] w = true → Free s c [.g (fTrd w)] →
        let took (p : Nat) : Prop := RunsCore (.shead c w) s c (core.setSlot n { x with taken := x.taken + 1 })
          { cx.setG (fTrd w) ⟨globalHere (x.posMla (x.posOf p)), false⟩ with pc := s.nextPc c }
        let ended : Prop := Writes (.shead c w) s c (fTrd w) ⟨BitVec.allOnes 64, false⟩
        Writes (.sstat c w) s c (fTrd w) ⟨x.stat, false⟩ ∧
        (x.st = .closed → faults (.shead c w) 0xC) ∧
        (x.st ≠ .closed → x.cons ≠ 0 → faults (.shead c w) 6) ∧
        (x.st ≠ .closed → x.cons = 0 → x.inbound = true →
          (x.taken < x.presented → took x.taken) ∧
          (x.presented ≤ x.taken → (x.st = .ended → ended) ∧ (x.st = .active → waits (.shead c w) cx.swait) ∧
            (x.st = .faulted → x.inflight = [] → faults (.shead c w) 0xC))) ∧
        (x.st = .active ∨ x.st = .ended → x.cons = 0 → x.kind = 1 ∨ x.kind = 3 →
          let last := x.nextBase + (if x.queued.isSome then x.count else 0)
          (last ≤ x.taken → ended) ∧
          (x.taken < last → x.taken < x.completed + x.ring → took x.taken) ∧
          (x.taken < last → x.completed + x.ring ≤ x.taken → waits (.shead c w) cx.swait)) ∧
        (x.cons = 0 → x.inbound = false → (x.st = .faulted → faults (.shead c w) 0xC) ∧
          (x.kind = 4 → (x.st = .ended → ended) ∧ (x.st = .active → waits (.shead c w) cx.swait)))) ∧
      (namedOnly [(51, 48), (32, 27)] w = true →
        (x.st ≠ .closed → x.cons = 0 → fTn w ≤ x.held →
          (x.inbound = true → x.returned = [] → Does (.srel c w) s fun t =>
            ((t.core k).slot n).released = x.released + fTn w ∧ ((t.core k).slot n).taken = x.taken ∧ same t ∧ t.mem = u.mem) ∧
          (x.inbound = false → Does (.srel c w) s fun t =>
            ((t.core k).slot n).handed = x.handed + fTn w ∧ ((t.core k).slot n).taken = x.taken ∧ same t ∧ t.mem = u.mem)) ∧
        (x.st = .closed ∨ (x.cons = 0 ∧ x.held < fTn w) → faults (.srel c w) 5) ∧
        (x.st ≠ .closed → x.cons ≠ 0 → faults (.srel c w) 6)))

/-- VOPEN, VCLOSE, VWAIT, VTEST (09 R278, R279, R290): an opening writes the valve's record and wakes the other context where
it waits, one that waits with C = 1 closing the valve again; a closed valve makes VWAIT wait.
HVSET, HVCLR, HVWAIT, HVTEST (09 R286 to R288): an opening with no aperture write to wait for opens the host valve and
records itself; else it waits behind those writes; a closed host valve makes HVWAIT wait. -/
def Obligations.ValvesOfCoreAndHost : Prop :=
  (∀ (s : State) (c : CtxId) (w : Low56), Ready false s c w → fYv w < 48 →
     let k := c.key
     let v := fYv w
     let core := s.core k
     let x := core.valve v
     let cx := s.cx c
     let y : Nat := 1 - c.ctx.val
     let other := s.ctx k y
     let now := s.dieGtc c.die.val
     let next : Ctx := { cx with pc := s.nextPc c }
     let rec' : Valve :=
       { isOpen := true, opens := if x.isOpen then x.opens else (x.opens + 1) % 65536
         redundant := if x.isOpen then min 255 (x.redundant + 1) else x.redundant, sigErr := false
         src := (s.fetched c).lsSrc k c.ctx.val 1 cx.pc, time := now, arr := now }
     (namedOnly [(51, 46)] w = true →
       (s.waitsFor k y (.valve v false) = false → s.waitsFor k y (.valve v true) = false →
         RunsCore (.vopen c w) s c (core.setValve v rec') next) ∧
       (∀ closing, s.waitsFor k y (.valve v closing) = true → other.stepping = .off → Does (.vopen c w) s fun t =>
         (t.core k).valve v = { rec' with isOpen := !closing } ∧ (t.ctx k y).st = .running ∧ (t.ctx k y).wait = none ∧
         (t.ctx k y).pc = other.pc + 1 ∧ (t.ctx k y).g = other.g ∧ (t.cx c).pc = s.nextPc c ∧ (t.cx c).g = cx.g ∧
         (∀ m, m ≠ v → (t.core k).valve m = core.valve m) ∧ (∀ j, j ≠ k → t.core j = s.core j) ∧ t.mem = (s.fetched c).mem) ∧
       RunsCore (.vclose c w) s c (core.setValve v { x with isOpen := false }) next) ∧
     (namedOnly [(51, 46), (23, 23)] w = true →
       (x.isOpen = true → RunsCore (.vwait c w) s c (if fYc w then core.setValve v { x with isOpen := false } else core) next) ∧
       (x.isOpen = false → Does (.vwait c w) s fun t =>
         t.cx c = { cx with
           st := .waiting, wait := some (.valve v (fYc w))
           waitBlk := ⟨true, false, 1, if fYc w then 1 else 0, v, now, 0, cx.pc⟩, stepping := (t.cx c).stepping } ∧
         (t.core k).valves = core.valves ∧ (∀ j, j ≠ k → t.core j = s.core j) ∧ t.mem = (s.fetched c).mem)) ∧
     (namedOnly [(51, 46), (40, 36)] w = true → Free s c [.g (fYrb w)] →
       Writes (.vtest c w) s c (fYrb w) ⟨if x.isOpen then 1 else 0, false⟩)) ∧
  (∀ (s : State) (c : CtxId) (w : Low56), Ready false s c w → awf Core.zero s.cores = true →
     let h := fYh w
     let now := s.dieGtc c.die.val
     let x := s.hostValve h
     let cx := s.cx c
     let u := s.fetched c
     let src := u.lsSrc c.key c.ctx.val 1 cx.pc
     (namedOnly [(35, 28)] w = true →
       (u.hvCovers h c.key c.ctx.val = [] → Does (.hvset c w) s fun t =>
         t.hostValve h = { x with
           isOpen := true, opens := if x.isOpen then x.opens else (x.opens + 1) % 65536, src := src, time := now, arr := s.gtc } ∧
         (∀ j y, y < 2 → (s.ctx j y).st = .waiting → (s.ctx j y).wait = some (.hostValve h) → (s.ctx j y).stepping = .off →
           (t.ctx j y).st = .running ∧ (t.ctx j y).wait = none ∧ (t.ctx j y).pc = (s.ctx j y).pc + 1) ∧
         (∀ g, g ≠ h → t.hostValve g = s.hostValve g) ∧ (t.cx c).pc = s.nextPc c ∧ (t.cx c).g = cx.g ∧ t.mem = (s.fetched c).mem) ∧
       (u.hvCovers h c.key c.ctx.val ≠ [] → Does (.hvset c w) s fun t =>
         t.hst.hvPend = u.hst.hvPend ++ [⟨h, src, now, u.hvCovers h c.key c.ctx.val⟩] ∧ t.hostValves = s.hostValves ∧
         (t.cx c).pc = s.nextPc c ∧ (t.cx c).g = cx.g ∧ t.mem = (s.fetched c).mem) ∧
       (Does (.hvclr c w) s fun t => t.hostValve h = { x with isOpen := false } ∧
         (∀ g, g ≠ h → t.hostValve g = s.hostValve g) ∧ (t.cx c).pc = s.nextPc c ∧ (t.cx c).g = cx.g ∧ t.mem = (s.fetched c).mem) ∧
       (x.isOpen = true → Runs (.hvwait c w) s c { cx with pc := s.nextPc c }) ∧
       (x.isOpen = false → Does (.hvwait c w) s fun t =>
         t.cx c = { cx with
           st := .waiting, wait := some (.hostValve h), waitBlk := ⟨true, false, 2, 0, h, now, 0, cx.pc⟩
           stepping := (t.cx c).stepping } ∧ t.hostValves = s.hostValves ∧ t.mem = (s.fetched c).mem)) ∧
     (namedOnly [(35, 28), (40, 36)] w = true → Free s c [.g (fYrb w)] →
       Writes (.hvtest c w) s c (fYrb w) ⟨if x.isOpen then 1 else 0, false⟩))

/-- TCADD, TCWAIT, TCRD (09 R280, R281): a sum up to 2^64 - 1 is the counter's new value with its record; a larger one is
refused and takes cause 0x07, the value unchanged; TCWAIT waits below its threshold.
VSETR, TCADDR, FSEND, FSENDR (09 R282, 07 R237, R238): with fewer than 32 remote writes outstanding the instruction puts one
entry in the context's queue, with its target and data, the error mark of a failed write that it covers, and goes on. -/
def Obligations.TalliesAndRemoteSignals : Prop :=
  (∀ (s : State) (c : CtxId) (w : Low56), Ready false s c w →
     let k := c.key
     let n := fYtc w
     let core := s.core k
     let x := core.tally n
     let cx := s.cx c
     let a := cx.greg (fYra w)
     let now := s.dieGtc c.die.val
     (namedOnly [(45, 41), (27, 24)] w = true → Free s c [.g (fYra w)] → a.poison = false →
       (x.value + a.val.toNat < 2 ^ 64 → Does (.tcadd c w) s fun t =>
         (t.core k).tally n = { x with
           value := x.value + a.val.toNat, sigErr := false, src := (s.fetched c).lsSrc k c.ctx.val 1 cx.pc, time := now } ∧
         (∀ m, m ≠ n → (t.core k).tally m = core.tally m) ∧ (t.cx c).pc = s.nextPc c ∧ (t.cx c).g = cx.g ∧
         (∀ j, j ≠ k → t.core j = s.core j) ∧ t.mem = (s.fetched c).mem) ∧
       (2 ^ 64 ≤ x.value + a.val.toNat → cx.inh = false → Does (.tcadd c w) s fun t =>
         (t.core k).tally n = { x with refused := min 255 (x.refused + 1) } ∧ (t.cx c).excCause = 7 ∧ (t.cx c).excPc = cx.pc ∧
         (t.cx c).g = cx.g ∧ t.mem = (s.fetched c).mem) ∧
       (a.val.toNat ≤ x.value → Runs (.tcwait c w) s c { cx with pc := s.nextPc c }) ∧
       (x.value < a.val.toNat → Does (.tcwait c w) s fun t =>
         t.cx c = { cx with
           st := .waiting, wait := some (.tally n a.val), waitBlk := ⟨true, false, 3, 0, n, now, a.val, cx.pc⟩
           stepping := (t.cx c).stepping } ∧ (t.core k).tallies = core.tallies ∧ t.mem = (s.fetched c).mem)) ∧
     (namedOnly [(45, 41), (27, 24)] w = true → Free s c [.g (fYra w)] → a.poison = true →
       Traps (.tcadd c w) s c 5 0 0 (cx.latch.getD 0) ∧ Traps (.tcwait c w) s c 5 0 0 (cx.latch.getD 0)) ∧
     (namedOnly [(40, 36), (27, 24)] w = true → Free s c [.g (fYrb w)] →
       Writes (.tcrd c w) s c (fYrb w) ⟨BitVec.ofNat 64 x.value, false⟩)) ∧
  (∀ (s : State) (c : CtxId) (w : Low56), Ready false s c w →
     let u := s.fetched c
     let cx := s.cx c
     let g (r : Nat) : GReg := cx.greg r
     let adds (u : State) (i : Instr) (kind : ReqKind) (a : Word) (size : Nat) (data : List (BitVec 8)) (poison : Option Word) : Prop :=
       Does i s fun t => (∃ r ∈ t.reqs, r.id = s.nextId ∧ r.die = c.die.val ∧ r.core = c.core.val ∧ r.ctx = c.ctx.val ∧
           r.kind = kind ∧ r.addr = a ∧ r.size = size ∧ r.data = data ∧ r.poison = poison ∧ r.pc = cx.pc ∧ r.stage = .queued ∧
           r.dead = false ∧ (kind.signal = true → r.covers = u.coversOf c a ∧
             r.errMark = cx.failedTo.contains (if u.isHere (placeOf a) then 0xFFFFFF else placeOf a))) ∧
         t.reqs.length = s.reqs.length + 1 ∧ t.nextId = s.nextId + 1 ∧ (t.cx c).pc = s.nextPc c ∧ (t.cx c).g = cx.g ∧
         (∀ j, j ≠ c.key → t.core j = s.core j) ∧ t.mem = u.mem
     let goes (a : Word) (n : Nat) : Prop := u.targetBad a n = false ∧ a.toNat % 8 = 0 ∧ a.toNat % 64 + n ≤ 64 ∧
       (u.remoteWrites c).length < 32 ∧ u.fippleRoom c.key c.ctx.val = true
     (namedOnly [(51, 46), (45, 41)] w = true → fYv w < 48 → Free s c [.g (fYra w)] → (g (fYra w)).poison = false →
       u.targetBad (g (fYra w)).val 1 = false → (u.remoteWrites c).length < 32 →
       adds u (.vsetr c w) (.valveSet (fYv w)) (g (fYra w)).val 0 [] none) ∧
     (namedOnly [(45, 41), (40, 36), (27, 24)] w = true → Free s c [.g (fYra w), .g (fYrb w)] →
       (g (fYra w)).poison = false → (g (fYrb w)).poison = false → u.targetBad (g (fYra w)).val 1 = false →
       (u.remoteWrites c).length < 32 →
       adds u (.tcaddr c w) (.tallyAdd (fYtc w) (g (fYrb w)).val) (g (fYra w)).val 0 [] none) ∧
     ((fFv w < 48 ∨ fFv w = 63) → Free s c [.g (fFra w), .g (fFrb w)] → (g (fFra w)).poison = false →
       (g (fFrb w)).poison = false →
       (namedOnly [(51, 47), (46, 42), (38, 33)] w = true → goes (g (fFrb w)).val 8 →
         adds u (.fsendr c w) (.fipple (fFv w)) (g (fFrb w)).val 8 (leBytes 8 (g (fFra w)).val.toNat) none) ∧
       (namedOnly [(51, 47), (46, 42), (41, 39), (38, 33)] w = true → goes (g (fFrb w)).val (8 * fFlen w) →
         ∀ off, ownAccess c (g (fFra w)).val 8 = .near off → (g (fFra w)).val.toNat % 64 + 8 * fFlen w ≤ 64 →
         (u.readMem (sramMla c.key off) (8 * fFlen w)).2.2 = none →
         adds (u.readMem (sramMla c.key off) (8 * fFlen w)).1 (.fsend c w) (.fipple (fFv w)) (g (fFrb w)).val (8 * fFlen w) (u.readMem (sramMla c.key off) (8 * fFlen w)).2.1
           none)))

/-! ### CCB commands and register writes -/

/-- The commands of CCB_CMD that act on one context (03 R83, R85, R86, Tables 3-14, 3-15): in its required state, with no command
in progress and the core not fenced, each has its effect on that context alone; otherwise CMD_REFUSED is set and nothing else
changes.
CORE RESET with and without zero fill, the division of the core, and the die supervisor's report of a stop (03 R57, R77, R83
to R87): a reset leaves every context, tile, valve, counter and slot as cold start does (a slot's arm generation and its numbering
toward a receiver go on, log 20), and the zero fill all 4 MiB; a division out of range is refused, and one written while a job
runs is rejected and counted (00 R9). A stop of cause 0x0B or 0x0C fences the core, which is counted once (R87, R88). -/
def Obligations.ContextAndCoreCommands : Prop :=
  (∀ (s : State) (c : CtxId),
     let k := c.key
     let core := s.core k
     let d := s.cx c
     let y : Nat := 1 - c.ctx.val
     let refuses (i : Instr) : Prop := exec i s = .next (s.updCore k (fun e => { e with cmdRefused := true }))
     let rest (t : State) : Prop := t.ctx k y = s.ctx k y ∧ (∀ j, j ≠ k → t.core j = s.core j) ∧ t.mem = s.mem ∧
       (t.core k).valves = core.valves ∧ (t.core k).tallies = core.tallies ∧ t.poison = s.poison
     (core.cmdBusy = false → core.fenced = none → d.st = .halted → d.excCause = 0 → Does (.ccbStart c) s fun t =>
       t.cx c = { d with st := .running, latch := none, startId := s.nextId, failedTo := [] } ∧ (t.core k).ibuf = [] ∧
       (t.core k).tiles = core.tiles ∧ (∀ n, n < 16 → core.slotOwner n = c.ctx.val → ((t.core k).slot n).paused = false) ∧ rest t) ∧
     (core.cmdBusy = true ∨ core.fenced ≠ none ∨ d.st ≠ .halted ∨ d.excCause ≠ 0 → refuses (.ccbStart c)) ∧
     (core.cmdBusy = false → d.st = .running ∨ d.st = .waiting → Does (.ccbHalt c) s fun t =>
       (t.cx c).st = .halted ∧ (t.cx c).pc = d.pc ∧ (t.cx c).wait = none ∧ (t.cx c).vecPend = [] ∧ (t.cx c).stepping = .off ∧
       (t.core k).queues = core.queues ∧ (t.core k).runs = core.runs ∧ (t.core k).slots = core.slots ∧ rest t) ∧
     (core.cmdBusy = true ∨ d.st = .halted ∨ d.st = .stopped → refuses (.ccbHalt c)) ∧
     (core.cmdBusy = false → core.fenced = none → d.st = .halted → Does (.ccbStep c) s fun t =>
       t.cx c = { d with st := .running, stepping := .armed } ∧ (t.core k).cmdBusy = true ∧ (t.core k).tiles = core.tiles ∧ rest t) ∧
     (core.cmdBusy = true ∨ core.fenced ≠ none ∨ d.st ≠ .halted → refuses (.ccbStep c)) ∧
     (core.cmdBusy = false → core.fenced = none → d.st = .stopped → Does (.ccbClearException c) s fun t =>
       t.cx c = { d with
         excCause := 0, excUnit := 0, excSlot := 0, excPc := 0, excAddr := 0, excLoc := 0, inh := false, st := .halted } ∧
       (t.core k).slots = core.slots ∧ (t.core k).tiles = core.tiles ∧ rest t) ∧
     (core.cmdBusy = true ∨ core.fenced ≠ none ∨ d.st ≠ .stopped → refuses (.ccbClearException c)) ∧
     (core.cmdBusy = false → d.st = .halted ∨ d.st = .stopped → Does (.ccbContextReset c) s fun t =>
       t.cx c = { Ctx.zero with
         handled := d.handled, discarded := min 65535 (d.discarded + (core.queued c.ctx.val).length), stopReport := d.stopReport } ∧
       (∀ e, e < 4 → (t.core k).queue e c.ctx.val = [] ∧ (t.core k).queue e y = core.queue e y) ∧
       (∀ n, n < 16 → if core.slotOwner n = c.ctx.val then (t.core k).slot n = (core.slot n).cleared
         else (t.core k).slot n = core.slot n) ∧
       (∀ n, n < 32 → if core.tileOwner (n % 8) = c.ctx.val then (t.core k).tile n = ⟨0, 0, 0⟩ else (t.core k).tile n = core.tile n) ∧
       rest t) ∧
     (core.cmdBusy = true ∨ d.st = .running ∨ d.st = .waiting → refuses (.ccbContextReset c))) ∧
  (∀ (s : State) (k : CoreId),
     let core := s.core k.key
     let m := sramMla k.key 0
     let zeroCtx (d : Ctx) : Prop := d.st = .halted ∧ d.pc = 0 ∧ d.g = [] ∧ d.p = [] ∧ d.v = [] ∧ d.flags = 0 ∧ d.hen = false ∧
       d.inh = false ∧ d.wait = none ∧ d.vecPend = []
     let zeroCore (t : State) : Prop := zeroCtx (t.ctx k.key 0) ∧ zeroCtx (t.ctx k.key 1) ∧ (t.core k.key).valves = [] ∧
       (t.core k.key).tallies = [] ∧ (t.core k.key).tiles = [] ∧ (t.core k.key).ibuf = [] ∧ (t.core k.key).lateDrops = 0 ∧
       (∀ n, n < 16 → (t.core k.key).slot n = (core.slot n).cleared) ∧
       (∀ e, e < 4 → (t.core k.key).queue e 0 = [] ∧ (t.core k.key).queue e 1 = []) ∧ ∀ j, j ≠ k.key → t.core j = s.core j
     let ready : Prop := core.cmdBusy = false ∧ core.fenced = none ∧ core.quiet 0 = true ∧ core.quiet 1 = true ∧
       (s.obj .moduleState < 2 ∨ 4 < s.obj .moduleState)
     (ready → (Does (.ccbCoreReset k) s fun t => zeroCore t ∧ t.mem = s.mem ∧ t.poison = s.poison) ∧
       Does (.ccbCoreResetZeroFill k) s fun t => zeroCore t ∧
         (∀ a, m ≤ a → a < m + 2 ^ 22 → memByte t.mem a = 0 ∧ t.granule (a / 64) = none) ∧
         (∀ a, a < m ∨ (m + 2 ^ 22 ≤ a ∧ a < 2 ^ 45) → memByte t.mem a = memByte s.mem a)) ∧
     (¬ ready → exec (.ccbCoreReset k) s = .next (s.updCore k.key (fun e => { e with cmdRefused := true })) ∧
       exec (.ccbCoreResetZeroFill k) s = .next (s.updCore k.key (fun e => { e with cmdRefused := true }))) ∧
     (∀ v : Word,
       let t1 := bitsOf v.toNat 30 24
       let t0 := bitsOf v.toNat 22 16
       let s0 := bitsOf v.toNat 12 8
       let a0 := bitsOf v.toNat 3 0
       let idle := s.obj .moduleState < 2 ∨ 4 < s.obj .moduleState
       let fits := t0 + t1 ≤ 64 ∧ a0 ≤ 8 ∧ s0 ≤ 16
       (idle → fits → exec (.ctxSplitWrite k v) s =
         .next (s.updCore k.key (fun e => { e with treq0 := t0, treq1 := t1, slot0 := s0, acc0 := a0 }))) ∧
       (idle → ¬ fits → exec (.ctxSplitWrite k v) s = .next (s.updCore k.key (fun e => { e with cmdRefused := true }))) ∧
       (¬ idle → exec (.ctxSplitWrite k v) s =
         .next (s.updCore k.key (fun e => { e with cmdRefused := true, rejects := e.rejects + 1 })))) ∧
     (∀ x : Fin 2,
       let c : CtxId := ⟨k.die, k.core, x⟩
       let d := s.cx c
       (d.stopReport = false → Idles (.supervisorStopReport c) s) ∧
       (d.stopReport = true → d.excCause ≠ 8 → d.excCause ≠ 0xB → d.excCause ≠ 0xC → Does (.supervisorStopReport c) s fun t =>
         t.cx c = { d with stopReport := false } ∧ (∀ j, j ≠ k.key → t.core j = s.core j) ∧ t.mem = s.mem ∧
         t.obj .evseq = (s.obj .evseq + 1) % 2 ^ 32 ∧
         ∃ e, t.chb.events.head? = some e ∧ e.code = 0x0301 ∧ e.outcome = 4 ∧ e.arg8 = x.val * 128 + d.excCause % 128 ∧
           e.arg16 = k.key ∧ e.data = d.excLoc ∧ e.gtc = s.gtc) ∧
       (d.stopReport = true → d.excCause = 0xB ∨ d.excCause = 0xC → Does (.supervisorStopReport c) s fun t =>
         (t.core k.key).fenced = some d.excCause ∧ (t.cx c).stopReport = false ∧ t.mem = s.mem ∧
         (core.fenced = none → t.obj .coresFenced = s.obj .coresFenced + 1) ∧
         (core.fenced ≠ none → t.obj .coresFenced = s.obj .coresFenced))))

/-- REGISTER_WRITE under the access codes (00 R9, 02 Table 2-4, R39, 03 R79, R80, Table 3-7): a program writes HEN, HANDLER and
the sticky flags of its own context alone, and a write to any other CCB word takes cause 0x04 in a context that can issue; the
host and a die supervisor write CCB_CTL, the breakpoint, and a register window while its context is quiet, and a refused window
write sets CMD_REFUSED; an address past BAR2 is counted and changes nothing else, and a misaligned word is no register. -/
def Obligations.RegisterWrites : Prop :=
  (∀ (s : State) (k : CoreId) (x : Fin 2) (off : Nat) (addr : BitVec 40) (v : Word), addr.toNat % 8 = 0 →
    s.region addr.toNat = .ccb k.key off →
    let core := s.core k.key
    let d := s.ctx k.key x.val
    let base := 0x100 + x.val * 0x80
    let own : CtxId := ⟨k.die, k.core, x⟩
    let puts (who : Requester) (e : Core) : Prop := exec (.registerWrite who addr v) s = .next (s.setCore k.key e)
    let written (e : Core → Core) : Prop :=
      puts .host (e core) ∧ ∀ sup, Does (.registerWrite (.supervisor sup) addr v) s fun t =>
        t.core k.key = e core ∧ (∀ j, j ≠ k.key → t.core j = s.core j) ∧ t.mem = s.mem
    (off = base → puts (.prog own) (core.setCtx x.val { d with hen := v.getLsbD 0 })) ∧
    (off = base + 0x18 → puts (.prog own) (core.setCtx x.val { d with handler := BitVec.ofNat 19 (v.toNat / 8) })) ∧
    (off = base + 0x40 → ∀ i, i < 12 → Does (.registerWrite (.prog own) addr v) s fun t =>
      (t.ctx k.key x.val).flags.getLsbD i = (d.flags.getLsbD i && !v.getLsbD i) ∧ ∀ j, j ≠ k.key → t.core j = s.core j) ∧
    (∀ c : CtxId, c ≠ own ∨ (off ≠ base ∧ off ≠ base + 0x18 ∧ off ≠ base + 0x40) →
      (∀ y : Fin 2, c = ⟨k.die, k.core, y⟩ →
        off ≠ 0x100 + y.val * 0x80 ∧ off ≠ 0x100 + y.val * 0x80 + 0x18 ∧ off ≠ 0x100 + y.val * 0x80 + 0x40) →
      ((s.core c.key).canIssue c.ctx.val = true → s.gatedCore c.key = false → exec (.registerWrite (.prog c) addr v) s =
        .next (s.takeException c.key c.ctx.val ⟨4, 0, 0, (s.cx c).pc, globalHere addr.toNat, 0⟩)) ∧
      ((s.core c.key).canIssue c.ctx.val = false ∨ s.gatedCore c.key = true → Idles (.registerWrite (.prog c) addr v) s)) ∧
    (s.asleep k.key = false → s.memoryOff (.ccb k.key off) = false → addr.toNat < 2 ^ 38 → off + 8 ≤ 2 ^ 16 → off % 8 = 0 →
      (off = 0x0008 → written fun e => { e with
        brkEn := v.getLsbD 3, ibufEn := v.getLsbD 2, perfEn := v.getLsbD 1, haltBoth := v.getLsbD 0 }) ∧
      (off = 0x0028 → written fun e => { e with brkPc := BitVec.ofNat 19 (v.toNat / 8) }) ∧
      (∀ r, r < 32 → off = 0x1000 + x.val * 0x100 + 8 * r →
        (d.st = .halted ∨ d.st = .stopped → written fun e => e.setCtx x.val (d.setG r ⟨v, (d.greg r).poison⟩)) ∧
        (core.fenced = none → d.st = .running ∨ d.st = .waiting → written fun e => { e with cmdRefused := true })))) ∧
  (∀ (s : State) (addr : BitVec 40) (v : Word),
    (addr.toNat % 8 = 0 → 2 ^ 38 ≤ addr.toNat → exec (.registerWrite .host addr v) s = .next (s.incObj .addrErrorsHost)) ∧
    (addr.toNat % 8 ≠ 0 → ∀ who, Idles (.registerWrite who addr v) s))

/-! ### The stream controller -/

/-- The stream controller and its tile requests (07 R203, R208, R213 to R215, R218, R225 to R229): the slot that is served issues
its next request, which joins its requests in flight, or faults at a bad address; a part is read or written at its unit on this
module and answered there; an answer that stands at the core is taken, and a tile with all its answers lands in its ring position
and is presented in order, or completes in order where it was written; a part past its tier's timeout fails its tile; a stall past
STREAM_WDT faults the slot with reason 9.
Pushes, credits, REDUCE and ROTATE (07 R216 to R218, R232 to R236): a push takes one credit and carries the next tile with its number
in its receiver's stream; a pushed tile lands where its generation and number are due and is dropped and counted elsewhere; a
credit joins the slot that pushes, or is banked by a Closed slot; a pair that is present is summed over child 0's position; a
ROTATE slot forwards its next present tile to the next core of its cluster, where it lands in the half of the next step. -/
def Obligations.StreamsPushesAndRings : Prop :=
  (∀ (s : State) (k : CoreId) (n : Nat) (id : Nat),
     let x := (s.core k.key).slot n
     let slot (t : State) : Slot := (t.core k.key).slot n
     let gone (t : State) : Prop := ∀ q ∈ (slot t).inflight, q.id ≠ id
     let known (u : State) (t0 : TileReq) : Prop := u.findTile id = some (k.key, some n, t0) ∧
       (u.core k.key).findTile id = some (some n, t0) ∧ t0 ∈ ((u.core k.key).slot n).inflight
     (s.gatedCore k.key = true → Idles (.streamRequestIssue k) s) ∧
     (s.gatedCore k.key = false →
       let u := (List.range 32).foldl (fun t i => t.ownIndex k.key (i % 16)) s
       let y := (u.core k.key).slot n
       (u.nextServed k.key = none → exec (.streamRequestIssue k) s = .next u) ∧
       (∀ c g ps, u.nextServed k.key = some (c, n) → u.plan y = .tile g ps → (∀ q ∈ y.inflight, q.id ≠ u.nextId) →
         (∃ p ∈ ps, p.addr.isSome = true ∧ p.ans = none) → (∀ p ∈ ps, ∀ a, p.addr = some a → u.isHere (placeOf a) = true) →
         Does (.streamRequestIssue k) s fun t => (slot t).nextMem = y.nextMem + 1 ∧
           ∃ q, (slot t).inflight = y.inflight ++ [q] ∧ q.id = u.nextId ∧ q.tile = g ∧ q.index = none ∧ q.write = (y.kind == 1) ∧
             q.pieces.map (fun p => p.addr) = ps.map (fun p => p.addr)) ∧
       (∀ c a, u.nextServed k.key = some (c, n) → u.plan y = .index a → u.isHere (placeOf a) = true →
         Does (.streamRequestIssue k) s fun t => (slot t).inflight = y.inflight ++
             [⟨u.nextId, y.nextMem, some a, false, [Piece.ask a], 0, u.dieGtc k.die.val⟩] ∧ t.mem = u.mem) ∧
       (∀ c r, u.nextServed k.key = some (c, n) → u.plan y = .fault r → r = 2 ∨ r = 3 → Does (.streamRequestIssue k) s fun t =>
         (slot t).fault = r ∧ (slot t).st = .faulted ∧ (slot t).inflight = y.inflight)) ∧
     (∀ (t0 : TileReq) (p : Piece) (q : Nat) (leg : FabPkt) (a : Word) (u : State) (b : Nat),
       known s t0 → t0.pieces[q]? = some p → p.addr = some a → p.resp = none → p.out = none → t0.write = false →
       s.findReq id = none → (∀ d ∈ s.pushes, d.id ≠ id) → s.legFor (id * 256 + 2 * q) 3 = some leg →
       s.isHere (placeOf a) = true → s.memoryOff (s.region (mlaOf a)) = false → s.fillWaits (s.region (mlaOf a)) = false →
       (∀ j off, s.region (mlaOf a) = .sram j off → s.asleep j = false) →
       s.poolAccess (mlaOf a) t0.pieceBytes false true = (u, some b) → (∀ off, regionOf b ≠ .aperture off) →
       Does (.endpointRequestArrive id q) s fun t =>
         ∃ t1 p1 ans, (t.core k.key).findTile id = some (some n, t1) ∧ t1.pieces[q]? = some p1 ∧ p1.resp = some (0, ans) ∧
           ans.ok = true ∧ ans.payload = memBytes t.mem b t0.pieceBytes) ∧
     (∀ (t0 : TileReq) (p : Piece) (a : PieceAns) (leg : FabPkt), known s t0 → t0.pieces = [p] → p.ans = none →
       p.resp = some (0, a) → a.ok = true → p.bad = false → s.standing (id * 256 + 1) = some leg → x.conv = false →
       (t0.write = false → t0.index = none → x.kind = 0 → x.pieces = 1 → Does (.streamResponseLand id) s fun t => gone t ∧
         (slot t).failed = x.failed ∧ (t0.tile = x.presented → x.presented < (slot t).presented) ∧
         (a.poison = [] → a.payload.length = 4096 → x.ringBase % 4096 = 0 →
           memBytes t.mem (x.posMla (x.posOf t0.tile)) 4096 = a.payload)) ∧
       (t0.write = true → x.kind = 1 ∨ x.kind = 3 → Does (.storeWriteAck id) s fun t => gone t ∧ t.mem = s.mem ∧
         (slot t).failed = x.failed ∧ (t0.tile = x.completed → x.completed < (slot t).completed))) ∧
     (∀ (t0 : TileReq) (p : Piece) (st : Nat) (a : PieceAns) (leg : FabPkt), known s t0 → t0.pieces = [p] →
       p.ans = none → p.resp = some (st, a) → a.ok = false → s.standing (id * 256 + 1) = some leg → x.conv = false →
       (t0.write = false → t0.index = none → x.kind = 0 → Does (.streamResponseLand id) s fun t => gone t ∧ (slot t).failed = x.failed + 1 ∧
         (t0.tile = x.presented → x.presented < (slot t).presented)) ∧
       (t0.write = true → x.kind = 1 ∨ x.kind = 3 → Does (.storeWriteAck id) s fun t => gone t ∧
         (slot t).failed = x.failed + 1 ∧ (t0.tile = x.completed → x.completed < (slot t).completed))) ∧
     (∀ (t0 : TileReq), known s t0 → (∃ p ∈ t0.pieces, p.addr.isSome = true ∧ p.ans = none ∧ p.resp = none) →
       (t0.write = false → Does (.streamResponseLand id) s fun t => (∃ t1, known t t1 ∧ t1.tile = t0.tile) ∧ t.mem = s.mem) ∧
       (t0.write = true → Does (.storeWriteAck id) s fun t => (∃ t1, known t t1 ∧ t1.tile = t0.tile) ∧ t.mem = s.mem)) ∧
     (∀ (t0 : TileReq) (p : Piece) (a : Word), known s t0 → t0.pieces = [p] → t0.target p = some a → p.ans = none →
       p.got = false → x.kind ≠ 5 → (s.isHere (placeOf a) = false ∨ coreOfWord a ≠ some k.key) →
       (s.tierTimeout (s.tierOf a) ≤ s.dieGtc k.die.val - t0.sentAt → Does (.tileRequestTimeout id) s fun t => gone t ∧
         (t0.write = true ∨ t0.index = none → (slot t).failed = x.failed + 1) ∧ ∃ o ∈ (t.core k.key).orphans, o.req.id = t0.id ∧ o.held = false) ∧
       (s.dieGtc k.die.val - t0.sentAt < s.tierTimeout (s.tierOf a) → Idles (.tileRequestTimeout id) s)) ∧
     (∀ (t0 : TileReq) (q : Nat) (p : Piece) (leg : FabPkt) (a : Word) (o : PieceAns) (u : State) (b : Nat),
       known s t0 → t0.write = true → t0.pieces[q]? = some p → p.addr = some a → p.resp = none → p.out = some o →
       s.legFor (id * 256 + 2 * q) 1 = some leg →
       s.isHere (placeOf a) = true → s.memoryOff (s.region (mlaOf a)) = false → s.fillWaits (s.region (mlaOf a)) = false →
       (∀ j off, s.region (mlaOf a) = .sram j off → s.asleep j = false) →
       s.poolAccess (mlaOf a) t0.pieceBytes true true = (u, some b) → (∀ off, regionOf b ≠ .aperture off) →
       Does (.storeWrite id q) s fun t =>
         (o.poison = [] → o.payload.length % 64 = 0 → b % 64 = 0 → b + o.payload.length ≤ 2 ^ 45 →
           memBytes t.mem b o.payload.length = o.payload) ∧
         ∃ t1 p1, (t.core k.key).findTile id = some (some n, t1) ∧ t1.pieces[q]? = some p1 ∧
           p1.resp = some (0, ⟨true, [], [], [], []⟩)) ∧
     (∀ m : Fin 16, m.val = n →
       (x.peerStalled = true → 1000000 * s.obj .streamWdt ≤ s.countedSince x.progressAt →
         Does (.streamWatchdogExpiry k m) s fun t => (slot t).fault = 9 ∧ (slot t).st = .faulted ∧
           (∀ d, d = s.ctx k.key ((s.core k.key).slotOwner n) → d.st ≠ .stopped → d.inh = false →
             (t.ctx k.key ((s.core k.key).slotOwner n)).excCause = 6 ∧ (t.ctx k.key ((s.core k.key).slotOwner n)).excSlot = n)) ∧
       (x.peerStalled = false → Idles (.streamWatchdogExpiry k m) s))) ∧
  (∀ (s : State) (k : CoreId) (n : Fin 16) (id : Nat),
     let x := (s.core k.key).slot n.val
     let slot (t : State) : Slot := (t.core k.key).slot n.val
     let sent (p : Push) : Prop := s.pushes.find? (fun q => q.id == id && q.rotate == p.rotate) = some p ∧ p.dstSlot = n.val
     (s.gatedCore k.key = false →
       (x.credits = [] → Idles (.pushTileSend k n) s) ∧
       (∀ gen more, x.credits = gen :: more → (x.st = .active ∨ x.st = .ended) → x.paused = false →
         (x.kind = 3 ∧ x.nextMem < x.handed) ∨ (x.kind = 4 ∧ x.outLocal = false ∧ x.nextMem < x.sums) →
         (s.peerBad x.receiver = true → Does (.pushTileSend k n) s fun t => (slot t).fault = 2 ∧ (slot t).st = .faulted) ∧
         (s.isHere (placeOf x.receiver) = true → s.peerBad x.receiver = false → Does (.pushTileSend k n) s fun t =>
           (slot t).credits = more ∧ (slot t).nextMem = x.nextMem + 1 ∧ ∃ p, t.pushes = s.pushes ++ [p] ∧ p.id = s.nextId ∧
             p.srcDie = k.die.val ∧ p.srcCore = k.core.val ∧ p.srcSlot = n.val ∧ p.dst = x.receiver ∧
             p.dstSlot = x.peerSlot ∧ p.child = x.peerChild ∧ p.gen = gen ∧
             p.seq = x.nextSeq (s.peerKey x.receiver (x.peerSlot * 2 + x.peerChild)) gen ∧
             (slot t).pushSeq = p.seq + 1 ∧ (slot t).pushGen = gen ∧ p.failedTile = false ∧
             p.payload = memBytes t.mem (x.posMla (x.posOf x.nextMem)) 4096)) ∧
       (∀ a b, x.kind = 4 → (x.st = .active ∨ x.st = .ended) → x.child0.contains x.sums = true → x.child1.contains x.sums = true →
         s.readPayload (x.posMla (x.sums % (x.ring / 2))) 4096 = a →
         a.1.readPayload (x.posMla (x.ring / 2 + x.sums % (x.ring / 2))) 4096 = b → Does (.reduceSum k n) s fun t =>
           (slot t).sums = x.sums + 1 ∧ (slot t).child0 = x.child0.erase x.sums ∧ (slot t).child1 = x.child1.erase x.sums ∧
           (a.2.poison = [] → b.2.poison = [] → x.ringBase % 4096 = 0 →
             ∀ i, i < 1024 → leNat (memBytes t.mem (x.posMla (x.sums % (x.ring / 2)) + 4 * i) 4) =
               (reduceLane (x.fsrc == 0xD) (fieldAt 32 (leNat a.2.payload) i) (fieldAt 32 (leNat b.2.payload) i)).1 % 2 ^ 32)) ∧
       (x.kind ≠ 4 → Idles (.reduceSum k n) s) ∧
       (let u := (List.range 16).foldl (fun t i => t.rotateCopy k.key i) s
        let y := (u.core k.key).slot n.val
        ((List.range 16).map (fun i => ((u.core k.key).lastRot + 1 + i) % 16)).find?
            (fun i => ((u.core k.key).slot i).canForward) = some n.val →
         Does (.rotateForward k) s fun t => (t.core k.key).lastRot = n.val ∧ (slot t).nextMem = y.nextForward + 1 ∧
           ∃ p, t.pushes = u.pushes ++ [p] ∧ p.rotate = true ∧ p.seq = y.nextForward ∧ p.dstSlot = n.val ∧
             p.dst = globalHere (sramMla (k.key / 16 * 16 + (k.key + 1) % 16) 0) ∧
             p.payload = memBytes t.mem (y.posMla (y.posOf y.nextForward)) 4096)) ∧
     (∀ p : Push, sent p → p.rotate = false → s.isHere (placeOf p.dst) = true → (∃ off, s.region (mlaOf p.dst) = .sram k.key off) →
       x.conv = false →
       k.key = p.srcDie * 256 + p.srcCore ∨
         (s.asleep k.key = false ∧ s.regionOff k.key = false ∧ ∃ leg, s.legFor (id * 256) 1 = some leg) →
       let key := s.peerKey (globalHere (sramMla (p.srcDie * 256 + p.srcCore) 0)) p.srcSlot
       (s.pushOk x (if x.kind = 4 then p.child else 0) p.gen p.seq key = true → Does (.pushedTileArrive id) s fun t =>
         (∀ q ∈ t.pushes, q.id ≠ id) ∧ (slot t).dropped = x.dropped ∧
         (x.kind = 2 → p.seq = x.presented → x.presented < (slot t).presented) ∧
         (x.kind = 4 → p.child = 0 → (slot t).child0 = x.child0 ++ [p.seq]) ∧
         (x.kind = 4 → p.child ≠ 0 → (slot t).child1 = x.child1 ++ [p.seq])) ∧
       (s.pushOk x (if x.kind = 4 then p.child else 0) p.gen p.seq key = false → Does (.pushedTileArrive id) s fun t =>
         (∀ q ∈ t.pushes, q.id ≠ id) ∧ (slot t).dropped = x.dropped + 1 ∧ t.mem = s.mem)) ∧
     (∀ (c : Credit) (leg : FabPkt), s.credits.find? (fun d => d.id == id && d.dstSlot != mouthSlot) = some c → c.dstSlot = n.val →
       s.standing (id * 256) = some leg → s.isHere (placeOf c.dst) = true →
       (∃ off, s.region (mlaOf c.dst) = .sram k.key off) → s.asleep k.key = false → s.regionOff k.key = false →
       (x.pushes = true → x.st ≠ .closed → s.peerKey x.receiver x.peerSlot = s.peerKey c.origin c.originSlot →
         Does (.pushCreditArrive id) s fun t => (slot t).credits = x.credits ++ [c.gen] ∧ t.mem = s.mem) ∧
       (x.pushes = false → x.st ≠ .closed → Does (.pushCreditArrive id) s fun t =>
         (slot t).dropped = x.dropped + 1 ∧ (slot t).credits = x.credits ∧ t.mem = s.mem ∧ ∀ d ∈ t.credits, d.id ≠ id) ∧
       (x.st = .closed → x.bankOrigin = none → x.credits.length < 64 → Does (.pushCreditArrive id) s fun t =>
         slot t = { x with bankOrigin := some (s.peerKey c.origin c.originSlot), credits := x.credits ++ [c.gen] } ∧
           t.mem = s.mem ∧ ∀ d ∈ t.credits, d.id ≠ id)) ∧
     (∀ p : Push, sent p → p.rotate = true → (p.srcDie * 256 + p.srcCore) / 16 * 16 + (p.srcDie * 256 + p.srcCore + 1) % 16 = k.key →
       let tile := p.seq + p.child
       let due := x.kind = 5 ∧ (x.st = .active ∨ x.st = .ended) ∧ x.count = p.gen ∧ x.group = p.child ∧ tile < x.nextBase ∧
         x.presented ≤ tile ∧ x.landed.contains tile = false ∧ x.halfFree (tile / x.group) = true
       (due → Does (.rotateTileArrive id) s fun t => (∀ q ∈ t.pushes, q.id ≠ id) ∧
         (tile = x.presented → x.conv = false → x.presented < (slot t).presented)) ∧
       (¬ due → Idles (.rotateTileArrive id) s)))

/-! ### Requests, fipples, signals -/

/-- A request on its way and back (06 R173, R174, 08 R245, R254, 07 R237, R238, 09 R282, R284): a far load or store whose leg stands at
a core of this module is served there with status 0; its answer, when it stands at its own core, writes the register, or poisons
it where the access failed; a remote write's failure adds to the remote-error count; an access without an answer fails after its
tier's timeout, and an answer that comes later is discarded; a queued fipple or signal is sent once the writes it waits for are
acknowledged. -/
def Obligations.RequestsCompleteOrFail : Prop :=
  ∀ (s : State) (id : Nat) (r : Req), s.findReq id = some r →
    let cx (t : State) : Ctx := t.ctx r.key r.ctx
    let gone (t : State) : Prop := ∀ q ∈ t.reqs, q.id ≠ id
    let others (t : State) : Prop := ∀ j, j ≠ r.key → t.core j = s.core j
    (∀ k off leg, r.stage = .sent → s.legFor (id * 256) 1 = some leg → s.isHere (placeOf r.addr) = true →
      s.region (mlaOf r.addr) = .sram k off → s.asleep k = false → s.memoryOff (.sram k off) = false →
      (∀ rd sz sx, r.kind = .load rd sz sx → Does (.endpointRequestArrive id 0) s fun t =>
        (∃ data p, ({ r with stage := .answered 0 data p } : Req) ∈ t.reqs ∧ data = memBytes t.mem (mlaOf r.addr) r.size) ∧
          t.cores = s.cores) ∧
      (r.kind = .store → r.poison = none → s.granule (mlaOf r.addr / 64) = none → s.cellErr (mlaOf r.addr / 8 * 8) = CellErr.zero →
        r.data.length ≤ 8 → mlaOf r.addr % 8 + r.data.length ≤ 8 → Does (.endpointRequestArrive id 0) s fun t =>
          memBytes t.mem (mlaOf r.addr) r.data.length = r.data ∧
          (∀ b, b < mlaOf r.addr ∨ mlaOf r.addr + r.data.length ≤ b → memByte t.mem b = memByte s.mem b) ∧
          ({ r with stage := .answered 0 [] none } : Req) ∈ t.reqs ∧ t.cores = s.cores)) ∧
    (∀ rd sz sx st data p, r.kind = .load rd sz sx → r.stage = .answered st data p → r.dead = false → s.answerHome r = true →
      (st = 0 → Does (.farLoadResponse id) s fun t => gone t ∧ (cx t).greg rd = (if rd = 0 then ⟨0, false⟩ else
        ⟨loadValue (2 ^ sz) sx data, p.isSome⟩) ∧ (∀ q, q ≠ rd → (cx t).greg q = (cx s).greg q) ∧
        (cx t).pc = (cx s).pc ∧ others t ∧ t.mem = s.mem) ∧
      (st ≠ 0 → rd ≠ 0 → Does (.farLoadResponse id) s fun t => gone t ∧ ((cx t).greg rd).poison = true ∧
        (∀ q, q ≠ rd → (cx t).greg q = (cx s).greg q) ∧ (cx t).pc = (cx s).pc ∧ others t ∧ t.mem = s.mem)) ∧
    ((∀ rd sz sx, r.kind ≠ .load rd sz sx) → ∀ st data p, r.stage = .answered st data p → r.dead = false →
      s.answerHome r = true → (∀ h ∈ s.hst.hvPend, (h.covers.filter (fun q => q != id)) ≠ []) → Does (.remoteWriteAck id) s fun t => gone t ∧ (cx t).remErr = (cx s).remErr + (if st = 0 then 0 else 1) ∧
        (cx t).g = (cx s).g ∧ (cx t).pc = (cx s).pc ∧ others t ∧ t.mem = s.mem) ∧
    ((∃ st data p, r.stage = .answered st data p) → r.dead = true → s.answerHome r = true →
      ((∃ rd sz sx, r.kind = .load rd sz sx) → Does (.farLoadResponse id) s fun t => gone t ∧ t.cores = s.cores ∧ t.mem = s.mem)) ∧
    ((r.stage = .sent ∨ r.stage = .away) → r.dead = false → r.home = false →
      (s.tierTimeout (s.tierOf r.addr) ≤ s.dieGtc r.die - r.sendTime → Does (.requestTimeout id) s fun t =>
        (∀ q ∈ t.reqs, q.id = id → q.dead = true ∧ q.late = true) ∧ others t ∧ t.mem = s.mem ∧
        (∀ rd sz sx, r.kind = .load rd sz sx → rd ≠ 0 → ((cx t).greg rd).poison = true) ∧
        ((∀ rd sz sx, r.kind ≠ .load rd sz sx) → (cx t).remErr = (cx s).remErr + 1)) ∧
      (s.dieGtc r.die - r.sendTime < s.tierTimeout (s.tierOf r.addr) → Idles (.requestTimeout id) s)) ∧
    (r.stage = .queued → s.isHere (placeOf r.addr) = true →
      ((∃ v, r.kind = .valveSet v) ∨ (∃ n a, r.kind = .tallyAdd n a) →
        (s.signalWaits r = false → Does (.remoteSignalSend id) s fun t =>
          ({ r with stage := .sent, sendTime := s.dieGtc r.die } : Req) ∈ t.reqs ∧ t.cores = s.cores ∧ t.mem = s.mem) ∧
        (s.signalWaits r = true → Idles (.remoteSignalSend id) s)) ∧
      (∀ k : CoreId, (s.fippleQueue k.key).find? (fun q => s.fippleReady q) = some r → Does (.fippleQueueSend k) s fun t =>
        ({ r with stage := .sent, sendTime := s.dieGtc r.die } : Req) ∈ t.reqs ∧ t.cores = s.cores ∧ t.mem = s.mem ∧
          t.obj .fippleSent k.die.val = (s.obj .fippleSent k.die.val + 1) % 2 ^ (8 * Obj.fippleSent.info.width)))

/-- A delivery or a signal at its core (07 R239, 09 R278, R281, R285, R323): the bytes are written and then the valve opens with the
signaller's record, or the counter takes the sum, and the request is answered with status 0; a signal that its sender has given up
changes nothing (R284; which status it is answered with is the model's choice, log 78); at a sleeping core it waits and asks for a
wake.
SYNC_CMD, the host's and the module's own sync commands (09 R289, R292, R295, R297, 10 R323): a valve opens or closes and a counter
takes SYNC_ARG, or CMD_REFUSED is set for a number out of range; at a core whose region is Off nothing changes, and while it sleeps
the write waits; a host valve opens and closes; a core whose contexts both lend or
rest begins to lend; a context that has waited VALVE_WDT takes cause 0x08, is counted, and its wait block keeps FIRED. -/
def Obligations.SignalsAndSync : Prop :=
  (∀ (s : State) (id k off : Nat) (r : Req) (leg : FabPkt), s.findReq id = some r → r.stage = .sent →
     s.isHere (placeOf r.addr) = true → s.region (mlaOf r.addr) = .sram k off → s.legFor (id * 256) 1 = some leg →
     let core := s.core k
     let idle (v : Nat) : Prop := ∀ y, y < 2 → ∀ b, s.waitsFor k y (.valve v b) = false
     let opened (t : State) (v kind : Nat) : Prop := (t.core k).valve v =
       { isOpen := true, opens := if (core.valve v).isOpen then (core.valve v).opens else ((core.valve v).opens + 1) % 65536
         redundant := if (core.valve v).isOpen then min 255 ((core.valve v).redundant + 1) else (core.valve v).redundant
         sigErr := r.errMark, src := s.lsSrc r.key r.ctx kind r.pc, time := r.sendTime, arr := s.dieGtc (k / 256) }
     let answered (t : State) : Prop := ({ r with stage := .answered 0 [] none } : Req) ∈ t.reqs ∧ ∀ j, j ≠ k → t.core j = s.core j
     (s.asleep k = false → s.regionOff k = false → r.late = false →
       (∀ v, r.kind = .fipple v → (v < 48 → idle v) → r.poison = none → off % 64 + r.data.length ≤ 64 →
         s.granule (sramMla k off / 64) = none → (∀ c ∈ cwsOf (sramMla k off) r.data.length, s.cellErr c = CellErr.zero) →
         Does (.fippleDelivery id) s fun t =>
           memBytes t.mem (sramMla k off) r.data.length = r.data ∧
           (∀ b, b < sramMla k off ∨ sramMla k off + r.data.length ≤ b → memByte t.mem b = memByte s.mem b) ∧
           (v < 48 → (t.core k).valve v = { (t.core k).valve v with isOpen := true, sigErr := r.errMark, time := r.sendTime }) ∧
           answered t) ∧
       (∀ v, r.kind = .valveSet v → idle v → Does (.valveOpenArrive id) s fun t => opened t v 2 ∧ answered t ∧ t.mem = s.mem) ∧
       (∀ n a, r.kind = .tallyAdd n a → (core.tally n).value + a.toNat < 2 ^ 64 → Does (.tallyAddArrive id) s fun t =>
         ((t.core k).tally n).value = (core.tally n).value + a.toNat ∧ ((t.core k).tally n).sigErr = r.errMark ∧ answered t ∧
           t.mem = s.mem) ∧
       (∀ n a, r.kind = .tallyAdd n a → 2 ^ 64 ≤ (core.tally n).value + a.toNat → Does (.tallyAddArrive id) s fun t =>
         ((t.core k).tally n).value = (core.tally n).value ∧ ({ r with stage := .answered 4 [] none } : Req) ∈ t.reqs ∧
           t.mem = s.mem)) ∧
     (s.asleep k = false → r.late = true →
       let unheeded (t : State) : Prop := t.cores = s.cores ∧ t.mem = s.mem ∧ ({ r with stage := .answered 2 [] none } : Req) ∈ t.reqs
       (∀ v, r.kind = .fipple v → v ≠ 63 → Does (.fippleDelivery id) s unheeded) ∧
       (∀ v, r.kind = .valveSet v → Does (.valveOpenArrive id) s unheeded) ∧
       (∀ n a, r.kind = .tallyAdd n a → Does (.tallyAddArrive id) s unheeded)) ∧
     (s.asleep k = true →
       let waits (t : State) : Prop := t.cores = s.cores ∧ t.reqs = s.reqs ∧ regionOfCore k ∈ t.pwr.wakes ∧ id * 256 ∈ t.pwr.held
       (∀ v, r.kind = .fipple v → Does (.fippleDelivery id) s waits) ∧ (∀ v, r.kind = .valveSet v → Does (.valveOpenArrive id) s waits) ∧
       (∀ n a, r.kind = .tallyAdd n a → Does (.tallyAddArrive id) s waits))) ∧
  (∀ (s : State) (k : CoreId) (host : Bool) (v : BitVec 6) (h : Fin 256),
     let core := s.core k.key
     let n := v.toNat
     let src := s.lsHub (if host then 5 else 6)
     let refuses (i : Instr) : Prop := exec i s = .next (s.updCore k.key (fun c => { c with cmdRefused := true }))
     let off := if host then s.incObj .poolRefusals else s
     (s.regionOff k.key = true → exec (.syncOpenValve k host v) s = .next off ∧ Idles (.syncCloseValve k v) s ∧
       exec (.syncAddCounter k host v) s = .next off) ∧
     (s.regionOff k.key = false → s.asleep k.key = true → ∀ i, i = .syncOpenValve k host v ∨ i = .syncCloseValve k v ∨
       i = .syncAddCounter k host v → Does i s fun t => t.cores = s.cores ∧ regionOfCore k.key ∈ t.pwr.wakes) ∧
     (s.regionOff k.key = false → s.asleep k.key = false →
     (n < 48 → (∀ y, y < 2 → ∀ b, s.waitsFor k.key y (.valve n b) = false) → Does (.syncOpenValve k host v) s fun t =>
       (t.core k.key).valve n =
         { isOpen := true, opens := if (core.valve n).isOpen then (core.valve n).opens else ((core.valve n).opens + 1) % 65536
           redundant := if (core.valve n).isOpen then min 255 ((core.valve n).redundant + 1) else (core.valve n).redundant
           sigErr := false, src := src, time := s.gtc, arr := s.dieGtc k.die.val } ∧
       (∀ m, m ≠ n → (t.core k.key).valve m = core.valve m) ∧ (∀ j, j ≠ k.key → t.core j = s.core j) ∧ t.mem = s.mem) ∧
     (n < 48 → ∀ y, y < 2 → (s.ctx k.key y).stepping = .off → s.waitsFor k.key y (.valve n false) = true →
       Does (.syncOpenValve k host v) s fun t => (t.ctx k.key y).st = .running ∧ (t.ctx k.key y).pc = (s.ctx k.key y).pc + 1 ∧
         (t.ctx k.key y).wait = none ∧ (t.ctx k.key y).g = (s.ctx k.key y).g) ∧
     (n < 48 → exec (.syncCloseValve k v) s =
       .next (s.setCore k.key (core.setValve n { core.valve n with isOpen := false }))) ∧
     (48 ≤ n → refuses (.syncOpenValve k host v) ∧ refuses (.syncCloseValve k v)) ∧
     (n < 16 → (core.tally n).value + core.syncArg.toNat < 2 ^ 64 → Does (.syncAddCounter k host v) s fun t =>
       (t.core k.key).tally n = { core.tally n with
         value := (core.tally n).value + core.syncArg.toNat, sigErr := false, src := src, time := s.gtc } ∧
       (t.core k.key).cmdRefused = core.cmdRefused ∧ t.mem = s.mem) ∧
     (n < 16 → 2 ^ 64 ≤ (core.tally n).value + core.syncArg.toNat → Does (.syncAddCounter k host v) s fun t =>
       ((t.core k.key).tally n).value = (core.tally n).value ∧ (t.core k.key).cmdRefused = true ∧ t.mem = s.mem) ∧
     (16 ≤ n → refuses (.syncAddCounter k host v))) ∧
     (Does (.hvOpenWrite h) s fun t => t.hostValve h.val = { s.hostValve h.val with
         isOpen := true, src := s.lsHub 5, time := s.gtc, arr := s.gtc
         opens := if (s.hostValve h.val).isOpen then (s.hostValve h.val).opens else ((s.hostValve h.val).opens + 1) % 65536 } ∧
       (∀ g, g ≠ h.val → t.hostValve g = s.hostValve g) ∧ t.mem = s.mem) ∧
     (exec (.hvCloseWrite h) s = .next (s.setHostValve h.val { s.hostValve h.val with isOpen := false })) ∧
     (core.lendSince = none → core.unitsIdle = true →
       (∀ y, y < 2 → (core.ctx y).st = .halted ∨ (core.ctx y).st = .stopped ∨ ((core.ctx y).st = .waiting ∧
         (∃ f, (core.ctx y).wait = some f ∧ ∀ a b c, f ≠ .fence a b c) ∧
         1000 * s.obj .lendThresh ≤ s.dieGtc k.die.val - (core.ctx y).waitBlk.since)) →
       exec (.lendingStart k) s = .next (s.setCore k.key { core with lendSince := some s.gtc })) ∧
     ((∃ y, y < 2 ∧ (core.ctx y).st = .running) → Idles (.lendingStart k) s) ∧
     (∀ y, y < 2 → awf Core.zero s.cores = true → (s.ctx k.key y).st = .waiting → (s.ctx k.key y).stepping = .off →
       1000000 * s.obj .valveWdt ≤ s.countedSince (s.ctx k.key y).waitBlk.since → s.overdue k.die.val = [(k.key, y)] →
       Does (.valveWatchdogScan k.die) s fun t => (t.ctx k.key y).excCause = 8 ∧ (t.ctx k.key y).st = .stopped ∧
         (t.ctx k.key y).waitBlk.fired = true ∧ (t.ctx k.key y).waitBlk.live = false ∧
         (t.ctx k.key y).excPc = (s.ctx k.key y).pc) ∧
     (s.overdue k.die.val = [] → Idles (.valveWatchdogScan k.die) s))

/-! ### Hang census, pool, place -/

/-- The hang census (09 R299 to R302, 15 R499, 19 R587, R591): it starts by command, or by a request while a job runs, when none has
started for the job; the snapshot copies the core records and halts every context; its records are written once; a probe and a report of
this module's nodes are taken; it ends Done with every outcome known, or after 1 s as incomplete. -/
def Obligations.HangCensus : Prop :=
  ∀ (s : State) (v : BitVec 8) (port : Fin 48),
    let st := s.obj .censusState
    let keeps (t : State) : Prop := t.cores = s.cores ∧ t.reqs = s.reqs ∧ t.pages = s.pages
    let runs : Prop := 2 ≤ s.obj .moduleState ∧ s.obj .moduleState ≤ 4
    let head (kind : Nat) (p : Packet) : Prop := (s.port port.val).rxHead 6 = some p ∧ p.opc = 0x21 ∧ natAt p.content 0 1 = kind ∧
      p.content.length = (if kind = 1 then 16 else if kind = 2 then 1056 else 48)
    (v = 1 → st = 0 → Does (.censusCmd v) s fun t => t.obj .censusState = 1 ∧ t.census.trigger = 3 ∧
      t.census.startT = s.gtc ∧ t.census.written = false ∧ t.census.cycles = [] ∧ t.obj .censusId = s.ownCensusId ∧ keeps t) ∧
    (v ≠ 1 ∨ st ≠ 0 → Idles (.censusCmd v) s) ∧
    (∀ p, head 1 p → runs →
      (st = 0 → Does (.censusRequestReceive port) s fun t => t.obj .censusState = 1 ∧ t.census.trigger = 2 ∧
        t.obj .censusId = natAt p.content 8 8 ∧ t.census.startT = s.gtc ∧ keeps t) ∧
      (st ≠ 0 → Does (.censusRequestReceive port) s fun t => t.obj .censusState = st ∧ t.census = s.census ∧
        t.obj .censusDropped = (if s.obj .censusId = natAt p.content 8 8 then s.obj .censusDropped
          else (s.obj .censusDropped + 1) % 2 ^ (8 * Obj.censusDropped.info.width)) ∧ keeps t)) ∧
    (st = 1 → s.census.copied = false → awf Core.zero s.cores = true → Does .censusSnapshot s fun t =>
      t.census.copied = true ∧ t.census.fromStop = false ∧ t.census.snapFirst = s.gtc ∧
      (∀ k y, y < 2 → (t.ctx k y).st = .halted ∨ (t.ctx k y).st = .stopped) ∧
      (s.obj .moduleState = 2 → s.census.trigger ≠ 1 → t.obj .moduleState = 4) ∧ t.mem = s.mem) ∧
    (st ≠ 1 ∨ s.census.copied = true → Idles .censusSnapshot s) ∧
    (st = 1 → s.census.copied = true → s.census.written = false → Does .censusRecordsWrite s fun t =>
      t.census.written = true ∧ t.census.recs = s.census.recs ∧ keeps t) ∧
    (st ≠ 1 ∨ s.census.copied = false ∨ s.census.written = true → Idles .censusRecordsWrite s) ∧
    (∀ p, head 2 p → runs → (s.census.copied = true → Does (.censusProbeReceive port) s fun t =>
        t.census.received = s.census.received + 1 ∧ t.census.recs = s.census.recs ∧ keeps t) ∧
      (s.census.copied = false → Idles (.censusProbeReceive port) s)) ∧
    (∀ p, head 3 p → Does (.censusReportReceive port) s fun t =>
      t.census.waiting = s.census.waiting.filter (fun w => w != wordAt p.content 16) ∧ t.census.cycles = s.census.cycles ∧
      t.mem = s.mem ∧ keeps t) ∧
    (st = 1 → s.census.written = true →
      (s.census.waiting = [] → Does .censusComplete s fun t => t.obj .censusState = 2 ∧ t.census.endT = s.gtc ∧ keeps t) ∧
      (s.census.waiting ≠ [] → s.census.startT + 1000000000 ≤ s.gtc → Does .censusComplete s fun t =>
        t.obj .censusState = 3 ∧ t.census.endT = s.gtc ∧ keeps t) ∧
      (s.census.waiting ≠ [] → s.gtc < s.census.startT + 1000000000 → Idles .censusComplete s))

/-- The pool's commands (08 R260, R266 to R268, R270, R272, Tables 8-7, 8-8): an allocation takes the lowest Free pages of the tier,
zero-filled and Resident; FREE, SETFL, READ and OLDEST act on or report page entries; MOVE reserves a destination; EVICT takes its
first candidate; each leaves its status and OP in POOL_RESULT; one waits for the page that an automatic eviction moves, and does
nothing while another command runs.
Page moves, automatic eviction, ranges, hot banks, the hash seed and the place (08 R258, R268, R271, R272, 02 R46 to R53): a move
copies the page, then what has become dirty, and its switch makes the destination Resident and the source forward to it (one phase
for each command is the model's choice, log 80); a failed move leaves the source Resident and the destination Free; a range is
written while no job runs and no page in use leaves; a new hash seed frees every page and, once its fill is done, every stacked tier
reads zero; a pin sample that differs from the place in use is counted (each time is the model's reading, log 75). -/
def Obligations.PoolPagesAndPlace : Prop :=
  (∀ (s : State) (w0 : Low56) (w1 w2 w3 : Word), s.poolOp = none →
     let r := PoolRec.ofWords w0 w1 w2 w3
     let h := r.handle
     let p := s.page h
     let result (t : State) (status op : Nat) : Prop := t.obj .poolResult 0 7 = status ∧ t.obj .poolResult 0 6 = op ∧
       t.cores = s.cores ∧ t.reqs = s.reqs
     let free := s.freeOn (if r.die = 63 then s.bestDie else r.die)
     (r.resv = false → r.unused true false false false false = false → r.cls ≤ 4 → r.tenant ≤ 1023 → r.tier ≤ 1 →
       0 < r.count → r.count ≤ 64 → (r.tier = 0 ∧ r.die < 48) ∨ r.die = 63 → r.tier = 0 ∨ s.hst.hvPend = [] →
       let host := r.tier == 1
       let hs := (if r.tier = 1 then s.freeHost else free).take r.count
       (s.tenantUse r.tenant host + r.count ≤ s.quota r.tenant host → hs.length = r.count →
         Does (.poolAlloc w0 w1 w2 w3) s fun t => result t 0 1 ∧
           (∀ g ∈ hs, t.page g =
             ⟨.resident, r.pin, r.rdonly, r.cls, r.tenant, r.object, s.stampNow, 0, 0xFFFFFFFF, s.stampNow⟩) ∧
           (∀ q, q ∉ hs → t.page q = s.page q) ∧
           (r.tier = 0 → ∀ g ∈ hs, ∀ a, pageMla g ≤ a → a < pageMla g + 0x40000 → memByte t.mem a = 0)) ∧
       (s.tenantUse r.tenant host + r.count ≤ s.quota r.tenant host → hs.length < r.count →
         Does (.poolAlloc w0 w1 w2 w3) s fun t => result t 3 1 ∧ t.pages = s.pages ∧ t.mem = s.mem) ∧
       (s.quota r.tenant host < s.tenantUse r.tenant host + r.count → Does (.poolAlloc w0 w1 w2 w3) s fun t =>
         result t 4 1 ∧ t.pages = s.pages ∧ t.mem = s.mem)) ∧
     (r.resv = true → ∀ e ∈ [(Instr.poolAlloc w0 w1 w2 w3, 1), (.poolFree w0 w1 w2 w3, 2), (.poolSetfl w0 w1 w2 w3, 3),
         (.poolMove w0 w1 w2 w3, 4), (.poolEvict w0 w1 w2 w3, 5), (.poolRead w0 w1 w2 w3, 6), (.poolOldest w0 w1 w2 w3, 7)],
       Does e.1 s fun t => result t 2 e.2 ∧ t.pages = s.pages ∧ t.mem = s.mem) ∧
     (r.resv = false → r.unused false false false false true = false → s.handleStatus h = 0 →
       (Does (.poolRead w0 w1 w2 w3) s fun t => result t 0 6 ∧ t.pages = s.pages ∧ t.mem = s.mem ∧
         ∀ i, i < 32 → t.obj .poolResult 0 (8 + i) = p.words.getD (i / 8) 0 / 2 ^ (8 * (i % 8)) % 256) ∧
       (p.st = .resident → p.back = 0xFFFFFFFF → Does (.poolFree w0 w1 w2 w3) s fun t => result t 0 2 ∧ t.page h = Page.free ∧
         (∀ q, q ≠ h → t.page q = s.page q) ∧ t.mem = s.mem) ∧
       (p.st = .resident → p.back ≠ 0xFFFFFFFF → Does (.poolFree w0 w1 w2 w3) s fun t => result t 0 2 ∧ t.page h = Page.free ∧
         t.page p.back = Page.free ∧ (∀ q, q ≠ h → q ≠ p.back → t.page q = s.page q) ∧ t.mem = s.mem) ∧
       (p.st = .forwarding → p.fwd ≠ h → Does (.poolFree w0 w1 w2 w3) s fun t => result t 0 2 ∧ t.page h = Page.free ∧
         t.page p.fwd = { s.page p.fwd with back := 0xFFFFFFFF } ∧ (∀ q, q ≠ h → q ≠ p.fwd → t.page q = s.page q)) ∧
       (p.st = .moving ∨ p.st = .reserved ∨ p.st = .free → Does (.poolFree w0 w1 w2 w3) s fun t => result t 5 2 ∧ t.pages = s.pages)) ∧
     (r.resv = false → r.unused false true false false true = false → s.handleStatus h = 0 → p.st = .resident →
       Does (.poolSetfl w0 w1 w2 w3) s fun t => result t 0 3 ∧ t.page h = { p with pin := r.pin, rdonly := r.rdonly } ∧
         ∀ q, q ≠ h → t.page q = s.page q) ∧
     (r.resv = false → r.unused false false true false true = false → r.tier ≤ 1 → (r.tier = 0 ∧ r.die < 48) ∨ r.die = 63 →
       s.handleStatus h = 0 → p.st = .resident → p.back = 0xFFFFFFFF →
       ∀ g rest, (if r.tier = 1 then s.freeHost else free) = g :: rest → g ≠ h →
       Does (.poolMove w0 w1 w2 w3) s fun t => t.page h = { p with st := .moving, fwd := g } ∧
         t.page g = { Page.free with st := .reserved, fwd := h } ∧ t.move = some (Move.start h g) ∧
         t.poolOp = some (PoolOp.start 4 [] 0 false) ∧ t.mem = s.mem) ∧
     (r.resv = false → r.unused false false false true false = false → (r.die < 48 ∨ r.die = 63) → 0 < r.count → r.count ≤ 64 →
       (r.tenant ≤ 1023 ∨ r.tenant = 0xFFFF) →
       let cs := s.candidates r.mask r.tenant r.die r.count
       (Does (.poolOldest w0 w1 w2 w3) s fun t => result t (if cs.length < r.count then 1 else 0) 7 ∧
         t.obj .poolResult 0 0 = cs.length % 128 ∧ t.pages = s.pages ∧ t.mem = s.mem) ∧
       (∀ src rest dst more, cs = src :: rest → s.freeHost = dst :: more → src ≠ dst → Does (.poolEvict w0 w1 w2 w3) s fun t =>
         (t.page src).st = .moving ∧ (t.page src).fwd = dst ∧ (t.page dst).st = .reserved ∧
         t.move = some (Move.start src dst) ∧ t.poolOp = some (PoolOp.start 5 rest (if cs.length < r.count then 1 else 0) false)) ∧
       (cs = [] ∨ s.freeHost = [] → Does (.poolEvict w0 w1 w2 w3) s fun t => result t 1 5 ∧ t.pages = s.pages))) ∧
  (∀ (s : State) (w0 : Low56) (w1 w2 w3 : Word) (o : PoolOp), s.poolOp = some o →
     ∀ e ∈ [(Instr.poolAlloc w0 w1 w2 w3, 1), (.poolFree w0 w1 w2 w3, 2), (.poolSetfl w0 w1 w2 w3, 3), (.poolMove w0 w1 w2 w3, 4),
         (.poolEvict w0 w1 w2 w3, 5), (.poolRead w0 w1 w2 w3, 6), (.poolOldest w0 w1 w2 w3, 7)],
       (o.auto = false ∨ o.waiting ≠ none → Idles e.1 s) ∧
       (o.auto = true → o.waiting = none → exec e.1 s =
         .next { s with poolOp := some { o with waiting := some (e.2, [w0.zeroExtend 64, w1, w2, w3]) } })) ∧
  (∀ (s : State) (d : Fin 48),
     let runs : Prop := 2 ≤ s.obj .moduleState ∧ s.obj .moduleState ≤ 4
     (∀ (m : Move) (data : HostPage), s.move = some m → m.src ≠ m.dst → s.hostReady m.src = true → s.hostReady m.dst = true →
       (isHostPage m.src = false ∨ data.bytes ≠ []) → (isHostPage m.dst = false ∨ s.hst.hvPend = []) →
       (m.copied = 0 → Does (.poolMoveSwitch data) s fun t => t.pages = s.pages ∧ t.cores = s.cores ∧
         (∃ w, t.move = some { m with copied := 1056, writes := m.writes ++ w }) ∧
         (handleOk m.src = true → handleOk m.dst = true → m.src < 2 ^ 30 → m.dst < 2 ^ 30 → s.cells = [] → s.poison = [] →
           ∀ a, a < 0x40000 → memByte t.mem (pageMla m.dst + a) = memByte s.mem (pageMla m.src + a))) ∧
       (m.copied ≠ 0 → m.dirty ≠ [] → Does (.poolMoveSwitch data) s fun t => t.pages = s.pages ∧ t.cores = s.cores ∧
         ∃ w, t.move = some { m with
           dirty := [], passes := m.passes + 1, hold := decide (2 ≤ m.passes), writes := m.writes ++ w }) ∧
       (m.copied ≠ 0 → m.dirty = [] → m.writes ≠ [] →
         exec (.poolMoveSwitch data) s = .next { s with move := some { m with hold := true } })) ∧
     (∀ (m : Move) (o : PoolOp), s.move = some m → m.src ≠ m.dst → s.poolOp = some o → o.waiting = none → o.resume = none →
       let p := s.page m.src
       let others (t : State) : Prop := (∀ q, q ≠ m.src → q ≠ m.dst → t.page q = s.page q) ∧ t.mem = s.mem ∧ t.cores = s.cores
       (∀ data, s.hostReady m.src = true → s.hostReady m.dst = true → m.copied ≠ 0 → m.dirty = [] → m.writes = [] → o.todo = [] →
         Does (.poolMoveSwitch data) s fun t => t.move = none ∧ t.poolOp = none ∧
           t.page m.dst = { p with st := .resident, fwd := 0, back := m.src, allocTime := (s.page m.dst).allocTime } ∧
           t.page m.src = { p with st := .forwarding, fwd := m.dst } ∧ others t ∧
           (o.auto = false → t.obj .poolResult 0 7 = o.status % 256) ∧
           t.obj .poolMoves = (s.obj .poolMoves + 1) % 2 ^ (8 * Obj.poolMoves.info.width)) ∧
       (∀ i, i = .poolMoveFail ∨ (∃ data, i = .poolMoveSwitch data ∧ (s.hostReady m.src = false ∨ s.hostReady m.dst = false)) →
         Does i s fun t => t.move = none ∧ t.poolOp = none ∧ t.page m.src = { p with st := .resident, fwd := 0 } ∧
           t.page m.dst = Page.free ∧ others t ∧ (o.auto = false → t.obj .poolResult 0 7 = 7) ∧
           t.obj .poolMoveFails = (s.obj .poolMoveFails + 1) % 2 ^ (8 * Obj.poolMoveFails.info.width))) ∧
     (s.move = none → Idles .poolMoveFail s ∧ ∀ data, Idles (.poolMoveSwitch data) s) ∧
     (let low := s.obj .poolAuto % 65536
      (low = 0 ∨ low ≤ s.freeCount d.val ∨ s.poolOp ≠ none → Idles (.poolAutoEvict d) s) ∧
      (low ≠ 0 → s.freeCount d.val < low → s.poolOp = none →
        (s.freeHost ≠ [] → s.freeCount d.val < s.obj .poolAuto / 65536 →
          s.candidates (s.obj .poolAutoMask) 0xFFFF d.val 12288 ≠ [] →
          Does (.poolAutoEvict d) s fun t => t.move ≠ none ∧ (∃ o, t.poolOp = some o ∧ o.auto = true ∧ o.op = 5) ∧ t.mem = s.mem) ∧
        (s.freeHost = [] → Does (.poolAutoEvict d) s fun t => Told s t))) ∧
     (∀ (which : Fin 4) (v : BitVec 32),
       (¬ runs → s.rangeStatus which.val d.val v.toNat = 0 → exec (.poolRangeWrite which d v) s =
         .next (s.setObj (rangeObj which.val) v.toNat (if which.val < 2 then d.val else 0))) ∧
       (runs ∨ s.rangeStatus which.val d.val v.toNat ≠ 0 → Idles (.poolRangeWrite which d v) s)) ∧
     (Does (.hotBankWindow d) s fun t =>
       (∀ b, b < 128 → aget 0 t.fab.bankWin (d.val * 128 + b) = 0) ∧
       (∀ q, q < d.val * 128 ∨ d.val * 128 + 128 ≤ q → aget 0 t.fab.bankWin q = aget 0 s.fab.bankWin q) ∧
       (let total := (agetRun 0 s.fab.bankWin (d.val * 128) 128).sum
        ∀ b, b < 128 → aget 0 t.fab.hotRun (d.val * 128 + b) =
          (hotNext (decide (65536 ≤ total ∧ 4 * total < 128 * aget 0 s.fab.bankWin (d.val * 128 + b)))
            (aget 0 s.fab.hotRun (d.val * 128 + b))).1)) ∧
     (∀ v : Word,
       (¬ runs → (∀ o, s.poolOp = some o → o.waiting = none) → Does (.hashSeedWrite v) s fun t => t.obj .hashSeed = v.toNat ∧ t.obj .hashSeedTime = s.gtc ∧
         t.fab.seedFill = true ∧ t.fab.bankWin = [] ∧ t.pages = [] ∧ t.move = none ∧ t.poolOp = none ∧ t.mem = s.mem ∧
         t.cores = s.cores) ∧
       (runs → Idles (.hashSeedWrite v) s)) ∧
     (s.fab.seedFill = true → Does .hashSeedFillDone s fun t => t.fab.seedFill = false ∧ t.cores = s.cores ∧
       (∀ a, a < 48 * 2 ^ 32 → a % 2 ^ 32 < 0xC0000000 → memByte t.mem a = 0) ∧
       (∀ a, a < 48 * 2 ^ 32 → 0xC0000000 ≤ a % 2 ^ 32 → memByte t.mem a = memByte s.mem a)) ∧
     (s.fab.seedFill = false → Idles .hashSeedFillDone s) ∧
     (∀ v : BitVec 24,
       (v.toNat = 0xFFFFFF ∨ v.toNat < 2 ^ 19 → Does (.placeOverrideWrite v) s fun t => t.obj .placeOverride = v.toNat ∧
         t = { s with objs := t.objs, chb := t.chb } ∧ Obj.placeOverride.key 0 0 ∈ t.chb.unsaved) ∧
       (v.toNat ≠ 0xFFFFFF → 2 ^ 19 ≤ v.toNat → Idles (.placeOverrideWrite v) s)) ∧
     (∀ pins : BitVec 20,
       let changed := s.obj .placeValid = 1 ∧ pins.toNat % 2 ^ 19 ≠ s.place
       Does (.placePinSample pins) s fun t => t.obj .placePins = pins.toNat ∧ t.obj .place = s.obj .place ∧ Told s t ∧
         (changed → t.obj .placeChanges = (s.obj .placeChanges + 1) % 2 ^ (8 * Obj.placeChanges.info.width)) ∧
         (¬ changed → t.obj .placeChanges = s.obj .placeChanges)))

/-! ### Fabric and Felun ports -/

/-- The on-wafer fabric (10 R310, R314, R319, R320, R322, R324, R325, 00 R8, R9): an arbiter's choice moves one packet one hop, first
along X, then along Y, and takes space in the next partition; between two sites its flits stand in the lane's replay buffer; a bad
header flit drops it and a bad data flit poisons the granules it touches; a head past AGE_CYCLES turns urgent; a credit frees one
flit, and a packet that waits may enter; a die-to-die flit counts its sequence and its failures, and the fifth failure brings the lane
down at both its ends; the weights are written only while no job runs and when each is 1 to 100 and they sum to 100. -/
def Obligations.FabricCommands : Prop :=
  ∀ (s : State) (gx gy : Fin 28) (v : Word),
    (∀ (out : Fin 5) (parity : List (Fin 34 × BitVec 4)),
      let r := s.arbitrate gx.val gy.val out.val
      let d := dieOfPoint gx.val gy.val
      let cross := crossing gx.val gy.val out.val
      (r.2 = none → Does (.routerForward gx gy out parity) s fun t => t.fab.pkts = s.fab.pkts ∧ t.fab.used = s.fab.used ∧
        t.cores = s.cores ∧ t.mem = s.mem) ∧
      (∀ p, r.2 = some p →
        (parity = [] → out.val < 4 ∨ p.posted = false → Does (.routerForward gx gy out parity) s fun t =>
          (∃ q, t.fab.pkts.getLast? = some q ∧ q = { p.atWay with
            gx := (hopTo gx.val gy.val out.val p.dst.n).1, gy := (hopTo gx.val gy.val out.val p.dst.n).2.1
            input := (hopTo gx.val gy.val out.val p.dst.n).2.2
            since := s.gtc, urgent := false, coming := if cross.isSome then p.len else 0 } ∧
            (p.way = none → out.val = outTo gx.val gy.val p.dst.x p.dst.y) ∧
            aget 0 t.fab.used q.key = aget 0 s.fab.used q.key + p.len) ∧
          (∀ q ∈ t.fab.pkts, q.ref = p.ref → q.gx = (hopTo gx.val gy.val out.val p.dst.n).1) ∧
          (∀ c, cross = some c → (t.lane c.1 c.2.1 c.2.2).buf = (s.lane c.1 c.2.1 c.2.2).buf ++ List.replicate p.len p.ref) ∧
          t.cores = s.cores ∧ t.mem = s.mem) ∧
        (out.val = 4 → p.posted = true → s.fab.wait = [] → s.fab.w4q = [] → Does (.routerForward gx gy out parity) s fun t =>
          (∀ q ∈ t.fab.pkts, q.ref ≠ p.ref) ∧ t.cores = s.cores ∧ t.mem = s.mem) ∧
        (out.val < 4 → cross = none →
          (0 < p.len → (∃ b ∈ parity, b.1 = 0 ∧ b.2 ≠ 0) →
            (∀ k n u, s.findTile (p.ref / 256) = some (k, some n, u) → u.allAnswered = false) →
            Does (.routerForward gx gy out parity) s fun t => (∀ q ∈ t.fab.pkts, q.ref ≠ p.ref) ∧
              t.obj .hdrDrops d = (s.obj .hdrDrops d + 1) % 2 ^ (8 * Obj.hdrDrops.info.width)) ∧
          (∀ f bits, parity = [(f, bits)] → 0 < f.val → f.val < p.len → bits ≠ 0 →
            Does (.routerForward gx gy out parity) s fun t =>
              (∀ g ∈ badGranules f.val bits, ∃ q ∈ t.fab.pkts, q.ref = p.ref ∧ q.psn.testBit g = true) ∧
              t.obj .meshParity d = (s.obj .meshParity d + 1) % 2 ^ (8 * Obj.meshParity.info.width))))) ∧
    (∀ (input : Fin 5) (cls : Fin 6) (part : Fin 2) (p : FabPkt),
      (s.headsAt gx.val gy.val).find? (fun q => q.key == partKey gx.val gy.val input.val cls.val part.val) = some p →
      (5 * s.obj .ageCycles ≤ 8 * (s.gtc - p.since) → Does (.headUrgent gx gy input cls part) s fun t =>
        (∀ q ∈ t.fab.pkts, q.ref = p.ref → q.urgent = true) ∧ t.fab.pkts.map (fun q => q.ref) = s.fab.pkts.map (fun q => q.ref) ∧
          t = { s with fab := { s.fab with pkts := t.fab.pkts } }) ∧
      (8 * (s.gtc - p.since) < 5 * s.obj .ageCycles → Idles (.headUrgent gx gy input cls part) s)) ∧
    (∀ (input : Fin 32) (cls : Fin 6) (part : Fin 2),
      let key := partKey gx.val gy.val input.val cls.val part.val
      let held := ((s.fab.pkts.filter (fun p => p.key == key)).map (fun p => p.len)).sum
      let freed : State := { s with fab := { s.fab with used := amod 0 s.fab.used key (fun n => n - 1) } }
      (held < aget 0 s.fab.used key → exec (.fabricCreditReturn gx gy input cls part) s = .next freed.flushWait) ∧
      (held < aget 0 s.fab.used key → s.fab.wait = [] → Does (.fabricCreditReturn gx gy input cls part) s fun t =>
        aget 0 t.fab.used key = aget 0 s.fab.used key - 1 ∧ (∀ j, j ≠ key → aget 0 t.fab.used j = aget 0 s.fab.used j) ∧
        t = { s with fab := { s.fab with used := t.fab.used } }) ∧
      (aget 0 s.fab.used key ≤ held → Idles (.fabricCreditReturn gx gy input cls part) s)) ∧
    (∀ (d : Fin 49) (port lane : Fin 4) (ok : Bool),
      let x := s.lane d.val port.val lane.val
      let now (t : State) : D2dLane := t.lane d.val port.val lane.val
      (x.down = true ∨ d2dPeer d.val port.val = none ∨ s.laneStopped d.val port.val = true → Idles (.d2dFlitReceive d port lane ok) s) ∧
      (x.down = false → s.laneStopped d.val port.val = false → ∀ e, d2dPeer d.val port.val = some e →
        (Does (.d2dFlitReceive d port lane true) s fun t => (now t).seq = (x.seq + 1) % 256 ∧ (now t).fails = 0 ∧
          (now t).buf = x.buf.drop 1 ∧ (now t).down = false ∧
          t.fab.pkts = s.fab.pkts.map (fun p => if x.buf.head? = some p.ref then p.oneIn s.gtc else p) ∧
          t.cores = s.cores ∧ t.mem = s.mem) ∧
        (Does (.d2dFlitReceive d port lane false) s fun t => (now t).fails = x.fails + 1 ∧ (now t).seq = x.seq ∧
          (now t).buf = x.buf ∧ t.mem = s.mem) ∧
        (4 ≤ x.fails → Does (.d2dFlitReceive d port lane false) s fun t => (now t).down = true ∧
          (t.lane e (farPort port.val) lane.val).down = true ∧
          (d.val < 48 → (t.obj .d2dLanes d.val).testBit (4 * port.val + lane.val) = false)))) ∧
    (let w (i : Nat) : Nat := v.toNat / 2 ^ (8 * i) % 256
     let ok := (∀ i, i < 5 → 1 ≤ w i ∧ w i ≤ 100) ∧ w 0 + w 1 + w 2 + w 3 + w 4 = 100
     let runs : Prop := 2 ≤ s.obj .moduleState ∧ s.obj .moduleState ≤ 4
     (ok → ¬ runs → exec (.fabricWeightsWrite v) s = .next (s.setObj .fabricWeights (v.toNat % 2 ^ 40))) ∧
     (¬ ok ∨ runs → Idles (.fabricWeightsWrite v) s))

/-- Training of a Felun port (11 R345 to R352, R366, R367, Tables 11-3, 11-4): signal detect ends step 1, the receiver's lock step 2
in the half that has no bad lane, alignment step 3; a step that lasts too long falls back; a port that stays out of step 5
for 1 s fails and restarts every second; a marker's stamps are recorded and drive the alignment machine; a bad lane asks for the other
half, and both ends go there once their markers show the same request; LINK_INIT brings the port Up, or leaves it in Mismatch or
Restricted. -/
def Obligations.FelunTraining : Prop :=
  ∀ (s : State) (port : Fin 48),
    let n := port.val
    let p := s.port n
    let rest (t : State) : Prop := t.cores = s.cores ∧ t.mem = s.mem ∧ t.reqs = s.reqs ∧ ∀ m, m ≠ n → t.port m = s.port m
    let step (t : State) (k st : Nat) : Prop := (t.port n).step = k ∧ (t.port n).st = st ∧ (t.port n).stepAt = s.gtc
    (s.enabled n = true →
      (p.st = 1 → p.step = 1 → ∀ lanes : BitVec 16,
        ((∀ l, l < 8 → lanes.getLsbD l = true) ∨ (∀ l, l < 8 → lanes.getLsbD (l + 8) = true) →
          Does (.signalDetectHeld port lanes) s fun t => step t 2 1 ∧ (∀ l, l < 16 → ((t.port n).lane l).sd = lanes.getLsbD l) ∧ rest t) ∧
        ((∃ l, l < 8 ∧ lanes.getLsbD l = false) → (∃ l, l < 8 ∧ lanes.getLsbD (l + 8) = false) →
          Idles (.signalDetectHeld port lanes) s)) ∧
      (p.step = 3 → p.align ≠ 2 → s.zStopped n = false → p.stepAt + 2000000 ≤ s.gtc →
        Does (.alignmentTimeout port) s fun t => step t 2 1 ∧ (t.port n).align = 0 ∧ rest t) ∧
      (p.step = 4 → p.stepAt + 1000000 ≤ s.gtc → Does (.handshakeTimeout port) s fun t => step t 3 1 ∧ rest t) ∧
      (p.st = 4 → p.stepAt + 1000000000 ≤ s.gtc → Does (.failedPortRestart port) s fun t => step t 1 1 ∧ rest t)) ∧
    (s.gtc < p.stepAt + 1000000 → Idles (.alignmentTimeout port) s ∧ Idles (.handshakeTimeout port) s ∧
      Idles (.failedPortRestart port) s) ∧
    (p.step = 2 → p.peerWant = 0 →
      let good (l : Nat) : Prop := (p.lane l).sd = true ∧ (p.lane l).bad = false
      let low : Prop := ∀ l, l < 8 → good l
      let high : Prop := ∀ l, l < 8 → good (l + 8)
      (low → high → Does (.receiverConverged port) s fun t => step t 3 1 ∧ (t.port n).mode = p.want ∧
        (∀ l, l < 16 → ((t.port n).lane l).cdr = true) ∧ rest t) ∧
      (low → ¬ high → Does (.receiverConverged port) s fun t => step t 3 1 ∧ (t.port n).mode = 1 ∧ rest t) ∧
      (¬ low → high → Does (.receiverConverged port) s fun t => step t 3 1 ∧ (t.port n).mode = 2 ∧ rest t) ∧
      (¬ low → ¬ high → Does (.receiverConverged port) s fun t => step t 1 4 ∧ rest t)) ∧
    (p.step ≠ 2 → Idles (.receiverConverged port) s) ∧
    (p.step = 2 → p.stepAt + 1000000 ≤ s.gtc → ∀ locked : BitVec 16,
      let good (l : Nat) : Prop := locked.getLsbD l = true ∧ (p.lane l).bad = false
      ((∀ l, l < 8 → good l) ∨ (∀ l, l < 8 → good (l + 8)) → Does (.receiverStepTimeout port locked) s fun t =>
        (t.port n).step = 2 ∧ (t.port n).stepAt = s.gtc ∧
        (∀ l, l < 16 → locked.getLsbD l = false → ((t.port n).lane l).bad = true) ∧ rest t) ∧
      ((∃ l, l < 8 ∧ ¬ good l) → (∃ l, l < 8 ∧ ¬ good (l + 8)) → Does (.receiverStepTimeout port locked) s fun t =>
        step t 1 4 ∧ rest t)) ∧
    (∀ t0, p.leftStep1 = some t0 → p.st = 1 → p.step ≠ 5 → s.zStopped n = false →
      (t0 + 1000000000 ≤ s.gtc → Does (.portFailedTimeout port) s fun t => step t 1 4 ∧ rest t) ∧
      (s.gtc < t0 + 1000000000 → Idles (.portFailedTimeout port) s)) ∧
    (∀ (l : Fin 16) (pos : Nat) (bytes : List (BitVec 8)),
      let m := leNat ((bytes.drop 10).take 2)
      let tx := leNat ((bytes.drop 18).take 8)
      let x := p.lane l.val
      (markerOk l.val bytes = false → Idles (.markerRecognised port l pos bytes) s) ∧
      (markerOk l.val bytes = true → Does (.markerRecognised port l pos bytes) s fun t =>
        ((t.port n).lane l.val).pair = some (m, s.gtc, tx) ∧ (t.port n).lastPair = some (m, s.gtc, tx) ∧ rest t) ∧
      (markerOk l.val bytes = true → p.step < 3 ∨ l.val ∉ lanesOf p.mode → Does (.markerRecognised port l pos bytes) s fun t =>
        (t.port n).step = p.step ∧ (t.port n).align = p.align ∧ ((t.port n).lane l.val).cand = x.cand) ∧
      (markerOk l.val bytes = true → 3 ≤ p.step → l.val ∈ lanesOf p.mode →
        (p.align = 0 → x.cand = none → pos ∉ x.excl → Does (.markerRecognised port l pos bytes) s fun t =>
          ((t.port n).lane l.val).mlock = true ∧ rest t) ∧
        (p.align = 1 → ∀ c, x.cand = some c → pos = c.1 → m ≠ (c.2.1 + 1) % 65536 →
          Does (.markerRecognised port l pos bytes) s fun t => (t.port n).align = 0 ∧ (t.port n).confirm = 0 ∧
            ((t.port n).lane l.val).cand = none ∧ pos ∈ ((t.port n).lane l.val).excl ∧ rest t) ∧
        (p.align = 1 → p.confirm = 3 → s.zStopped n = false → p.step = 3 →
          (∀ j ∈ lanesOf p.mode, j ≠ l.val → (p.lane j).followed = true) → ∀ c, x.cand = some c → pos = c.1 →
          m = (c.2.1 + 1) % 65536 → Does (.markerRecognised port l pos bytes) s fun t => (t.port n).align = 2 ∧ step t 4 p.st ∧ rest t) ∧
        (p.align = 2 → p.mode ≠ 0 → ∀ c, x.cand = some c → pos = c.1 → Does (.markerRecognised port l pos bytes) s fun t =>
          ((t.port n).lane l.val).missed = 0 ∧ (t.port n).align = 2 ∧ rest t) ∧
        (p.align = 2 → p.mode = 0 → p.want ≠ 0 → p.want = p.shown → bitsOf (leNat ((bytes.drop 12).take 1)) 5 4 = p.want →
          ∀ c, x.cand = some c → pos = c.1 → Does (.markerRecognised port l pos bytes) s fun t =>
            step t 3 1 ∧ (t.port n).mode = p.want ∧ rest t)) ∧
      (3 ≤ p.step → l.val ∈ lanesOf p.mode → x.cand.isSome = true → p.align = 2 → p.mode = 0 →
        Does (.markerMissed port l) s fun t => ((t.port n).lane l.val).missed = x.missed + 1 ∧
          ((t.port n).lane l.val).mlock = false ∧ (t.port n).step = p.step ∧ rest t) ∧
      (3 ≤ p.step → l.val ∈ lanesOf p.mode → x.cand.isSome = true → p.align = 1 → Does (.markerMissed port l) s fun t =>
        (t.port n).align = 0 ∧ ((t.port n).lane l.val).cand = none ∧ rest t) ∧
      (3 ≤ p.step → l.val ∈ lanesOf p.mode → x.cand.isSome = true → p.align = 2 → p.mode ≠ 0 → 2 ≤ x.missed →
        s.enabled n = true → Does (.markerMissed port l) s fun t => step t 1 1 ∧ rest t) ∧
      (∀ lost : Fin 3, lost ≠ 0 ∨ 3 ≤ x.missed ∨ s.obj .laneSerLimit < max x.curCorr x.winCorr →
        3 ≤ p.step → x.bad = false →
        (p.mode = 0 → (∀ j, j < 16 → (p.lane j).bad = true → (j < 8 ↔ l.val < 8)) → p.peerWant = 0 →
          Does (.laneBad port l lost) s fun t => ((t.port n).lane l.val).bad = true ∧
            (t.port n).want = (if l.val < 8 then 2 else 1) ∧ (t.port n).mode = 0 ∧ rest t) ∧
        (p.mode = 0 → (∃ j, j < 16 ∧ (p.lane j).bad = true ∧ ¬ (j < 8 ↔ l.val < 8)) → p.peerWant = 0 →
          (lost ≠ 2 → Does (.laneBad port l lost) s fun t => step t 1 4 ∧ rest t) ∧
          (lost = 2 → s.enabled n = true → Does (.laneBad port l lost) s fun t => step t 2 1 ∧ rest t)) ∧
        (p.mode ≠ 0 → l.val ∈ lanesOf p.mode → s.enabled n = true → Does (.laneBad port l lost) s fun t => step t 1 1 ∧ rest t)) ∧
      (p.step < 3 ∨ x.bad = true → ∀ lost, Idles (.laneBad port l lost) s)) ∧
    (p.want ≠ 0 → p.mode = 0 → p.peerWant ≠ p.want → p.ownBad ≠ [] → Does (.degradeSend port) s fun t =>
      t.port n = { p with lcq := p.lcq ++ [leBytes 1 2 ++ leBytes 1 p.want] } ∧ rest t) ∧
    (p.want = 0 ∨ p.mode ≠ 0 ∨ p.peerWant = p.want ∨ p.ownBad = [] → Idles (.degradeSend port) s) ∧
    (∀ f, p.lcFrame 2 = some f → p.mode = 0 → ∀ h, natAt f.payload 1 1 = h → h = 1 ∨ h = 2 →
      (modeFor p.ownBad h = some h → p.peerWant = h → p.shown = h → Does (.degradeReceive port) s fun t => step t 3 1 ∧
        (t.port n).mode = h ∧ rest t) ∧
      (modeFor p.ownBad h = some h → p.peerWant ≠ h ∨ p.shown ≠ h → Does (.degradeReceive port) s fun t =>
        t.port n = { p with frames := p.frames.drop 1, want := h } ∧ rest t) ∧
      (modeFor p.ownBad h = none → Does (.degradeReceive port) s fun t => step t 1 4 ∧ rest t)) ∧
    (p.step = 4 ∨ p.step = 5 → (p.sentSeen && p.peerSeen) = false → Does (.linkInitSend port) s fun t =>
      t.port n = { p with lcq := p.lcq ++ [s.linkInit n], sentSeen := p.sentSeen || p.seen } ∧ rest t) ∧
    (∀ f, p.lcFrame 1 = some f → p.step = 4 →
      let b (i k : Nat) : Nat := natAt f.payload i k
      (s.judgePeer n (b 3 1) (b 5 1) (b 8 3) = 2 → (b 2 1).testBit 0 = true → Does (.linkInitReceive port) s fun t =>
        step t 5 2 ∧ (t.port n).peerPlace = b 8 3 ∧ (t.port n).peerPort = b 4 1 ∧ (t.port n).peerIncarn = b 12 4 ∧
        t.cores = s.cores ∧ t.mem = s.mem) ∧
      (s.judgePeer n (b 3 1) (b 5 1) (b 8 3) = 2 → (b 2 1).testBit 0 = false → Does (.linkInitReceive port) s fun t =>
        (t.port n).step = 4 ∧ (t.port n).st = p.st ∧ (t.port n).seen = true ∧ rest t) ∧
      (s.judgePeer n (b 3 1) (b 5 1) (b 8 3) = 3 → Does (.linkInitReceive port) s fun t =>
        (t.port n).st = 3 ∧ (t.port n).step = 5 ∧ rest t) ∧
      (s.judgePeer n (b 3 1) (b 5 1) (b 8 3) = 5 → Does (.linkInitReceive port) s fun t =>
        (t.port n).st = 5 ∧ (t.port n).step = 5 ∧ rest t))

/-! ### Flits and packets -/

/-- Flits (11 R340, R344, R354, R359 to R361, R364): a codeword with at most 32 wrong symbols delivers its two frames and one with more
is counted, and draws a NAK where a data flit was in it; the expected data flit is accepted, one ahead of it draws a NAK, one behind
it is dropped; a NAK of an unacknowledged flit starts the resend; a NAK without its flit is repeated after 2 us and ends lock after
four; a flit slot sends a resend first, then link control, then data, and a data flit enters the replay buffer under the next number;
the second frame of a codeword sends its slot, and every 8,192nd slot is a marker slot. What the codeword commands take of the medium
is the model's choice (log 26). -/
def Obligations.FlitCommands : Prop :=
  ∀ (s : State) (port : Fin 48),
    let n := port.val
    let p := s.port n
    let rest (t : State) : Prop := t.cores = s.cores ∧ t.mem = s.mem
    let count (t : State) (i : Nat) : Prop :=
      t.obj .portCounters n i = (s.obj .portCounters n i + 1) % 2 ^ (8 * Obj.portCounters.info.width)
    (∀ (lanes : List (List (Fin 4))) (errs : List Nat),
      (p.step < 3 ∨ p.align = 0 → Idles (.codewordReceive port lanes errs) s) ∧
      (3 ≤ p.step → p.align = 1 → codewordData (p.readSlot lanes).2 = none ∨ 32 < errs.length →
        Does (.codewordReceive port lanes errs) s fun t =>
          (t.port n).align = 0 ∧ (t.port n).frames = p.frames ∧ count t 6 ∧ rest t) ∧
      (3 ≤ p.step → ∀ data, codewordData (p.readSlot lanes).2 = some data →
        let a := data.take 280
        let b := (data.drop 280).take 280
        let good (bs : List (BitVec 8)) : Prop := frameCrcOk bs = true ∧ (Frame.ofBytes bs).ft = 1 ∧ (Frame.ofBytes bs).vcc ≠ 7
        (p.align = 2 → errs.length ≤ 32 → good a → good b → Does (.codewordReceive port lanes errs) s fun t =>
          (t.port n).frames = p.frames ++ [Frame.ofBytes a, Frame.ofBytes b] ∧ rest t) ∧
        (p.align = 2 → p.step = 5 → 32 < errs.length → (isDataFrame a || isDataFrame b) = true → p.nak = none →
          ((true :: p.words).take 64).countP (fun w => w) < 16 → Does (.codewordReceive port lanes errs) s fun t =>
            (t.port n).frames = p.frames ∧ (t.port n).nak = some ((p.rxSeq + 4095) % 4096, s.gtc) ∧ (t.port n).nakDue = true ∧
            count t 6 ∧ count t 4 ∧ rest t))) ∧
    (∀ f fs, p.frames = f :: fs → f.ft = 1 → f.ak ≠ 1 → p.step = 5 →
      (f.seq = p.rxSeq → Does (.dataFlitReceive port) s fun t =>
        (t.port n).rxSeq = (p.rxSeq + 1) % 4096 ∧ count t 1 ∧ rest t) ∧
      (0 < (f.seq + 4096 - p.rxSeq) % 4096 → (f.seq + 4096 - p.rxSeq) % 4096 < 2048 → p.nak = none →
        Does (.dataFlitReceive port) s fun t => (t.port n).rxSeq = p.rxSeq ∧ (t.port n).frames = fs ∧
          (t.port n).nak = some ((p.rxSeq + 4095) % 4096, s.gtc) ∧ (t.port n).nakDue = true ∧ (t.port n).rxq = p.rxq ∧ rest t) ∧
      (2048 ≤ (f.seq + 4096 - p.rxSeq) % 4096 → Does (.dataFlitReceive port) s fun t =>
        (t.port n).rxSeq = p.rxSeq ∧ (t.port n).frames = fs ∧ (t.port n).nak = p.nak ∧ (t.port n).rxq = p.rxq ∧ rest t)) ∧
    ((∀ f fs, p.frames = f :: fs → f.ft ≠ 1 ∨ f.ak = 1) → Idles (.dataFlitReceive port) s) ∧
    (∀ f fs, p.frames = f :: fs → f.ak = 1 →
      let out : Prop := (p.acked f.ackseq).2 = true ∨ p.step ≠ 5
      (Does (.nakReceive port) s fun t => (f.ft = 0 → (t.port n).frames = fs) ∧ (t.port n).txSeq = p.txSeq ∧ rest t) ∧
      (out → Does (.nakReceive port) s fun t => (t.port n).replay = p.replay ∧ (t.port n).resend = p.resend ∧
        (t.port n).resendFor = p.resendFor) ∧
      (¬ out → Does (.nakReceive port) s fun t => (t.port n).resendFor = some f.ackseq ∧
        (p.replay.any (fun x => x.seq == f.ackseq) = true →
          (t.port n).replay = (p.replay.dropWhile (fun x => x.seq != f.ackseq)).drop 1) ∧
        (p.resend = 0 ∨ p.resendFor ≠ some f.ackseq → (t.port n).resend = (t.port n).replay.length))) ∧
    ((∀ f fs, p.frames = f :: fs → f.ak ≠ 1) → Idles (.nakReceive port) s) ∧
    (p.nak = none → Idles (.nakRetryTimeout port) s) ∧
    (∀ q t0, p.nak = some (q, t0) →
      (s.gtc < t0 + 2000 → Idles (.nakRetryTimeout port) s) ∧
      (t0 + 2000 ≤ s.gtc → p.rxFails < 4 → Does (.nakRetryTimeout port) s fun t =>
        t.port n = { p with nak := some (q, s.gtc), nakDue := true, rxFails := p.rxFails + 1 } ∧ count t 4 ∧ rest t) ∧
      (t0 + 2000 ≤ s.gtc → 4 ≤ p.rxFails → s.enabled n = true → Does (.nakRetryTimeout port) s fun t =>
        (t.port n).step = 3 ∧ (t.port n).st = 1 ∧ (t.port n).align = 0 ∧ rest t)) ∧
    (s.enabled n = false ∨ p.st = 0 → Idles (.flitTransmit port) s) ∧
    (s.enabled n = true → p.st ≠ 0 → p.slot < 8191 → (p.resend = 0 ∨ p.step ≠ 5) → p.fill = [] →
      (∀ c cs, p.lcq = c :: cs → Does (.flitTransmit port) s fun t =>
        (∃ f, (t.port n).fill = [Frame.bytes f] ∧ f.ft = 2 ∧ f.payload = c ∧ f.len = c.length ∧
          f.ackseq = (p.rxSeq + 4095) % 4096 ∧ f.ak = (if p.nakDue then 1 else 0)) ∧
        (t.port n).lcq = cs ∧ (t.port n).slots = p.slots + 1 ∧ (t.port n).nakDue = false ∧ (t.port n).txSeq = p.txSeq ∧ rest t) ∧
      (p.lcq = [] → ∀ v k ks, (s.chooseVc p).2 = some v → aget [] p.txq v = k :: ks → Does (.flitTransmit port) s fun t =>
        (∃ f, (t.port n).replay = p.replay ++ [f] ∧ f.seq = p.txSeq ∧ f.vcc = v ∧ f.pkt = k ∧ f.idx = aget 0 p.txSent v ∧
          f.sop = (aget 0 p.txSent v == 0)) ∧
        (t.port n).txSeq = (p.txSeq + 1) % 4096 ∧ (t.port n).slots = p.slots + 1 ∧
        aget [] (t.port n).txq v = (if (k.flit (aget 0 p.txSent v)).2.2 then ks else k :: ks) ∧ count t 0 ∧ rest t)) ∧
    (s.enabled n = true → p.st ≠ 0 → p.slot < 8191 → p.step = 5 → 0 < p.resend → p.resend ≤ p.replay.length → p.fill = [] →
      Does (.flitTransmit port) s fun t => (t.port n).resend = p.resend - 1 ∧ (t.port n).replay = p.replay ∧
        (t.port n).txSeq = p.txSeq ∧ (t.port n).lcq = p.lcq ∧ (t.port n).fill.length = 1 ∧ rest t) ∧
    (s.enabled n = true → p.st ≠ 0 → ∀ b, p.fill = [b] → Does (.flitTransmit port) s fun t =>
      (t.port n).fill = [] ∧ (t.port n).slot = p.slot + 1 ∧ (t.port n).out.length = (lanesOf p.mode).length ∧ rest t) ∧
    (s.enabled n = true → p.st ≠ 0 → p.fill = [] → 8191 ≤ p.slot → Does (.flitTransmit port) s fun t =>
      (t.port n).slot = 0 ∧ (t.port n).mseq = (p.mseq + 1) % 65536 ∧ (t.port n).shown = p.want ∧
      (t.port n).fill.length = 1 ∧ rest t)

/-- Packets that arrive (11 R311, R317, R355 to R358, R370 to R373, 10 R317): a request enters the wafer for its endpoint, and one with
an address error is turned back at its port; at their endpoint READ, WRITE, PUSH, FIPPLE, VSET and TADD take effect and their answer
leaves with the status of what happened; CREDIT returns a credit and is not answered; RDATA and ACK free the tag they match and reach
its requester, or cross the wafer to the port that holds it, and without a tag they are counted and dropped; a packet for another
place crosses the wafer to its next port. -/
def Obligations.FelunPackets : Prop :=
  ∀ (s : State) (port : Fin 48),
    let n := port.val
    let is (opc : Nat) (q : Packet) : Bool := q.opc == opc
    let loc (p : Packet) : Option Word := (p.poisoned.head?).map (fun g => g.2)
    let count (t : State) (m i : Nat) : Prop :=
      t.obj .portCounters m i = (s.obj .portCounters m i + 1) % 2 ^ (8 * Obj.portCounters.info.width)
    let taken (t : State) (p : Packet) : Prop := (t.port n).rxq = dropFirst (fun r => r.vc == p.vc) (s.port n).rxq
    let onWafer (t : State) (p : Packet) (stage out vc : Nat) : Prop :=
      ∃ i, t.fab.inb = s.fab.inb ++ [i] ∧ i.port = n ∧ i.pkt = p ∧ i.stage = stage ∧ i.out = out ∧ i.vc = vc
    let signals : List (Nat × Instr × (Packet → Option Region)) :=
      [(4, .felunPush port, fun p => s.packetCore p 1),
       (5, .felunFipple port, fun p => if (decide (8 ≤ p.len) && decide (p.addr % 64 + p.len ≤ 64) &&
          (decide (p.valve < 48) || p.valve == 63)) = true then s.packetCore p p.len else none),
       (6, .felunVset port, fun p => if decide (p.valve < 48) = true then s.packetCore p 1 else none),
       (7, .felunTadd port, fun p => if decide (p.addr % 64 < 16) = true then s.packetCore p 1 else none)]
    let requests : List (Nat × Instr × (Packet → Option Region)) :=
      (1, .felunRead port, fun p => (readBytes p.len).bind (s.remoteRegion p.addr)) ::
      (3, .felunWrite port, fun p => s.remoteRegion p.addr ((tileBytes p.len).getD p.len)) :: signals
    -- from the port's buffer into the wafer
    (∀ e ∈ requests ++ [(8, .felunCredit port, fun p => s.packetCore p 1)], s.inbReady n e.1 = none →
      ∀ p, s.takePacket n (is e.1) = some p →
        (∀ r, e.2.2 p = some r → s.canEmit (attachEndp n (s.endpOf r).region) p.wafer.1 = true → Does e.2.1 s fun t =>
          onWafer t p 0 0 p.vc ∧ taken t p ∧ t.cores = s.cores ∧ t.mem = s.mem) ∧
        (e.2.2 p = none → e.1 ≠ 8 → exec e.2.1 s = .next ((s.addrErrorAnswer n p).rxDrop n p.vc)) ∧
        (e.2.2 p = none → e.1 = 8 → exec e.2.1 s = .next ((s.incObj .addrErrorsRemote).rxDrop n p.vc))) ∧
    (∀ e ∈ requests ++ [(8, .felunCredit port, fun p => s.packetCore p 1)], s.inbReady n e.1 = none →
      s.takePacket n (is e.1) = none → Idles e.2.1 s) ∧
    -- at the endpoint
    (∀ e ∈ requests, ∀ i leg, s.inbReady n e.1 = some (i, leg) →
      (e.2.2 i.pkt = none → exec e.2.1 s = .next ((s.incObj .addrErrorsRemote).replyInb i leg.dst 1 [] 0)) ∧
      (∀ r, e.2.2 i.pkt = some r → s.waitsAt r = true → exec e.2.1 s = .next (s.wakeFor r leg.ref))) ∧
    (∀ i leg m r, s.inbReady n 1 = some (i, leg) → readBytes i.pkt.len = some m → s.remoteRegion i.pkt.addr m = some r →
      s.waitsAt r = false →
      (s.memoryOff r = true → exec (.felunRead port) s = .next (s.replyInb i leg.dst 2 [] 0)) ∧
      (s.memoryOff r = false → ∀ u,
        (s.poolAccess i.pkt.addr m false true = (u, none) → exec (.felunRead port) s = .next (u.replyInb i leg.dst 2 [] 0)) ∧
        (∀ a, s.poolAccess i.pkt.addr m false true = (u, some a) → (∀ off, regionOf a ≠ .aperture off) →
          ∃ ans : State × PieceAns, ans.2.payload = memBytes ans.1.mem a m ∧ ans.1.cores = s.cores ∧
            exec (.felunRead port) s = .next (ans.1.replyInb i leg.dst 0 ans.2.content ans.2.psn)))) ∧
    (∀ i leg r, s.inbReady n 3 = some (i, leg) → s.remoteRegion i.pkt.addr ((tileBytes i.pkt.len).getD i.pkt.len) = some r →
      s.waitsAt r = false →
      (s.memoryOff r = true → exec (.felunWrite port) s = .next (s.replyInb i leg.dst 2 [] 0)) ∧
      (s.memoryOff r = false → ∀ u,
        (s.poolAccess i.pkt.addr ((tileBytes i.pkt.len).getD i.pkt.len) true true = (u, none) →
          exec (.felunWrite port) s = .next (u.replyInb i leg.dst 2 [] 0)) ∧
        (∀ a, s.poolAccess i.pkt.addr ((tileBytes i.pkt.len).getD i.pkt.len) true true = (u, some a) →
          (∀ off, regionOf a ≠ .aperture off) →
          exec (.felunWrite port) s = .next ((u.writeContent a i.pkt).replyInb i leg.dst 0 [] 0)))) ∧
    (∀ i leg k off, s.inbReady n 4 = some (i, leg) → s.packetCore i.pkt 1 = some (.sram k off) → s.asleep k = false →
      s.fillWaits (.sram k off) = false →
      (s.regionOff k = true → exec (.felunPush port) s = .next (s.replyInb i leg.dst 2 [] 0)) ∧
      (s.regionOff k = false →
        let l := s.landPush k (i.pkt.word 0 % 16) (bitsOf (i.pkt.word 0) 4 4) (i.pkt.word 1) (i.pkt.word 2)
          (s.peerKey i.pkt.origin (bitsOf (i.pkt.word 0) 15 8)) (i.pkt.tile 4096) (i.pkt.word 3 == 1)
        exec (.felunPush port) s = .next (l.1.replyInb i leg.dst (if l.2 then 0 else 2) [] 0))) ∧
    (∀ e ∈ signals, e.1 ≠ 4 → ∀ i leg k off, s.inbReady n e.1 = some (i, leg) → e.2.2 i.pkt = some (.sram k off) →
      s.asleep k = false → s.fillWaits (.sram k off) = false →
      let kind : ReqKind := if e.1 = 5 then .fipple i.pkt.valve else if e.1 = 6 then .valveSet i.pkt.valve
        else .tallyAdd (i.pkt.addr % 64) (wordAt i.pkt.content 0)
      let d := s.deliver k kind off i.pkt.content (loc i.pkt) (i.pkt.src (if e.1 = 5 then 3 else 2)) i.pkt.sendt i.pkt.mark
      exec e.2.1 s = .next (d.1.replyInb i leg.dst d.2 [] 0)) ∧
    (∀ i leg k off, s.inbReady n 8 = some (i, leg) → s.packetCore i.pkt 1 = some (.sram k off) → s.asleep k = false →
      s.fillWaits (.sram k off) = false → s.regionOff k = false → ((s.core k).slot (i.pkt.word 0 % 16)).st = .closed →
      ((s.core k).slot (i.pkt.word 0 % 16)).bankOrigin = none → ((s.core k).slot (i.pkt.word 0 % 16)).credits.length < 64 →
      Does (.felunCredit port) s fun t => ((t.core k).slot (i.pkt.word 0 % 16)).credits =
        ((s.core k).slot (i.pkt.word 0 % 16)).credits ++ [i.pkt.word 1] ∧ (∀ j ∈ t.fab.inb, j.id ≠ i.id) ∧ t.mem = s.mem ∧
        ∀ j, j ≠ k → t.core j = s.core j) ∧
    -- answers
    (∀ opc i, (opc, i) ∈ [(2, Instr.felunRdata port), (9, .felunAck port)] → ∀ p,
      let arrived := s.fab.inb.find? (fun j => j.out == n && j.stage == 2 && j.pkt.opc == opc && (s.inbStands j).isSome &&
        (s.chunkTag j.pkt).isNone)
      let here := (∃ j, arrived = some j ∧ j.pkt = p) ∨
        (arrived = none ∧ s.takePacket n (fun q => q.opc == opc && (s.chunkTag q).isNone) = some p)
      (here → p.rport = n →
        (s.matchTag p = none → Does i s fun t => count t n 12 ∧ t.cores = s.cores ∧ t.mem = s.mem ∧ t.reqs = s.reqs) ∧
        (∀ g, s.matchTag p = some g →
          s.canEmit (attachEndp n (((s.tagCore g.ref).map (fun k => (s.coreEndp k).region)).getD 0)) p.wafer.1 = true →
          (∀ id q, g.ref = .req id → s.findReq id = some q → Does i s fun t => (∀ x ∈ (t.port n).tags, x.num ≠ g.num) ∧
            (∃ data, ({ q with stage := .answered (statusOf p.status) data (loc p) } : Req) ∈ t.reqs ∧
              (∀ rd sz sx, q.kind = .load rd sz sx → data = (p.content.drop (mlaOf q.addr % 8)).take q.size)) ∧
            t.cores = s.cores ∧ t.mem = s.mem) ∧
          (∀ c slot id m w u x, g.ref = .tile c slot id m → (s.core c).findTile id = some (w, u) → u.pieces[m]? = some x →
            x.resp = none → Does i s fun t => (∀ x ∈ (t.port n).tags, x.num ≠ g.num) ∧
              (∃ u' x', (t.core c).findTile id = some (w, u') ∧ u'.pieces[m]? = some x' ∧
                x'.resp = some (statusOf p.status, p.pieceAns)) ∧ t.mem = s.mem))) ∧
      (arrived = none → s.takePacket n (fun q => q.opc == opc && (s.chunkTag q).isNone) = some p → p.rport ≠ n → p.rport < 48 →
        s.canEmit (attachEndp n (attachEndp p.rport 0).region) p.wafer.1 = true → Does i s fun t =>
          onWafer t p 2 p.rport p.vc ∧ taken t p ∧ t.cores = s.cores ∧ t.mem = s.mem)) ∧
    (∀ p, (s.port n).rxHead 6 = some p →
      (p.opc = 0x20 → (((s.rxDrop n 6).post 5 p.wafer.2 (attachEndp n 0) mmcEndp).chainAnswer n p.content = none →
          Does (.felunMgmt port) s fun t => (∃ extra, t.chb.inbox = s.chb.inbox ++ [⟨.felun n, p.content, extra⟩]) ∧
            t.cores = s.cores ∧ t.mem = s.mem) ∧
        (∀ u, ((s.rxDrop n 6).post 5 p.wafer.2 (attachEndp n 0) mmcEndp).chainAnswer n p.content = some u →
          exec (.felunMgmt port) s = .next u)) ∧
      (p.opc ≠ 0x20 → Idles (.felunMgmt port) s) ∧
      (p.opc = 0x21 → natAt p.content 0 1 = 2 → exec (.felunCensus port) s = exec (.censusProbeReceive port) s) ∧
      (p.opc = 0x21 → natAt p.content 0 1 = 3 → exec (.felunCensus port) s = exec (.censusReportReceive port) s) ∧
      (p.opc = 0x21 → natAt p.content 0 1 ≠ 2 → natAt p.content 0 1 ≠ 3 →
        exec (.felunCensus port) s = exec (.censusRequestReceive port) s) ∧
      (p.opc = 0x21 → p.content.length ≠ 16 → p.content.length ≠ 48 → p.content.length ≠ 1056 →
        (2 ≤ s.obj .moduleState ∧ s.obj .moduleState ≤ 4 → s.census.copied = true) → Does (.felunCensus port) s fun t =>
          count t n 11 ∧ t.census = s.census ∧ t.cores = s.cores ∧ t.mem = s.mem) ∧
      (p.opc ≠ 0x21 → Idles (.felunCensus port) s)) ∧
    -- forwarding
    (∀ (vc : Fin 7) p, (s.port n).rxHead vc.val = some p →
      (s.isHere p.dplace = true → Idles (.packetForward port vc) s) ∧
      (s.isHere p.dplace = false →
        (∀ m v, s.nextHop p (axisOf (s.obj .portRole n)) = some (m, v) → m ≠ n →
          (s.canEmit (attachEndp n 0) p.wafer.1 = true → Does (.packetForward port vc) s fun t =>
            (∃ i, t.fab.inb = s.fab.inb ++ [i] ∧ i.pkt = p ∧ i.stage = 1 ∧ i.out = m ∧ i.vc = v) ∧
            (t.port n).rxq = dropFirst (fun r => r.vc == vc.val) (s.port n).rxq ∧ t.cores = s.cores ∧ t.mem = s.mem) ∧
          (s.canEmit (attachEndp n 0) p.wafer.1 = false → Idles (.packetForward port vc) s)) ∧
        (s.nextHop p (axisOf (s.obj .portRole n)) = none →
          (expectsAnswer p.opc = false → Does (.packetForward port vc) s fun t =>
            count t n 13 ∧ t.cores = s.cores ∧ t.mem = s.mem) ∧
          (expectsAnswer p.opc = true → exec (.packetForward port vc) s = .next ((s.rxDrop n vc.val).answer p n 3))))) ∧
    (∀ (tag : BitVec 12) g, (s.port n).tags.find? (fun x => x.num == tag.toNat) = some g →
      (s.gtc < g.sendt + s.tierTimeout 1 → Idles (.tagTimeout port tag) s) ∧
      (g.sendt + s.tierTimeout 1 ≤ s.gtc → Does (.tagTimeout port tag) s fun t =>
        (t.port n).tags = (s.port n).tags.filter (fun x => x.num != tag.toNat) ∧
        (t.port n).tagLru = (s.port n).tagLru ++ [tag.toNat] ∧ t.cores = s.cores ∧ t.mem = s.mem ∧ t.reqs = s.reqs)) ∧
    (Does .portImbalanceWindow s fun t => (t.port n).winTx = 0 ∧ (t.port n).winRx = 0 ∧
      (t.port n).aboveRun = (if s.above n then min 100 ((s.port n).aboveRun + 1) else 0) ∧
      ((s.port n).raised = false → s.above n = true → 99 ≤ (s.port n).aboveRun → (t.port n).raised = true ∧
        t.obj .imbalanceEvents n = (s.obj .imbalanceEvents n + 1) % 2 ^ (8 * Obj.imbalanceEvents.info.width)) ∧
      t.cores = s.cores ∧ t.mem = s.mem)

/-- Time between modules and the port registers (11 R366 to R369, R378, R379, 16 R522 to R524, Tables 11-19, 16-7a): a TSYNC report
carries the marker's stamps and a received one gives 2 theta; the loop sets the time state of a root, a follower and a module
that runs free, and its rate stays within 200 ppm; a role, a retrain, a disable and an enable start training again, and a
command PORT_CMD returns a degraded port to 16 lanes where the register TXOFF does not (log 27); weights and the map of the Z
axis are written only when legal and while no job runs. -/
def Obligations.TimeAndPortRegisters : Prop :=
  ∀ (s : State) (port : Fin 48),
    let n := port.val
    let p := s.port n
    let rest (t : State) : Prop := t.cores = s.cores ∧ t.mem = s.mem
    (∀ m rx tx, p.lastPair = some (m, rx, tx) → p.step = 5 → ∃ b,
      exec (.tsyncSend port) s = .next (s.setPort n { p with lcq := p.lcq ++ [b] }) ∧ b.length = 30 ∧ natAt b 0 1 = 3 ∧
      natAt b 2 2 = m % 2 ^ 16 ∧ natAt b 8 8 = rx % 2 ^ 64 ∧ natAt b 16 8 = tx % 2 ^ 64 ∧
      natAt b 24 3 = s.obj .timeRoot % 2 ^ 24 ∧ natAt b 27 1 = s.obj .timeSync % 2 ^ 8 ∧ natAt b 28 2 = s.time.dist % 2 ^ 16) ∧
    (p.lastPair = none ∨ p.step ≠ 5 → Idles (.tsyncSend port) s) ∧
    (∀ f m ra tb, p.lcFrame 3 = some f → p.lastPair = some (m, ra, tb) → Does (.tsyncReceive port) s fun t =>
      (t.port n).thetas = (((natAt f.payload 8 8 : Int) - natAt f.payload 16 8 - ((ra : Int) - tb)) :: p.thetas).take 16 ∧
      (t.port n).peerRoot = natAt f.payload 24 3 ∧ (t.port n).peerSync = natAt f.payload 27 1 ∧
      (t.port n).peerDist = natAt f.payload 28 2 ∧ (t.port n).frames = p.frames.drop 1 ∧ rest t) ∧
    (let loop (q : State → Prop) : Prop := Does .timeLoopUpdate s fun t => q t ∧ rest t
     (s.freeRunning = true → loop fun t => t.obj .timeSync = 0 ∧ t.time.rho = 0 ∧ t.gtc = s.gtc) ∧
     (s.freeRunning = false → s.isRoot = true → loop fun t => t.obj .timeSync = 4 ∧ t.time.rho = 0 ∧ t.time.dist = 0 ∧ t.gtc = s.gtc) ∧
     (s.freeRunning = false → s.isRoot = false →
      (s.timeParent = none → loop fun t => t.obj .timeSync = 3 ∧ t.time.parent = 63 ∧ t.gtc = s.gtc) ∧
      (∀ m, s.timeParent = some m →
        ((s.port m).thetas.length < 16 → s.obj .timeSync ≠ 2 → loop fun t => t.obj .timeSync = 1 ∧ t.time.parent = m ∧ t.gtc = s.gtc) ∧
        ((s.port m).thetas.length = 16 →
          let mean : Int := (s.port m).thetas.foldl (fun a b => a + b) 0 / 2
          loop fun t => t.time.theta = mean ∧ (t.port m).thetas = [] ∧ t.time.parent = m ∧ t.time.dist = (s.port m).peerDist + 1 ∧
            (s.time.hold = true → t.gtc = s.gtc ∧ t.time.rho = s.time.rho) ∧
            (s.time.hold = false → s.obj .moduleState ≤ 1 → 16000 < mean.natAbs → t.gtc = ((s.gtc : Int) + mean / 16).toNat) ∧
            (s.time.hold = false → 2 ≤ s.obj .moduleState → t.gtc = s.gtc ∧ t.time.rho.natAbs ≤ 200000000))))) ∧
    (∀ role : BitVec 8,
      (s.jobRuns = false → role.toNat < 8 → Does (.portRoleWrite port role) s fun t => t.obj .portRole n = role.toNat ∧
        (t.port n).incarn = (p.incarn + 1) % 2 ^ 32 ∧ (t.port n).step = 1 ∧
        (t.port n).st = (if role.toNat = 0 ∨ p.txoff = true ∨ s.fencedDie = some n then 0 else 1) ∧ (∀ m, m ≠ n → t.port m = s.port m) ∧ rest t) ∧
      (s.jobRuns = true ∨ 8 ≤ role.toNat → Idles (.portRoleWrite port role) s)) ∧
    (∀ i ∈ [Instr.portRetrain port, .fpRetrain port], Does i s fun t =>
      (t.port n).step = (if s.enabled n then min 2 p.step else 1) ∧ (t.port n).st = (if s.enabled n then 1 else 0) ∧
      (t.port n).mode = 0 ∧ (t.port n).want = 0 ∧ (t.port n).peerWant = 0 ∧
      (∀ l, l < 16 → ((t.port n).lane l).bad = false) ∧ (∀ m, m ≠ n → t.port m = s.port m) ∧ rest t) ∧
    (let written (off : Bool) (t : State) : Prop := (t.port n).txoff = off ∧ (t.port n).step = 1 ∧
        (t.port n).st = (if off = true ∨ s.obj .portRole n = 0 ∨ s.fencedDie = some n then 0 else 1) ∧
        (∀ m, m ≠ n → t.port m = s.port m) ∧ rest t
     (p.txoff = true → Idles (.portDisable port) s ∧ Idles (.fpTxoff port true) s) ∧
     (p.txoff = false → Idles (.portEnable port) s ∧ Idles (.fpTxoff port false) s) ∧
     (p.txoff = false → Does (.portDisable port) s (fun t => written true t ∧ (t.port n).mode = 0 ∧ (t.port n).want = 0) ∧
       Does (.fpTxoff port true) s (fun t => written true t ∧ (t.port n).mode = p.mode ∧ (t.port n).want = p.want)) ∧
     (p.txoff = true → Does (.portEnable port) s (fun t => written false t ∧ (t.port n).mode = 0 ∧ (t.port n).want = 0) ∧
       Does (.fpTxoff port false) s (fun t => written false t ∧ (t.port n).mode = p.mode ∧ (t.port n).want = p.want))) ∧
    (∀ v : Word,
      let f (i : Nat) : Nat := v.toNat / 2 ^ (8 * i) % 256
      let ok := s.jobRuns = false ∧ 1 ≤ f 5 ∧ f 5 ≤ 10 ∧ f 4 ≤ 20 ∧ f 0 + f 1 + f 2 + f 3 + f 4 = 100
      (ok → exec (.felunWeightsWrite v) s = .next (s.setObj .felunWeights (v.toNat % 2 ^ 48))) ∧ (¬ ok → Idles (.felunWeightsWrite v) s)) ∧
    (∀ nz : BitVec 16,
      let ok := s.jobRuns = false ∧ 1 ≤ nz.toNat ∧ nz.toNat ≤ 2048 ∧
        ∀ z, z < nz.toNat → ∃ pod, pod < 2048 ∧ s.obj .zmap 0 pod = z ∧ ∀ q, q < 2048 → s.obj .zmap 0 q = z → q = pod
      (ok → Does (.zmapNzWrite nz) s fun t => t.obj .nz = nz.toNat ∧
        ((s.obj .portRole n = 6 ∨ s.obj .portRole n = 7) → nz.toNat = 1 → 3 < p.step → (t.port n).step = 3) ∧
        t = { s.setObj .nz nz.toNat with ports := t.ports }) ∧
      (¬ ok → Idles (.zmapNzWrite nz) s))

/-! ### Weight pages, gradients and chunks -/

/-- Weight ingress (12 R380 to R408): a PGREQ names the entry's page, first tile and count under a tag; a PGRANT carries GRANTED; a raw tile
of the wanted page lands once for each destination; a tile without an answer is asked for again and then lasts as poison; a copy
reaches its ring or memory; a code table is valid or invalid; the plan, swap and epoch commands act only when they are legal. -/
def Obligations.WeightPages : Prop :=
  ∀ (s : State) (port : Fin 48),
    let n := port.val
    let m := s.mouth n
    let mp (t : State) (i : Nat) : Prop := t.obj .mpCounters n i = (s.obj .mpCounters n i + 1) % 2 ^ (8 * Obj.mpCounters.info.width)
    let gone (t : State) (g : Granted) : Prop := ∀ x ∈ (t.mouth n).grants, x.pseq ≠ g.pseq
    let rest (t : State) : Prop := t.cores = s.cores ∧ t.mem = s.mem
    (s.holding = false → s.walks n = true → s.obj .ingressMode n = 0 → m.runs.length < s.obj .mpReqs →
      ∀ q ps g tag, s.reserveRun n = some (q, ps) → ps.head?.bind q.want = some g → (s.port n).freeTag = some tag →
        Does (.pgreqIssue port) s fun t => (t.mouth n).runs = q.runs ++ [⟨q.nextRun, ps⟩] ∧
          (∃ l p, aget [] (t.port n).txq 5 = l ++ [p] ∧ p.opc = 0x10 ∧ p.tag = tag ∧
            p.word 0 = g.plan.pageId % 2 ^ 64 ∧ bitsOf (p.word 1) 31 26 = g.tile % 64 ∧
            bitsOf (p.word 1) 25 19 = ps.length % 128) ∧ rest t) ∧
    (s.holding = true ∨ s.walks n = false → Idles (.pgreqIssue port) s ∧ Idles (.pgrantSend port) s) ∧
    (s.holding = false → s.walks n = true → s.obj .ingressMode n = 1 →
      let u := (reserveAll 4096 n s).swapDone
      ((u.mouth n).granted ≠ (u.mouth n).grantedSent → 1000 ≤ s.gtc - (u.mouth n).lastGrant → Does (.pgrantSend port) s fun t =>
        (t.mouth n).grantedSent = (u.mouth n).granted ∧ (t.mouth n).lastGrant = s.gtc ∧
        (∃ l p, aget [] (t.port n).txq 5 = l ++ [p] ∧ p.opc = 0x14 ∧ p.word 3 % 2 ^ 32 = (u.mouth n).granted % 2 ^ 32) ∧ rest t) ∧
      (s.gtc - (u.mouth n).lastGrant < 1000 → exec (.pgrantSend port) s = .next u)) ∧
    (∀ p, s.takePacket n (fun x => x.opc == 0x11) = some p → s.epochOk n p = none → s.obj .ingressMode n = 0 →
      (s.tagHeld n p = false → Does (.pgtileReceive port) s fun t =>
        t.obj .portCounters n 12 = (s.obj .portCounters n 12 + 1) % 2 ^ (8 * Obj.portCounters.info.width) ∧ t.mouths = s.mouths ∧ rest t) ∧
      (∀ g, s.wantOf n p (bitsOf (p.word 1) 31 26) = some g → bitsOf (p.word 1) 31 26 = g.tile →
        bitsOf (p.word 1) 63 48 = g.plan.wepoch → p.word 0 = g.plan.pageId → bitsOf (p.word 1) 14 7 = 0 → p.len = 4224 → bitsOf (p.word 2) 32 20 = 0 → p.poisoned = [] →
        Does (.pgtileReceive port) s fun t => gone t g ∧ mp t 0 ∧
          (∃ cs, (t.mouth n).copies = m.copies ++ cs ∧
            cs.length = (g.plan.ds.filter (fun d => d.2.names g.tile)).length ∧
            ∀ c ∈ cs, c.payload = p.content.drop 128 ∧ c.scales = p.content.take 128 ∧ c.poison = [] ∧ c.failed = false) ∧
          rest t)) ∧
    (∀ p num r st run g, s.takePacket n (fun x => x.opc == 0x12) = some p → s.epochOk n p = none →
      (s.port n).tags.find? (fun x => x.num == p.tag && x.sendt == p.sendt) = some ⟨num, .run r, st⟩ →
      m.runs.find? (fun x => x.num == r) = some run → run.tiles.filterMap m.want = [g] →
      bitsOf (p.word 1) 31 26 ≤ g.tile → g.tile < bitsOf (p.word 1) 31 26 + bitsOf (p.word 1) 25 19 →
      (g.second = true → m.lastRun g.pseq = some r → Does (.pgerrReceive port) s fun t => gone t g ∧ mp t 3 ∧ rest t) ∧
      (g.second = false → s.epochTo = none → ∀ u, (s.rxDrop n p.vc).askRun n [g.pseq] true = some u →
        exec (.pgerrReceive port) s = .next u)) ∧
    (∀ p, s.takePacket n (fun x => x.opc == 0x13) = some p → s.epochOk n p = none → bitsOf (p.word 1) 14 7 ≠ 0 →
      let four := fourBit (bitsOf (p.word 1) 18 15)
      let lens := tabulate (if four then 16 else 256) (fun k => natAt p.content (k / 2) 1 / 2 ^ (4 * (k % 2)) % 16)
      let ok := (four || eightBit (bitsOf (p.word 1) 18 15)) && p.len == (if four then 8 else 128) && lensValid lens && p.psn == 0
      Does (.ctabReceive port) s fun t => (t.mouth n).table (bitsOf (p.word 1) 14 7) = ⟨ok, four, lens⟩ ∧
        (∀ c, c ≠ bitsOf (p.word 1) 14 7 → (t.mouth n).table c = m.table c) ∧ rest t) ∧
    (∀ id c, m.copies.find? (fun x => x.id == id && !x.away) = some c →
      let d : TileData := ⟨c.payload, c.scales, c.poison, c.scalePoison⟩
      (s.copyRegion c.dkind c.addr = none → Does (.mouthpieceCopyWrite port id) s fun t => (∀ x ∈ (t.mouth n).copies, x.id ≠ id) ∧
        t.obj .addrErrors n = (s.obj .addrErrors n + 1) % 2 ^ (8 * Obj.addrErrors.info.width) ∧ rest t) ∧
      (∀ r, s.copyRegion c.dkind c.addr = some r →
        (s.legFor (id * 256) 1 = none → Idles (.mouthpieceCopyWrite port id) s) ∧
        (∀ leg, s.legFor (id * 256) 1 = some leg → s.waitsAt r = false →
          let u := s.consume leg.ref
          exec (.mouthpieceCopyWrite port id) s = .next ((u.landCopy n c).post 1 1 leg.dst leg.src) ∧
          (∀ k off, c.dkind = 0 → r = .sram k off → s.regionOff k = false →
            u.landCopy n c = (u.landPush k c.slot 0 c.gen c.seq (BitVec.ofNat 64 n) d c.failed).1.copyDone n c true) ∧
          (∀ v a, c.dkind ≠ 0 → u.memoryOff r = false → u.poolAccess c.addr 4096 true true = (v, some a) →
            (∀ x, regionOf a ≠ .aperture x) → u.landCopy n c = (v.writeTile a d).copyDone n c true)))) ∧
    (∀ id c p, s.credits.find? (fun x => x.id == id && x.dstSlot == mouthSlot) = some c →
      let q := c.dst.toNat % 64
      let k := (coreOfWord c.origin).getD 0
      (s.standing (id * 256)).isSome = true → (s.mouth q).pairs = [p] → p.core = k → p.slot = c.originSlot → p.gen = c.gen →
      (s.ringDests q).any (fun w => bitsOf w.toNat 43 40 == c.originSlot &&
        (match regionOf (w.toNat % 2 ^ 40) with | .sram j _ => j == k | _ => false)) = true →
      Does (.mouthpieceCredit id) s fun t => (t.mouth q).pairs = [{ p with credits := p.credits + 1 }] ∧
        (∀ x ∈ t.credits, x.id ≠ id) ∧ rest t) ∧
    (∀ pseq g t0, m.want pseq = some g → g.firstAsk = some t0 →
      (s.gtc < t0 + 1000 * s.obj .pageRetry ∨ g.second = true ∨ s.epochTo ≠ none → Idles (.pageRetryTimeout port pseq) s) ∧
      (t0 + 1000 * s.obj .pageRetry ≤ s.gtc → g.second = false → s.epochTo = none → ∀ u, s.askRun n [pseq] true = some u →
        exec (.pageRetryTimeout port pseq) s = .next u) ∧
      (s.gtc < t0 + s.tierTimeout 1 → Idles (.tileLastingTimeout port pseq) s) ∧
      (t0 + s.tierTimeout 1 ≤ s.gtc → Does (.tileLastingTimeout port pseq) s fun t => gone t g ∧ mp t 3 ∧ rest t)) ∧
    ((∀ q ∈ s.weightPorts, (s.bank q 0).valid = true) → Does .planStart s fun t =>
      (n ∈ s.weightPorts → (t.mouth n).running = true ∧ (t.mouth n).active = 0 ∧ (t.mouth n).entry = 0 ∧ (t.mouth n).index = 0 ∧
        (t.mouth n).pass = 0 ∧ (t.mouth n).pseq = 0 ∧ (t.mouth n).runs = [] ∧ (t.mouth n).grants = []) ∧
      (n ∉ s.weightPorts → t.mouth n = m) ∧ (s.obj .swapState / 2 ^ 30 = 1 → t.obj .swapState = 0) ∧ (∀ q, s.weightPorts.head? = some q → t.obj .wepoch = s.bankEpoch q 0) ∧ rest t) ∧
    ((∃ q ∈ s.weightPorts, (s.bank q 0).valid = false) → Idles .planStart s) ∧
    (Does .planStop s fun t => t.mouth n = { m with running := false } ∧ rest t) ∧
    (∀ v : BitVec 16,
      (s.swapOk v.toNat = true → Does (.swapCmd v) s fun t => t.obj .swapState = 2 ^ 30 + v.toNat ∧
        (n ∈ s.weightPorts → t.mouth n = { m with swapAt := some v.toNat }) ∧ rest t) ∧
      (s.swapOk v.toNat = false → Idles (.swapCmd v) s) ∧
      (follows v.toNat (s.obj .pepoch) = true → s.obj .swapState / 2 ^ 30 ≠ 1 → s.epochTo = none → Does (.epochCmd v) s fun t =>
        t.epochTo = some v.toNat ∧ t.mouth n = { m with stalled := true } ∧ t.obj .pepoch = s.obj .pepoch ∧ rest t) ∧
      (follows v.toNat (s.obj .pepoch) = false ∨ s.obj .swapState / 2 ^ 30 = 1 ∨ s.epochTo ≠ none → Idles (.epochCmd v) s)) ∧
    (∀ e, s.epochTo = some e →
      (s.epochBusy = false → Does .epochAdvanceComplete s fun t => t.obj .pepoch = e ∧ t.epochTo = none ∧
        t.mouth n = { m with stalled := false } ∧ rest t) ∧
      (s.epochBusy = true → Idles .epochAdvanceComplete s))

/-- Gradient egress and chunks (12 R409 to R413, 13 R426 to R436): a bell reads PI and takes entries in order while it may; a GACK, an
acknowledgement or a timeout ends an entry with its status and counts it; a gradient page is sent once more, a chunk is not; an
acknowledgement that another port holds the tag of crosses the wafer to it (11 R358); a chunk that arrives in the placement
epoch is checked, written, counted and answered. -/
def Obligations.GradientsAndChunks : Prop :=
  ∀ (s : State) (port : Fin 48),
    let n := port.val
    let bell (t : State) (i : Nat) : Prop :=
      t.obj .bellCounters n i = (s.obj .bellCounters n i + 1) % 2 ^ (8 * Obj.bellCounters.info.width)
    let sent (t : State) (m i : Nat) : Prop := t.obj .chunkTx m i = (s.obj .chunkTx m i + 1) % 2 ^ (8 * Obj.chunkTx.info.width)
    let ended (l : List BellEntry) (idx : Nat) : Prop := ∀ e ∈ l, e.idx = idx → e.status ≠ none
    let free := s.holding = false ∧ (s.bell n).stopped = false ∧ s.epochTo = none
    (free → s.obj .portRole n = 1 → s.obj .eqBase n ≠ 0 → ∀ u bs, s.bellRead (s.obj .eqBase n) 8 = some (u, bs) →
      exec (.egressPoll port) s = .next (takeEgresses 64 n (u.updBell n (fun b => { b with gPi := leNat bs }))) ∧
      (leNat bs ≤ (u.bell n).gTaken → exec (.egressPoll port) s = .next (u.updBell n (fun b => { b with gPi := leNat bs })))) ∧
    (∀ u, s.takeEgress n = some u → (u.bell n).gTaken = (s.bell n).gTaken + 1 ∧ (s.bell n).gTaken < (s.bell n).gPi) ∧
    (free → 2 ≤ s.obj .portRole n → s.obj .portRole n ≤ 7 → s.obj .cqBase n ≠ 0 → ∀ u bs,
      s.bellRead (s.obj .cqBase n) 8 = some (u, bs) → leNat bs ≤ (u.bell n).cTaken → Does (.chunkQueuePoll port) s fun t =>
        (t.bell n).cPi = leNat bs ∧ (t.bell n).cTaken = (u.bell n).cTaken ∧
        t.obj .cqState n = leNat bs % 2 ^ 32 * 2 ^ 32 + (u.bell n).cCi % 2 ^ 32 ∧ t.mem = u.mem) ∧
    (∀ u, s.takeChunk n = some u → (u.bell n).cTaken = (s.bell n).cTaken + 1 ∧ (s.bell n).cTaken < (s.bell n).cPi ∧
      u.obj .chunkTx n 0 = (s.obj .chunkTx n 0 + 1) % 2 ^ (8 * Obj.chunkTx.info.width)) ∧
    (s.holding = true ∨ (s.bell n).stopped = true ∨ s.epochTo ≠ none → Idles (.egressPoll port) s ∧ Idles (.chunkQueuePoll port) s) ∧
    (∀ p num idx st e, s.takePacket n (fun x => x.opc == 0x16) = some p → s.epochOk n p = none →
      (s.port n).tags.find? (fun g => g.num == p.tag && g.sendt == p.sendt) = some ⟨num, .gpage idx, st⟩ →
      (s.bell n).gOpen.find? (fun x => x.idx == idx && x.status.isNone) = some e →
      (p.status ≠ 0 → Does (.gackReceive port) s fun t => bell t 3 ∧ ended (t.bell n).gOpen idx ∧
        ∀ g ∈ (t.port n).tags, g.num ≠ num) ∧
      (p.status = 0 → Does (.gackReceive port) s fun t => bell t 0 ∧ ended (t.bell n).gOpen idx ∧
        ∀ g ∈ (t.port n).tags, g.num ≠ num)) ∧
    (∀ idx e, (s.bell n).gOpen.find? (fun x => x.idx == idx && x.status.isNone) = some e →
      (e.sendt + s.tierTimeout 1 ≤ s.gtc → Does (.gradientRetryTimeout port idx) s fun t =>
        bell t 2 ∧ ended (t.bell n).gOpen idx) ∧
      (s.gtc < e.sendt + s.tierTimeout 1 →
        (e.resent = true ∨ s.gtc < e.sendt + 1000 * s.obj .pageRetry → Idles (.gradientRetryTimeout port idx) s) ∧
        (e.resent = false → e.sendt + 1000 * s.obj .pageRetry ≤ s.gtc →
          (s.sendGradient n idx e.words = none → Idles (.gradientRetryTimeout port idx) s) ∧
          ∀ u bad, s.sendGradient n idx e.words = some (u, bad) →
          exec (.gradientRetryTimeout port idx) s = .next ((if bad && !e.poisoned then u.incObj .bellCounters n 4 else u).updBell n
            (fun b => { b with gOpen := b.gOpen.map (fun (x : BellEntry) =>
              if x.idx = idx then { x with resent := true, poisoned := x.poisoned || bad } else x) }))))) ∧
    (∀ idx e, (s.bell n).cOpen.find? (fun x => x.idx == idx && x.status.isNone) = some e →
      (e.sendt + s.tierTimeout 1 ≤ s.gtc → Does (.chunkAckTimeout port idx) s fun t => sent t n 4 ∧ ended (t.bell n).cOpen idx) ∧
      (s.gtc < e.sendt + s.tierTimeout 1 → Idles (.chunkAckTimeout port idx) s)) ∧
    (let acked (p : Packet) (q : State → Prop) : Prop := ∀ idx g e, s.chunkTag p = some (idx, g) →
       (s.bell n).cOpen.find? (fun x => x.idx == idx && x.status.isNone) = some e → Does (.chunkAckReceive port) s fun t =>
         sent t n (if p.status = 0 then 1 else if p.status = 3 then 6 else 3) ∧ ended (t.bell n).cOpen idx ∧
         (∀ x ∈ (t.port n).tags, x.num ≠ g.num) ∧ q t
     let crossed := s.fab.inb.find? (fun i =>
       i.out == n && i.stage == 2 && i.pkt.opc == 9 && (s.inbStands i).isSome && (s.chunkTag i.pkt).isSome)
     (∀ i, crossed = some i → acked i.pkt (fun t => ∀ x ∈ t.fab.inb, x.id ≠ i.id)) ∧
     (∀ p, crossed = none → s.takePacket n (fun x => x.opc == 9 && (s.chunkTag x).isSome) = some p →
       (p.rport = n → acked p (fun _ => True)) ∧
       (p.rport ≠ n → exec (.chunkAckReceive port) s = .next (s.enterWafer n p 2 p.rport (attachEndp p.rport 0))))) ∧
    (∀ p, s.takePacket n (fun x => x.opc == 0x18) = some p →
      let e := bitsOf (p.word 1) 63 48
      let own := s.obj .pepoch
      let refused (i st : Nat) : Prop := exec (.chunkLand port) s = .next (((s.incObj .chunkRx n i).answer p n st).rxDrop n p.vc)
      (e ≠ own → refused (if follows e own then 8 else 7) 2) ∧
      (e = own → s.chunkTarget p = false →
        exec (.chunkLand port) s = .next (((s.incObj .chunkRx n 5).addrErrorAnswer n p).rxDrop n p.vc)) ∧
      (e = own → s.chunkTarget p = true → s.waitsAt (s.region p.addr) = false →
        (48 ≤ p.valve ∨ s.waitsAt (s.region (p.word 3 % 2 ^ 40)) = false) →
        (s.memoryOff (s.region p.addr) = true → refused 6 2) ∧
        (s.memoryOff (s.region p.addr) = false → ∀ u a, s.poolAccess p.addr 4096 true true = (u, some a) →
          exec (.chunkLand port) s = .next (u.landChunk n p a) ∧
          ((∀ x, regionOf a ≠ .aperture x) →
            let ws := unpackLanes (bitsOf (p.word 2) 63 60 == 1) p.content
            let bad := p.psn == 0 && chunkCheck ws != p.word 0
            (u.landChunk n p a).mem = (u.writeTile a (chunkTile u n p ws (p.psn != 0) bad)).mem ∧
            (u.landChunk n p a).obj .chunkRx n 0 = (u.obj .chunkRx n 0 + 1) % 2 ^ (8 * Obj.chunkRx.info.width) ∧
            (bad = true → (u.landChunk n p a).obj .chunkRx n 1 = (u.obj .chunkRx n 1 + 1) % 2 ^ (8 * Obj.chunkRx.info.width))))))

/-! ### The host interface -/

/-- BAR0, BAR2, the PCIe links and the aperture (14 R443 to R452, R461, R462, 08 R255): a read completes with the bytes at its
offset or as Table 14-2 says, a write outside its reach is discarded and counted; a lost link fails its requests and halts its
channels; a completion, an acknowledgement or a timeout answers the access that waits for it. -/
def Obligations.HostAccesses : Prop :=
  ∀ (s : State) (link : Fin 2),
    let l := link.val
    (∀ (x : BitVec 38) (n : Nat),
      let r := s.bar2Region x.toNat n
      (r = none → exec (.bar2Read link x n) s = .next ((s.incObj .addrErrorsHost).complete 1 [] false)) ∧
      (∀ k off, r = some (.sram k off) → s.asleep k = false → s.memoryOff (.sram k off) = false → Does (.bar2Read link x n) s fun t =>
        (∃ p, t.hst.cpl = some ⟨0, memBytes t.mem x.toNat n, p⟩) ∧ t.hst.rdWait = none ∧ t.cores = s.cores)) ∧
    (∀ (x : BitVec 38) (data : List (BitVec 8)),
      let r := s.bar2Region x.toNat data.length
      (∀ ep, r = none → exec (.bar2Write link x data ep) s = .next (s.incObj .addrErrorsHost)) ∧
      (∀ g, r = some g →
        let u := s.postHost l g (flitsOf data.length) 1
        (∀ k off, g = .sram k off → s.asleep k = false → s.memoryOff g = false →
          exec (.bar2Write link x data false) s = .next (u.writeMem x.toNat data) ∧
          exec (.bar2Write link x data true) s = .next (u.writeTier x.toNat data (some (hubUnit (1 + l))))) ∧
        (∀ k off, g = .ccb k off → s.asleep k = false → s.memoryOff g = false →
          exec (.bar2Write link x data false) s = .next (u.ccbWrite k off 5 (BitVec.ofNat 64 (leNat data))) ∧
          exec (.bar2Write link x data true) s = .next u))) ∧
    (∀ (off : BitVec 28) (v : Word),
      let u := if off.toNat < 0x1000000 then s.post 5 1 (linkEndp l) mmcEndp else s
      (off.toNat % 8 = 0 →
        exec (.bar0Access link off 8 none) s = .next (u.complete 0 (leBytes 8 ((u.bar0Read l off.toNat).getD 0)) false) ∧
        exec (.bar0Access link off 8 (some v)) s = .next ((u.bar0Write l off.toNat v.toNat).getD (u.incObj .barRefused)) ∧
        (∀ q : Fin 128, off.toNat = 0x2000000 + q.val * 0x1000 →
          exec (.bar0Access link off 8 (some v)) s = exec (.lqDoorbell link q (BitVec.ofNat 32 v.toNat)) s)) ∧
      (∀ size, size ≠ 8 ∨ off.toNat % 8 ≠ 0 → exec (.bar0Access link off size none) s = .next (u.complete 1 [] false) ∧
        exec (.bar0Access link off size (some v)) s = .next (u.incObj .barRefused))) ∧
    ((s.link l).up = false → Idles (.pcieLinkLoss link) s) ∧
    ((s.link l).up = true → Does (.pcieLinkLoss link) s fun t => (t.link l).up = false ∧ (∀ r ∈ t.hst.apReads, r.link ≠ l) ∧
      t.obj .linkLosses l = (s.obj .linkLosses l + 1) % 2 ^ (8 * Obj.linkLosses.info.width) ∧
      (∀ c, c < 16 → (s.dma c).link = l → (s.dma c).st ≠ 0 → (t.dma c).st = 3 ∧ (t.dma c).desc = []) ∧
      (s.move = none → (∀ w ∈ t.hst.apWrites, w.link ≠ l) ∧ t.mem = s.mem)) ∧
    (∀ (rate : BitVec 16) (width : BitVec 8) (fmask : Bool),
      ((s.link l).up = true → Idles (.pcieLinkUp link rate width fmask) s) ∧
      ((s.link l).up = false → 640 < rate.toNat ∨ (width ≠ 16 ∧ width ≠ 8 ∧ width ≠ 4) → Idles (.pcieLinkUp link rate width fmask) s) ∧
      ((s.link l).up = false → rate.toNat ≤ 640 → width = 16 ∨ width = 8 ∨ width = 4 →
        Does (.pcieLinkUp link rate width fmask) s fun t => (t.link l).up = true ∧
        (t.link l).busMaster = true ∧ (t.link l).rate = rate.toNat ∧ (t.link l).width = width.toNat ∧ (t.link l).fmask = fmask ∧
        t.cores = s.cores ∧ t.mem = s.mem)) ∧
    ((s.link l).up = true → Idles (.pcieLinkTrainFail link) s) ∧
    ((s.link l).up = false → Does (.pcieLinkTrainFail link) s fun t => Told s t ∧ (t.link l).up = false) ∧
    (Does (.pcieFunctionReset link) s fun t => (t.link l).up = false ∧ (t.link l).busMaster = false ∧ (t.link l).table = [] ∧
      (∀ r ∈ t.hst.apReads, r.link ≠ l) ∧
      (∀ c, c < 16 → (s.dma c).link = l → (t.dma c).en = false ∧ (t.dma c).st = 0 ∧ (t.dma c).desc = []) ∧
      (∀ q, q < 128 → s.lqLink q = l → t.lqEn q = false) ∧ (s.move = none → t.mem = s.mem)) ∧
    (∀ i r, s.hst.apReads[i]? = some r →
      (∀ (data : List (BitVec 8)) (bad : List Nat),
        (∀ m, r.who = .bar2 m → Does (.apertureCompletion i 0 data bad) s fun t =>
          t.hst.cpl = some ⟨0, fitTo 0 m data, false⟩ ∧ t.hst.apReads = dropNth s.hst.apReads i ∧ t.mem = s.mem ∧ t.cores = s.cores) ∧
        (∀ id q, r.who = .req id → s.findReq id = some q → Does (.apertureCompletion i 0 data bad) s fun t =>
          ({ q with stage := .answered 0 (fitTo 0 r.size data) none } : Req) ∈ t.reqs ∧
          t.hst.apReads = dropNth s.hst.apReads i ∧ t.mem = s.mem ∧ t.cores = s.cores) ∧
        (∀ outcome : Fin 4, outcome ≠ 0 → Does (.apertureCompletion i outcome data bad) s fun t =>
          t.obj .apertureErrs r.link (outcome.val - 1) =
            (s.obj .apertureErrs r.link (outcome.val - 1) + 1) % 2 ^ (8 * Obj.apertureErrs.info.width) ∧ t.mem = s.mem)) ∧
      (s.gtc < r.sentAt + s.tierTimeout 2 → Idles (.apertureTimeout i) s) ∧
      (r.sentAt + s.tierTimeout 2 ≤ s.gtc → Does (.apertureTimeout i) s fun t => t.hst.apReads = dropNth s.hst.apReads i ∧
        t.obj .apertureErrs r.link 3 = (s.obj .apertureErrs r.link 3 + 1) % 2 ^ (8 * Obj.apertureErrs.info.width) ∧ t.mem = s.mem)) ∧
    (∀ ref w rest, takeFirst (fun (x : ApWrite) => x.ref == ref) s.hst.apWrites = some (w, rest) →
      ((∃ x ∈ rest, x.ref = ref) → exec (.apertureWriteAck ref) s = .next { s with hst := { s.hst with apWrites := rest } }) ∧
      ((∀ x ∈ rest, x.ref ≠ ref) → (∀ q ∈ s.hst.queues, ref ∉ q.2.copying) → ref < 2 ^ 60 → ∀ q, s.findReq ref = some q →
        Does (.apertureWriteAck ref) s fun t => ({ q with stage := .answered 0 [] none } : Req) ∈ t.reqs ∧
          t.hst.apWrites = rest ∧ t.mem = s.mem))

/-- Launch queues, DMA channels, MSI-X and the mailboxes (14 R453 to R461, 15 R496, R497): PI, CI and CPI move as a doorbell or a store
on the queue's own core gives them, and what does not advance is refused and counted; a completed record is copied to its place in
the host ring; a descriptor is taken when its channel runs and ends with CI one further; a pending message is sent when its
vector allows. -/
def Obligations.QueuesAndDma : Prop :=
  ∀ (s : State) (link : Fin 2) (q : Fin 128) (c : Fin 16) (v : BitVec 32),
    let n := q.val
    let x := s.lq n
    let d := s.dma c.val
    let refused (i : Instr) : Prop := exec i s = .next (s.incObj .doorbellRefused)
    (s.lqEn n = true → s.lqLink n = link.val → 1 ≤ sub32 v.toNat x.ci → sub32 v.toNat x.ci ≤ s.lqSize n →
      sub32 x.pi x.ci < sub32 v.toNat x.ci →
      (48 ≤ s.lqValve n → exec (.lqDoorbell link q v) s = .next (s.setLq n { x with pi := v.toNat })) ∧
      (s.lqValve n < 48 → exec (.lqDoorbell link q v) s =
        .next ((s.setLq n { x with pi := v.toNat }).signalCore (s.lqCore n) (s.lqValve n) (s.lsHub 5) s.gtc))) ∧
    (s.lqEn n = false ∨ s.lqLink n ≠ link.val ∨ s.lqSize n < sub32 v.toNat x.ci ∨ sub32 v.toNat x.ci ≤ sub32 x.pi x.ci →
      refused (.lqDoorbell link q v)) ∧
    (exec (.lqCheadWrite q v) s = .next (s.setLq n { x with chead := v.toNat })) ∧
    (∀ k : CoreId,
      (k.key ≠ s.lqCore n → Idles (.lqCiStore k q v) s ∧ Idles (.lqCpiStore k q v) s) ∧
      (k.key = s.lqCore n → exec (.lqCpiStore k q v) s = .next (s.setLq n { x with cpi := v.toNat }) ∧
        (1 ≤ sub32 v.toNat x.ci → sub32 v.toNat x.ci ≤ sub32 x.pi x.ci →
          exec (.lqCiStore k q v) s = .next (s.setLq n { x with ci := v.toNat })) ∧
        (sub32 v.toNat x.ci = 0 ∨ sub32 x.pi x.ci < sub32 v.toNat x.ci → refused (.lqCiStore k q v)))) ∧
    (∀ w0 w1 w2 w3 : Word,
      let ok := s.jobRuns = false ∧ s.lqCfgOk w0.toNat w1.toNat w2.toNat w3.toNat = true
      (ok → Does (.lqCfgWrite q w0 w1 w2 w3) s fun t => t.obj .lqCfg n 0 = Nat.land w0.toNat 0xE0FFFFFC0001FFFF ∧
        t.obj .lqCfg n 1 = w1.toNat % 2 ^ 40 ∧ t.obj .lqCfg n 2 = w2.toNat % 2 ^ 40 ∧ t.obj .lqCfg n 3 = w3.toNat ∧
        t = { s with objs := t.objs }) ∧
      (¬ ok → Idles (.lqCfgWrite q w0 w1 w2 w3) s)) ∧
    (s.lqEn n = false ∨ (s.link (s.lqLink n)).up = false → Idles (.completionCopy q) s) ∧
    (s.lqEn n = true → (s.link (s.lqLink n)).up = true → 0 < s.lqSize n → x.copied = x.hcopy →
      x.cpi = (x.hcopy + 1) % 2 ^ 32 → x.hcopy < 2 ^ 32 →
      (s.lqSize n ≤ sub32 x.hcopy x.chead → Does (.completionCopy q) s fun t => (t.lq n).waitHost = true ∧ (t.lq n).hcopy = x.hcopy ∧
        t.hst.apWrites = s.hst.apWrites) ∧
      (sub32 x.hcopy x.chead < s.lqSize n → ∀ u bs,
        (s.setLq n { x with batch := x.cpi }).recordRead (s.obj .lqCfg n 2 % 2 ^ 40 + x.hcopy % s.lqSize n * 32) = some (u, bs) →
        Does (.completionCopy q) s fun t => (t.lq n).copied = x.cpi ∧ (t.lq n).copying = x.copying ++ [u.nextId] ∧
          (∃ w ∈ t.hst.apWrites, w.ref = u.nextId ∧ w.addr = u.obj .lqCfg n 3 + x.hcopy % s.lqSize n * 32 ∧
            w.data = u.copyRecord n x.hcopy bs) ∧ t.mem = u.mem)) ∧
    (d.rsize < sub32 v.toNat d.ci → refused (.dmaDoorbell c v)) ∧
    (sub32 v.toNat d.ci ≤ d.rsize → exec (.dmaDoorbell c v) s =
      .next (s.setDma c.val { d with pi := v.toNat, st := if d.st = 2 ∧ v.toNat ≠ d.ci then 1 else d.st })) ∧
    (d.en = true → Idles (.dmaEnable c) s) ∧
    (d.en = false → exec (.dmaEnable c) s = .next (s.setDma c.val { d with en := true, st := if d.pi = d.ci then 2 else 1 })) ∧
    (exec (.dmaDisable c) s = .next (s.setDma c.val { d with
      en := false, st := if d.st = 3 then 3 else if d.desc = [] then 0 else d.st })) ∧
    (∀ words : List Word, words.length = 8 →
      (d.en = true → d.st = 1 → d.desc = [] → d.ci ≠ d.pi → (s.link d.link).up = true →
        exec (.dmaDescriptorExecute c words) s = .next (s.setDma c.val { d with desc := words })) ∧
      (d.en = false ∨ d.st ≠ 1 ∨ d.desc ≠ [] ∨ d.ci = d.pi ∨ (s.link d.link).up = false → Idles (.dmaDescriptorExecute c words) s)) ∧
    (∀ (data scales : List (BitVec 8)) (bad : List Nat) (refuse : Bool),
      let w := d.desc.map (fun y => y.toNat)
      (d.desc = [] → Idles (.dmaDescriptorComplete c data scales bad refuse) s) ∧
      (d.desc ≠ [] →
        (dmaOk w = false → exec (.dmaDescriptorComplete c data scales bad refuse) s = .next (s.dmaEnd c.val 5 0 w)) ∧
        (dmaOk w = true → refuse = true → exec (.dmaDescriptorComplete c data scales bad refuse) s = .next (s.dmaEnd c.val 4 0 w)) ∧
        (dmaOk w = true → refuse = false → ∀ t, s.dmaHeld w = some t → exec (.dmaDescriptorComplete c data scales bad refuse) s = .next t) ∧
        (dmaOk w = true → refuse = false → s.dmaHeld w = none →
          let u := if (w.getD 0 0).testBit 61 then 4096 else 64
          let r := dmaMove w d.link data scales bad (w.getD 3 0 / u) 0 s false
          exec (.dmaDescriptorComplete c data scales bad refuse) s =
            .next (r.1.dmaEnd c.val (if r.2.2.2 then 3 else if r.2.2.1 then 2 else 1) (r.2.1 * u) w))) ∧
      (∀ status done : Nat, let t := s.dmaEnd c.val status done w
        (t.dma c.val).ci = (d.ci + 1) % 2 ^ 32 ∧ (t.dma c.val).desc = [] ∧
        (3 ≤ status → d.haltErr = true → (t.dma c.val).st = 3) ∧
        (∃ y ∈ t.hst.apWrites, y.link = d.link ∧ y.addr = d.rbase.toNat + d.ci % d.rsize * 64 + 40 ∧
          y.data = leBytes 8 (status * 2 ^ 56 + done % 2 ^ 32)) ∧
        t.obj .dmaCounters c.val (if status ≤ 2 then 0 else 1) =
          (s.obj .dmaCounters c.val (if status ≤ 2 then 0 else 1) + 1) % 2 ^ (8 * Obj.dmaCounters.info.width))) ∧
    (∀ vec : BitVec 8,
      let p := s.link link.val
      (vec.toNat ∈ p.pend → p.canSend vec.toNat = true → exec (.msixSend link vec) s = .next (s.setLink link.val { p with
        pend := p.pend.filter (fun y => y != vec.toNat), sent := vec.toNat :: p.sent })) ∧
      (vec.toNat ∉ p.pend ∨ p.canSend vec.toNat = false → Idles (.msixSend link vec) s)) ∧
    (∀ len : BitVec 13,
      let b := s.mailbox c.val
      (len.toNat = 0 → exec (.mbSubmit c len) s = exec (.mbRelease c) s) ∧
      (b.busy = false → b.ready = false → 16 ≤ len.toNat → len.toNat ≤ 4096 → exec (.mbSubmit c len) s =
        .next ((s.updMailbox c.val (fun y => { y with busy := true })).receivePdu (.pcie c.val) (b.reqBytes len.toNat))) ∧
      (0 < len.toNat → b.busy = true ∨ b.ready = true ∨ len.toNat < 16 ∨ 4096 < len.toNat →
        exec (.mbSubmit c len) s = .next (s.incObj .barRefused)) ∧
      (b.waiting = [] → Does (.mbRelease c) s fun t => t.mailbox c.val = { b with ready := false } ∧ t.cores = s.cores ∧ t.mem = s.mem) ∧
      (∀ r rs, b.waiting = r :: rs → Does (.mbRelease c) s fun t =>
        t.mailbox c.val = { b with resp := r, rlen := r.length, ready := true, waiting := rs } ∧ t.cores = s.cores ∧ t.mem = s.mem))

/-! ### Chabohar and jobs -/

/-- The MMC serves PDUs one at a time from the front (15 R471, R472, R475, R479, R481, R486 to R491, 20 R614, R616): each row takes
the PDU at the front when its service is the row's and leaves any other, and a request of a client without a session is served by its
service, or answered from the responses kept for its TID.
What each service does (15 R465 to R470, R472 to R479, R484, R486 to R491, Table 15-5): READ answers with the value, DESCRIBE with the
description, WRITE applies a value that access, job state, busy object and rule allow and is answered with the first that refuses;
OPEN makes a session, PROOF grants it its role, CLOSE ends it; a segment out of place ends its transfer or is answered with the
offset that is next. -/
def Obligations.ChaboharFrontAndServices : Prop :=
  (∀ (s : State) (x : Inbound) (rest : List Inbound), s.chb.inbox = x :: rest →
     let svc := natAt x.pdu 0 1
     let u : State := { s with chb := { s.chb with inbox := rest } }
     let took (i : Instr) : Prop := exec i s = .next ((u.handle x).freeBox x.client)
     let row (i : Instr) (n : Nat) : Prop := (svc = n → took i) ∧ (svc ≠ n → Idles i s)
     row .chbWrite 2 ∧ row .describe 3 ∧ row .segInit 4 ∧ row .segBlock 5 ∧ row .segAck 6 ∧ row .segAbort 8 ∧ row .subscribe 9 ∧
     row .eventAck 0x8A ∧ row .openSession 0x10 ∧ row .proof 0x11 ∧ row .close 0x12 ∧
     (svc = 1 ∨ svc = 0 ∨ svc = 7 → took .chbRead) ∧ (svc = 2 ∨ svc = 4 ∨ svc = 0x10 → Idles .chbRead s) ∧
     (svc = 2 → natAt x.pdu 4 1 = 0x70 → natAt x.pdu 5 2 = 0x30 ∨ natAt x.pdu 5 2 = 0x31 → took .mkeyWrite) ∧
     (svc ≠ 2 ∨ natAt x.pdu 4 1 ≠ 0x70 → Idles .mkeyWrite s) ∧
     (svc = 4 ∨ svc = 5 → x.obj = (0x60, 0x10, 0) → took .bundleUpload) ∧ (x.obj ≠ (0x60, 0x10, 0) → Idles .bundleUpload s) ∧
     (svc = 4 ∨ svc = 5 → x.obj = (0x60, 0x11, 0) → isFelun x.client = true → took .bundleChainReceive) ∧
     (x.obj ≠ (0x60, 0x11, 0) → Idles .bundleChainReceive s) ∧
     (pduFormed x.client x.pdu = true → natAt x.pdu 10 2 = 0 → svc < 0x80 → x.extra = false →
       let r := u.plainRole x.client
       let q := requestOf x.client x.pdu (x.pdu.drop 16) r.1 r.2
       u.handle x = u.serve q ∧
       (wantsAnswer svc = true → ∀ k, u.keptFor q = some k → k.sameAs q = true →
         u.handle x = (u.countChb 1).sendMsg q.client k.rsid (svc + 0x80) k.status q.tid q.obj k.answer false false) ∧
       (u.available q = true → isFelun x.client = false → q.restricted = false ∨ restrictedServes svc = true →
         wantsAnswer svc = false ∨ u.keptFor q = none → u.handle x = u.dispatch q)) ∧
     (pduFormed x.client x.pdu = true → natAt x.pdu 10 2 ≠ 0 → svc < 0x80 → svc ≠ 0x11 → s.session (natAt x.pdu 10 2) = none →
       u.handle x = u.refuse (requestOf x.client x.pdu [] 0 true) 0x20 true)) ∧
  (∀ (s : State) (q : Request),
     (∀ o, State.named q = .inl o →
       (readAccess q o = 0 → q.body = [] → s.valueLen o q.obj.2.2 ≤ bodyCapacity q.client q.sid →
         s.serveReadReq q = (s.value o q.obj.2.2).2.reply q 0 (s.value o q.obj.2.2).1) ∧
       (accReadable o.info.acc = false → s.serveReadReq q = s.reply q 0x12 []) ∧
       (q.restricted = false → q.body = [] → s.serveDescribe q = s.reply q 0 (s.description o q.obj.2.2)) ∧
       (accWritable o.info.acc = false → s.serveWriteReq q = s.reply q 0x12 []) ∧
       (accWritable o.info.acc = true → q.restricted = true ∨ q.role < writeRole q o → s.serveWriteReq q = s.reply q 0x13 []) ∧
       (writeAccess q o = 0 → q.body.length ≤ bodyCapacity q.client q.sid → s.valueLen o q.obj.2.2 ≤ bodyCapacity q.client q.sid →
         o ≠ .bundle → o ≠ .bundleChain → s.formStatus o q.obj.2.2 q.body = 0 →
         (o.info.acc = .rwl → s.jobRuns = true → s.serveWriteReq q = s.reply q 0x16 []) ∧
         (¬ (o.info.acc = .rwl ∧ s.jobRuns = true) → s.heldBy q.obj = true → s.serveWriteReq q = s.reply q 0x17 []) ∧
         (¬ (o.info.acc = .rwl ∧ s.jobRuns = true) → s.heldBy q.obj = false → s.ruleStatus o q.obj.2.2 q.body = 0 →
           (s.applyValue o q.obj.2.2 q.body).actsOn o = false →
           s.serveWriteReq q = ((s.applyValue o q.obj.2.2 q.body).reply q ((s.applyValue o q.obj.2.2 q.body).endStatus o) []).afterKeyWrite
             o q.obj.2.2))) ∧
     (∀ st, State.named q = .inr st → s.serveReadReq q = s.reply q st [] ∧ s.serveWriteReq q = s.reply q st [] ∧
       s.serveDescribe q = s.reply q st []) ∧
     (let k := natAt q.body 0 1
      let role := natAt q.body 1 1
      s.lockedOut (carrierOf q.client) = false → q.body.length = 20 → natAt q.body 2 2 = 0 → k < 8 → 1 ≤ role → role ≤ 3 →
       (s.obj .mkeyRole k < role → s.serveOpen q = s.reply q 0x13 []) ∧
       (role ≤ s.obj .mkeyRole k → s.obj .recovery ≠ 1 → 16 ≤ s.chb.sessions.length → s.serveOpen q = s.reply q 0x21 []) ∧
       (role ≤ s.obj .mkeyRole k → s.obj .recovery ≠ 1 → s.chb.sessions.length < 16 → q.sid = 0 → ∃ x,
         (s.serveOpen q).chb.sessions = s.chb.sessions ++ [x] ∧ x.client = q.client ∧ x.role = role ∧ x.kslot = k ∧
         x.cnonce = q.body.drop 4 ∧ x.proven = false ∧ x.openedAt = s.gtc ∧ 1 ≤ x.sid ∧ (∀ y ∈ s.chb.sessions, y.sid ≠ x.sid))) ∧
     (∀ x, s.chb.sessions.find? (fun (y : Session) => y.sid == q.sid) = some x → x.client = q.client → x.proven = false →
       (x.proof (s.mkeyBytes x.kslot) "client" s.place = q.body → s.gtc ≤ x.openedAt + 5000000000 →
         s.serveProof q = ((s.updSession q.sid (fun y => { y with proven := true, last := s.gtc })).setLockout (carrierOf q.client)
           ⟨0, (s.lockout (carrierOf q.client)).since⟩).reply q 0 (x.proof (s.mkeyBytes x.kslot) "module" s.place ++ leBytes 1 x.role)) ∧
       (x.proof (s.mkeyBytes x.kslot) "client" s.place ≠ q.body → ∀ y ∈ (s.serveProof q).chb.sessions, y.sid ≠ q.sid)) ∧
     (q.sid ≠ 0 → ∀ y ∈ (s.serveClose q).chb.sessions, y.sid ≠ q.sid) ∧
     (q.sid ≠ 0 → q.body.length = 8 → natAt q.body 4 4 = 0 →
       (s.chb.sessions.filter (fun (x : Session) => x.mask != 0 && x.sid != q.sid)).length < 8 →
       s.serveSubscribe q = (s.updSession q.sid (fun x => { x with
         mask := natAt q.body 0 4, unacked := if natAt q.body 0 4 = 0 then [] else x.unacked })).reply q 0 []) ∧
     (∀ x e, s.session q.sid = some x → x.unacked.find? (fun (f : Unacked) => f.seq % 65536 == q.tid) = some e → e.resends = 0 →
       s.serveEventAck q = s.updSession q.sid (fun y => { y with unacked := y.unacked.filter (fun (f : Unacked) => f.seq != e.seq) })) ∧
     (s.transferOf q = none → s.serveBlock q = s.refuse q 0x1A false ∧ s.serveAck q = s.refuse q 0x1A false ∧ s.serveAbort q = s) ∧
     (∀ t, s.transferOf q = some t →
       let off := natAt q.body 0 4
       let bs := q.body.drop 4
       s.serveAbort q = s.abandon t ∧
       (t.write = true → off ≠ t.next → s.serveBlock q = s.sendSeg t 6 0 (leBytes 4 t.next) false) ∧
       (t.write = true → off = t.next → bs ≠ [] → bs.length % 4 = 0 → t.stop < off + bs.length / 4 →
         s.serveBlock q = s.abortSeg t 0x1A) ∧
       (t.write = true → t.isBundle = false → off = t.next → bs ≠ [] → bs.length % 4 = 0 → off + bs.length / 4 < t.stop →
         s.serveBlock q = (s.putTransfer { t with next := off + bs.length / 4, data := t.data ++ bs, lastProgress := s.gtc }).sendSeg
           { t with next := off + bs.length / 4, data := t.data ++ bs, lastProgress := s.gtc } 6 0 (leBytes 4 (off + bs.length / 4)) false) ∧
       (t.write = false → q.body.length = 4 → off ≤ t.sentTo → s.serveAck q = s.ackRead t off)))

/-- Timers of the MMC, and the job and reset commands (15 R469, R470, R475, R479, R489, R491, R494, R501, Table 15-3): an action, a transfer, an event,
a session and a lockout each end or are repeated when their time has passed and not before; a job starts, stops and is cleared in the
states that allow it; a reset command is due when nothing else is. -/
def Obligations.TimersAndJobs : Prop :=
  ∀ s : State,
    let rest (t : State) : Prop := t.cores = s.cores ∧ t.mem = s.mem
    (∀ t0, s.chb.transfers = [t0] → (∀ a, a < 3 → (s.forward a).st ≠ 1) →
      (s.gtc < t0.lastProgress + 4000000 * s.obj .segTimeout → t0.write = true → Idles .segTimeout s) ∧
      (t0.lastProgress + 4000000 * s.obj .segTimeout ≤ s.gtc → t0.again = [] → t0.isBundle = false → Does .segTimeout s fun t =>
        t.chb.transfers = [] ∧ t.obj .chbCounters 0 9 = (s.obj .chbCounters 0 9 + 1) % 2 ^ (8 * Obj.chbCounters.info.width) ∧ rest t)) ∧
    (∀ x e, s.chb.sessions = [x] → x.proven = true → x.unacked = [e] →
      (s.gtc < e.sentAt + 1000000 * s.obj .eventRetry → Idles .eventRetry s) ∧
      (e.sentAt + 1000000 * s.obj .eventRetry ≤ s.gtc → ∀ v, s.chb.events.find? (fun (w : Event) => w.seq == e.seq) = some v →
        (4 ≤ e.resends → Does .eventRetry s fun t => (∀ y ∈ t.chb.sessions, y.unacked = []) ∧
          t.obj .chbCounters 0 8 = (s.obj .chbCounters 0 8 + 1) % 2 ^ (8 * Obj.chbCounters.info.width) ∧ rest t) ∧
        (e.resends < 4 → x.sendCtr + 2 < 2 ^ 64 → x.hi + 1 < 2 ^ 64 → Does .eventRetry s fun t =>
          (∃ y, t.chb.sessions = [y] ∧ y.unacked = [⟨e.seq, e.resends + 1, s.gtc⟩] ∧ y.sendCtr = x.sendCtr + 1) ∧ rest t))) ∧
    (s.obj .canEn 0 ≠ 1 → s.obj .canEn 1 ≠ 1 → Idles .heartbeat s) ∧
    (∀ b, b < 2 → s.obj .canEn b = 1 → (s.can b).beat + 990000000 ≤ s.gtc → Does .heartbeat s fun t => (t.can b).beat = s.gtc ∧
      (∃ m ∈ t.chb.sent, m.svc = 0x0B ∧ m.client = .can b 0 ∧ m.body = leBytes 1 (s.obj .moduleState) ++ leBytes 3 0 ++ leBytes 4 (s.obj .evseq)) ∧
      rest t) ∧
    (let old (x : Session) : Bool := !x.proven && decide (x.openedAt + 5000000000 < s.gtc)
     Does .proofTimeout s fun t => (∀ x ∈ t.chb.sessions, x ∈ s.chb.sessions ∧ old x = false) ∧
      (∀ x ∈ s.chb.sessions, (∀ y ∈ s.chb.sessions, y.sid = x.sid → old y = false) → x ∈ t.chb.sessions) ∧ rest t) ∧
    (let old (x : Session) : Bool := x.proven && decide (x.last + 1000000 * s.obj .sessionIdle ≤ s.gtc)
     Does .sessionIdleTimeout s fun t => (∀ x ∈ t.chb.sessions, x ∈ s.chb.sessions ∧ old x = false) ∧
      (∀ x ∈ s.chb.sessions, (∀ y ∈ s.chb.sessions, y.sid = x.sid → old y = false) → x ∈ t.chb.sessions) ∧ rest t) ∧
    (Does .sessionLockoutEnd s fun t => (∀ c, 1 ≤ c → c ≤ 5 →
      (∀ t0, (s.lockout c).since = some t0 → t0 + 10000000000 ≤ s.gtc → t.lockout c = ⟨(s.lockout c).run, none⟩) ∧
      (∀ t0, (s.lockout c).since = some t0 → s.gtc < t0 + 10000000000 → t.lockout c = s.lockout c)) ∧ rest t) ∧
    (∀ a, s.chb.acts = [a] → a.answered = false →
      (s.gtc < a.since + 50000000 → Idles .commandDoneTimer s) ∧
      (a.since + 50000000 ≤ s.gtc → a.sid = 0 → (∃ o, Obj.find (a.obj.1 * 65536 + a.obj.2.1) = some o ∧ o.info.acc = .cmd) →
        Does .commandDoneTimer s fun t => t.chb.acts = [{ a with answered := true }] ∧
          (∃ m, t.chb.sent.head? = some m ∧ m.svc = 0x82 ∧ m.status = 1 ∧ m.tid = a.tid ∧ m.client = a.client) ∧ rest t)) ∧
    (s.obj .moduleState = 1 → s.holding = false → Does .jobStart s fun t => t.obj .moduleState = 2 ∧ t.obj .jobStartTime = s.gtc ∧
      t.obj .censusState = 0 ∧ (∀ n, n < 48 → (t.bell n).stopped = false) ∧ t.mem = s.mem) ∧
    (s.obj .moduleState ≠ 1 ∨ s.holding = true → Idles .jobStart s) ∧
    (s.obj .moduleState = 2 → awf Core.zero s.cores = true → Does .jobStop s fun t => t.obj .moduleState = 3 ∧ t.mem = s.mem ∧
      (∀ k y, y < 2 → (t.ctx k y).st ≠ .running ∧ (t.ctx k y).st ≠ .waiting)) ∧
    (s.obj .moduleState ≠ 2 → Idles .jobStop s) ∧
    (s.obj .moduleState = 3 → awf Core.zero s.cores = true →
      ((∀ k y, y < 2 → (s.ctx k y).st = .halted ∨ (s.ctx k y).st = .stopped) → exec .jobStoppingDone s = .next (s.setObj .moduleState 1)) ∧
      ((∃ k y, y < 2 ∧ ((s.ctx k y).st = .running ∨ (s.ctx k y).st = .waiting)) → Idles .jobStoppingDone s)) ∧
    (s.obj .moduleState = 4 → exec .jobClear s = .next (s.setObj .moduleState 1)) ∧
    (s.obj .moduleState ≠ 4 → Idles .jobClear s) ∧
    (let idle := s.boot.due = none ∧ s.obj .recovery ≠ 1 ∧ s.obj .moduleState ≠ 0
     (idle → s.obj .moduleState ≠ 5 → exec .resetWarmStart s = .next { s with boot := { s.boot with due := some 1 } }) ∧
     (idle → s.obj .moduleState = 5 → Idles .resetWarmStart s) ∧
     (idle → exec .resetColdStart s = .next { s with boot := { s.boot with due := some 2 } }) ∧
     (s.boot.due ≠ none ∨ (s.obj .moduleState = 0 ∧ s.obj .recovery ≠ 1) → Idles .resetWarmStart s ∧ Idles .resetColdStart s))

/-! ### Power, clocks and heat -/

/-- Feeds, the power cap and breath-hold (16 R503 to R505, R511 to R515): a feed moves between its states as its voltage and its timers say, with its
event counted and EFF_CAP following the stable feeds; a Present feed that drops begins breath-hold, which gates every region at
150 MHz until enough feeds are stable; regions leave it in turn; below 10.8 V every rail goes off. -/
def Obligations.FeedsAndBreathHold : Prop :=
  ∀ (s : State) (f : Fin 8) (mv : Nat),
    let n := f.val
    let x := s.feed n
    let goes (t : State) (st : Nat) : Prop := (t.feed n).st = st ∧ (t.feed n).since = s.gtc ∧
      t.obj .feedState n = (if st = 2 then 0x82 else st) ∧ (∀ m, m ≠ n → t.feed m = s.feed m) ∧ t.cores = s.cores ∧ t.mem = s.mem
    let count (t : State) (k : Nat) : Prop := t.obj .feedEvents n k = (s.obj .feedEvents n k + 1) % 2 ^ (8 * Obj.feedEvents.info.width)
    let begins := (x.st = 0 ∧ 47000 ≤ mv ∧ mv ≤ 58000) ∨ (x.st = 3 ∧ 47000 ≤ mv)
    (begins → Does (.feedQualifyBegin f mv) s fun t => goes t 1) ∧ (¬ begins → Idles (.feedQualifyBegin f mv) s) ∧
    (x.st = 1 → x.fails.length < 4 → x.since + 10000000 ≤ s.gtc → Does (.feedQualifyTimer f) s fun t => goes t 2 ∧
      (s.pwr.limit20 = false → s.obj .coolingState ≤ 1 → t.obj .effCap = min (s.obj .powerCap) (4800 * t.stable))) ∧
    (x.st ≠ 1 ∨ (s.gtc < x.since + 10000000 ∧ s.obj .moduleState ≠ 0) → Idles (.feedQualifyTimer f) s) ∧
    (x.st = 1 → mv < 46000 ∨ 58000 < mv → Does (.feedQualifyFail f mv false) s fun t => goes t 0 ∧ count t 1) ∧
    (x.st = 1 → Does (.feedQualifyFail f mv true) s fun t => goes t 3 ∧ count t 1 ∧ count t 2) ∧
    (x.st ≠ 1 ∨ (46000 ≤ mv ∧ mv ≤ 58000) → Idles (.feedQualifyFail f mv false) s) ∧
    (x.st = 2 → mv < 46000 → s.obj .bhState = 0 → Does (.feedVoltageLow f mv) s fun t => goes t 0 ∧ count t 0 ∧ t.obj .bhState = 1 ∧
      t.pwr.gated = List.range 192 ∧ (∀ r, r < 192 → t.obj .regionFreq r = 150) ∧ t.obj .bhLast 0 0 = s.gtc) ∧
    (x.st ≠ 2 ∨ 46000 ≤ mv → Idles (.feedVoltageLow f mv) s) ∧
    (x.st = 0 → Does (.feedReversed f) s fun t => goes t 3 ∧ count t 2) ∧ (x.st ≠ 0 → Idles (.feedReversed f) s) ∧
    (x.st = 2 → 60000 < mv → Does (.feedOverVoltage f mv) s fun t => goes t 4) ∧
    (x.st ≠ 2 ∨ mv ≤ 60000 → Idles (.feedOverVoltage f mv) s) ∧
    (x.st = 4 → mv ≤ 58000 → Does (.feedOverVoltageClear f mv) s fun t => goes t 1) ∧
    (x.st ≠ 4 ∨ 58000 < mv → Idles (.feedOverVoltageClear f mv) s) ∧
    (x.st = 2 → Does (.feedTrip f) s fun t => goes t 5 ∧ count t 3 ∧ (t.feed n).trips = x.trips + 1) ∧ (x.st ≠ 2 → Idles (.feedTrip f) s) ∧
    (x.st = 5 → x.trips < 2 → x.since + 1000000000 ≤ s.gtc → Does (.feedTripRetry f) s fun t => goes t 1) ∧
    (x.st ≠ 5 ∨ 2 ≤ x.trips → Idles (.feedTripRetry f) s) ∧
    (∀ (mw : Nat) (top : Fin 192),
      (mw ≤ 1000 * s.obj .effCap → Does (.powerCapEnforce mw top) s fun t => t.pwr.inputMw = mw ∧ t.pwr.excess = none ∧
        t.obj .energy = (s.pwr.energyPj + mw * (s.gtc - s.pwr.measAt)) / 10 ^ 12 % 2 ^ 64 ∧
        (∀ r, r < 192 → t.obj .regionFreq r = s.obj .regionFreq r) ∧ t.cores = s.cores ∧ t.mem = s.mem) ∧
      (1000 * s.obj .effCap < mw → s.pwr.excess = none → s.holding = false → Does (.powerCapEnforce mw top) s fun t =>
        t.pwr.excess = some s.gtc ∧
        (∀ r, r < 192 → t.obj .regionFreq r = (if s.obj .regionState r ≤ 1 ∧ 1200 < s.obj .regionFreq r then s.obj .regionFreq r - 50
          else s.obj .regionFreq r)) ∧ t.cores = s.cores ∧ t.mem = s.mem)) ∧
    (s.obj .bhState ≠ 1 → Idles (.breathHoldExit mv) s ∧ Idles .bhMaxExpiry s) ∧
    (s.obj .bhState = 1 → s.obj .feedsNeeded ≤ s.stable → 11400 < mv → Does (.breathHoldExit mv) s fun t => t.obj .bhState = 0 ∧
      t.pwr.exitAt = some s.gtc ∧ t.pwr.gated = s.pwr.gated ∧ t.cores = s.cores ∧ t.mem = s.mem) ∧
    (s.obj .bhState = 1 → s.stable < s.obj .feedsNeeded ∨ mv ≤ 11400 → Does (.breathHoldExit mv) s fun t =>
      t.obj .bhState = 1 ∧ t.pwr = s.pwr) ∧
    (s.obj .bhState = 1 → s.obj .bhLast 0 0 + 1000000 * s.obj .bhMax ≤ s.gtc → 1 ≤ s.stable → s.stable < s.obj .feedsNeeded →
      Does .bhMaxExpiry s fun t => t.obj .bhState = 2 ∧ t.pwr.exitAt = some s.gtc ∧ t.cores = s.cores ∧ t.mem = s.mem) ∧
    (∀ (r : Fin 192) (t0 : Nat), s.pwr.exitAt = some t0 →
      (s.gtc < t0 + 10000 + r.val * 2000 → Idles (.regionUngate r) s) ∧
      (t0 + 10000 + r.val * 2000 ≤ s.gtc → r.val ∈ s.pwr.gated → Does (.regionUngate r) s fun t =>
        t.pwr.gated = s.pwr.gated.filter (fun y => y != r.val) ∧ t.obj .regionFreq r.val = min 1200 (s.region16 r.val).maxF ∧
        (t.pwr.exitAt = none ↔ t.pwr.gated = []) ∧ t.cores = s.cores ∧ t.mem = s.mem)) ∧
    (10800 ≤ mv ∨ s.obj .bhState = 3 → Idles (.powerLossShutdown mv) s) ∧
    (mv < 10800 → s.obj .bhState ≠ 3 → Does (.powerLossShutdown mv) s fun t => t.obj .bhState = 3 ∧
      (∀ r, r < 192 → t.obj .regionState r = 4) ∧ (∀ d, d < 48 → d ∈ t.pwr.darkDies) ∧ t.mem = s.mem)

/-- Rails, regulators, clocks and the calendar (16 R507 to R510, R517, R520, R521, R526 to R528): a rail above its warning level is
reported and slows its region, above its trip level it is shut; a regulator moves its output by what the lowest reading lacks; a
droop stretches a cluster's clock; a lost lock is counted and reported; an edge advances the GTC by 10 ns times its rate; a tick
advances the calendar or sets the value that waits; PTP messages of the module's domain set its offset. -/
def Obligations.RailsAndClocks : Prop :=
  ∀ (s : State) (r : Fin 192) (v : Nat),
    let n := r.val
    let x := s.region16 n
    let rest (t : State) : Prop := t.cores = s.cores ∧ t.mem = s.mem
    (∀ (sensor : Fin 32) (ma : Nat), Does (.regulatorUpdate r sensor v ma) s fun t =>
      (t.region16 n).out = min 3400 (max 2400 (x.out + (vTarget (s.obj .regionFreq n) + 4 * s.obj .vguard) - v)) ∧
      t.obj .regionFreq n = s.obj .regionFreq n ∧ rest t) ∧
    (∀ t0, x.lowSince = some t0 →
      (s.gtc < t0 + 100000 → Idles (.marginStepDown r) s) ∧
      (t0 + 100000 ≤ s.gtc → Does (.marginStepDown r) s fun t => t.obj .regionFreq n = stepDown (s.obj .regionFreq n) ∧
        (t.region16 n).maxF = stepDown (s.obj .regionFreq n) ∧ (t.region16 n).lowSince = none ∧ rest t)) ∧
    (∀ sensor : Fin 32,
      let c := sensorCluster n sensor.val
      (v + 4 * s.obj .droopMargin < vTarget (s.obj .regionFreq n) → Does (.droopStretch r sensor v) s fun t =>
        (t.cluster c).stretch = true ∧ (t.cluster c).lastLow = s.gtc ∧ rest t) ∧
      (vTarget (s.obj .regionFreq n) ≤ v + 4 * s.obj .droopMargin → Idles (.droopStretch r sensor v) s)) ∧
    (∀ (d : Fin 48) (cl : Fin 16),
      let c := d.val * 16 + cl.val
      let cycles := (s.gtc - (s.cluster c).lastLow) * s.obj .regionFreq (regionOfCore (d.val * 256 + cl.val * 16))
      ((s.cluster c).stretch = true → 64000 ≤ cycles →
        exec (.stretchEnd d cl) s = .next (s.updCluster c (fun y => { y with stretch := false }))) ∧
      ((s.cluster c).stretch = false ∨ cycles < 64000 → Idles (.stretchEnd d cl) s) ∧
      (Does (.pllLockLoss d) s fun t => t.obj .moduleState = 5 ∧
        t.obj .clockFaults d.val 0 = (s.obj .clockFaults d.val 0 + 1) % 2 ^ (8 * Obj.clockFaults.info.width)) ∧
      (Does (.dcoLockLoss d cl) s fun t => (s.obj .moduleState = 2 → t.obj .moduleState = 4) ∧
        t.obj .clockFaults d.val 1 = (s.obj .clockFaults d.val 1 + 1) % 2 ^ (8 * Obj.clockFaults.info.width) ∧
        ∀ i y, i < 16 → y < 2 → (t.ctx (d.val * 256 + cl.val * 16 + i) y).st = .stopped) ∧
      ((∀ q ∈ s.pwr.vminDue, q / 4 ≠ d.val) → Idles (.vminFlashCopy d) s) ∧
      ((∃ q ∈ s.pwr.vminDue, q / 4 = d.val) → aget 0 s.hlth.vminSnap d.val = 0 → Does (.vminFlashCopy d) s fun t =>
        t.pwr.vminDue = s.pwr.vminDue.filter (fun q => q / 4 != d.val) ∧ aget 0 t.hlth.vminSnap d.val = s.gtc + 1 ∧ rest t)) ∧
    (∀ rail : Fin 7,
      let a := rail.val
      (railCount a ≤ n → Idles (.railWarning rail r v) s ∧ Idles (.railTrip rail r v) s) ∧
      (n < railCount a →
        (v ≤ warnLevel a → Does (.railWarning rail r v) s fun t =>
          t.pwr.warned = s.pwr.warned.filter (fun y => y != a * 256 + n) ∧ (a = 0 → (t.region16 n).withdrawn = false) ∧ rest t) ∧
        (warnLevel a < v → a * 256 + n ∉ s.pwr.warned → Does (.railWarning rail r v) s fun t =>
          t.pwr.warned = (a * 256 + n) :: s.pwr.warned ∧
          (a = 0 → (t.region16 n).withdrawn = true ∧ t.obj .regionFreq n = stepDown (s.obj .regionFreq n)) ∧ rest t) ∧
        (v ≤ tripLevel a → Idles (.railTrip rail r v) s) ∧
        (tripLevel a < v →
          (a = 0 → x.trips = [] → Does (.railTrip rail r v) s fun t => t.obj .regionFreq n = stepDown (s.obj .regionFreq n) ∧
            (t.region16 n).tripAt = some s.gtc ∧ rest t) ∧
          (a = 0 → 2 ≤ (x.trips.filter (fun y => decide (s.gtc < y + 1000000000))).length → Does (.railTrip rail r v) s fun t =>
            (t.region16 n).latched = true ∧ t.obj .regionState n = 2 ∧ (s.obj .moduleState = 2 → t.obj .moduleState = 4)) ∧
          (a = 1 ∨ a = 2 → Does (.railTrip rail r v) s fun t => n ∈ t.pwr.darkDies ∧ t.obj .moduleState = 5) ∧
          (a = 3 ∨ a = 4 → Does (.railTrip rail r v) s fun t => (t.port n).st = 4 ∧ (t.port n).step = 1 ∧ rest t) ∧
          (5 ≤ a → Does (.railTrip rail r v) s fun t => t.obj .moduleState = 5)))) ∧
    (∀ t0, x.tripAt = some t0 →
      (t0 + 100000 ≤ s.gtc → exec (.railTripResume r) s = .next (s.updRegion n (fun y => { y with tripAt := none }))) ∧
      (s.gtc < t0 + 100000 → Idles (.railTripResume r) s)) ∧
    (Does .gtcReferenceEdge s fun t =>
      (s.time.step = none → -(10 : Int) ^ 12 ≤ s.time.rho →
        (10 : Int) ^ 12 * (t.gtc : Int) + t.time.frac =
          (10 : Int) ^ 12 * (s.gtc % 2 ^ 64 : Nat) + s.time.frac + 10 * ((10 : Int) ^ 12 + s.time.rho) ∨
        2 ^ 64 ≤ s.gtc + (s.time.frac + 10 * ((10 : Int) ^ 12 + s.time.rho)).toNat / 10 ^ 12) ∧
      t.time.frac < 10 ^ 12 ∧ t.time.step = none ∧ (∀ d, d < 48 → (t.time.residual.getD d 0).natAbs ≤ 2) ∧ rest t) ∧
    (∀ w : Word,
      (s.obj .moduleState ≤ 1 → Does (.gtcStepWrite w) s fun t => t.time.step = some w.toInt ∧ t = { s with time := t.time }) ∧
      (2 ≤ s.obj .moduleState → Does (.gtcStepWrite w) s fun t => t.time.step = s.time.step ∧ t.time.ignored = s.time.ignored + 1 ∧
        t = { s with time := t.time })) ∧
    (∀ w : BitVec 48, exec (.calWrite w) s = .next { s with time := { s.time with calSet := some w.toNat } }) ∧
    (∀ w, s.time.calSet = some w → w < 2 ^ 48 → Does .calendarTick s fun t => t.obj .cal = w ∧ t.obj .calValid = 1 ∧
      t.time.calSet = none ∧ rest t) ∧
    (s.time.calSet = none → s.time.ticks < 32767 → s.time.secs < 2 ^ 40 → s.obj .calTrim = 0 → s.time.trim = 0 →
      Does .calendarTick s fun t => t.time.ticks = s.time.ticks + 1 ∧ t.time.secs = s.time.secs ∧
        t.obj .cal = s.time.secs * 256 + (s.time.ticks + 1) / 128 ∧ rest t) ∧
    (∀ (domain : BitVec 8) (offset : Int) (tai utc : Nat) (drift : Option Int),
      (s.obj .ptpEn ≠ 1 ∨ domain.toNat ≠ s.obj .ptpDomain → Idles (.ptpMessageReceive domain offset tai utc drift) s) ∧
      (s.obj .ptpEn = 1 → domain.toNat = s.obj .ptpDomain →
        (10000 < offset.natAbs → Does (.ptpMessageReceive domain offset tai utc drift) s fun t => t.time.ptpSince = none ∧ rest t) ∧
        (∀ t0, offset.natAbs ≤ 10000 → s.time.ptpSince = some t0 → t0 + 60000000000 ≤ s.gtc →
          Does (.ptpMessageReceive domain offset tai utc drift) s fun t =>
            t.obj .ptpGtcOffset = wrap 64 ((tai : Int) - s.gtc) ∧ t.time.ptpSince = some t0 ∧ rest t)))

/-- Region power states, lending, throttling, heat and coolant (16 R530 to R537, Tables 16-8 to 16-11): a region falls asleep after its timers and
only outside breath-hold, wakes from Idle, Doze or Retain, and loses its cores' state when it is Off; clocks rise one step at a
time; a cluster's cap follows its temperature against T_LIMIT; a cluster too hot is gated, a die's too hot for 100 us turns every rail
off; the coolant's state rises with the conditions that have held and falls once they have been clear for 60 s. -/
def Obligations.RegionsAndHeat : Prop :=
  ∀ (s : State) (r : Fin 192),
    let n := r.val
    let st := s.obj .regionState n
    let goes (i : Instr) (k : Nat) : Prop := Does i s fun t => t.obj .regionState n = k ∧
      (∀ m, m < 192 → m ≠ n → t.obj .regionState m = s.obj .regionState m) ∧ t.cores = s.cores ∧ t.mem = s.mem
    let quiet : Prop := ∀ k ∈ coresOfRegion n, (s.core k).c0.vecPend = [] ∧ (s.core k).c1.vecPend = [] ∧
      ∀ e, e < 4 → (s.core k).run e = []
    let free := s.holding = false
    (st = 0 → free → quiet → goes (.regionIdleEntry r) 1) ∧ (st ≠ 0 ∨ s.holding = true → Idles (.regionIdleEntry r) s) ∧
    (1 ≤ st → st ≤ 3 → free → (s.region16 n).latched = false →
      (Does (.regionWake r) s fun t => t.obj .regionState n = 0 ∧ n ∉ t.pwr.wakes ∧
        (∀ g ∈ t.pwr.sigs, regionOfCore g.core ≠ n) ∧ t.mem = s.mem) ∧
      ((∀ g ∈ s.pwr.sigs, regionOfCore g.core ≠ n) → goes (.regionWake r) 0)) ∧
    (st = 0 ∨ 4 ≤ st ∨ s.holding = true ∨ (s.region16 n).latched = true → Idles (.regionWake r) s) ∧
    (st = 1 → 1 ≤ s.obj .sleepDepth → s.dozeCond n = true → 1000 * s.obj .dozeAfter ≤ s.countedSince (s.dozeSince n) → free →
      n ∉ s.pwr.wakes → goes (.regionDozeEntry r) 2) ∧
    (st ≠ 1 ∨ s.obj .sleepDepth = 0 ∨ s.dozeCond n = false ∨ s.holding = true ∨ n ∈ s.pwr.wakes → Idles (.regionDozeEntry r) s) ∧
    (st = 2 → s.obj .sleepDepth = 2 → s.dozeCond n = true → 1000 * s.obj .retainAfter ≤ s.countedSince (s.region16 n).cond → free →
      (s.region16 n).latched = false → n ∉ s.pwr.wakes → goes (.regionRetainEntry r) 3) ∧
    (st ≠ 2 ∨ s.obj .sleepDepth ≠ 2 ∨ s.dozeCond n = false ∨ n ∈ s.pwr.wakes → Idles (.regionRetainEntry r) s) ∧
    (s.regionCmdOk n 2 = true → Does (.regionOff r) s fun t => t.obj .regionState n = 4 ∧
      ∀ k ∈ coresOfRegion n, ∀ y, y < 2 → (t.ctx k y).st = .halted ∧ (t.ctx k y).pc = 0) ∧
    (s.regionCmdOk n 2 = false → Idles (.regionOff r) s) ∧
    (s.regionCmdOk n 1 = true → Does (.regionOn r) s fun t => t.obj .regionState n = 0 ∧
      ∀ k ∈ coresOfRegion n, ∀ off, off < 2 ^ 22 → memByte t.mem (sramMla k off) = 0) ∧
    (s.regionCmdOk n 1 = false → Idles (.regionOn r) s) ∧
    (∀ d : Fin 48,
      (s.holding = true ∨ s.pwr.gated ≠ [] → Idles (.lendingGrantUpdate d) s) ∧
      (free → s.pwr.gated = [] → Does (.lendingGrantUpdate d) s fun t => t.cores = s.cores ∧ t.mem = s.mem ∧
        (∀ m, m < 192 → t.obj .regionFreq m ≤ s.obj .regionFreq m + 50) ∧
        (∀ m, m < 192 → m / 4 ≠ d.val → t.obj .regionFreq m = s.obj .regionFreq m) ∧
        (n / 4 = d.val → st = 0 → s.obj .boostEn = 0 → (s.region16 n).tripAt = none → (s.region16 n).withdrawn = false →
          1200 < s.obj .regionFreq n → t.obj .regionFreq n = min 1200 (s.region16 n).maxF))) ∧
    (∀ (d : Fin 48) (m : Int) (rs : List Int), -40000 ≤ m → m ≤ 150000 → rs = List.replicate 64 m →
      Does (.throttleUpdate d rs) s fun t => t.cores = s.cores ∧ t.mem = s.mem ∧ ∀ c, c < 16 →
        let x := s.cluster (d.val * 16 + c)
        let lim : Int := 1000 * s.obj .tLimit
        (t.cluster (d.val * 16 + c)).temp = m ∧ (t.cluster (d.val * 16 + c)).cap =
          (if lim < m then max (x.cap - 50) 600
           else if m < lim - 3000 ∧ x.capAt + 1000000 ≤ s.gtc then min (x.cap + 50) 1450 else x.cap)) ∧
    (∀ (d : Fin 48) (c : Fin 16) (a b e f : Int), (∀ m ∈ [a, b, e, f], -40000 ≤ m ∧ m ≤ 150000) →
      let i := d.val * 16 + c.val
      let rs := [a, b, e, f]
      ((∃ m ∈ rs, 115000 < m) → Does (.thermalCriticalGate d c rs) s fun t => (t.cluster i).gated = true ∧
        t.cores = s.cores ∧ t.mem = s.mem) ∧
      ((∀ m ∈ rs, m ≤ 115000) → Does (.thermalCriticalGate d c rs) s fun t => (t.cluster i).gated = (s.cluster i).gated) ∧
      ((∀ m ∈ rs, m < 105000) → Does (.thermalUngate d c rs) s fun t => (t.cluster i).gated = false ∧
        t.cores = s.cores ∧ t.mem = s.mem) ∧
      ((∃ m ∈ rs, 105000 ≤ m) → Does (.thermalUngate d c rs) s fun t => (t.cluster i).gated = (s.cluster i).gated) ∧
      (∀ t0, (s.cluster i).hotSince = some t0 → (∃ m ∈ rs, 125000 < m) →
        (t0 + 100000 ≤ s.gtc → Does (.thermalShutdown d c rs) s fun t => (∀ e, e < 48 → e ∈ t.pwr.darkDies) ∧ t.obj .moduleState = 5 ∧
          t.obj .regionState n = 4) ∧
        (s.gtc < t0 + 100000 → Does (.thermalShutdown d c rs) s fun t => t.pwr.darkDies = s.pwr.darkDies ∧ t.cores = s.cores))) ∧
    (∀ v : List Int, s.pwr.coolBad = [] → (∀ i, i < 8 → coolCond i v = false) → Does (.coolantSample v) s fun t =>
      t.obj .coolingState = s.obj .coolingState ∧ t.pwr.coolOn = List.replicate 8 none ∧ t.cores = s.cores ∧ t.mem = s.mem) ∧
    (∀ v : List Int, s.pwr.coolBad = [] → s.obj .coolingState ≤ 2 → v.getD 2 0 < 20000 → ∀ t0, s.pwr.coolOn.getD 6 none = some t0 →
      t0 + 1000000000 ≤ s.gtc → Does (.coolantSample v) s fun t => t.obj .coolingState = 3 ∧ t.obj .moduleState = 5 ∧
        ∀ e, e < 48 → e ∈ t.pwr.darkDies) ∧
    (∀ t0, s.pwr.coolOff.getD (s.obj .coolingState - 1) none = some t0 →
      (s.gtc < t0 + 60000000000 → Idles .coolingRestored s) ∧
      (t0 + 60000000000 ≤ s.gtc → s.obj .coolingState = 1 → Does .coolingRestored s fun t => t.obj .coolingState = 0 ∧
        t.cores = s.cores ∧ t.mem = s.mem)) ∧
    (s.obj .coolingState = 0 → Idles .coolingRestored s) ∧
    (∀ k : Fin 5,
      (k.val ∈ s.pwr.coolBad → Idles (.coolantSensorFault k) s) ∧
      (k.val ∉ s.pwr.coolBad → Does (.coolantSensorFault k) s fun t => t.pwr.coolBad = k.val :: s.pwr.coolBad ∧
        (s.pwr.limit20 = false → (t.pwr.limit20 = true ↔ 1 ∈ t.pwr.coolBad ∧ 2 ∈ t.pwr.coolBad)) ∧ t.cores = s.cores ∧ t.mem = s.mem))

/-! ### Starts, health records and stops -/

/-- Cold and warm starts and the MMC's watchdog (17 R540 to R542, R562, Table 17-2): a start resets every core, request and
lease, numbers itself and records its kind and cause; a cold start returns the GTC to 0 and a warm start keeps it; a warm start
without its retained store proceeds as a cold one; phases run in order as far as the command reaches, each recording its end; the
last leaves Idle, or Removed where a die is unusable; watchdog expiries within 600 s lead to a warm start, a cold one and recovery.
The objects are stated for health snapshots of the 49 dies that hold at most 128 VMIN bytes. -/
def Obligations.StartsAndWatchdog : Prop :=
  ∀ (s : State) (x : StartIn),
    let tame : Prop := ∀ e ∈ s.hlth.snaps, e.1 < 49 ∧ ∀ y ∈ e.2, y.vmin.length ≤ 128
    let clear (t : State) : Prop := t.cores = [] ∧ t.reqs = [] ∧ t.pushes = [] ∧ t.hostValves = [] ∧ t.pages = [] ∧ t.boot.due = none
    let began (t : State) (kind cause : Nat) : Prop := clear t ∧ t.gtc = (if kind = 1 then 0 else s.gtc) ∧
      (tame → x.last.val = 0 → t.obj .moduleState = 0 ∧ t.obj .startKind = kind ∧ t.obj .startCause = cause ∧
        t.obj .startNo = s.lastStartNo + 1)
    (x.power = true → Does (.coldStart x) s fun t => began t 1 (if x.returned then 3 else 1) ∧
      (tame → x.last.val = 0 → t.obj .startPhase = (if x.feeds = 0 then 0 else 1))) ∧
    (x.power = false → s.boot.due = some 2 → s.holding = false → Does (.coldStart x) s fun t => began t 1 2) ∧
    (s.boot.due = some 1 → s.holding = false →
      (x.retained = true → Does (.warmStart x) s fun t => began t 2 2) ∧
      (x.retained = false → Does (.warmStart x) s fun t => began t 1 5)) ∧
    (x.power = false → s.boot.due = none → 1 ≤ s.obj .moduleState → Idles (.coldStart x) s ∧ Idles (.warmStart x) s) ∧
    (x.power = false → s.boot.due = none → s.obj .moduleState = 0 → s.obj .recovery = 0 →
      ∀ (k : Nat) (i : Instr), s.obj .startPhase = k → k ≤ 8 →
        (s.obj .startKind = 1 ∧ i = .coldStart x) ∨ (s.obj .startKind = 2 ∧ i = .warmStart x) →
        (x.last.val < k → Idles i s) ∧
        (x.last.val = k →
          (k = 2 ∨ k = 3 ∨ k = 4 ∨ k = 7 → Does i s fun t => t.obj .startPhase = k + 1 ∧ t.obj .startPhases 0 k = s.gtc ∧
            t.obj .moduleState = 0 ∧ t.cores = s.cores ∧ t.mem = s.mem) ∧
          (k = 8 → Does i s fun t => t.obj .startPhase = 9 ∧ t.obj .startPhases 0 8 = s.gtc ∧
            t.obj .moduleState = (if s.boot.bad = [] then 1 else 5)))) ∧
    (let recent := s.boot.expiries.filter (fun t => decide ((s.gtc : Int) - t ≤ 600000000000))
     let wdt (t : State) (kind : Nat) : Prop := clear t ∧ (tame → t.obj .moduleState = 0 ∧ t.obj .startKind = kind ∧
       t.obj .startCause = 4) ∧ t.boot.expiries = (recent ++ [(s.gtc : Int)]).map (fun (e : Int) => if kind = 1 then e - s.gtc else e)
     (recent = [] → Does .mmcWatchdogExpiry s fun t => wdt t 2 ∧ t.gtc = s.gtc) ∧
     (recent.length = 1 → Does .mmcWatchdogExpiry s fun t => wdt t 1 ∧ t.gtc = 0) ∧
     (2 ≤ recent.length → Does .mmcWatchdogExpiry s fun t => wdt t 1 ∧ (tame → t.obj .recovery = 1)))

/-- Health records (18 R566, R570, R572 to R578, R582, R584): changed error entries are written when their flush is due; a period's
end writes its PERIOD, LANES and RETRY records and begins the next; a snapshot takes the next summary slot; the record that waits
first is written to the ring, a write that fails twice retires its block; a fault's event body becomes a record; values of RWP
objects that wait reach the newest settings copy. -/
def Obligations.HealthRecords : Prop :=
  ∀ s : State,
    let rest (t : State) : Prop := t.cores = s.cores ∧ t.mem = s.mem ∧ t.gtc = s.gtc
    let closed (t : State) : Prop := t.hlth.periodStart = s.gtc ∧ t.hlth.periodLen = s.obj .periodS ∧ rest t
    let late := s.hlth.lastFlush + s.obj .flushS * 1000000000 ≤ s.gtc
    let clean (t : State) (d : Nat) : Prop := ∀ e ∈ t.errTable d, e.changed = false
    (s.hlth.periodStart + s.hlth.periodLen * 1000000000 ≤ s.gtc → Does .periodEnd s fun t => closed t ∧
      ∃ rs, t.hlth.queue = s.hlth.queue ++ rs ∧ rs.map Rec.kind = List.replicate 49 2 ++ List.replicate 48 3 ++ [7]) ∧
    (s.gtc < s.hlth.periodStart + s.hlth.periodLen * 1000000000 → Idles .periodEnd s) ∧
    (late → Does .errorsFlush s fun t => (∀ d, d < 49 → clean t d) ∧ t.hlth.lastFlush = s.gtc ∧ rest t) ∧
    (¬ late → Does .errorsFlush s fun t => t.hlth.lastFlush = s.hlth.lastFlush ∧ rest t ∧
      ∀ d, d < 49 → (d ∈ s.hlth.due → clean t d) ∧ (d ∉ s.hlth.due → t.errTable d = s.errTable d)) ∧
    (Does (.healthFlush 1) s fun t => (∀ d, d < 49 → clean t d) ∧ closed t) ∧ (∀ v, v ≠ 1 → Idles (.healthFlush v) s) ∧
    (∀ d : Fin 49,
      let n := s.obj .summarySlots d.val
      let wait := (if 15360 ≤ n then 720 else 24) * 3600000000000
      ((s.liveLife d.val).powered < s.lastPowered d.val + wait ∨ 16384 ≤ n → Idles (.summarySnapshot d) s) ∧
      (s.lastPowered d.val + wait ≤ (s.liveLife d.val).powered → n < 16384 → Does (.summarySnapshot d) s fun t =>
        t.obj .summarySlots d.val = n + 1 ∧ rest t ∧
        ∃ y, aget [] t.hlth.snaps d.val = aget [] s.hlth.snaps d.val ++ [y] ∧ y.gtc = s.gtc ∧ y.life = s.liveLife d.val)) ∧
    (s.hlth.queue = [] → ∀ ok1 ok2 n, Idles (.ringRecordWrite ok1 ok2 n) s) ∧
    (∀ (r : Rec) (rs : List Rec) (erases : Nat), s.hlth.queue = r :: rs →
      let r1 : Rec := if r.fixed then r else { r with gtc := s.gtc, calv := s.obj .calValid == 1, cal := s.obj .cal }
      let c (t : State) (k : Nat) : Prop := t.obj .retryTotals 0 (44 + k) =
        (s.obj .retryTotals 0 (44 + k) + 1) % 2 ^ (8 * Obj.retryTotals.info.width)
      (∀ ok1 ok2, Does (.ringRecordWrite ok1 ok2 erases) s fun t => t.hlth.queue = rs ∧ rest t) ∧
      (∀ ok2, s.hlth.openUsed + r.size ≤ 65408 → Does (.ringRecordWrite true ok2 erases) s fun t =>
        t.hlth.ring = s.hlth.ring ++ [{ r1 with block := s.hlth.openBlock }] ∧ t.hlth.openUsed = s.hlth.openUsed + r.size ∧ rest t) ∧
      (s.hlth.openUsed + 2 * r.size ≤ 65408 →
        (Does (.ringRecordWrite false true erases) s fun t => c t 0 ∧ rest t ∧
          t.hlth.ring = s.hlth.ring ++ [{ r1 with block := s.hlth.openBlock }] ∧ t.hlth.openUsed = s.hlth.openUsed + 2 * r.size) ∧
        (Does (.ringRecordWrite false false erases) s fun t => c t 1 ∧ c t 2 ∧ rest t ∧
          t.hlth.retired = s.hlth.openBlock :: s.hlth.retired ∧
          t.hlth.ring = s.hlth.ring.filter (fun y => y.block != s.hlth.openBlock)))) ∧
    (s.hlth.faults = [] → Idles .faultRecordWrite s) ∧
    (∀ e es, s.hlth.faults = e :: es → Does .faultRecordWrite s fun t => t.hlth.faults = es ∧ rest t ∧
      ∃ r, t.hlth.queue = s.hlth.queue ++ [r] ∧ r.kind = 9 ∧ r.body = packWords e.bytes) ∧
    (s.chb.unsaved = [] → Idles .rwpPersist s) ∧
    (s.chb.unsaved ≠ [] → Does .rwpPersist s fun t => t.chb.unsaved = [] ∧ t.objs = s.objs ∧ rest t ∧
      ∃ c, t.fw.newest = some c ∧ (∀ k ∈ s.chb.unsaved, (k, s.keyVal k) ∈ c.vals) ∧
        ∀ old, s.fw.newest = some old → c.seq = old.seq + 1 ∧ ∀ e ∈ old.vals, e.1 ∉ s.chb.unsaved → e ∈ c.vals)

/-- Job-stopping and module-removing events, and the fenced die (19 R587 to R589, R595): in Running a job-stopping event leaves
Stopped and halts every context; a module-removing event leaves Removed and restricts the ports that run; an event of another class
has no such effect, nor has a body that its row does not give; FENCE_DIE takes no die 0, no die at fault, and no value outside Idle and Removed. -/
def Obligations.StopsAndFence : Prop :=
  ∀ (s : State) (code : BitVec 16) (a8 : BitVec 8) (a16 : BitVec 16) (data : Word),
    let n := code.toNat
    let body := eventBodyOk n a8.toNat a16.toNat data = true
    let stops := (eventClass n = 5 ∨ (n = 0x0301 ∧ (a8.toNat % 128 = 0x08 ∨ a8.toNat % 128 = 0x0B ∨ a8.toNat % 128 = 0x0C))) ∧ body
    let logged (t : State) (o : Nat) : Prop := ∃ e ∈ t.chb.events, e.code = n ∧ e.outcome = o ∧ e.arg8 = a8.toNat ∧ e.data = data ∧
      e.gtc = s.gtc ∧ e ∈ t.hlth.faults
    let still (t : State) : Prop := ∀ k y, y < 2 → (t.ctx k y).st ≠ .running ∧ (t.ctx k y).st ≠ .waiting
    (¬ stops → Idles (.jobStoppingEvent code a8 a16 data) s) ∧
    (stops → Does (.jobStoppingEvent code a8 a16 data) s fun t => logged t 5 ∧ t.mem = s.mem ∧ t.gtc = s.gtc ∧
      (s.obj .moduleState = 2 → t.obj .moduleState = 4 ∧ (awf Core.zero s.cores = true → still t)) ∧
      (s.obj .moduleState ≠ 2 → t.obj .moduleState = s.obj .moduleState ∧ t.cores = s.cores)) ∧
    (eventClass n ≠ 6 ∨ ¬ body → Idles (.moduleRemovingEvent code a8 a16 data) s) ∧
    (eventClass n = 6 → body → Does (.moduleRemovingEvent code a8 a16 data) s fun t => logged t 6 ∧ t.mem = s.mem ∧ t.gtc = s.gtc ∧
      t.obj .moduleState = 5 ∧
      (s.obj .moduleState ≠ 5 → awf Port.zero s.ports = true → ∀ m,
        t.port m = (if (s.port m).st = 2 ∨ (s.port m).st = 3 then { s.port m with st := 5 } else s.port m)) ∧
      (s.obj .moduleState ≠ 0 → s.obj .moduleState ≠ 5 → awf Core.zero s.cores = true → still t) ∧
      (s.obj .moduleState = 0 ∨ s.obj .moduleState = 5 → t.cores = s.cores)) ∧
    (∀ v : BitVec 8,
      let st := s.obj .moduleState
      let takes : Prop := Does (.fenceDieWrite v) s fun t => t.obj .fenceDie = v.toNat ∧ Obj.fenceDie.key 0 0 ∈ t.chb.unsaved ∧
        t = { s with objs := t.objs, chb := t.chb }
      (st = 1 ∨ st = 5 → v = 255 → takes) ∧
      (st = 1 ∨ st = 5 → 1 ≤ v.toNat → v.toNat ≤ 47 → s.obj .clockFaults v.toNat 0 = 0 → 
        (∀ e ∈ s.hlth.lostLinks, e.1 ≠ v.toNat ∧ d2dPeer e.1 e.2 ≠ some v.toNat) → takes) ∧
      ((st ≠ 1 ∧ st ≠ 5) ∨ v = 0 ∨ (48 ≤ v.toNat ∧ v ≠ 255) ∨ (v.toNat ≤ 47 ∧ (s.obj .clockFaults v.toNat 0 ≠ 0 ∨
          ∃ e ∈ s.hlth.lostLinks, e.1 = v.toNat ∨ d2dPeer e.1 e.2 = some v.toNat)) →
        Idles (.fenceDieWrite v) s))

/-! ### Firmware and the board's ports -/

/-- The chain and activation (20 R616 to R620): CHAIN_CMD 1 makes this module the origin while its place is valid and a bundle is
Receiving or Staged; a covered axis begins a transfer to its group's first port and goes on by blocks of at most 1,051 words within its window; a
busy peer is asked again each second and given up after 60 s; an activation that its rules accept runs, its check commits the
slot or refuses it with a reason, and ACTIVATE_CMD 2 then makes a warm start due; a staged slot is read again after C8, once in a start. -/
def Obligations.ChainAndActivation : Prop :=
  ∀ s : State,
    let rest (t : State) : Prop := t.cores = s.cores ∧ t.mem = s.mem ∧ t.gtc = s.gtc
    let fw := s.fw
    (s.obj .placeValid = 1 → fw.stage ≠ 0 → Does .chainOrigin s fun t => t.fw.forwards = [] ∧ t = { s with fw := t.fw } ∧
      ∃ c, t.fw.chain = some c ∧ c.origin = s.place ∧ c.id = s.gtc % 2 ^ 32 ∧ c.axis = none) ∧
    (s.obj .placeValid ≠ 1 ∨ fw.stage = 0 → Idles .chainOrigin s) ∧
    exec .chainStop s = .next { s with fw := { fw with chain := none, forwards := [] } } ∧
    (∀ axis : Fin 3,
      let a := axis.val
      let f := s.forward a
      (fw.chain = none ∨ fw.stage = 0 ∨ 2 ≤ f.st ∨ (f.st = 1 ∧ f.opened = false) → Idles (.chainForward axis) s) ∧
      (∀ c, fw.chain = some c → fw.stage ≠ 0 →
        (s.covers c a = false → Idles (.chainForward axis) s) ∧
        (s.covers c a = true → f.st = 0 →
          (s.roleGroup (2 + 2 * a) 6 = [] → Idles (.chainForward axis) s) ∧
          (∀ n ns, s.roleGroup (2 + 2 * a) 6 = n :: ns → Does (.chainForward axis) s fun t => rest t ∧ t.fw.chain = some c ∧
            (t.forward a).st = 1 ∧ (t.forward a).port = n ∧ (t.forward a).triedAt = s.gtc ∧ (t.forward a).words = 0 ∧
            (t.forward a).opened = false)) ∧
        (s.covers c a = true → f.st = 1 → f.opened = true →
          let upto := min (min (min (s.chainBytes.length / 4) c.nwords) (f.words + 16816)) (f.sent + 1051)
          (f.sent < upto → Does (.chainForward axis) s fun t => t.forward a = { f with sent := upto, sentAt := s.gtc } ∧ rest t) ∧
          (upto ≤ f.sent → Idles (.chainForward axis) s))) ∧
      (fw.chain = none ∨ f.busy = none ∨ f.st ≠ 1 → Idles (.chainRetry axis) s) ∧
      (∀ c t0, fw.chain = some c → f.busy = some t0 → f.st = 1 →
        (t0 + 60000000000 ≤ s.gtc → Does (.chainRetry axis) s fun t => (t.forward a).st = 3 ∧ rest t ∧
          t.obj .fwCounters 0 4 = (s.obj .fwCounters 0 4 + 1) % 2 ^ (8 * Obj.fwCounters.info.width)) ∧
        (s.gtc < t0 + 60000000000 → f.triedAt + 1000000000 ≤ s.gtc → Does (.chainRetry axis) s fun t =>
          t.forward a = { f with triedAt := s.gtc } ∧ rest t) ∧
        (s.gtc < t0 + 60000000000 → s.gtc < f.triedAt + 1000000000 → Idles (.chainRetry axis) s))) ∧
    (let st := s.obj .moduleState
     let ready := fw.stage = 2 ∧ fw.delivery = none ∧ fw.active = none ∧ (st ≠ 0 ∨ s.obj .recovery ≠ 0)
     let runs (i : Instr) (v : Nat) : Prop := Does i s fun t => t.fw = { fw with active := some v } ∧ t.obj .activateState = 2 ^ 24 ∧
       t = { s with fw := t.fw, objs := t.objs }
     (ready → runs .activateCommit 1) ∧ (¬ ready → Idles .activateCommit s ∧ Idles .activateCommitWarm s) ∧
     (ready → st = 1 ∨ st = 5 → runs .activateCommitWarm 2) ∧ (st ≠ 1 → st ≠ 5 → Idles .activateCommitWarm s)) ∧
    (fw.active = none → Idles .activationVerifyDone s) ∧
    (∀ v, fw.active = some v →
      let slot := fw.slot fw.inactive
      let r := s.slotReason slot
      (r ≠ 0 → Does .activationVerifyDone s fun t => t.fw = { fw with active := none } ∧ rest t ∧
        t.obj .activateState = 3 * 2 ^ 24 + r * 65536 + fw.blocks % 65536) ∧
      (r = 0 → Does .activationVerifyDone s fun t => t.fw.active = none ∧ t.fw.stage = 0 ∧ rest t ∧
        t.obj .activateState = 2 * 2 ^ 24 + mBlocks slot % 65536 ∧ t.boot.due = (if v = 2 then some 1 else s.boot.due) ∧
        ∃ c, t.fw.newestCommit = some c ∧ c.slot = fw.inactive ∧ c.version = mVersion slot ∧ c.digest = mDigest slot ∧
          c.gtc = s.gtc ∧ t.obj .commitSeq = c.seq)) ∧
    (s.obj .startPhase ≠ 9 ∨ fw.delivery ≠ none ∨ fw.reread = true → Idles .stagedReread s) ∧
    (s.obj .startPhase = 9 → fw.delivery = none → fw.reread = false →
      let slot := fw.slot fw.inactive
      (slot ≠ [] → s.slotReason slot = 0 →
        exec .stagedReread s = .next { s with fw := { fw with stage := 2, blocks := mBlocks slot, reread := true } }) ∧
      (slot = [] ∨ s.slotReason slot ≠ 0 →
        exec .stagedReread s = .next { s with fw := { fw with stage := 0, blocks := 0, reread := true } }))

/-- The CAN ports (15 R492 to R494, 21 R638, Table 21-8a): frames of other kinds and functions are counted and discarded, a request to the
module's node is received, another node's use of it is a conflict; a bus-off port takes part again after its recovery; line
measurements find and clear the four faults of the wiring. -/
def Obligations.CanPorts : Prop :=
  ∀ (s : State) (bus : Fin 2),
    let b := bus.val
    let c := s.can b
    let own := s.canNode b
    let phy (t : State) (i : Nat) : Bool := (t.obj .canPhy b).testBit i
    let rest (t : State) : Prop := t.cores = s.cores ∧ t.mem = s.mem
    let n (t : State) (k : Nat) : Prop := t.obj .canCounters b k = (s.obj .canCounters b k + 1) % 2 ^ (8 * Obj.canCounters.info.width)
    (∀ (kind : Fin 4) (id : BitVec 11) (data : List (BitVec 8)),
      let func := id.toNat / 128
      let node := id.toNat % 128
      let i := Instr.canFrameReceive bus kind id data
      let known := func = 1 ∨ func = 2 ∨ func = 4 ∨ func = 5
      (s.obj .canEn b ≠ 1 ∨ c.busOff = true → Idles i s) ∧
      (s.obj .canEn b = 1 → c.busOff = false →
        (kind.val ≠ 0 ∨ ¬ known → Does i s fun t => n t 4 ∧ t = { s with objs := t.objs }) ∧
        (kind.val = 0 → func = 5 → node = own → Does i s fun t => n t 0 ∧ t = { s with objs := t.objs, chb := t.chb } ∧
          ∃ x, t.chb = { s.chb with inbox := s.chb.inbox ++ [x] } ∧ x.pdu = canPdu data ∧
            x.client = .can b (natAt (canPdu data) 7 1)) ∧
        (kind.val = 0 → func = 5 → node ≠ own → node ≠ 127 → Does i s fun t => n t 0 ∧ t = { s with objs := t.objs }) ∧
        (kind.val = 0 → known → func ≠ 5 → node ≠ own → Does i s fun t => n t 0 ∧ t = { s with objs := t.objs }) ∧
        (kind.val = 0 → known → func ≠ 5 → node = own → Does i s fun t => n t 0 ∧ n t 5 ∧ rest t ∧
          (c.conflict = none → (t.can b).conflict = some s.gtc) ∧
          (∀ t0, c.conflict = some t0 → s.gtc < t0 + 1000000000 → t.bnd = s.bnd)))) ∧
    (c.busOff = true → Idles (.canBusOff bus) s) ∧
    (c.busOff = false → Does (.canBusOff bus) s fun t => (t.can b).busOff = true ∧ n t 3 ∧ rest t) ∧
    (Does (.canBusOffRecovery bus) s fun t => t.can b = { c with busOff := false } ∧ t = { s with bnd := t.bnd }) ∧
    (∀ h l : Int,
      let low := h < 500 ∨ l < 500
      let high := 5500 < h ∨ 5500 < l
      let i := Instr.canLineMeasure bus (.levels h l)
      (low → c.ground = 2 → Does i s fun t => phy t 0 = true ∧ phy t 4 = true ∧ (t.can b).ground = 3 ∧ rest t ∧ (phy s 0 = false →
        t.obj .canPhyCounters b 0 = (s.obj .canPhyCounters b 0 + 1) % 2 ^ (8 * Obj.canPhyCounters.info.width))) ∧
      (¬ low → high → c.supply = 2 → Does i s fun t => phy t 1 = true ∧ phy t 4 = true ∧ (t.can b).supply = 3 ∧ rest t) ∧
      (¬ low → ¬ high → 9 ≤ c.clean → Does i s fun t => phy t 0 = false ∧ phy t 1 = false ∧ phy t 4 = false ∧
        phy t 2 = phy s 2 ∧ phy t 3 = phy s 3 ∧ (t.can b).ground = 0 ∧ rest t)) ∧
    (∀ mv : Int, (3300 < mv → c.term = 15 → Does (.canLineMeasure bus (.dominant mv)) s fun t => phy t 2 = true ∧ rest t) ∧
      (mv ≤ 3300 → Does (.canLineMeasure bus (.dominant mv)) s fun t => phy t 2 = false ∧ (t.can b).term = 0 ∧ rest t)) ∧
    (∀ low high : Int,
      (low < -900 → high ≤ 900 → c.edges = 7 → Does (.canLineMeasure bus (.edge low high)) s fun t => phy t 3 = !c.swapped ∧
        (t.can b).swapped = !c.swapped ∧ (t.can b).edges = 0 ∧ rest t) ∧
      (-900 ≤ low ∨ 900 < high → Does (.canLineMeasure bus (.edge low high)) s fun t => t.can b = { c with edges := 0 } ∧
        t = { s with bnd := t.bnd }))

/-- The Ethernet port, the UART and the TAP (15 R495, 21 R639 to R643): a datagram to UDP_PORT of at most 1,232 bytes is received while the
link is up; an advertised prefix gives an address while SLAAC is 1; a UART frame is read by the majority of three samples of each
bit, counted, and enters the FIFO while it has room; a baud rate within its range takes effect; the TAP follows IEEE 1149.1. -/
def Obligations.EthernetUartTap : Prop :=
  ∀ s : State,
    let bnd := s.bnd
    (∀ (addr : BitVec 128) (sport dport : BitVec 16) (data : List (BitVec 8)),
      let takes := (s.obj .ethState).testBit 1 = true ∧ dport.toNat = s.obj .udpPort
      (¬ takes → Idles (.udpDatagramReceive addr sport dport data) s) ∧
      (takes → 1232 < data.length → exec (.udpDatagramReceive addr sport dport data) s =
        .next { s with chb := { s.chb with oversize := s.chb.oversize + 1 } }) ∧
      (takes → data.length ≤ 1232 → Does (.udpDatagramReceive addr sport dport data) s fun t => t = { s with chb := t.chb } ∧
        ∃ x, t.chb = { s.chb with inbox := s.chb.inbox ++ [x] } ∧ x.pdu = data ∧ x.client = .udp addr.toNat sport.toNat)) ∧
    (∀ up, Does (.ethLinkChange up) s fun t => t.obj .ethState = (if up then 3 else 0) ∧ t = { s with objs := t.objs }) ∧
    (∀ pfx drop,
      let a := (leBytes 8 pfx.toNat).reverse ++ s.eui64
      (s.obj .slaac ≠ 1 ∨ (s.obj .ethState).testBit 1 = false → Idles (.slaacAddressAcquire pfx drop) s) ∧
      (s.obj .slaac = 1 → (s.obj .ethState).testBit 1 = true → Does (.slaacAddressAcquire pfx drop) s fun t =>
        t = { s with bnd := { bnd with slaac := t.bnd.slaac } } ∧ (a ∈ t.bnd.slaac ↔ drop = false) ∧
        ∀ x, x ≠ a → (x ∈ t.bnd.slaac ↔ x ∈ bnd.slaac))) ∧
    (∀ (samples : BitVec 30) (early : Bool) (taken : Nat),
      let old := bnd.fifo.drop taken
      let bit (k : Nat) : Bool := majority3 (samples.getLsbD (3 * k)) (samples.getLsbD (3 * k + 1)) (samples.getLsbD (3 * k + 2))
      let n (t : State) (k by' : Nat) : Prop := t.obj .uartCounters 0 k = (if by' = 0 then s.obj .uartCounters 0 k
        else (s.obj .uartCounters 0 k + 1) % 2 ^ (8 * Obj.uartCounters.info.width))
      let zero := (∀ k, 1 ≤ k → k ≤ 8 → bit k = false) ∧ samples.getLsbD 27 = false ∧ samples.getLsbD 28 = false ∧
        samples.getLsbD 29 = false ∧ early = false
      let bad := early = true ∨ bit 9 = false
      Does (.uartFrameReceive samples early taken) s fun t => t.cores = s.cores ∧ t.mem = s.mem ∧
        (bit 0 = true → t.bnd.fifo = old ∧ n t 4 1 ∧ n t 1 0 ∧ n t 2 0 ∧ n t 3 0 ∧ n t 5 0) ∧
        (bit 0 = false → n t 1 1 ∧ n t 4 0 ∧ (¬ bad → n t 2 0 ∧ n t 3 0) ∧ (zero → n t 3 1 ∧ n t 2 1) ∧ (bad → ¬ zero → n t 2 1 ∧ n t 3 0) ∧
          (old.length < 256 → n t 5 0 ∧ ∃ v : BitVec 8, t.bnd.fifo = old ++ [v] ∧ ∀ k, k < 8 → v.getLsbD k = bit (k + 1)) ∧
          (256 ≤ old.length → n t 5 1 ∧ t.bnd.fifo = old))) ∧
    (∀ v : BitVec 8, Does (.uartFrameSend v) s fun t => t = { s with objs := t.objs, bnd := t.bnd } ∧
      t.bnd = { bnd with txBaud := s.baud, console := v :: bnd.console } ∧
      t.obj .uartCounters 0 0 = (s.obj .uartCounters 0 0 + 1) % 2 ^ (8 * Obj.uartCounters.info.width)) ∧
    (∀ v : BitVec 32, (9600 ≤ v.toNat → v.toNat ≤ 3000000 → Does (.uartBaudWrite v) s fun t => t.obj .uartBaud = v.toNat ∧
        t = { s with objs := t.objs, chb := t.chb }) ∧
      (v.toNat < 9600 ∨ 3000000 < v.toNat → Idles (.uartBaudWrite v) s)) ∧
    (∀ rising tms tdi,
      exec (.tapTckEdge rising tms tdi false) s = .next { s with bnd := { bnd with tap := 0 } } ∧
      (rising = true → exec (.tapTckEdge rising tms tdi true) s = .next { s with bnd := { bnd with
        tap := tapNext bnd.tap tms, bypass := if bnd.tap = 3 then false else if bnd.tap = 4 then tdi else bnd.bypass } }) ∧
      (rising = false → bnd.tap = 4 → exec (.tapTckEdge rising tms tdi true) s = .next { s with bnd := { bnd with tdo := bnd.bypass } }) ∧
      (rising = false → bnd.tap = 11 → Does (.tapTckEdge rising tms tdi true) s fun t => t.draws = s.draws + 1 ∧
        t = { s with bnd := { bnd with tdo := t.bnd.tdo }, draws := t.draws }) ∧
      (rising = false → bnd.tap ≠ 4 → bnd.tap ≠ 11 → Idles (.tapTckEdge rising tms tdi true) s))
end

