-- ==== Sys2Proof/Laws/Sparse.lean ====
section
/-! SUPPORT. What the operations on sparse lists do: a read after a write gives what was written there and what stood
everywhere else, on any list; and they keep the canonical form. -/

namespace Sys2Proof.Machine

section
variable {α : Type}

/-! ### Reads after writes -/

theorem aget_adel (d : α) (k i : Nat) (m : List (Nat × α)) : aget d (adel m k) i = if i = k then d else aget d m i := by
  induction m with
  | nil => simp [adel, aget]
  | cons e r ih =>
    obtain ⟨j, v⟩ := e
    simp only [adel] at ih
    by_cases hj : j = k
    · subst hj
      simp only [adel, List.filter_cons, ne_eq, not_true_eq_false, decide_false, Bool.false_eq_true, if_false, ih, aget]
      by_cases hi : i = j
      · simp [hi]
      · simp [hi, Ne.symm hi]
    · simp only [adel, List.filter_cons, ne_eq, hj, not_false_eq_true, decide_true, if_true, aget, ih]
      by_cases hi : j = i
      · subst hi; simp [hj]
      · simp [hi]

theorem aget_ains (d : α) (k i : Nat) (v : α) (m : List (Nat × α)) (h : aget d m k = d ∨ i ≠ k)
    (hk : ∀ e ∈ m, e.1 ≠ k) : aget d (ains k v m) i = if i = k then v else aget d m i := by
  induction m with
  | nil =>
    by_cases hi : i = k
    · simp [ains, aget, hi]
    · simp [ains, aget, hi, Ne.symm hi]
  | cons e r ih =>
    obtain ⟨j, u⟩ := e
    have hj : j ≠ k := hk (j, u) (by simp)
    have hr : ∀ e ∈ r, e.1 ≠ k := fun e he => hk e (by simp [he])
    have h' : aget d r k = d ∨ i ≠ k := by simpa [aget, hj] using h
    by_cases h1 : k < j
    · by_cases hi : i = k
      · simp [ains, aget, h1, hi]
      · simp [ains, aget, h1, hi, Ne.symm hi]
    · by_cases hi : i = k
      · subst hi; simp [ains, aget, h1, hj, ih h' hr]
      · simp [ains, aget, h1, ih h' hr, hi]

variable [DecidableEq α]

/-- A read after a write, on any list. -/
theorem aget_aset (d : α) (m : List (Nat × α)) (k i : Nat) (v : α) :
    aget d (aset d m k v) i = if i = k then v else aget d m i := by
  by_cases hv : v = d
  · simp only [aset, hv, if_true, aget_adel]
  · simp only [aset, hv, if_false]
    rw [aget_ains]
    · by_cases hi : i = k
      · simp [hi]
      · simp [hi, aget_adel]
    · left; simp [aget_adel]
    · intro e he; simpa [adel] using (List.mem_filter.mp he).2

@[simp] theorem aget_aset_same (d : α) (m : List (Nat × α)) (k : Nat) (v : α) : aget d (aset d m k v) k = v := by
  simp [aget_aset]

theorem aget_aset_other (d : α) (m : List (Nat × α)) {k i : Nat} (v : α) (h : i ≠ k) :
    aget d (aset d m k v) i = aget d m i := by
  simp [aget_aset, h]

/-- A read after a run of writes. -/
theorem aget_asetRun (d : α) : ∀ (vs : List α) (m : List (Nat × α)) (k i : Nat),
    aget d (asetRun d m k vs) i = if k ≤ i ∧ i < k + vs.length then vs.getD (i - k) d else aget d m i
  | [], m, k, i => by
    have : ¬ (k ≤ i ∧ i < k + ([] : List α).length) := by simp only [List.length_nil]; omega
    simp only [asetRun, this, if_false]
  | v :: vs, m, k, i => by
    simp only [asetRun, List.length_cons]
    rw [aget_asetRun d vs (aset d m k v) (k + 1) i, aget_aset]
    by_cases h1 : i = k
    · subst h1
      have h2 : ¬ (i + 1 ≤ i ∧ i < i + 1 + vs.length) := by omega
      simp only [if_neg h2, if_pos (show i ≤ i ∧ i < i + (vs.length + 1) by omega), Nat.sub_self, List.getD_cons_zero]
      rfl
    · simp only [h1, if_false]
      by_cases h2 : k + 1 ≤ i ∧ i < k + 1 + vs.length
      · have h3 : k ≤ i ∧ i < k + (vs.length + 1) := by omega
        have h4 : i - k = (i - (k + 1)) + 1 := by omega
        simp only [h2, h3, and_self, if_true, h4, List.getD_cons_succ]
      · have h3 : ¬ (k ≤ i ∧ i < k + (vs.length + 1)) := by omega
        simp only [h2, h3, if_false]

/-! ### The canonical form -/

omit [DecidableEq α] in
/-- The bound of a list's keys, weakened. -/
theorem akeysFrom_weaken : ∀ (m : List (Nat × α)) (a b : Option Nat),
    (∀ l, b = some l → ∃ h, a = some h ∧ l ≤ h) → akeysFrom m a = true → akeysFrom m b = true
  | [], _, _, _, _ => rfl
  | (k, _) :: r, a, b, hab, h => by
    simp only [akeysFrom, Bool.and_eq_true] at h ⊢
    refine ⟨?_, h.2⟩
    cases b with
    | none => rfl
    | some l =>
      obtain ⟨x, rfl, hx⟩ := hab l rfl
      simp only [decide_eq_true_eq] at h ⊢
      omega

omit [DecidableEq α] in
/-- A filtered list's keys still rise. -/
theorem filter_keys (p : Nat × α → Bool) : ∀ (m : List (Nat × α)) (lo : Option Nat),
    akeysFrom m lo = true → akeysFrom (m.filter p) lo = true
  | [], _, _ => rfl
  | (k, v) :: r, lo, h => by
    simp only [akeysFrom, Bool.and_eq_true] at h
    have ih := filter_keys p r (some k) h.2
    by_cases hp : p (k, v) = true
    · simp only [List.filter_cons, hp, if_true, akeysFrom, Bool.and_eq_true]; exact ⟨h.1, ih⟩
    · simp only [List.filter_cons, hp]
      refine akeysFrom_weaken _ (some k) lo (fun l hl => ?_) ih
      subst hl
      exact ⟨k, rfl, Nat.le_of_lt (by simpa using h.1)⟩

omit [DecidableEq α] in
/-- An inserted key finds its place among rising ones that do not hold it. -/
theorem ains_keys (k : Nat) (v : α) : ∀ (m : List (Nat × α)) (lo : Option Nat),
    akeysFrom m lo = true → (∀ l, lo = some l → l < k) → (∀ e ∈ m, e.1 ≠ k) → akeysFrom (ains k v m) lo = true
  | [], lo, _, hk, _ => by
    cases lo with
    | none => simp [ains, akeysFrom]
    | some l => simp [ains, akeysFrom, hk l rfl]
  | (j, u) :: r, lo, h, hk, hn => by
    simp only [akeysFrom, Bool.and_eq_true] at h
    have hj : j ≠ k := hn (j, u) (by simp)
    by_cases h1 : k < j
    · simp only [ains, h1, if_true, akeysFrom, Bool.and_eq_true]
      refine ⟨?_, by simpa using h1, h.2⟩
      cases lo with
      | none => rfl
      | some l => simpa using hk l rfl
    · simp only [ains, h1, if_false, akeysFrom, Bool.and_eq_true]
      exact ⟨h.1, ains_keys k v r (some j) h.2 (fun l hl => by cases hl; omega) (fun e he => hn e (by simp [he]))⟩

theorem aset_keys (d : α) (k : Nat) (v : α) (m : List (Nat × α)) (h : akeysFrom m none = true) :
    akeysFrom (aset d m k v) none = true := by
  by_cases hv : v = d
  · simp only [aset, hv, if_true]; exact filter_keys _ m none h
  · simp only [aset, hv, if_false]
    exact ains_keys k v _ none (filter_keys _ m none h) (fun l hl => by cases hl)
      (fun e he => by simpa [adel] using (List.mem_filter.mp he).2)

omit [DecidableEq α] in
theorem mem_ains (k : Nat) (v : α) : ∀ (m : List (Nat × α)) (e : Nat × α), e ∈ ains k v m → e = (k, v) ∨ e ∈ m
  | [], e, h => by simpa [ains] using h
  | (j, u) :: r, e, h => by
    by_cases h1 : k < j
    · simp only [ains, h1, if_true, List.mem_cons] at h ⊢; exact h
    · simp only [ains, h1, if_false, List.mem_cons] at h ⊢
      rcases h with h | h
      · exact .inr (.inl h)
      · rcases mem_ains k v r e h with h | h
        · exact .inl h
        · exact .inr (.inr h)

theorem filter_wf {d : α} {m : List (Nat × α)} (h : awf d m = true) (p : Nat × α → Bool) :
    awf d (m.filter p) = true := by
  simp only [awf, Bool.and_eq_true] at h ⊢
  refine ⟨filter_keys p m none h.1, ?_⟩
  rw [List.all_eq_true] at h ⊢
  exact fun x hx => h.2 x (List.mem_filter.mp hx).1

/-- A write keeps the canonical form. -/
theorem aset_wf {d : α} {m : List (Nat × α)} (h : awf d m = true) (k : Nat) (v : α) : awf d (aset d m k v) = true := by
  have hk := h
  simp only [awf, Bool.and_eq_true] at hk ⊢
  refine ⟨aset_keys d k v m hk.1, ?_⟩
  rw [List.all_eq_true] at hk ⊢
  intro e he
  by_cases hv : v = d
  · simp only [aset, hv, if_true] at he; exact hk.2 e (List.mem_filter.mp he).1
  · simp only [aset, hv, if_false] at he
    rcases mem_ains k v _ e he with rfl | he
    · simpa using hv
    · exact hk.2 e (List.mem_filter.mp he).1

theorem amod_wf {d : α} {m : List (Nat × α)} (h : awf d m = true) (k : Nat) (f : α → α) :
    awf d (amod d m k f) = true := aset_wf h k _

theorem aclear_wf {d : α} {m : List (Nat × α)} (h : awf d m = true) (lo hi : Nat) :
    awf d (aclear m lo hi) = true := filter_wf h _

theorem asetRun_wf {d : α} : ∀ (vs : List α) {m : List (Nat × α)} (_ : awf d m = true) (k : Nat),
    awf d (asetRun d m k vs) = true
  | [], _, h, _ => h
  | _ :: vs, _, h, k => asetRun_wf vs (aset_wf h k _) (k + 1)

end

/-- Storing bytes keeps a memory's canonical form. -/
theorem memStore_wf {m : List Host.Cell} (h : Memory.wf m = true) (a : Nat) (bs : List (BitVec 8)) :
    Memory.wf (memStore m a bs) = true := asetRun_wf bs h a

/-- A byte after a store: what was stored inside the range, what stood there outside it. -/
theorem memByte_memStore (m : List Host.Cell) (a i : Nat) (bs : List (BitVec 8)) :
    memByte (memStore m a bs) i = if a ≤ i ∧ i < a + bs.length then bs.getD (i - a) 0 else memByte m i :=
  aget_asetRun 0 bs m a i

end Sys2Proof.Machine
end

