-- ==== Sys2Proof/Laws/Event.lean ====
section
/-! SUPPORT. What raising an event, sending a message and counting an error can change: the objects, the Chabohar unit, the
host interface and the error tables, and nothing else. -/

namespace Sys2Proof.Machine

/-- `t` differs from `s` in objects, Chabohar, host interface and health alone. -/
def SideOnly (s t : State) : Prop := t = { s with objs := t.objs, chb := t.chb, hst := t.hst, hlth := t.hlth }

theorem SideOnly.refl (s : State) : SideOnly s s := rfl

theorem SideOnly.trans {s t u : State} (h : SideOnly s t) (g : SideOnly t u) : SideOnly s u := by
  unfold SideOnly at *
  rw [g, h]

theorem SideOnly.chb {s t : State} (h : SideOnly s t) (x : Chb) : SideOnly s { t with chb := x } := by
  unfold SideOnly at *; rw [h]

theorem SideOnly.hlth {s t : State} (h : SideOnly s t) (x : Health) : SideOnly s { t with hlth := x } := by
  unfold SideOnly at *; rw [h]

theorem SideOnly.ite {s a b : State} {c : Prop} [Decidable c] (ha : SideOnly s a) (hb : SideOnly s b) :
    SideOnly s (if c then a else b) := by
  split
  · exact ha
  · exact hb

theorem setObj_side (s : State) (o : Obj) (v i j : Nat) : SideOnly s (s.setObj o v i j) := rfl
theorem addObj_side (s : State) (o : Obj) (n i j : Nat) : SideOnly s (s.addObj o n i j) := rfl
theorem incObj_side (s : State) (o : Obj) (i j : Nat) : SideOnly s (s.incObj o i j) := rfl
theorem sendPdu_side (s : State) (p : Sent) : SideOnly s (s.sendPdu p) := rfl
theorem setLink_side (s : State) (l : Nat) (v : PcieLink) : SideOnly s (s.setLink l v) := rfl
theorem updLife_side (s : State) (d : Nat) (f : Life → Life) : SideOnly s (s.updLife d f) := rfl

theorem sendMsi_side (s : State) (l vec : Nat) : SideOnly s (s.sendMsi l vec) := by
  unfold State.sendMsi
  dsimp only
  repeat' split
  all_goals rfl

theorem sendSource_side (s : State) (j : Nat) : SideOnly s (s.sendSource j) := sendMsi_side ..

theorem sendEventMsi_side (s : State) : SideOnly s s.sendEventMsi := by
  unfold State.sendEventMsi
  split
  · exact (sendMsi_side ..).trans (sendMsi_side ..)
  · exact sendSource_side ..

theorem closeWorn_side (s : State) (sid : Nat) : SideOnly s (s.closeWorn sid) := by
  unfold State.closeWorn
  exact SideOnly.ite ((SideOnly.refl s).chb _) (SideOnly.refl s)

theorem closeAll_side (l : List Session) : ∀ {s t : State}, SideOnly s t →
    SideOnly s (l.foldl (fun (t : State) (x : Session) => t.closeWorn x.sid) t) := by
  induction l with
  | nil => exact fun h => h
  | cons x r ih => exact fun h => ih (h.trans (closeWorn_side _ _))

theorem raiseAs_side (s : State) (code outcome arg8 arg16 : Nat) (data : Word) :
    SideOnly s (s.raiseAs code outcome arg8 arg16 data) := by
  unfold State.raiseAs
  refine SideOnly.ite (incObj_side ..) ?_
  extract_lets seq e takers pdus s1 lost s2 c0 s3 s4 h0 s5
  have h1 : SideOnly s s1 := (setObj_side ..).trans (incObj_side ..)
  have h2 : SideOnly s s2 := SideOnly.ite h1 ((h1.trans (addObj_side ..)).trans (addObj_side ..))
  have h3 : SideOnly s s3 := h2.chb _
  have h4 : SideOnly s s4 := closeAll_side _ h3
  have h5 : SideOnly s s5 := SideOnly.ite (h4.hlth _) h4
  exact SideOnly.ite (h5.trans (sendEventMsi_side _)) h5

theorem raiseEvent_side (s : State) (code arg8 arg16 : Nat) (data : Word) :
    SideOnly s (s.raiseEvent code arg8 arg16 data) := raiseAs_side ..

theorem addToTable_side (s : State) (loc : Word) (src k : Nat) : SideOnly s (s.addToTable loc src k) := by
  unfold State.addToTable
  extract_lets d ex co new h0 putEx putCo
  have he : ∀ l, SideOnly s (putEx l) := fun l => (SideOnly.refl s).hlth _
  have hc : ∀ l, SideOnly s (putCo l) := fun l => (SideOnly.refl s).hlth _
  clear_value putEx putCo
  refine SideOnly.ite (he _) (SideOnly.ite (he _) ?_)
  split
  · exact SideOnly.ite (he _) (hc _)
  · exact SideOnly.ite (hc _) (setObj_side ..)

theorem eccTrend_side (s : State) (d : Nat) : SideOnly s (s.eccTrend d) := by
  unfold State.eccTrend
  extract_lets r
  exact SideOnly.ite (((SideOnly.refl s).hlth _).trans (raiseEvent_side ..)) (SideOnly.refl s)

theorem countErr_side (s : State) (loc : Word) (src k : Nat) : SideOnly s (s.countErr loc src k) := by
  unfold State.countErr
  extract_lets s1 d s2 h0 s3
  have h1 : SideOnly s s1 := incObj_side ..
  have h2 : SideOnly s s2 := (h1.trans (addToTable_side ..)).trans (updLife_side ..)
  have h3 : SideOnly s s3 := SideOnly.ite (SideOnly.ite h2 (h2.hlth _)) h2
  exact SideOnly.ite h1 (SideOnly.ite (h3.trans (eccTrend_side ..)) h3)

end Sys2Proof.Machine
end

