-- ==== Sys2Proof/Laws/Memory.lean ====
section
/-! SUPPORT. What reads and writes of memory can change, and what they leave: a read whose granules are clean changes no
byte; a write changes the bytes it names. -/

namespace Sys2Proof.Machine

/-- `t` differs from `s` in what memory accesses touch alone: the stores, bank counts, and what counting an error changes. -/
def TouchOnly (s t : State) : Prop :=
  t = { s with objs := t.objs, chb := t.chb, hst := t.hst, hlth := t.hlth, mem := t.mem, poison := t.poison,
               cells := t.cells, fab := t.fab }

theorem TouchOnly.refl (s : State) : TouchOnly s s := rfl

theorem TouchOnly.trans {s t u : State} (h : TouchOnly s t) (g : TouchOnly t u) : TouchOnly s u := by
  unfold TouchOnly at *
  rw [g, h]

theorem SideOnly.touch {s t : State} (h : SideOnly s t) : TouchOnly s t := by
  unfold SideOnly TouchOnly at *
  rw [h]

theorem TouchOnly.cores {s t : State} (h : TouchOnly s t) : t.cores = s.cores := by rw [h]
theorem TouchOnly.reqs {s t : State} (h : TouchOnly s t) : t.reqs = s.reqs := by rw [h]
theorem TouchOnly.pushes {s t : State} (h : TouchOnly s t) : t.pushes = s.pushes := by rw [h]
theorem TouchOnly.credits {s t : State} (h : TouchOnly s t) : t.credits = s.credits := by rw [h]
theorem TouchOnly.hostValves {s t : State} (h : TouchOnly s t) : t.hostValves = s.hostValves := by rw [h]
theorem TouchOnly.pages {s t : State} (h : TouchOnly s t) : t.pages = s.pages := by rw [h]
theorem TouchOnly.pending {s t : State} (h : TouchOnly s t) : t.pending = s.pending := by rw [h]
theorem TouchOnly.core {s t : State} (h : TouchOnly s t) (k : Nat) : t.core k = s.core k := by
  unfold State.core; rw [h.cores]
theorem TouchOnly.ctx {s t : State} (h : TouchOnly s t) (k x : Nat) : t.ctx k x = s.ctx k x := by
  unfold State.ctx; rw [h.core]

/-- Poison stands as it was; where no cell error stood, so do the bytes, and none stands (a read corrects errors in place, and
an error beyond the code changes the bytes that it hits). -/
def Clean (s t : State) : Prop := t.poison = s.poison ∧ (s.cells = [] → t.mem = s.mem ∧ t.cells = [])

theorem Clean.refl (s : State) : Clean s s := ⟨rfl, fun h => ⟨rfl, h⟩⟩

theorem Clean.trans {s t u : State} (h : Clean s t) (g : Clean t u) : Clean s u :=
  ⟨g.1.trans h.1, fun e => ⟨(g.2 (h.2 e).2).1.trans (h.2 e).1, (g.2 (h.2 e).2).2⟩⟩

theorem SideOnly.clean {s t : State} (h : SideOnly s t) : Clean s t :=
  ⟨by rw [h], fun e => ⟨by rw [h], by rw [h]; exact e⟩⟩

/-- Poison that stands in `s` stands in `t` too. -/
def Keeps (s t : State) : Prop := ∀ i, s.granule i ≠ none → t.granule i ≠ none

theorem Keeps.of_poison {s t : State} (h : t.poison = s.poison) : Keeps s t := by
  intro i hi
  unfold State.granule at *
  rwa [h]

theorem countEcc_side (s : State) (a which bit : Nat) : SideOnly s (s.countEcc a which bit) := by
  unfold State.countEcc
  extract_lets d s1
  have h1 : SideOnly s s1 := countErr_side ..
  exact SideOnly.ite (h1.trans (incObj_side ..)) (h1.trans (incObj_side ..))

/-- Fresh check bits change the standing errors alone. -/
theorem freshen_cells : ∀ (cws : List Nat) (s : State), s.freshen cws = { s with cells := (s.freshen cws).cells }
  | [], _ => rfl
  | c :: r, s => by
    have h := freshen_cells r (s.setCellErr c (s.cellErr c).fresh)
    show (s.setCellErr c (s.cellErr c).fresh).freshen r = _
    exact h

theorem freshen_touch (s : State) (cws : List Nat) : TouchOnly s (s.freshen cws) := by
  unfold TouchOnly
  rw [freshen_cells]

@[simp] theorem freshen_poison (s : State) (cws : List Nat) : (s.freshen cws).poison = s.poison := by rw [freshen_cells]
@[simp] theorem freshen_mem (s : State) (cws : List Nat) : (s.freshen cws).mem = s.mem := by rw [freshen_cells]

theorem poisonGranule_touch (s : State) (g : Nat) (loc : Word) : TouchOnly s (s.poisonGranule g loc) := by
  refine TouchOnly.trans ?_ (freshen_touch _ _)
  rfl

@[simp] theorem poisonGranule_poison (s : State) (g : Nat) (loc : Word) :
    (s.poisonGranule g loc).poison = aset 0 s.poison g (loc.toNat + 1) := freshen_poison ..

theorem poisonGranule_granule (s : State) (g : Nat) (loc : Word) : (s.poisonGranule g loc).granule g ≠ none := by
  simp [State.granule]

theorem poisonGranule_keeps (s : State) (g : Nat) (loc : Word) : Keeps s (s.poisonGranule g loc) := by
  intro i hi
  by_cases h : i = g
  · rw [h]; exact poisonGranule_granule s g loc
  · simpa [State.granule, aget_aset, h] using hi

theorem flipData_touch (s : State) (a m : Nat) : TouchOnly s (s.flipData a m) := by
  unfold State.flipData
  split <;> rfl

@[simp] theorem flipData_poison (s : State) (a m : Nat) : (s.flipData a m).poison = s.poison := by
  unfold State.flipData
  split <;> rfl

/-- What one codeword's read does: it may correct, count and report, and bytes in error may change; poison stays. -/
theorem readCw_spec (s : State) (a : Nat) : TouchOnly s (s.readCw a).1 ∧ Clean s (s.readCw a).1 := by
  by_cases he : s.cellErr a = CellErr.zero
  · unfold State.readCw
    simp only [he, if_true]
    exact ⟨TouchOnly.refl s, Clean.refl s⟩
  · have hne : s.cells ≠ [] := by
      intro h
      apply he
      unfold State.cellErr
      rw [h]
      rfl
    suffices h : TouchOnly s (s.readCw a).1 ∧ (s.readCw a).1.poison = s.poison from
      ⟨h.1, h.2, fun e => absurd e hne⟩
    have step : ∀ (u : State) (w b : Nat), TouchOnly s u → u.poison = s.poison →
        TouchOnly s (u.countEcc a w b) ∧ (u.countEcc a w b).poison = s.poison := fun u w b h g =>
      ⟨h.trans (countEcc_side u a w b).touch, (countEcc_side u a w b).clean.1.trans g⟩
    have flip : ∀ (u : State) (m : Nat), TouchOnly s u → TouchOnly s (u.flipData a m) := fun u m h => h.trans (flipData_touch u a m)
    have cell : ∀ (u : State) (e : CellErr), TouchOnly s u → TouchOnly s (u.setCellErr a e) := fun u e h =>
      h.trans (show TouchOnly u (u.setCellErr a e) from rfl)
    unfold State.readCw
    simp only [he, if_false]
    have h0 := cell s { s.cellErr a with read := 0 } (TouchOnly.refl s)
    have p0 : (s.setCellErr a { s.cellErr a with read := 0 }).poison = s.poison := rfl
    generalize s.setCellErr a { s.cellErr a with read := 0 } = u at h0 p0 ⊢
    split
    · exact ⟨flip u _ h0, (flipData_poison ..).trans p0⟩
    · exact step _ _ _ (cell _ _ (flip u _ h0)) ((flipData_poison ..).trans p0)
    · split
      · exact step _ _ _ (flip u _ h0) ((flipData_poison ..).trans p0)
      · exact step _ _ _ (cell _ _ (flip u _ h0)) ((flipData_poison ..).trans p0)
      · have h1 := step u 3 255 h0 p0
        have h2 := raiseEvent_side (u.countEcc a 3 255) 0x0201 (if isLocal a then 1 else 2) 0 (u.cwLocator a 255)
        exact ⟨h1.1.trans h2.touch, h2.clean.1.trans h1.2⟩

/-- Codewords of one granule read in one access: they are clean, or the granule holds poison afterwards. -/
theorem readCws_spec (s : State) (g : Nat) (cws : List Nat) :
    TouchOnly s (s.readCws g cws) ∧ (Clean s (s.readCws g cws) ∨ (s.readCws g cws).granule g ≠ none) ∧
      Keeps s (s.readCws g cws) := by
  suffices h : ∀ (l : List Nat) (acc : State × Option Word), TouchOnly s acc.1 ∧ Clean s acc.1 →
      TouchOnly s (l.foldl (fun (acc : State × Option Word) c =>
        let q := acc.1.readCw c
        (q.1, match acc.2 with | some l => some l | none => q.2)) acc).1 ∧
      Clean s (l.foldl (fun (acc : State × Option Word) c =>
        let q := acc.1.readCw c
        (q.1, match acc.2 with | some l => some l | none => q.2)) acc).1 by
    obtain ⟨h1, h2⟩ := h cws (s, none) ⟨TouchOnly.refl s, Clean.refl s⟩
    unfold State.readCws
    extract_lets r
    change TouchOnly s r.1 at h1
    change Clean s r.1 at h2
    clear_value r
    cases r.2 with
    | none => exact ⟨h1, .inl h2, Keeps.of_poison h2.1⟩
    | some loc =>
      refine ⟨h1.trans (poisonGranule_touch ..), .inr (poisonGranule_granule r.1 g loc), fun i hi => ?_⟩
      exact poisonGranule_keeps r.1 g loc i (Keeps.of_poison h2.1 i hi)
  intro l
  induction l with
  | nil => exact fun _ h => h
  | cons c r ih =>
    intro acc hacc
    obtain ⟨a1, a2⟩ := readCw_spec acc.1 c
    exact ih _ ⟨hacc.1.trans a1, hacc.2.trans a2⟩

/-- A granule of written poison always answers a locator. -/
theorem readPoison_spec (s : State) (g : Nat) (cws : List Nat) :
    TouchOnly s (s.readPoison g cws).1 ∧ (s.readPoison g cws).2 ≠ none ∧ Keeps s (s.readPoison g cws).1 := by
  unfold State.readPoison
  split
  · have h := incObj_side s .poisonReads (payloadOf (g * 64) / 2 ^ 32 % 64) 0
    exact ⟨h.touch, by simp, Keeps.of_poison h.clean.1⟩
  · extract_lets a loc
    have h := (countEcc_side s a 3 255).trans
      (raiseEvent_side (s.countEcc a 3 255) 0x0201 (if isLocal a then 1 else 2) 0 loc)
    refine ⟨h.touch.trans (poisonGranule_touch ..), by simp, fun i hi => ?_⟩
    exact poisonGranule_keeps _ _ _ i (Keeps.of_poison h.clean.1 i hi)

theorem readGranule_spec (s : State) (g : Nat) (cws : List Nat) :
    TouchOnly s (s.readGranule g cws).1 ∧ (Clean s (s.readGranule g cws).1 ∨ (s.readGranule g cws).2 ≠ none) := by
  unfold State.readGranule
  extract_lets mine
  split
  · have h := readPoison_spec s g mine
    exact ⟨h.1, .inr h.2.1⟩
  · have h := readCws_spec s g mine
    exact ⟨h.1, h.2.1⟩

theorem countBanks_spec (s : State) (a n : Nat) : TouchOnly s (s.countBanks a n) ∧ Clean s (s.countBanks a n) := by
  unfold State.countBanks
  split
  · exact ⟨rfl, Clean.refl s⟩
  · generalize List.range _ = l
    suffices h : ∀ (l : List Nat) (t : State), TouchOnly s t ∧ Clean s t →
        TouchOnly s (l.foldl _ t) ∧ Clean s (l.foldl _ t) from h l s ⟨rfl, Clean.refl s⟩
    intro l
    induction l with
    | nil => exact fun _ h => h
    | cons i r ih =>
      intro t ht
      refine ih _ ?_
      exact ⟨ht.1.trans (show TouchOnly t _ from rfl), ht.2.trans (show Clean t _ from ⟨rfl, fun e => ⟨rfl, e⟩⟩)⟩

theorem firstPoison_append_some (l : List (Nat × Option Word)) (r : List (Nat × Option Word))
    (h : firstPoison l ≠ none) : firstPoison (l ++ r) ≠ none := by
  induction l with
  | nil => exact absurd rfl h
  | cons e t ih =>
    obtain ⟨g, o⟩ := e
    cases o with
    | none => simpa [firstPoison] using ih h
    | some w => simp [firstPoison]

theorem firstPoison_append_last (l : List (Nat × Option Word)) (g : Nat) (o : Option Word) (h : o ≠ none) :
    firstPoison (l ++ [(g, o)]) ≠ none := by
  induction l with
  | nil => cases o with
    | none => exact absurd rfl h
    | some w => simp [firstPoison]
  | cons e t ih =>
    obtain ⟨g', o'⟩ := e
    cases o' with
    | none => simpa [firstPoison] using ih
    | some w => simp [firstPoison]

/-- A read of [a, a + n) touches stores and counts alone; where no granule reads as poisoned it changes no byte. -/
theorem touch_spec (s : State) (a n : Nat) :
    TouchOnly s (s.touch a n).1 ∧ (firstPoison (s.touch a n).2 = none → Clean s (s.touch a n).1) := by
  unfold State.touch
  extract_lets cws
  obtain ⟨b1, b2⟩ := countBanks_spec s a n
  suffices h : ∀ (l : List Nat) (acc : State × List (Nat × Option Word)),
      TouchOnly s acc.1 ∧ (Clean s acc.1 ∨ firstPoison acc.2 ≠ none) →
      TouchOnly s (l.foldl (fun acc g => let r := acc.1.readGranule g cws; (r.1, acc.2 ++ [(g, r.2)])) acc).1 ∧
        (Clean s (l.foldl (fun acc g => let r := acc.1.readGranule g cws; (r.1, acc.2 ++ [(g, r.2)])) acc).1 ∨
          firstPoison (l.foldl (fun acc g => let r := acc.1.readGranule g cws; (r.1, acc.2 ++ [(g, r.2)])) acc).2 ≠ none) by
    obtain ⟨h1, h2⟩ := h (granulesOf a n) (s.countBanks a n, []) ⟨b1, .inl b2⟩
    refine ⟨h1, fun hp => ?_⟩
    rcases h2 with h2 | h2
    · exact h2
    · exact absurd hp h2
  intro l
  induction l with
  | nil => exact fun _ h => h
  | cons g r ih =>
    intro acc hacc
    refine ih _ ?_
    obtain ⟨h1, h2⟩ := readGranule_spec acc.1 g cws
    refine ⟨hacc.1.trans h1, ?_⟩
    rcases hacc.2 with hc | hc
    · rcases h2 with h2 | h2
      · exact .inl (hc.trans h2)
      · exact .inr (firstPoison_append_last _ _ _ h2)
    · exact .inr (firstPoison_append_some _ _ hc)

/-- A store of whole bytes, byte by byte. -/
theorem pokeMem_byte (s : State) (a i : Nat) (bs : List (BitVec 8)) :
    memByte (s.pokeMem a bs).mem i = if a ≤ i ∧ i < a + bs.length then bs.getD (i - a) 0 else memByte s.mem i :=
  memByte_memStore s.mem a i bs

theorem pokeMem_touch (s : State) (a : Nat) (bs : List (BitVec 8)) : TouchOnly s (s.pokeMem a bs) := rfl

end Sys2Proof.Machine
end

