-- ==== Sys2Proof/Laws/State.lean ====
section
/-! SUPPORT. Reads of a field after an update of another: every lemma holds by definition. Then what the accessors read
back after a write through them. -/

namespace Sys2Proof.Machine

section State_setObj
variable (s : State) (o : Obj) (v i j : Nat)
@[simp] theorem State.setObj_pending : (s.setObj o v i j).pending = s.pending := rfl
@[simp] theorem State.setObj_gtc : (s.setObj o v i j).gtc = s.gtc := rfl
@[simp] theorem State.setObj_nextId : (s.setObj o v i j).nextId = s.nextId := rfl
@[simp] theorem State.setObj_draws : (s.setObj o v i j).draws = s.draws := rfl
@[simp] theorem State.setObj_cores : (s.setObj o v i j).cores = s.cores := rfl
@[simp] theorem State.setObj_mem : (s.setObj o v i j).mem = s.mem := rfl
@[simp] theorem State.setObj_poison : (s.setObj o v i j).poison = s.poison := rfl
@[simp] theorem State.setObj_cells : (s.setObj o v i j).cells = s.cells := rfl
@[simp] theorem State.setObj_upsets : (s.setObj o v i j).upsets = s.upsets := rfl
@[simp] theorem State.setObj_reqs : (s.setObj o v i j).reqs = s.reqs := rfl
@[simp] theorem State.setObj_pushes : (s.setObj o v i j).pushes = s.pushes := rfl
@[simp] theorem State.setObj_credits : (s.setObj o v i j).credits = s.credits := rfl
@[simp] theorem State.setObj_hostValves : (s.setObj o v i j).hostValves = s.hostValves := rfl
@[simp] theorem State.setObj_pages : (s.setObj o v i j).pages = s.pages := rfl
@[simp] theorem State.setObj_move : (s.setObj o v i j).move = s.move := rfl
@[simp] theorem State.setObj_poolOp : (s.setObj o v i j).poolOp = s.poolOp := rfl
@[simp] theorem State.setObj_census : (s.setObj o v i j).census = s.census := rfl
@[simp] theorem State.setObj_fab : (s.setObj o v i j).fab = s.fab := rfl
@[simp] theorem State.setObj_ports : (s.setObj o v i j).ports = s.ports := rfl
@[simp] theorem State.setObj_mouths : (s.setObj o v i j).mouths = s.mouths := rfl
@[simp] theorem State.setObj_banks : (s.setObj o v i j).banks = s.banks := rfl
@[simp] theorem State.setObj_bells : (s.setObj o v i j).bells = s.bells := rfl
@[simp] theorem State.setObj_epochTo : (s.setObj o v i j).epochTo = s.epochTo := rfl
@[simp] theorem State.setObj_hst : (s.setObj o v i j).hst = s.hst := rfl
@[simp] theorem State.setObj_chb : (s.setObj o v i j).chb = s.chb := rfl
@[simp] theorem State.setObj_hlth : (s.setObj o v i j).hlth = s.hlth := rfl
@[simp] theorem State.setObj_time : (s.setObj o v i j).time = s.time := rfl
@[simp] theorem State.setObj_pwr : (s.setObj o v i j).pwr = s.pwr := rfl
@[simp] theorem State.setObj_boot : (s.setObj o v i j).boot = s.boot := rfl
@[simp] theorem State.setObj_fw : (s.setObj o v i j).fw = s.fw := rfl
@[simp] theorem State.setObj_bnd : (s.setObj o v i j).bnd = s.bnd := rfl
end State_setObj

section State_setCore
variable (s : State) (k : Nat) (c : Core)
@[simp] theorem State.setCore_pending : (s.setCore k c).pending = s.pending := rfl
@[simp] theorem State.setCore_objs : (s.setCore k c).objs = s.objs := rfl
@[simp] theorem State.setCore_gtc : (s.setCore k c).gtc = s.gtc := rfl
@[simp] theorem State.setCore_nextId : (s.setCore k c).nextId = s.nextId := rfl
@[simp] theorem State.setCore_draws : (s.setCore k c).draws = s.draws := rfl
@[simp] theorem State.setCore_mem : (s.setCore k c).mem = s.mem := rfl
@[simp] theorem State.setCore_poison : (s.setCore k c).poison = s.poison := rfl
@[simp] theorem State.setCore_cells : (s.setCore k c).cells = s.cells := rfl
@[simp] theorem State.setCore_upsets : (s.setCore k c).upsets = s.upsets := rfl
@[simp] theorem State.setCore_reqs : (s.setCore k c).reqs = s.reqs := rfl
@[simp] theorem State.setCore_pushes : (s.setCore k c).pushes = s.pushes := rfl
@[simp] theorem State.setCore_credits : (s.setCore k c).credits = s.credits := rfl
@[simp] theorem State.setCore_hostValves : (s.setCore k c).hostValves = s.hostValves := rfl
@[simp] theorem State.setCore_pages : (s.setCore k c).pages = s.pages := rfl
@[simp] theorem State.setCore_move : (s.setCore k c).move = s.move := rfl
@[simp] theorem State.setCore_poolOp : (s.setCore k c).poolOp = s.poolOp := rfl
@[simp] theorem State.setCore_census : (s.setCore k c).census = s.census := rfl
@[simp] theorem State.setCore_fab : (s.setCore k c).fab = s.fab := rfl
@[simp] theorem State.setCore_ports : (s.setCore k c).ports = s.ports := rfl
@[simp] theorem State.setCore_mouths : (s.setCore k c).mouths = s.mouths := rfl
@[simp] theorem State.setCore_banks : (s.setCore k c).banks = s.banks := rfl
@[simp] theorem State.setCore_bells : (s.setCore k c).bells = s.bells := rfl
@[simp] theorem State.setCore_epochTo : (s.setCore k c).epochTo = s.epochTo := rfl
@[simp] theorem State.setCore_hst : (s.setCore k c).hst = s.hst := rfl
@[simp] theorem State.setCore_chb : (s.setCore k c).chb = s.chb := rfl
@[simp] theorem State.setCore_hlth : (s.setCore k c).hlth = s.hlth := rfl
@[simp] theorem State.setCore_time : (s.setCore k c).time = s.time := rfl
@[simp] theorem State.setCore_pwr : (s.setCore k c).pwr = s.pwr := rfl
@[simp] theorem State.setCore_boot : (s.setCore k c).boot = s.boot := rfl
@[simp] theorem State.setCore_fw : (s.setCore k c).fw = s.fw := rfl
@[simp] theorem State.setCore_bnd : (s.setCore k c).bnd = s.bnd := rfl
end State_setCore

section State_setHostValve
variable (s : State) (h : Nat) (v : HostValve)
@[simp] theorem State.setHostValve_pending : (s.setHostValve h v).pending = s.pending := rfl
@[simp] theorem State.setHostValve_objs : (s.setHostValve h v).objs = s.objs := rfl
@[simp] theorem State.setHostValve_gtc : (s.setHostValve h v).gtc = s.gtc := rfl
@[simp] theorem State.setHostValve_nextId : (s.setHostValve h v).nextId = s.nextId := rfl
@[simp] theorem State.setHostValve_draws : (s.setHostValve h v).draws = s.draws := rfl
@[simp] theorem State.setHostValve_cores : (s.setHostValve h v).cores = s.cores := rfl
@[simp] theorem State.setHostValve_mem : (s.setHostValve h v).mem = s.mem := rfl
@[simp] theorem State.setHostValve_poison : (s.setHostValve h v).poison = s.poison := rfl
@[simp] theorem State.setHostValve_cells : (s.setHostValve h v).cells = s.cells := rfl
@[simp] theorem State.setHostValve_upsets : (s.setHostValve h v).upsets = s.upsets := rfl
@[simp] theorem State.setHostValve_reqs : (s.setHostValve h v).reqs = s.reqs := rfl
@[simp] theorem State.setHostValve_pushes : (s.setHostValve h v).pushes = s.pushes := rfl
@[simp] theorem State.setHostValve_credits : (s.setHostValve h v).credits = s.credits := rfl
@[simp] theorem State.setHostValve_pages : (s.setHostValve h v).pages = s.pages := rfl
@[simp] theorem State.setHostValve_move : (s.setHostValve h v).move = s.move := rfl
@[simp] theorem State.setHostValve_poolOp : (s.setHostValve h v).poolOp = s.poolOp := rfl
@[simp] theorem State.setHostValve_census : (s.setHostValve h v).census = s.census := rfl
@[simp] theorem State.setHostValve_fab : (s.setHostValve h v).fab = s.fab := rfl
@[simp] theorem State.setHostValve_ports : (s.setHostValve h v).ports = s.ports := rfl
@[simp] theorem State.setHostValve_mouths : (s.setHostValve h v).mouths = s.mouths := rfl
@[simp] theorem State.setHostValve_banks : (s.setHostValve h v).banks = s.banks := rfl
@[simp] theorem State.setHostValve_bells : (s.setHostValve h v).bells = s.bells := rfl
@[simp] theorem State.setHostValve_epochTo : (s.setHostValve h v).epochTo = s.epochTo := rfl
@[simp] theorem State.setHostValve_hst : (s.setHostValve h v).hst = s.hst := rfl
@[simp] theorem State.setHostValve_chb : (s.setHostValve h v).chb = s.chb := rfl
@[simp] theorem State.setHostValve_hlth : (s.setHostValve h v).hlth = s.hlth := rfl
@[simp] theorem State.setHostValve_time : (s.setHostValve h v).time = s.time := rfl
@[simp] theorem State.setHostValve_pwr : (s.setHostValve h v).pwr = s.pwr := rfl
@[simp] theorem State.setHostValve_boot : (s.setHostValve h v).boot = s.boot := rfl
@[simp] theorem State.setHostValve_fw : (s.setHostValve h v).fw = s.fw := rfl
@[simp] theorem State.setHostValve_bnd : (s.setHostValve h v).bnd = s.bnd := rfl
end State_setHostValve

section State_setPage
variable (s : State) (h : Nat) (p : Page)
@[simp] theorem State.setPage_pending : (s.setPage h p).pending = s.pending := rfl
@[simp] theorem State.setPage_objs : (s.setPage h p).objs = s.objs := rfl
@[simp] theorem State.setPage_gtc : (s.setPage h p).gtc = s.gtc := rfl
@[simp] theorem State.setPage_nextId : (s.setPage h p).nextId = s.nextId := rfl
@[simp] theorem State.setPage_draws : (s.setPage h p).draws = s.draws := rfl
@[simp] theorem State.setPage_cores : (s.setPage h p).cores = s.cores := rfl
@[simp] theorem State.setPage_mem : (s.setPage h p).mem = s.mem := rfl
@[simp] theorem State.setPage_poison : (s.setPage h p).poison = s.poison := rfl
@[simp] theorem State.setPage_cells : (s.setPage h p).cells = s.cells := rfl
@[simp] theorem State.setPage_upsets : (s.setPage h p).upsets = s.upsets := rfl
@[simp] theorem State.setPage_reqs : (s.setPage h p).reqs = s.reqs := rfl
@[simp] theorem State.setPage_pushes : (s.setPage h p).pushes = s.pushes := rfl
@[simp] theorem State.setPage_credits : (s.setPage h p).credits = s.credits := rfl
@[simp] theorem State.setPage_hostValves : (s.setPage h p).hostValves = s.hostValves := rfl
@[simp] theorem State.setPage_move : (s.setPage h p).move = s.move := rfl
@[simp] theorem State.setPage_poolOp : (s.setPage h p).poolOp = s.poolOp := rfl
@[simp] theorem State.setPage_census : (s.setPage h p).census = s.census := rfl
@[simp] theorem State.setPage_fab : (s.setPage h p).fab = s.fab := rfl
@[simp] theorem State.setPage_ports : (s.setPage h p).ports = s.ports := rfl
@[simp] theorem State.setPage_mouths : (s.setPage h p).mouths = s.mouths := rfl
@[simp] theorem State.setPage_banks : (s.setPage h p).banks = s.banks := rfl
@[simp] theorem State.setPage_bells : (s.setPage h p).bells = s.bells := rfl
@[simp] theorem State.setPage_epochTo : (s.setPage h p).epochTo = s.epochTo := rfl
@[simp] theorem State.setPage_hst : (s.setPage h p).hst = s.hst := rfl
@[simp] theorem State.setPage_chb : (s.setPage h p).chb = s.chb := rfl
@[simp] theorem State.setPage_hlth : (s.setPage h p).hlth = s.hlth := rfl
@[simp] theorem State.setPage_time : (s.setPage h p).time = s.time := rfl
@[simp] theorem State.setPage_pwr : (s.setPage h p).pwr = s.pwr := rfl
@[simp] theorem State.setPage_boot : (s.setPage h p).boot = s.boot := rfl
@[simp] theorem State.setPage_fw : (s.setPage h p).fw = s.fw := rfl
@[simp] theorem State.setPage_bnd : (s.setPage h p).bnd = s.bnd := rfl
end State_setPage

section State_setPort
variable (s : State) (n : Nat) (p : Port)
@[simp] theorem State.setPort_pending : (s.setPort n p).pending = s.pending := rfl
@[simp] theorem State.setPort_objs : (s.setPort n p).objs = s.objs := rfl
@[simp] theorem State.setPort_gtc : (s.setPort n p).gtc = s.gtc := rfl
@[simp] theorem State.setPort_nextId : (s.setPort n p).nextId = s.nextId := rfl
@[simp] theorem State.setPort_draws : (s.setPort n p).draws = s.draws := rfl
@[simp] theorem State.setPort_cores : (s.setPort n p).cores = s.cores := rfl
@[simp] theorem State.setPort_mem : (s.setPort n p).mem = s.mem := rfl
@[simp] theorem State.setPort_poison : (s.setPort n p).poison = s.poison := rfl
@[simp] theorem State.setPort_cells : (s.setPort n p).cells = s.cells := rfl
@[simp] theorem State.setPort_upsets : (s.setPort n p).upsets = s.upsets := rfl
@[simp] theorem State.setPort_reqs : (s.setPort n p).reqs = s.reqs := rfl
@[simp] theorem State.setPort_pushes : (s.setPort n p).pushes = s.pushes := rfl
@[simp] theorem State.setPort_credits : (s.setPort n p).credits = s.credits := rfl
@[simp] theorem State.setPort_hostValves : (s.setPort n p).hostValves = s.hostValves := rfl
@[simp] theorem State.setPort_pages : (s.setPort n p).pages = s.pages := rfl
@[simp] theorem State.setPort_move : (s.setPort n p).move = s.move := rfl
@[simp] theorem State.setPort_poolOp : (s.setPort n p).poolOp = s.poolOp := rfl
@[simp] theorem State.setPort_census : (s.setPort n p).census = s.census := rfl
@[simp] theorem State.setPort_fab : (s.setPort n p).fab = s.fab := rfl
@[simp] theorem State.setPort_mouths : (s.setPort n p).mouths = s.mouths := rfl
@[simp] theorem State.setPort_banks : (s.setPort n p).banks = s.banks := rfl
@[simp] theorem State.setPort_bells : (s.setPort n p).bells = s.bells := rfl
@[simp] theorem State.setPort_epochTo : (s.setPort n p).epochTo = s.epochTo := rfl
@[simp] theorem State.setPort_hst : (s.setPort n p).hst = s.hst := rfl
@[simp] theorem State.setPort_chb : (s.setPort n p).chb = s.chb := rfl
@[simp] theorem State.setPort_hlth : (s.setPort n p).hlth = s.hlth := rfl
@[simp] theorem State.setPort_time : (s.setPort n p).time = s.time := rfl
@[simp] theorem State.setPort_pwr : (s.setPort n p).pwr = s.pwr := rfl
@[simp] theorem State.setPort_boot : (s.setPort n p).boot = s.boot := rfl
@[simp] theorem State.setPort_fw : (s.setPort n p).fw = s.fw := rfl
@[simp] theorem State.setPort_bnd : (s.setPort n p).bnd = s.bnd := rfl
end State_setPort

section State_setLink
variable (s : State) (l : Nat) (p : PcieLink)
@[simp] theorem State.setLink_pending : (s.setLink l p).pending = s.pending := rfl
@[simp] theorem State.setLink_objs : (s.setLink l p).objs = s.objs := rfl
@[simp] theorem State.setLink_gtc : (s.setLink l p).gtc = s.gtc := rfl
@[simp] theorem State.setLink_nextId : (s.setLink l p).nextId = s.nextId := rfl
@[simp] theorem State.setLink_draws : (s.setLink l p).draws = s.draws := rfl
@[simp] theorem State.setLink_cores : (s.setLink l p).cores = s.cores := rfl
@[simp] theorem State.setLink_mem : (s.setLink l p).mem = s.mem := rfl
@[simp] theorem State.setLink_poison : (s.setLink l p).poison = s.poison := rfl
@[simp] theorem State.setLink_cells : (s.setLink l p).cells = s.cells := rfl
@[simp] theorem State.setLink_upsets : (s.setLink l p).upsets = s.upsets := rfl
@[simp] theorem State.setLink_reqs : (s.setLink l p).reqs = s.reqs := rfl
@[simp] theorem State.setLink_pushes : (s.setLink l p).pushes = s.pushes := rfl
@[simp] theorem State.setLink_credits : (s.setLink l p).credits = s.credits := rfl
@[simp] theorem State.setLink_hostValves : (s.setLink l p).hostValves = s.hostValves := rfl
@[simp] theorem State.setLink_pages : (s.setLink l p).pages = s.pages := rfl
@[simp] theorem State.setLink_move : (s.setLink l p).move = s.move := rfl
@[simp] theorem State.setLink_poolOp : (s.setLink l p).poolOp = s.poolOp := rfl
@[simp] theorem State.setLink_census : (s.setLink l p).census = s.census := rfl
@[simp] theorem State.setLink_fab : (s.setLink l p).fab = s.fab := rfl
@[simp] theorem State.setLink_ports : (s.setLink l p).ports = s.ports := rfl
@[simp] theorem State.setLink_mouths : (s.setLink l p).mouths = s.mouths := rfl
@[simp] theorem State.setLink_banks : (s.setLink l p).banks = s.banks := rfl
@[simp] theorem State.setLink_bells : (s.setLink l p).bells = s.bells := rfl
@[simp] theorem State.setLink_epochTo : (s.setLink l p).epochTo = s.epochTo := rfl
@[simp] theorem State.setLink_chb : (s.setLink l p).chb = s.chb := rfl
@[simp] theorem State.setLink_hlth : (s.setLink l p).hlth = s.hlth := rfl
@[simp] theorem State.setLink_time : (s.setLink l p).time = s.time := rfl
@[simp] theorem State.setLink_pwr : (s.setLink l p).pwr = s.pwr := rfl
@[simp] theorem State.setLink_boot : (s.setLink l p).boot = s.boot := rfl
@[simp] theorem State.setLink_fw : (s.setLink l p).fw = s.fw := rfl
@[simp] theorem State.setLink_bnd : (s.setLink l p).bnd = s.bnd := rfl
end State_setLink

section Core_setTile
variable (c : Core) (n : Nat) (v : Tile)
@[simp] theorem Core.setTile_c0 : (c.setTile n v).c0 = c.c0 := rfl
@[simp] theorem Core.setTile_c1 : (c.setTile n v).c1 = c.c1 := rfl
@[simp] theorem Core.setTile_brkEn : (c.setTile n v).brkEn = c.brkEn := rfl
@[simp] theorem Core.setTile_ibufEn : (c.setTile n v).ibufEn = c.ibufEn := rfl
@[simp] theorem Core.setTile_perfEn : (c.setTile n v).perfEn = c.perfEn := rfl
@[simp] theorem Core.setTile_haltBoth : (c.setTile n v).haltBoth = c.haltBoth := rfl
@[simp] theorem Core.setTile_lateDrops : (c.setTile n v).lateDrops = c.lateDrops := rfl
@[simp] theorem Core.setTile_cmdRefused : (c.setTile n v).cmdRefused = c.cmdRefused := rfl
@[simp] theorem Core.setTile_cmdBusy : (c.setTile n v).cmdBusy = c.cmdBusy := rfl
@[simp] theorem Core.setTile_treq0 : (c.setTile n v).treq0 = c.treq0 := rfl
@[simp] theorem Core.setTile_treq1 : (c.setTile n v).treq1 = c.treq1 := rfl
@[simp] theorem Core.setTile_slot0 : (c.setTile n v).slot0 = c.slot0 := rfl
@[simp] theorem Core.setTile_acc0 : (c.setTile n v).acc0 = c.acc0 := rfl
@[simp] theorem Core.setTile_brkPc : (c.setTile n v).brkPc = c.brkPc := rfl
@[simp] theorem Core.setTile_perf0 : (c.setTile n v).perf0 = c.perf0 := rfl
@[simp] theorem Core.setTile_perf1 : (c.setTile n v).perf1 = c.perf1 := rfl
@[simp] theorem Core.setTile_ibuf : (c.setTile n v).ibuf = c.ibuf := rfl
@[simp] theorem Core.setTile_queues : (c.setTile n v).queues = c.queues := rfl
@[simp] theorem Core.setTile_runs : (c.setTile n v).runs = c.runs := rfl
@[simp] theorem Core.setTile_lastRan : (c.setTile n v).lastRan = c.lastRan := rfl
@[simp] theorem Core.setTile_valves : (c.setTile n v).valves = c.valves := rfl
@[simp] theorem Core.setTile_tallies : (c.setTile n v).tallies = c.tallies := rfl
@[simp] theorem Core.setTile_syncArg : (c.setTile n v).syncArg = c.syncArg := rfl
@[simp] theorem Core.setTile_slots : (c.setTile n v).slots = c.slots := rfl
@[simp] theorem Core.setTile_lastCtx : (c.setTile n v).lastCtx = c.lastCtx := rfl
@[simp] theorem Core.setTile_lastSlot0 : (c.setTile n v).lastSlot0 = c.lastSlot0 := rfl
@[simp] theorem Core.setTile_lastSlot1 : (c.setTile n v).lastSlot1 = c.lastSlot1 := rfl
@[simp] theorem Core.setTile_lastShared : (c.setTile n v).lastShared = c.lastShared := rfl
@[simp] theorem Core.setTile_orphans : (c.setTile n v).orphans = c.orphans := rfl
@[simp] theorem Core.setTile_lastRot : (c.setTile n v).lastRot = c.lastRot := rfl
@[simp] theorem Core.setTile_fenced : (c.setTile n v).fenced = c.fenced := rfl
@[simp] theorem Core.setTile_lendSince : (c.setTile n v).lendSince = c.lendSince := rfl
end Core_setTile

section Core_setValve
variable (c : Core) (n : Nat) (v : Valve)
@[simp] theorem Core.setValve_c0 : (c.setValve n v).c0 = c.c0 := rfl
@[simp] theorem Core.setValve_c1 : (c.setValve n v).c1 = c.c1 := rfl
@[simp] theorem Core.setValve_brkEn : (c.setValve n v).brkEn = c.brkEn := rfl
@[simp] theorem Core.setValve_ibufEn : (c.setValve n v).ibufEn = c.ibufEn := rfl
@[simp] theorem Core.setValve_perfEn : (c.setValve n v).perfEn = c.perfEn := rfl
@[simp] theorem Core.setValve_haltBoth : (c.setValve n v).haltBoth = c.haltBoth := rfl
@[simp] theorem Core.setValve_lateDrops : (c.setValve n v).lateDrops = c.lateDrops := rfl
@[simp] theorem Core.setValve_cmdRefused : (c.setValve n v).cmdRefused = c.cmdRefused := rfl
@[simp] theorem Core.setValve_cmdBusy : (c.setValve n v).cmdBusy = c.cmdBusy := rfl
@[simp] theorem Core.setValve_treq0 : (c.setValve n v).treq0 = c.treq0 := rfl
@[simp] theorem Core.setValve_treq1 : (c.setValve n v).treq1 = c.treq1 := rfl
@[simp] theorem Core.setValve_slot0 : (c.setValve n v).slot0 = c.slot0 := rfl
@[simp] theorem Core.setValve_acc0 : (c.setValve n v).acc0 = c.acc0 := rfl
@[simp] theorem Core.setValve_brkPc : (c.setValve n v).brkPc = c.brkPc := rfl
@[simp] theorem Core.setValve_perf0 : (c.setValve n v).perf0 = c.perf0 := rfl
@[simp] theorem Core.setValve_perf1 : (c.setValve n v).perf1 = c.perf1 := rfl
@[simp] theorem Core.setValve_ibuf : (c.setValve n v).ibuf = c.ibuf := rfl
@[simp] theorem Core.setValve_queues : (c.setValve n v).queues = c.queues := rfl
@[simp] theorem Core.setValve_runs : (c.setValve n v).runs = c.runs := rfl
@[simp] theorem Core.setValve_lastRan : (c.setValve n v).lastRan = c.lastRan := rfl
@[simp] theorem Core.setValve_tiles : (c.setValve n v).tiles = c.tiles := rfl
@[simp] theorem Core.setValve_tallies : (c.setValve n v).tallies = c.tallies := rfl
@[simp] theorem Core.setValve_syncArg : (c.setValve n v).syncArg = c.syncArg := rfl
@[simp] theorem Core.setValve_slots : (c.setValve n v).slots = c.slots := rfl
@[simp] theorem Core.setValve_lastCtx : (c.setValve n v).lastCtx = c.lastCtx := rfl
@[simp] theorem Core.setValve_lastSlot0 : (c.setValve n v).lastSlot0 = c.lastSlot0 := rfl
@[simp] theorem Core.setValve_lastSlot1 : (c.setValve n v).lastSlot1 = c.lastSlot1 := rfl
@[simp] theorem Core.setValve_lastShared : (c.setValve n v).lastShared = c.lastShared := rfl
@[simp] theorem Core.setValve_orphans : (c.setValve n v).orphans = c.orphans := rfl
@[simp] theorem Core.setValve_lastRot : (c.setValve n v).lastRot = c.lastRot := rfl
@[simp] theorem Core.setValve_fenced : (c.setValve n v).fenced = c.fenced := rfl
@[simp] theorem Core.setValve_lendSince : (c.setValve n v).lendSince = c.lendSince := rfl
end Core_setValve

section Core_setTally
variable (c : Core) (n : Nat) (v : Tally)
@[simp] theorem Core.setTally_c0 : (c.setTally n v).c0 = c.c0 := rfl
@[simp] theorem Core.setTally_c1 : (c.setTally n v).c1 = c.c1 := rfl
@[simp] theorem Core.setTally_brkEn : (c.setTally n v).brkEn = c.brkEn := rfl
@[simp] theorem Core.setTally_ibufEn : (c.setTally n v).ibufEn = c.ibufEn := rfl
@[simp] theorem Core.setTally_perfEn : (c.setTally n v).perfEn = c.perfEn := rfl
@[simp] theorem Core.setTally_haltBoth : (c.setTally n v).haltBoth = c.haltBoth := rfl
@[simp] theorem Core.setTally_lateDrops : (c.setTally n v).lateDrops = c.lateDrops := rfl
@[simp] theorem Core.setTally_cmdRefused : (c.setTally n v).cmdRefused = c.cmdRefused := rfl
@[simp] theorem Core.setTally_cmdBusy : (c.setTally n v).cmdBusy = c.cmdBusy := rfl
@[simp] theorem Core.setTally_treq0 : (c.setTally n v).treq0 = c.treq0 := rfl
@[simp] theorem Core.setTally_treq1 : (c.setTally n v).treq1 = c.treq1 := rfl
@[simp] theorem Core.setTally_slot0 : (c.setTally n v).slot0 = c.slot0 := rfl
@[simp] theorem Core.setTally_acc0 : (c.setTally n v).acc0 = c.acc0 := rfl
@[simp] theorem Core.setTally_brkPc : (c.setTally n v).brkPc = c.brkPc := rfl
@[simp] theorem Core.setTally_perf0 : (c.setTally n v).perf0 = c.perf0 := rfl
@[simp] theorem Core.setTally_perf1 : (c.setTally n v).perf1 = c.perf1 := rfl
@[simp] theorem Core.setTally_ibuf : (c.setTally n v).ibuf = c.ibuf := rfl
@[simp] theorem Core.setTally_queues : (c.setTally n v).queues = c.queues := rfl
@[simp] theorem Core.setTally_runs : (c.setTally n v).runs = c.runs := rfl
@[simp] theorem Core.setTally_lastRan : (c.setTally n v).lastRan = c.lastRan := rfl
@[simp] theorem Core.setTally_tiles : (c.setTally n v).tiles = c.tiles := rfl
@[simp] theorem Core.setTally_valves : (c.setTally n v).valves = c.valves := rfl
@[simp] theorem Core.setTally_syncArg : (c.setTally n v).syncArg = c.syncArg := rfl
@[simp] theorem Core.setTally_slots : (c.setTally n v).slots = c.slots := rfl
@[simp] theorem Core.setTally_lastCtx : (c.setTally n v).lastCtx = c.lastCtx := rfl
@[simp] theorem Core.setTally_lastSlot0 : (c.setTally n v).lastSlot0 = c.lastSlot0 := rfl
@[simp] theorem Core.setTally_lastSlot1 : (c.setTally n v).lastSlot1 = c.lastSlot1 := rfl
@[simp] theorem Core.setTally_lastShared : (c.setTally n v).lastShared = c.lastShared := rfl
@[simp] theorem Core.setTally_orphans : (c.setTally n v).orphans = c.orphans := rfl
@[simp] theorem Core.setTally_lastRot : (c.setTally n v).lastRot = c.lastRot := rfl
@[simp] theorem Core.setTally_fenced : (c.setTally n v).fenced = c.fenced := rfl
@[simp] theorem Core.setTally_lendSince : (c.setTally n v).lendSince = c.lendSince := rfl
end Core_setTally

section Core_setSlot
variable (c : Core) (n : Nat) (v : Slot)
@[simp] theorem Core.setSlot_c0 : (c.setSlot n v).c0 = c.c0 := rfl
@[simp] theorem Core.setSlot_c1 : (c.setSlot n v).c1 = c.c1 := rfl
@[simp] theorem Core.setSlot_brkEn : (c.setSlot n v).brkEn = c.brkEn := rfl
@[simp] theorem Core.setSlot_ibufEn : (c.setSlot n v).ibufEn = c.ibufEn := rfl
@[simp] theorem Core.setSlot_perfEn : (c.setSlot n v).perfEn = c.perfEn := rfl
@[simp] theorem Core.setSlot_haltBoth : (c.setSlot n v).haltBoth = c.haltBoth := rfl
@[simp] theorem Core.setSlot_lateDrops : (c.setSlot n v).lateDrops = c.lateDrops := rfl
@[simp] theorem Core.setSlot_cmdRefused : (c.setSlot n v).cmdRefused = c.cmdRefused := rfl
@[simp] theorem Core.setSlot_cmdBusy : (c.setSlot n v).cmdBusy = c.cmdBusy := rfl
@[simp] theorem Core.setSlot_treq0 : (c.setSlot n v).treq0 = c.treq0 := rfl
@[simp] theorem Core.setSlot_treq1 : (c.setSlot n v).treq1 = c.treq1 := rfl
@[simp] theorem Core.setSlot_slot0 : (c.setSlot n v).slot0 = c.slot0 := rfl
@[simp] theorem Core.setSlot_acc0 : (c.setSlot n v).acc0 = c.acc0 := rfl
@[simp] theorem Core.setSlot_brkPc : (c.setSlot n v).brkPc = c.brkPc := rfl
@[simp] theorem Core.setSlot_perf0 : (c.setSlot n v).perf0 = c.perf0 := rfl
@[simp] theorem Core.setSlot_perf1 : (c.setSlot n v).perf1 = c.perf1 := rfl
@[simp] theorem Core.setSlot_ibuf : (c.setSlot n v).ibuf = c.ibuf := rfl
@[simp] theorem Core.setSlot_queues : (c.setSlot n v).queues = c.queues := rfl
@[simp] theorem Core.setSlot_runs : (c.setSlot n v).runs = c.runs := rfl
@[simp] theorem Core.setSlot_lastRan : (c.setSlot n v).lastRan = c.lastRan := rfl
@[simp] theorem Core.setSlot_tiles : (c.setSlot n v).tiles = c.tiles := rfl
@[simp] theorem Core.setSlot_valves : (c.setSlot n v).valves = c.valves := rfl
@[simp] theorem Core.setSlot_tallies : (c.setSlot n v).tallies = c.tallies := rfl
@[simp] theorem Core.setSlot_syncArg : (c.setSlot n v).syncArg = c.syncArg := rfl
@[simp] theorem Core.setSlot_lastCtx : (c.setSlot n v).lastCtx = c.lastCtx := rfl
@[simp] theorem Core.setSlot_lastSlot0 : (c.setSlot n v).lastSlot0 = c.lastSlot0 := rfl
@[simp] theorem Core.setSlot_lastSlot1 : (c.setSlot n v).lastSlot1 = c.lastSlot1 := rfl
@[simp] theorem Core.setSlot_lastShared : (c.setSlot n v).lastShared = c.lastShared := rfl
@[simp] theorem Core.setSlot_orphans : (c.setSlot n v).orphans = c.orphans := rfl
@[simp] theorem Core.setSlot_lastRot : (c.setSlot n v).lastRot = c.lastRot := rfl
@[simp] theorem Core.setSlot_fenced : (c.setSlot n v).fenced = c.fenced := rfl
@[simp] theorem Core.setSlot_lendSince : (c.setSlot n v).lendSince = c.lendSince := rfl
end Core_setSlot

section Core_setQueue
variable (c : Core) (e x : Nat) (q : List EngOp)
@[simp] theorem Core.setQueue_c0 : (c.setQueue e x q).c0 = c.c0 := rfl
@[simp] theorem Core.setQueue_c1 : (c.setQueue e x q).c1 = c.c1 := rfl
@[simp] theorem Core.setQueue_brkEn : (c.setQueue e x q).brkEn = c.brkEn := rfl
@[simp] theorem Core.setQueue_ibufEn : (c.setQueue e x q).ibufEn = c.ibufEn := rfl
@[simp] theorem Core.setQueue_perfEn : (c.setQueue e x q).perfEn = c.perfEn := rfl
@[simp] theorem Core.setQueue_haltBoth : (c.setQueue e x q).haltBoth = c.haltBoth := rfl
@[simp] theorem Core.setQueue_lateDrops : (c.setQueue e x q).lateDrops = c.lateDrops := rfl
@[simp] theorem Core.setQueue_cmdRefused : (c.setQueue e x q).cmdRefused = c.cmdRefused := rfl
@[simp] theorem Core.setQueue_cmdBusy : (c.setQueue e x q).cmdBusy = c.cmdBusy := rfl
@[simp] theorem Core.setQueue_treq0 : (c.setQueue e x q).treq0 = c.treq0 := rfl
@[simp] theorem Core.setQueue_treq1 : (c.setQueue e x q).treq1 = c.treq1 := rfl
@[simp] theorem Core.setQueue_slot0 : (c.setQueue e x q).slot0 = c.slot0 := rfl
@[simp] theorem Core.setQueue_acc0 : (c.setQueue e x q).acc0 = c.acc0 := rfl
@[simp] theorem Core.setQueue_brkPc : (c.setQueue e x q).brkPc = c.brkPc := rfl
@[simp] theorem Core.setQueue_perf0 : (c.setQueue e x q).perf0 = c.perf0 := rfl
@[simp] theorem Core.setQueue_perf1 : (c.setQueue e x q).perf1 = c.perf1 := rfl
@[simp] theorem Core.setQueue_ibuf : (c.setQueue e x q).ibuf = c.ibuf := rfl
@[simp] theorem Core.setQueue_runs : (c.setQueue e x q).runs = c.runs := rfl
@[simp] theorem Core.setQueue_lastRan : (c.setQueue e x q).lastRan = c.lastRan := rfl
@[simp] theorem Core.setQueue_tiles : (c.setQueue e x q).tiles = c.tiles := rfl
@[simp] theorem Core.setQueue_valves : (c.setQueue e x q).valves = c.valves := rfl
@[simp] theorem Core.setQueue_tallies : (c.setQueue e x q).tallies = c.tallies := rfl
@[simp] theorem Core.setQueue_syncArg : (c.setQueue e x q).syncArg = c.syncArg := rfl
@[simp] theorem Core.setQueue_slots : (c.setQueue e x q).slots = c.slots := rfl
@[simp] theorem Core.setQueue_lastCtx : (c.setQueue e x q).lastCtx = c.lastCtx := rfl
@[simp] theorem Core.setQueue_lastSlot0 : (c.setQueue e x q).lastSlot0 = c.lastSlot0 := rfl
@[simp] theorem Core.setQueue_lastSlot1 : (c.setQueue e x q).lastSlot1 = c.lastSlot1 := rfl
@[simp] theorem Core.setQueue_lastShared : (c.setQueue e x q).lastShared = c.lastShared := rfl
@[simp] theorem Core.setQueue_orphans : (c.setQueue e x q).orphans = c.orphans := rfl
@[simp] theorem Core.setQueue_lastRot : (c.setQueue e x q).lastRot = c.lastRot := rfl
@[simp] theorem Core.setQueue_fenced : (c.setQueue e x q).fenced = c.fenced := rfl
@[simp] theorem Core.setQueue_lendSince : (c.setQueue e x q).lendSince = c.lendSince := rfl
end Core_setQueue

section Core_setRun
variable (c : Core) (e : Nat) (q : List EngRun)
@[simp] theorem Core.setRun_c0 : (c.setRun e q).c0 = c.c0 := rfl
@[simp] theorem Core.setRun_c1 : (c.setRun e q).c1 = c.c1 := rfl
@[simp] theorem Core.setRun_brkEn : (c.setRun e q).brkEn = c.brkEn := rfl
@[simp] theorem Core.setRun_ibufEn : (c.setRun e q).ibufEn = c.ibufEn := rfl
@[simp] theorem Core.setRun_perfEn : (c.setRun e q).perfEn = c.perfEn := rfl
@[simp] theorem Core.setRun_haltBoth : (c.setRun e q).haltBoth = c.haltBoth := rfl
@[simp] theorem Core.setRun_lateDrops : (c.setRun e q).lateDrops = c.lateDrops := rfl
@[simp] theorem Core.setRun_cmdRefused : (c.setRun e q).cmdRefused = c.cmdRefused := rfl
@[simp] theorem Core.setRun_cmdBusy : (c.setRun e q).cmdBusy = c.cmdBusy := rfl
@[simp] theorem Core.setRun_treq0 : (c.setRun e q).treq0 = c.treq0 := rfl
@[simp] theorem Core.setRun_treq1 : (c.setRun e q).treq1 = c.treq1 := rfl
@[simp] theorem Core.setRun_slot0 : (c.setRun e q).slot0 = c.slot0 := rfl
@[simp] theorem Core.setRun_acc0 : (c.setRun e q).acc0 = c.acc0 := rfl
@[simp] theorem Core.setRun_brkPc : (c.setRun e q).brkPc = c.brkPc := rfl
@[simp] theorem Core.setRun_perf0 : (c.setRun e q).perf0 = c.perf0 := rfl
@[simp] theorem Core.setRun_perf1 : (c.setRun e q).perf1 = c.perf1 := rfl
@[simp] theorem Core.setRun_ibuf : (c.setRun e q).ibuf = c.ibuf := rfl
@[simp] theorem Core.setRun_queues : (c.setRun e q).queues = c.queues := rfl
@[simp] theorem Core.setRun_lastRan : (c.setRun e q).lastRan = c.lastRan := rfl
@[simp] theorem Core.setRun_tiles : (c.setRun e q).tiles = c.tiles := rfl
@[simp] theorem Core.setRun_valves : (c.setRun e q).valves = c.valves := rfl
@[simp] theorem Core.setRun_tallies : (c.setRun e q).tallies = c.tallies := rfl
@[simp] theorem Core.setRun_syncArg : (c.setRun e q).syncArg = c.syncArg := rfl
@[simp] theorem Core.setRun_slots : (c.setRun e q).slots = c.slots := rfl
@[simp] theorem Core.setRun_lastCtx : (c.setRun e q).lastCtx = c.lastCtx := rfl
@[simp] theorem Core.setRun_lastSlot0 : (c.setRun e q).lastSlot0 = c.lastSlot0 := rfl
@[simp] theorem Core.setRun_lastSlot1 : (c.setRun e q).lastSlot1 = c.lastSlot1 := rfl
@[simp] theorem Core.setRun_lastShared : (c.setRun e q).lastShared = c.lastShared := rfl
@[simp] theorem Core.setRun_orphans : (c.setRun e q).orphans = c.orphans := rfl
@[simp] theorem Core.setRun_lastRot : (c.setRun e q).lastRot = c.lastRot := rfl
@[simp] theorem Core.setRun_fenced : (c.setRun e q).fenced = c.fenced := rfl
@[simp] theorem Core.setRun_lendSince : (c.setRun e q).lendSince = c.lendSince := rfl
end Core_setRun

section Ctx_setV
variable (c : Ctx) (r : Nat) (v : VReg)
@[simp] theorem Ctx.setV_st : (c.setV r v).st = c.st := rfl
@[simp] theorem Ctx.setV_stepping : (c.setV r v).stepping = c.stepping := rfl
@[simp] theorem Ctx.setV_pc : (c.setV r v).pc = c.pc := rfl
@[simp] theorem Ctx.setV_hen : (c.setV r v).hen = c.hen := rfl
@[simp] theorem Ctx.setV_handler : (c.setV r v).handler = c.handler := rfl
@[simp] theorem Ctx.setV_inh : (c.setV r v).inh = c.inh := rfl
@[simp] theorem Ctx.setV_handled : (c.setV r v).handled = c.handled := rfl
@[simp] theorem Ctx.setV_discarded : (c.setV r v).discarded = c.discarded := rfl
@[simp] theorem Ctx.setV_excCause : (c.setV r v).excCause = c.excCause := rfl
@[simp] theorem Ctx.setV_excUnit : (c.setV r v).excUnit = c.excUnit := rfl
@[simp] theorem Ctx.setV_excSlot : (c.setV r v).excSlot = c.excSlot := rfl
@[simp] theorem Ctx.setV_excPc : (c.setV r v).excPc = c.excPc := rfl
@[simp] theorem Ctx.setV_excAddr : (c.setV r v).excAddr = c.excAddr := rfl
@[simp] theorem Ctx.setV_excLoc : (c.setV r v).excLoc = c.excLoc := rfl
@[simp] theorem Ctx.setV_g : (c.setV r v).g = c.g := rfl
@[simp] theorem Ctx.setV_p : (c.setV r v).p = c.p := rfl
@[simp] theorem Ctx.setV_flags : (c.setV r v).flags = c.flags := rfl
@[simp] theorem Ctx.setV_wait : (c.setV r v).wait = c.wait := rfl
@[simp] theorem Ctx.setV_waitBlk : (c.setV r v).waitBlk = c.waitBlk := rfl
@[simp] theorem Ctx.setV_vecPend : (c.setV r v).vecPend = c.vecPend := rfl
@[simp] theorem Ctx.setV_remErr : (c.setV r v).remErr = c.remErr := rfl
@[simp] theorem Ctx.setV_latch : (c.setV r v).latch = c.latch := rfl
@[simp] theorem Ctx.setV_startId : (c.setV r v).startId = c.startId := rfl
@[simp] theorem Ctx.setV_failedTo : (c.setV r v).failedTo = c.failedTo := rfl
@[simp] theorem Ctx.setV_swait : (c.setV r v).swait = c.swait := rfl
@[simp] theorem Ctx.setV_stopReport : (c.setV r v).stopReport = c.stopReport := rfl
end Ctx_setV

section Ctx_setG
variable (c : Ctx) (r : Nat) (v : GReg)
@[simp] theorem Ctx.setG_st : (c.setG r v).st = c.st := by unfold Ctx.setG; split <;> rfl
@[simp] theorem Ctx.setG_stepping : (c.setG r v).stepping = c.stepping := by unfold Ctx.setG; split <;> rfl
@[simp] theorem Ctx.setG_pc : (c.setG r v).pc = c.pc := by unfold Ctx.setG; split <;> rfl
@[simp] theorem Ctx.setG_hen : (c.setG r v).hen = c.hen := by unfold Ctx.setG; split <;> rfl
@[simp] theorem Ctx.setG_handler : (c.setG r v).handler = c.handler := by unfold Ctx.setG; split <;> rfl
@[simp] theorem Ctx.setG_inh : (c.setG r v).inh = c.inh := by unfold Ctx.setG; split <;> rfl
@[simp] theorem Ctx.setG_handled : (c.setG r v).handled = c.handled := by unfold Ctx.setG; split <;> rfl
@[simp] theorem Ctx.setG_discarded : (c.setG r v).discarded = c.discarded := by unfold Ctx.setG; split <;> rfl
@[simp] theorem Ctx.setG_excCause : (c.setG r v).excCause = c.excCause := by unfold Ctx.setG; split <;> rfl
@[simp] theorem Ctx.setG_excUnit : (c.setG r v).excUnit = c.excUnit := by unfold Ctx.setG; split <;> rfl
@[simp] theorem Ctx.setG_excSlot : (c.setG r v).excSlot = c.excSlot := by unfold Ctx.setG; split <;> rfl
@[simp] theorem Ctx.setG_excPc : (c.setG r v).excPc = c.excPc := by unfold Ctx.setG; split <;> rfl
@[simp] theorem Ctx.setG_excAddr : (c.setG r v).excAddr = c.excAddr := by unfold Ctx.setG; split <;> rfl
@[simp] theorem Ctx.setG_excLoc : (c.setG r v).excLoc = c.excLoc := by unfold Ctx.setG; split <;> rfl
@[simp] theorem Ctx.setG_p : (c.setG r v).p = c.p := by unfold Ctx.setG; split <;> rfl
@[simp] theorem Ctx.setG_v : (c.setG r v).v = c.v := by unfold Ctx.setG; split <;> rfl
@[simp] theorem Ctx.setG_flags : (c.setG r v).flags = c.flags := by unfold Ctx.setG; split <;> rfl
@[simp] theorem Ctx.setG_wait : (c.setG r v).wait = c.wait := by unfold Ctx.setG; split <;> rfl
@[simp] theorem Ctx.setG_waitBlk : (c.setG r v).waitBlk = c.waitBlk := by unfold Ctx.setG; split <;> rfl
@[simp] theorem Ctx.setG_vecPend : (c.setG r v).vecPend = c.vecPend := by unfold Ctx.setG; split <;> rfl
@[simp] theorem Ctx.setG_remErr : (c.setG r v).remErr = c.remErr := by unfold Ctx.setG; split <;> rfl
@[simp] theorem Ctx.setG_latch : (c.setG r v).latch = c.latch := by unfold Ctx.setG; split <;> rfl
@[simp] theorem Ctx.setG_startId : (c.setG r v).startId = c.startId := by unfold Ctx.setG; split <;> rfl
@[simp] theorem Ctx.setG_failedTo : (c.setG r v).failedTo = c.failedTo := by unfold Ctx.setG; split <;> rfl
@[simp] theorem Ctx.setG_swait : (c.setG r v).swait = c.swait := by unfold Ctx.setG; split <;> rfl
@[simp] theorem Ctx.setG_stopReport : (c.setG r v).stopReport = c.stopReport := by unfold Ctx.setG; split <;> rfl
end Ctx_setG

section Ctx_setP
variable (c : Ctx) (r : Nat) (v : Word)
@[simp] theorem Ctx.setP_st : (c.setP r v).st = c.st := by unfold Ctx.setP; split <;> rfl
@[simp] theorem Ctx.setP_stepping : (c.setP r v).stepping = c.stepping := by unfold Ctx.setP; split <;> rfl
@[simp] theorem Ctx.setP_pc : (c.setP r v).pc = c.pc := by unfold Ctx.setP; split <;> rfl
@[simp] theorem Ctx.setP_hen : (c.setP r v).hen = c.hen := by unfold Ctx.setP; split <;> rfl
@[simp] theorem Ctx.setP_handler : (c.setP r v).handler = c.handler := by unfold Ctx.setP; split <;> rfl
@[simp] theorem Ctx.setP_inh : (c.setP r v).inh = c.inh := by unfold Ctx.setP; split <;> rfl
@[simp] theorem Ctx.setP_handled : (c.setP r v).handled = c.handled := by unfold Ctx.setP; split <;> rfl
@[simp] theorem Ctx.setP_discarded : (c.setP r v).discarded = c.discarded := by unfold Ctx.setP; split <;> rfl
@[simp] theorem Ctx.setP_excCause : (c.setP r v).excCause = c.excCause := by unfold Ctx.setP; split <;> rfl
@[simp] theorem Ctx.setP_excUnit : (c.setP r v).excUnit = c.excUnit := by unfold Ctx.setP; split <;> rfl
@[simp] theorem Ctx.setP_excSlot : (c.setP r v).excSlot = c.excSlot := by unfold Ctx.setP; split <;> rfl
@[simp] theorem Ctx.setP_excPc : (c.setP r v).excPc = c.excPc := by unfold Ctx.setP; split <;> rfl
@[simp] theorem Ctx.setP_excAddr : (c.setP r v).excAddr = c.excAddr := by unfold Ctx.setP; split <;> rfl
@[simp] theorem Ctx.setP_excLoc : (c.setP r v).excLoc = c.excLoc := by unfold Ctx.setP; split <;> rfl
@[simp] theorem Ctx.setP_g : (c.setP r v).g = c.g := by unfold Ctx.setP; split <;> rfl
@[simp] theorem Ctx.setP_v : (c.setP r v).v = c.v := by unfold Ctx.setP; split <;> rfl
@[simp] theorem Ctx.setP_flags : (c.setP r v).flags = c.flags := by unfold Ctx.setP; split <;> rfl
@[simp] theorem Ctx.setP_wait : (c.setP r v).wait = c.wait := by unfold Ctx.setP; split <;> rfl
@[simp] theorem Ctx.setP_waitBlk : (c.setP r v).waitBlk = c.waitBlk := by unfold Ctx.setP; split <;> rfl
@[simp] theorem Ctx.setP_vecPend : (c.setP r v).vecPend = c.vecPend := by unfold Ctx.setP; split <;> rfl
@[simp] theorem Ctx.setP_remErr : (c.setP r v).remErr = c.remErr := by unfold Ctx.setP; split <;> rfl
@[simp] theorem Ctx.setP_latch : (c.setP r v).latch = c.latch := by unfold Ctx.setP; split <;> rfl
@[simp] theorem Ctx.setP_startId : (c.setP r v).startId = c.startId := by unfold Ctx.setP; split <;> rfl
@[simp] theorem Ctx.setP_failedTo : (c.setP r v).failedTo = c.failedTo := by unfold Ctx.setP; split <;> rfl
@[simp] theorem Ctx.setP_swait : (c.setP r v).swait = c.swait := by unfold Ctx.setP; split <;> rfl
@[simp] theorem Ctx.setP_stopReport : (c.setP r v).stopReport = c.stopReport := by unfold Ctx.setP; split <;> rfl
end Ctx_setP

section Core_setCtx
variable (c : Core) (x : Nat) (v : Ctx)
@[simp] theorem Core.setCtx_brkEn : (c.setCtx x v).brkEn = c.brkEn := by unfold Core.setCtx; split <;> rfl
@[simp] theorem Core.setCtx_ibufEn : (c.setCtx x v).ibufEn = c.ibufEn := by unfold Core.setCtx; split <;> rfl
@[simp] theorem Core.setCtx_perfEn : (c.setCtx x v).perfEn = c.perfEn := by unfold Core.setCtx; split <;> rfl
@[simp] theorem Core.setCtx_haltBoth : (c.setCtx x v).haltBoth = c.haltBoth := by unfold Core.setCtx; split <;> rfl
@[simp] theorem Core.setCtx_lateDrops : (c.setCtx x v).lateDrops = c.lateDrops := by unfold Core.setCtx; split <;> rfl
@[simp] theorem Core.setCtx_cmdRefused : (c.setCtx x v).cmdRefused = c.cmdRefused := by unfold Core.setCtx; split <;> rfl
@[simp] theorem Core.setCtx_cmdBusy : (c.setCtx x v).cmdBusy = c.cmdBusy := by unfold Core.setCtx; split <;> rfl
@[simp] theorem Core.setCtx_treq0 : (c.setCtx x v).treq0 = c.treq0 := by unfold Core.setCtx; split <;> rfl
@[simp] theorem Core.setCtx_treq1 : (c.setCtx x v).treq1 = c.treq1 := by unfold Core.setCtx; split <;> rfl
@[simp] theorem Core.setCtx_slot0 : (c.setCtx x v).slot0 = c.slot0 := by unfold Core.setCtx; split <;> rfl
@[simp] theorem Core.setCtx_acc0 : (c.setCtx x v).acc0 = c.acc0 := by unfold Core.setCtx; split <;> rfl
@[simp] theorem Core.setCtx_brkPc : (c.setCtx x v).brkPc = c.brkPc := by unfold Core.setCtx; split <;> rfl
@[simp] theorem Core.setCtx_perf0 : (c.setCtx x v).perf0 = c.perf0 := by unfold Core.setCtx; split <;> rfl
@[simp] theorem Core.setCtx_perf1 : (c.setCtx x v).perf1 = c.perf1 := by unfold Core.setCtx; split <;> rfl
@[simp] theorem Core.setCtx_ibuf : (c.setCtx x v).ibuf = c.ibuf := by unfold Core.setCtx; split <;> rfl
@[simp] theorem Core.setCtx_queues : (c.setCtx x v).queues = c.queues := by unfold Core.setCtx; split <;> rfl
@[simp] theorem Core.setCtx_runs : (c.setCtx x v).runs = c.runs := by unfold Core.setCtx; split <;> rfl
@[simp] theorem Core.setCtx_lastRan : (c.setCtx x v).lastRan = c.lastRan := by unfold Core.setCtx; split <;> rfl
@[simp] theorem Core.setCtx_tiles : (c.setCtx x v).tiles = c.tiles := by unfold Core.setCtx; split <;> rfl
@[simp] theorem Core.setCtx_valves : (c.setCtx x v).valves = c.valves := by unfold Core.setCtx; split <;> rfl
@[simp] theorem Core.setCtx_tallies : (c.setCtx x v).tallies = c.tallies := by unfold Core.setCtx; split <;> rfl
@[simp] theorem Core.setCtx_syncArg : (c.setCtx x v).syncArg = c.syncArg := by unfold Core.setCtx; split <;> rfl
@[simp] theorem Core.setCtx_slots : (c.setCtx x v).slots = c.slots := by unfold Core.setCtx; split <;> rfl
@[simp] theorem Core.setCtx_lastCtx : (c.setCtx x v).lastCtx = c.lastCtx := by unfold Core.setCtx; split <;> rfl
@[simp] theorem Core.setCtx_lastSlot0 : (c.setCtx x v).lastSlot0 = c.lastSlot0 := by unfold Core.setCtx; split <;> rfl
@[simp] theorem Core.setCtx_lastSlot1 : (c.setCtx x v).lastSlot1 = c.lastSlot1 := by unfold Core.setCtx; split <;> rfl
@[simp] theorem Core.setCtx_lastShared : (c.setCtx x v).lastShared = c.lastShared := by unfold Core.setCtx; split <;> rfl
@[simp] theorem Core.setCtx_orphans : (c.setCtx x v).orphans = c.orphans := by unfold Core.setCtx; split <;> rfl
@[simp] theorem Core.setCtx_lastRot : (c.setCtx x v).lastRot = c.lastRot := by unfold Core.setCtx; split <;> rfl
@[simp] theorem Core.setCtx_fenced : (c.setCtx x v).fenced = c.fenced := by unfold Core.setCtx; split <;> rfl
@[simp] theorem Core.setCtx_lendSince : (c.setCtx x v).lendSince = c.lendSince := by unfold Core.setCtx; split <;> rfl
end Core_setCtx

/-! ### Objects -/

@[simp] theorem State.obj_setObj (s : State) (o : Obj) (v i j : Nat) : (s.setObj o v i j).obj o i j = v := by
  simp [State.obj, State.setObj]

theorem State.obj_setObj_other (s : State) (o o' : Obj) (v i j i' j' : Nat) (h : o'.key i' j' ≠ o.key i j) :
    (s.setObj o v i j).obj o' i' j' = s.obj o' i' j' := by
  simp only [State.obj, State.setObj]
  rw [aget_of_other (objDflt o i j)]
  exact h
where
  aget_of_other {α : Type} [DecidableEq α] (d : α) {d' : α} {m : List (Nat × α)} {k k' : Nat} {v : α} (h : k' ≠ k) :
      aget d' (aset d m k v) k' = aget d' m k' := by
    have hdel : ∀ l : List (Nat × α), aget d' (adel l k) k' = aget d' l k' := by
      intro l
      have := aget_adel d' k k' l
      simpa [h] using this
    by_cases hv : v = d
    · simp only [aset, hv, if_true]; exact hdel m
    · simp only [aset, hv, if_false]
      have : ∀ l : List (Nat × α), aget d' (ains k v l) k' = aget d' l k' := by
        intro l
        induction l with
        | nil => simp [ains, aget, Ne.symm h]
        | cons e r ih =>
          obtain ⟨j, u⟩ := e
          by_cases h1 : k < j
          · simp [ains, aget, h1, Ne.symm h]
          · simp [ains, aget, h1, ih]
      rw [this, hdel]

@[simp] theorem State.obj_setCore (s : State) (k : Nat) (c : Core) (o : Obj) (i j : Nat) :
    (s.setCore k c).obj o i j = s.obj o i j := rfl

@[simp] theorem State.core_setObj (s : State) (o : Obj) (v i j k : Nat) : (s.setObj o v i j).core k = s.core k := rfl

@[simp] theorem State.ctx_setObj (s : State) (o : Obj) (v i j k x : Nat) : (s.setObj o v i j).ctx k x = s.ctx k x := rfl

/-! ### Cores, contexts, registers -/

theorem State.core_setCore (s : State) (k j : Nat) (c : Core) : (s.setCore k c).core j = if j = k then c else s.core j := by
  simp [State.core, State.setCore, aget_aset]

@[simp] theorem State.core_setCore_same (s : State) (k : Nat) (c : Core) : (s.setCore k c).core k = c := by
  simp [State.core_setCore]

theorem State.core_updCore (s : State) (k j : Nat) (f : Core → Core) :
    (s.updCore k f).core j = if j = k then f (s.core k) else s.core j := State.core_setCore ..

@[simp] theorem State.core_updCore_same (s : State) (k : Nat) (f : Core → Core) : (s.updCore k f).core k = f (s.core k) := by
  simp [State.core_updCore]

theorem Core.ctx_setCtx (c : Core) (x y : Nat) (v : Ctx) :
    (c.setCtx x v).ctx y = if (x = 0 ↔ y = 0) then v else c.ctx y := by
  unfold Core.setCtx Core.ctx
  by_cases hx : x = 0 <;> by_cases hy : y = 0 <;> simp [hx, hy]

@[simp] theorem Core.ctx_setCtx_same (c : Core) (x : Nat) (v : Ctx) : (c.setCtx x v).ctx x = v := by
  simp [Core.ctx_setCtx]

@[simp] theorem State.ctx_updCtx_same (s : State) (k x : Nat) (f : Ctx → Ctx) :
    (s.updCtx k x f).ctx k x = f (s.ctx k x) := by
  simp [State.updCtx, State.setCtx, State.ctx]

theorem State.core_updCtx_other (s : State) {k j : Nat} (x : Nat) (f : Ctx → Ctx) (h : j ≠ k) :
    (s.updCtx k x f).core j = s.core j := by
  simp [State.updCtx, State.setCtx, State.core_setCore, h]

theorem Ctx.greg_setG (c : Ctx) (r i : Nat) (v : GReg) :
    (c.setG r v).greg i = if r ≠ 0 ∧ i = r then v else c.greg i := by
  unfold Ctx.setG Ctx.greg
  by_cases hr : r = 0
  · simp [hr]
  · by_cases hi : i = 0
    · subst hi; simp [hr, Ne.symm hr]
    · simp [hr, hi, aget_aset]

theorem Ctx.preg_setP (c : Ctx) (r i : Nat) (v : Word) :
    (c.setP r v).preg i = if r ≠ 0 ∧ i = r then v else c.preg i := by
  unfold Ctx.setP Ctx.preg
  by_cases hr : r = 0
  · simp [hr]
  · by_cases hi : i = 0
    · subst hi; simp [hr, Ne.symm hr]
    · simp [hr, hi, aget_aset]

theorem Ctx.vreg_setV (c : Ctx) (r i : Nat) (v : VReg) : (c.setV r v).vreg i = if i = r then v else c.vreg i := by
  simp [Ctx.setV, Ctx.vreg, aget_aset]

theorem Core.tile_setTile (c : Core) (n i : Nat) (v : Tile) : (c.setTile n v).tile i = if i = n then v else c.tile i := by
  simp [Core.setTile, Core.tile, aget_aset]

theorem Core.valve_setValve (c : Core) (n i : Nat) (v : Valve) :
    (c.setValve n v).valve i = if i = n then v else c.valve i := by
  simp [Core.setValve, Core.valve, aget_aset]

theorem Core.tally_setTally (c : Core) (n i : Nat) (v : Tally) :
    (c.setTally n v).tally i = if i = n then v else c.tally i := by
  simp [Core.setTally, Core.tally, aget_aset]

theorem Core.slot_setSlot (c : Core) (n i : Nat) (v : Slot) :
    (c.setSlot n v).slot i = if i = n then v else c.slot i := by
  simp [Core.setSlot, Core.slot, aget_aset]

theorem State.hostValve_setHostValve (s : State) (h i : Nat) (v : HostValve) :
    (s.setHostValve h v).hostValve i = if i = h then v else s.hostValve i := by
  simp [State.setHostValve, State.hostValve, aget_aset]

theorem State.page_setPage (s : State) (h i : Nat) (p : Page) : (s.setPage h p).page i = if i = h then p else s.page i := by
  simp [State.setPage, State.page, aget_aset]

theorem State.port_setPort (s : State) (n i : Nat) (p : Port) : (s.setPort n p).port i = if i = n then p else s.port i := by
  simp [State.setPort, State.port, aget_aset]

theorem State.link_setLink (s : State) (l i : Nat) (p : PcieLink) : (s.setLink l p).link i = if i = l then p else s.link i := by
  simp [State.setLink, State.link, aget_aset]

end Sys2Proof.Machine
end

