-- ==== Sys2Proof/Laws/Issue.lean ====
section
/-! SUPPORT. What fetching and issuing an instruction do, said once: an instruction that is ready, legal and free of hazards
answers what its body leaves, and the bookkeeping of an issue touches nothing a program reads. -/

namespace Sys2Proof.Machine

/-! ### The bookkeeping of a core -/

/-- `b` is `a` but for the instruction buffer, the issue counts and CMD_BUSY. -/
def Bookkept (a b : Core) : Prop := b = { a with ibuf := b.ibuf, perf0 := b.perf0, perf1 := b.perf1, cmdBusy := b.cmdBusy }

theorem Bookkept.refl (a : Core) : Bookkept a a := rfl

theorem Bookkept.trans {a b c : Core} (h : Bookkept a b) (g : Bookkept b c) : Bookkept a c := by
  unfold Bookkept at *
  rw [g, h]

theorem Bookkept.ctx {a b : Core} (h : Bookkept a b) (x : Nat) : b.ctx x = a.ctx x := by
  rw [h]; rfl

theorem Core.setCtx_setCtx (c : Core) (x : Nat) (u v : Ctx) : (c.setCtx x u).setCtx x v = c.setCtx x v := by
  unfold Core.setCtx
  by_cases h : x = 0 <;> simp [h]

theorem Core.setCtx_ctx (c : Core) (x : Nat) : c.setCtx x (c.ctx x) = c := by
  unfold Core.setCtx Core.ctx
  by_cases h : x = 0 <;> simp [h]

/-- The state's cores but `k` are as before, and `k` is bookkept with context `x` replaced. -/
structure OneCtx (s t : State) (k x : Nat) : Prop where
  core : ∃ b, Bookkept (s.core k) b ∧ t.core k = b.setCtx x (t.ctx k x)
  cores : ∀ j, j ≠ k → t.core j = s.core j

theorem OneCtx.refl (s : State) (k x : Nat) : OneCtx s s k x :=
  ⟨⟨s.core k, Bookkept.refl _, (Core.setCtx_ctx ..).symm⟩, fun _ _ => rfl⟩

theorem OneCtx.trans {s t u : State} {k x : Nat} (h : OneCtx s t k x) (g : OneCtx t u k x) : OneCtx s u k x := by
  obtain ⟨b, hb, eb⟩ := h.core
  obtain ⟨c, hc, ec⟩ := g.core
  refine ⟨⟨{ b with ibuf := c.ibuf, perf0 := c.perf0, perf1 := c.perf1, cmdBusy := c.cmdBusy }, ?_, ?_⟩, ?_⟩
  · exact hb.trans rfl
  · rw [ec]
    have : c = { t.core k with ibuf := c.ibuf, perf0 := c.perf0, perf1 := c.perf1, cmdBusy := c.cmdBusy } := hc
    rw [this, eb]
    unfold Core.setCtx
    by_cases h : x = 0 <;> simp [h]
  · intro j hj
    rw [g.cores j hj, h.cores j hj]

theorem updCtx_one (s : State) (k x : Nat) (f : Ctx → Ctx) : OneCtx s (s.updCtx k x f) k x := by
  refine ⟨⟨s.core k, Bookkept.refl _, ?_⟩, fun j hj => State.core_updCtx_other s x f hj⟩
  simp [State.updCtx, State.setCtx, State.ctx]

theorem updCore_one (s : State) (k x : Nat) (f : Core → Core) (h : Bookkept (s.core k) (f (s.core k))) :
    OneCtx s (s.updCore k f) k x := by
  refine ⟨⟨f (s.core k), h, ?_⟩, fun j hj => by simp [State.core_updCore, hj]⟩
  simp [State.ctx, Core.setCtx_ctx]

/-! ### What lies outside the cores -/

/-- Outside the cores, `t` is `s` with the bytes of memory as they were. -/
def Outside (s t : State) : Prop :=
  t = { s with cores := t.cores, objs := t.objs, chb := t.chb, hst := t.hst, hlth := t.hlth, cells := t.cells, fab := t.fab }

theorem Outside.refl (s : State) : Outside s s := rfl

theorem Outside.trans {s t u : State} (h : Outside s t) (g : Outside t u) : Outside s u := by
  unfold Outside at *
  rw [g, h]

theorem setCore_outside (s : State) (k : Nat) (c : Core) : Outside s (s.setCore k c) := rfl

theorem updCtx_outside (s : State) (k x : Nat) (f : Ctx → Ctx) : Outside s (s.updCtx k x f) := setCore_outside ..

/-! ### Fetching -/

/-- What a fetch that reads clean leaves: it changes the instruction buffer, counts and reports errors, and corrects cells;
where no error stands in them, it leaves memory as it was. -/
structure Fetched (s t : State) (k x : Nat) : Prop where
  outside : t = { s with cores := t.cores, mem := t.mem, objs := t.objs, chb := t.chb, hst := t.hst, hlth := t.hlth,
                         cells := t.cells, fab := t.fab }
  still : s.cells = [] → t.mem = s.mem
  one : OneCtx s t k x
  ctx : ∀ j y, t.ctx j y = s.ctx j y

/-- What a read of memory leaves outside the cores. -/
theorem TouchOnly.outside {s t : State} (h : TouchOnly s t) (c : Clean s t) : t = { s with
    cores := t.cores, mem := t.mem, objs := t.objs, chb := t.chb, hst := t.hst, hlth := t.hlth, cells := t.cells, fab := t.fab } := by
  unfold TouchOnly at h
  rw [c.1] at h
  rw [h]

theorem updIbuf_fetched {s t : State} (k x : Nat) (f : Core → Core) (hf : ∀ d, f d = { d with ibuf := (f d).ibuf })
    (ht : TouchOnly s t) (hc : Clean s t) : Fetched s (t.updCore k f) k x := by
  refine ⟨?_, fun e => (hc.2 e).1, ?_, ?_⟩
  · have h := ht.outside hc
    unfold State.updCore State.setCore
    rw [h]
  · refine ⟨⟨f (s.core k), ?_, ?_⟩, fun j hj => by simp [State.core_updCore, hj, ht.core]⟩
    · unfold Bookkept; rw [hf]
    · simp [State.ctx, ht.core, Core.setCtx_ctx]
  · intro j y
    unfold State.ctx
    rw [State.core_updCore]
    split
    · rename_i hj; subst hj; rw [ht.core, hf]; rfl
    · rw [ht.core]

theorem fetchLine_spec (s : State) (k x line : Nat) (h : (s.fetchLine k line).2 = none) :
    Fetched s (s.fetchLine k line).1 k x := by
  unfold State.fetchLine at h ⊢
  cases hf : (s.core k).ibuf.find? (fun m => m.line == line) with
  | some e =>
    simp only [hf] at h ⊢
    exact updIbuf_fetched k x _ (fun _ => rfl) (TouchOnly.refl s) (Clean.refl s)
  | none =>
    simp only [hf] at h ⊢
    obtain ⟨h1, h2⟩ := touch_spec s (sramMla k (line * 64)) 64
    exact updIbuf_fetched k x _ (fun _ => rfl) h1 (h2 h)

/-- A clean read of memory leaves the cores alone. -/
theorem touch_fetched (s : State) (k x a n : Nat) (h : firstPoison (s.touch a n).2 = none) :
    Fetched s (s.touch a n).1 k x := by
  obtain ⟨h1, h2⟩ := touch_spec s a n
  have h3 := h2 h
  generalize (s.touch a n).1 = t at h1 h3 ⊢
  refine ⟨h1.outside h3, fun e => (h3.2 e).1, ⟨⟨s.core k, Bookkept.refl _, ?_⟩, fun j _ => h1.core j⟩, fun j y => h1.ctx j y⟩
  rw [h1.ctx, h1.core]
  exact (Core.setCtx_ctx ..).symm

theorem touchPair_fetched {s : State} {k x a n : Nat} {r : State × Option Word}
    (e : r = ((s.touch a n).1, firstPoison (s.touch a n).2)) (h : r.2 = none) : Fetched s r.1 k x := by
  subst e
  exact touch_fetched s k x a n h

/-- The parts of a direct fetch. -/
theorem fetchDirect_eq (s : State) (k off : Nat) : s.fetchDirect k off =
    ((s.touch (sramMla k off) 8).1, firstPoison (s.touch (sramMla k off) 8).2) := rfl

theorem fetchDirect_spec (s : State) (k x off : Nat) (h : (s.fetchDirect k off).2 = none) :
    Fetched s (s.fetchDirect k off).1 k x :=
  touchPair_fetched (fetchDirect_eq s k off) h

theorem fetch_spec (s : State) (k x : Nat) (h : (s.fetch k x).2 = none) : Fetched s (s.fetch k x).1 k x := by
  unfold State.fetch at h ⊢
  generalize (s.ctx k x).pc.toNat * 8 = off at h ⊢
  cases hen : (s.core k).ibufEn with
  | true => simp only [hen, if_true] at h ⊢; exact fetchLine_spec s k x _ h
  | false => simp only [hen, Bool.false_eq_true, if_false] at h ⊢; exact fetchDirect_spec s k x _ h

/-! ### Issuing -/

/-- An instruction that is ready, legal and free of hazards answers what its body leaves. -/
theorem issue_body {v : Bool} {s : State} {c : CtxId} {w : Low56} {legal hazard : State → Bool} {body : State → Body}
    (h : Ready v s c w) (hl : legal (s.fetched c) = true) (hz : hazard (s.fetched c) = false) :
    issue c w v legal hazard body s = .next ((body (s.fetched c)).land (s.fetched c) c.key c.ctx.val (s.cx c).pc) := by
  have h1 := h.running
  have h2 := h.ungated
  have h7 := h.sane
  have h3 := h.noBreak
  have h4 := h.clean
  have h5 := h.predicate
  have h6 : (!v && !((s.cx c).mask w).getLsbD 0) = false := by
    rcases h.enabled with e | e <;> simp [e]
  unfold issue
  unfold State.cx State.ctx at *
  unfold State.fetched at *
  simp only [h1, h2, h3, h4, h5, h6, h7, hl, hz]
  simp

/-- The same where no hazard can arise. -/
theorem Free.nil (s : State) (c : CtxId) : Free s c [] := by
  unfold Free State.hazardOn
  rfl

theorem countIssue_one (s : State) (k x : Nat) : OneCtx s (s.countIssue k x) k x := by
  unfold State.countIssue
  apply updCore_one
  unfold Core.stepIssued
  dsimp only
  repeat' split
  all_goals rfl

theorem countIssue_ctx (s : State) (k x j y : Nat) : (s.countIssue k x).ctx j y = s.ctx j y := by
  unfold State.countIssue State.ctx
  rw [State.core_updCore]
  split
  · rename_i hj; subst hj
    unfold Core.stepIssued
    dsimp only
    repeat' split
    all_goals rfl
  · rfl

theorem settleStep_one (s : State) (k x : Nat) : OneCtx s (s.settleStep k x) k x := by
  unfold State.settleStep
  split
  · exact updCtx_one ..
  · exact OneCtx.refl ..

theorem settleStep_outside (s : State) (k x : Nat) : Outside s (s.settleStep k x) := by
  unfold State.settleStep
  split
  · exact updCtx_outside ..
  · exact Outside.refl _

theorem settleStep_ctx (s : State) (k x : Nat) :
    (s.settleStep k x).ctx k x = { s.ctx k x with
      st := ((s.settleStep k x).ctx k x).st, stepping := ((s.settleStep k x).ctx k x).stepping } ∧
    ((s.ctx k x).stepping = .off → (s.settleStep k x).ctx k x = s.ctx k x) := by
  unfold State.settleStep
  split
  · rename_i h
    constructor
    · simp
    · intro ho; rw [ho] at h; exact absurd h.1 (by decide)
  · exact ⟨rfl, fun _ => rfl⟩

/-- The whole end of an issue: counts, the pc, the end of a Step. -/
theorem retired_spec (s : State) (k x : Nat) (pc : Pc) :
    OneCtx s ((s.countIssue k x).finish k x pc) k x ∧ Outside s ((s.countIssue k x).finish k x pc) ∧
    ((s.countIssue k x).finish k x pc).ctx k x = { s.ctx k x with
      pc := pc, st := (((s.countIssue k x).finish k x pc).ctx k x).st,
      stepping := (((s.countIssue k x).finish k x pc).ctx k x).stepping } ∧
    ((s.ctx k x).stepping = .off → (((s.countIssue k x).finish k x pc).ctx k x).st = (s.ctx k x).st ∧
      (((s.countIssue k x).finish k x pc).ctx k x).stepping = .off) := by
  unfold State.finish
  extract_lets u
  have hu : u.ctx k x = { s.ctx k x with pc := pc, stepping := if (s.ctx k x).stepping = .off then .off else .issued } := by
    simp [u, countIssue_ctx]
  have hou : OneCtx s u k x := (countIssue_one s k x).trans (updCtx_one ..)
  have hout : Outside s u := (setCore_outside ..).trans (updCtx_outside ..)
  obtain ⟨e1, e2⟩ := settleStep_ctx u k x
  refine ⟨hou.trans (settleStep_one ..), hout.trans (settleStep_outside ..), ?_, ?_⟩
  · rw [e1, hu]
  · intro ho
    have h3 : (u.ctx k x).stepping = .off := by rw [hu]; simp [ho]
    rw [e2 h3, hu]
    simp [ho]

/-- The end of an issue whose effect on the fetched state, `u`, is bookkeeping and the context's new value alone. -/
theorem leaves_of {s u : State} {c : CtxId} {cx : Ctx} (pc : Pc) (h : (s.fetch c.key c.ctx.val).2 = none)
    (ho : OneCtx (s.fetched c) u c.key c.ctx.val) (hu : Outside (s.fetched c) u)
    (hc : u.ctx c.key c.ctx.val = cx) (hsp : cx.stepping = (s.cx c).stepping) :
    Leaves s ((u.countIssue c.key c.ctx.val).finish c.key c.ctx.val pc) c { cx with pc := pc } := by
  have ⟨f1, f2, f3, _⟩ := fetch_spec s c.key c.ctx.val h
  obtain ⟨r1, r2, r3, r4⟩ := retired_spec u c.key c.ctx.val pc
  have hone := (f3.trans ho).trans r1
  have hout := hu.trans r2
  rw [hc] at r3 r4
  have hmem : ((u.countIssue c.key c.ctx.val).finish c.key c.ctx.val pc).mem = (s.fetched c).mem := by rw [hout]
  constructor
  · exact r3
  · intro hs
    exact r4 (hsp.trans hs)
  · obtain ⟨b, hb, eb⟩ := hone.core
    show State.core _ _ = _
    have : ∀ d : Core, Bookkept (s.core c.key) d → ∀ e : Core, ∀ y : Ctx, e = d.setCtx c.ctx.val y →
        e = ({ s.core c.key with ibuf := e.ibuf, perf0 := e.perf0, perf1 := e.perf1, cmdBusy := e.cmdBusy }).setCtx c.ctx.val y := by
      intro d hd e y he
      have hd' := hd
      unfold Bookkept at hd'
      subst he
      simp only [Core.setCtx_ibuf, Core.setCtx_perf0, Core.setCtx_perf1, Core.setCtx_cmdBusy]
      rw [← hd']
    exact this b hb _ _ eb
  · exact hone.cores
  · rw [hout]
    unfold State.fetched
    rw [f1]
  · exact hmem
  · exact fun e => hmem.trans (f2 e)

/-- An instruction that changes its own context by `g` alone and moves the pc to `pc`. -/
theorem leaves_retired {s : State} {c : CtxId} (h : (s.fetch c.key c.ctx.val).2 = none) (g : Ctx → Ctx) (pc : Pc)
    (hsp : (g (s.cx c)).stepping = (s.cx c).stepping) :
    Leaves s ((((s.fetched c).updCtx c.key c.ctx.val g).countIssue c.key c.ctx.val).finish c.key c.ctx.val pc) c
      { g (s.cx c) with pc := pc } := by
  refine leaves_of pc h (updCtx_one (s.fetched c) c.key c.ctx.val g) (updCtx_outside (s.fetched c) c.key c.ctx.val g) ?_ hsp
  rw [State.ctx_updCtx_same]
  show g ((s.fetch c.key c.ctx.val).1.ctx c.key c.ctx.val) = _
  rw [(fetch_spec s c.key c.ctx.val h).ctx]; rfl

/-- An instruction that changes nothing but the pc. -/
theorem leaves_skip {s : State} {c : CtxId} (h : (s.fetch c.key c.ctx.val).2 = none) (pc : Pc) :
    Leaves s (((s.fetched c).countIssue c.key c.ctx.val).finish c.key c.ctx.val pc) c { s.cx c with pc := pc } :=
  leaves_of pc h (OneCtx.refl ..) (Outside.refl _) ((fetch_spec s c.key c.ctx.val h).ctx _ _) rfl

/-- What an instruction reads of its context is what stood there before its fetch. -/
theorem fetched_cx {v : Bool} {s : State} {c : CtxId} {w : Low56} (h : Ready v s c w) : (s.fetched c).cx c = s.cx c :=
  (fetch_spec s c.key c.ctx.val h.clean).ctx _ _

theorem fetched_g {v : Bool} {s : State} {c : CtxId} {w : Low56} (h : Ready v s c w) (r : Nat) :
    (s.fetched c).g c r = (s.cx c).greg r := by
  have := fetched_cx h
  unfold State.cx at this
  unfold State.g State.cx
  rw [this]

theorem fetched_pr {v : Bool} {s : State} {c : CtxId} {w : Low56} (h : Ready v s c w) (r : Nat) :
    (s.fetched c).pr c r = (s.cx c).preg r := by
  have := fetched_cx h
  unfold State.cx at this
  unfold State.pr State.cx
  rw [this]

/-- An instruction whose body changes its own context alone and goes to `pc`. -/
theorem runs_of_jump {i : Instr} {v : Bool} {s : State} {c : CtxId} {w : Low56} {legal hazard : State → Bool}
    {body : State → Body} {g : Ctx → Ctx} {pc : Pc} (hi : exec i s = issue c w v legal hazard body s)
    (h : Ready v s c w) (hl : legal (s.fetched c) = true) (hz : hazard (s.fetched c) = false)
    (hb : body (s.fetched c) = .jump ((s.fetched c).updCtx c.key c.ctx.val g) pc)
    (hsp : (g (s.cx c)).stepping = (s.cx c).stepping) :
    Runs i s c { g (s.cx c) with pc := pc } := by
  refine ⟨_, ?_, leaves_retired h.clean g pc hsp⟩
  rw [hi, issue_body h hl hz, hb]
  rfl

theorem runs_of_done {i : Instr} {v : Bool} {s : State} {c : CtxId} {w : Low56} {legal hazard : State → Bool}
    {body : State → Body} {g : Ctx → Ctx} (hi : exec i s = issue c w v legal hazard body s)
    (h : Ready v s c w) (hl : legal (s.fetched c) = true) (hz : hazard (s.fetched c) = false)
    (hb : body (s.fetched c) = .done ((s.fetched c).updCtx c.key c.ctx.val g))
    (hsp : (g (s.cx c)).stepping = (s.cx c).stepping) :
    Runs i s c { g (s.cx c) with pc := s.nextPc c } := by
  refine ⟨_, ?_, leaves_retired h.clean g (s.nextPc c) hsp⟩
  rw [hi, issue_body h hl hz, hb]
  rfl

theorem setG_keeps (x : Ctx) (rd : Nat) (r : GReg) : (x.setG rd r).st = x.st ∧ (x.setG rd r).stepping = x.stepping := by
  unfold Ctx.setG; split <;> exact ⟨rfl, rfl⟩

theorem setP_keeps (x : Ctx) (pd : Nat) (v : Word) : (x.setP pd v).st = x.st ∧ (x.setP pd v).stepping = x.stepping := by
  unfold Ctx.setP; split <;> exact ⟨rfl, rfl⟩

/-- An instruction whose body writes one scalar register. -/
theorem writes_of {i : Instr} {v : Bool} {s : State} {c : CtxId} {w : Low56} {legal hazard : State → Bool}
    {body : State → Body} {rd : Nat} {r : GReg} (hi : exec i s = issue c w v legal hazard body s)
    (h : Ready v s c w) (hl : legal (s.fetched c) = true) (hz : hazard (s.fetched c) = false)
    (hb : body (s.fetched c) = .done ((s.fetched c).setG c rd r)) : Writes i s c rd r :=
  runs_of_done (g := fun x => x.setG rd r) hi h hl hz hb (setG_keeps ..).2

/-- An instruction whose body writes one predicate. -/
theorem writesP_of {i : Instr} {v : Bool} {s : State} {c : CtxId} {w : Low56} {legal hazard : State → Bool}
    {body : State → Body} {pd : Nat} {r : Word} (hi : exec i s = issue c w v legal hazard body s)
    (h : Ready v s c w) (hl : legal (s.fetched c) = true) (hz : hazard (s.fetched c) = false)
    (hb : body (s.fetched c) = .done ((s.fetched c).setP c pd r)) : WritesP i s c pd r :=
  runs_of_done (g := fun x => x.setP pd r) hi h hl hz hb (setP_keeps ..).2

/-- An instruction whose body puts a result in flight. -/
theorem pends_of {i : Instr} {v : Bool} {s : State} {c : CtxId} {w : Low56} {legal hazard : State → Bool}
    {body : State → Body} {p : VecPend} (hi : exec i s = issue c w v legal hazard body s)
    (h : Ready v s c w) (hl : legal (s.fetched c) = true) (hz : hazard (s.fetched c) = false)
    (hb : body (s.fetched c) = .done ((s.fetched c).pend c p)) : Pends i s c p :=
  runs_of_done (g := fun x => { x with vecPend := x.vecPend ++ [p] }) hi h hl hz hb rfl

/-- An instruction whose body changes nothing and goes to `pc`. -/
theorem runs_of_go {i : Instr} {v : Bool} {s : State} {c : CtxId} {w : Low56} {legal hazard : State → Bool}
    {body : State → Body} {pc : Pc} (hi : exec i s = issue c w v legal hazard body s)
    (h : Ready v s c w) (hl : legal (s.fetched c) = true) (hz : hazard (s.fetched c) = false)
    (hb : body (s.fetched c) = .jump (s.fetched c) pc) : Runs i s c { s.cx c with pc := pc } := by
  refine ⟨_, ?_, leaves_skip h.clean pc⟩
  rw [hi, issue_body h hl hz, hb]
  rfl

/-- An instruction whose body changes nothing. -/
theorem runs_of_none {i : Instr} {v : Bool} {s : State} {c : CtxId} {w : Low56} {legal hazard : State → Bool}
    {body : State → Body} (hi : exec i s = issue c w v legal hazard body s)
    (h : Ready v s c w) (hl : legal (s.fetched c) = true) (hz : hazard (s.fetched c) = false)
    (hb : body (s.fetched c) = .done (s.fetched c)) : Runs i s c { s.cx c with pc := s.nextPc c } := by
  refine ⟨_, ?_, leaves_skip h.clean (s.nextPc c)⟩
  rw [hi, issue_body h hl hz, hb]
  rfl

/-- An instruction whose body takes an exception and changes nothing else. -/
theorem traps_of {i : Instr} {v : Bool} {s : State} {c : CtxId} {w : Low56} {legal hazard : State → Bool}
    {body : State → Body} {cause unit : Nat} {addr loc : Word} (hi : exec i s = issue c w v legal hazard body s)
    (h : Ready v s c w) (hl : legal (s.fetched c) = true) (hz : hazard (s.fetched c) = false)
    (hb : body (s.fetched c) = .trap (s.fetched c) cause unit 0 addr loc) : Traps i s c cause unit addr loc := by
  unfold Traps
  rw [hi, issue_body h hl hz, hb]
  rfl

/-- An instruction whose body leaves `u`. -/
theorem issues_of {i : Instr} {v : Bool} {s u : State} {c : CtxId} {w : Low56} {legal hazard : State → Bool}
    {body : State → Body} (hi : exec i s = issue c w v legal hazard body s)
    (h : Ready v s c w) (hl : legal (s.fetched c) = true) (hz : hazard (s.fetched c) = false)
    (hb : body (s.fetched c) = .done u) : Issues i s c u (s.nextPc c) := by
  unfold Issues
  rw [hi, issue_body h hl hz, hb]
  rfl

theorem fetched_latch {v : Bool} {s : State} {c : CtxId} {w : Low56} (h : Ready v s c w) :
    (s.fetched c).latchLoc c = (s.cx c).latch.getD 0 := by
  have := fetched_cx h
  unfold State.cx at this
  unfold State.latchLoc State.cx Ctx.poisonLoc
  rw [this]

end Sys2Proof.Machine
end

