-- ==== Sys2Proof/Laws/Optical.lean ====
section
/-! SUPPORT. The codeword slot of chapter 11: packed fields, the check symbols, and the symbols that a set of lanes carries
(R338, R340, R341, R343). -/

namespace Sys2Proof.Machine

theorem fieldAt_packFields (w : Nat) (l : List Nat) (i : Nat) (h : i < l.length) :
    fieldAt w (packFields w l) i = l.getD i 0 % 2 ^ w := by
  induction l generalizing i with
  | nil => simp at h
  | cons x xs ih =>
    have hp : 0 < 2 ^ w := Nat.two_pow_pos w
    cases i with
    | zero => simp [fieldAt, packFields]
    | succ j =>
      have := ih j (by simpa using h)
      simp only [fieldAt, packFields, Nat.mul_succ, Nat.pow_add, List.getD_cons_succ] at this ⊢
      rw [Nat.mul_comm (2 ^ (w * j)) (2 ^ w), ← Nat.div_div_eq_div_mul, Nat.add_mul_div_left _ _ hp,
        Nat.div_eq_of_lt (Nat.mod_lt _ hp), Nat.zero_add, this]

theorem packFields_lt (w : Nat) (l : List Nat) : packFields w l < 2 ^ (w * l.length) := by
  induction l with
  | nil => simp [packFields]
  | cons x xs ih =>
    have hp : 0 < 2 ^ w := Nat.two_pow_pos w
    have := Nat.mod_lt x hp
    simp only [packFields, List.length_cons, Nat.mul_succ, Nat.pow_add]
    calc x % 2 ^ w + 2 ^ w * packFields w xs < 2 ^ w * (1 + packFields w xs) := by rw [Nat.mul_add]; omega
      _ ≤ 2 ^ w * 2 ^ (w * xs.length) := Nat.mul_le_mul_left _ (by omega)
      _ = _ := Nat.mul_comm _ _

theorem gfMul_lt {a : Nat} (b : Nat) (h : a < 1024) : gfMul a b < 1024 := by
  have step (acc : Nat) (i : Nat) (hacc : acc < 1024) :
      (if b.testBit (9 - i) then Nat.xor (if acc.testBit 9 then Nat.xor (acc * 2 % 1024) 0x9 else acc * 2) a
        else (if acc.testBit 9 then Nat.xor (acc * 2 % 1024) 0x9 else acc * 2)) < 1024 := by
    have hd : (if acc.testBit 9 then Nat.xor (acc * 2 % 1024) 0x9 else acc * 2) < 2 ^ 10 := by
      split
      · exact Nat.xor_lt_two_pow (by omega) (by omega)
      · rename_i hb
        simp only [Nat.testBit, Nat.shiftRight_eq_div_pow, Nat.and_comm 1, Nat.and_one_is_mod] at hb
        simp at hb
        omega
    split
    · exact Nat.xor_lt_two_pow hd (by omega)
    · exact hd
  have fold (l : List Nat) (acc : Nat) (hacc : acc < 1024) : l.foldl (fun acc i =>
      let acc := if acc.testBit 9 then Nat.xor (acc * 2 % 1024) 0x9 else acc * 2
      if b.testBit (9 - i) then Nat.xor acc a else acc) acc < 1024 := by
    induction l generalizing acc with
    | nil => exact hacc
    | cons i is ih => exact ih _ (step acc i hacc)
  exact fold _ 0 (by omega)

/-- The generator has 64 coefficients. -/
theorem rsGen_length : rsGen.length = 64 := by decide +kernel

/-- The check symbols are 64 symbols of 10 bits. -/
theorem rsCheck_symbols (data : List Nat) (hd : ∀ d ∈ data, d < 1024) :
    (rsCheck data).length = 64 ∧ ∀ x ∈ rsCheck data, x < 1024 := by
  suffices h : ∀ (l rem : List Nat), (∀ d ∈ l, d < 1024) → rem.length = 64 → (∀ x ∈ rem, x < 1024) →
      (l.foldl (fun rem d => ((rem.drop 1 ++ [0]).zip rsGen).map
        (fun (p : Nat × Nat) => Nat.xor p.1 (gfMul (Nat.xor d (rem.headD 0)) p.2))) rem).length = 64 ∧
      ∀ x ∈ l.foldl (fun rem d => ((rem.drop 1 ++ [0]).zip rsGen).map
        (fun (p : Nat × Nat) => Nat.xor p.1 (gfMul (Nat.xor d (rem.headD 0)) p.2))) rem, x < 1024 from
    h data (List.replicate 64 0) hd (by simp) (by simp)
  intro l
  induction l with
  | nil => intro rem _ h1 h2; exact ⟨h1, h2⟩
  | cons d l ih =>
    intro rem hl h1 h2
    have hhead : rem.headD 0 < 1024 := by
      cases rem with
      | nil => simp
      | cons r rs => exact h2 r (by simp)
    refine ih _ (fun x hx => hl x (by simp [hx])) ?_ ?_
    · simp [rsGen_length, h1]
    · intro x hx
      obtain ⟨p, hp, rfl⟩ := List.mem_map.mp hx
      have h3 : p.1 < 1024 := by
        have := (List.of_mem_zip hp).1
        rcases List.mem_append.mp this with h | h
        · exact h2 _ (List.mem_of_mem_drop h)
        · simp at h; omega
      exact Nat.xor_lt_two_pow (n := 10) h3 (gfMul_lt _ (Nat.xor_lt_two_pow (n := 10) (hl d (by simp)) hhead))

/-- A codeword has 512 symbols of 10 bits. -/
theorem codeword_symbols (bytes : List (BitVec 8)) :
    (codeword bytes).length = 512 ∧ ∀ x ∈ codeword bytes, x < 1024 := by
  have hd : ∀ d ∈ tabulate 448 (fun i => fieldAt 10 (leNat bytes) i), d < 1024 := by
    simp only [tabulate, List.mem_map]
    rintro _ ⟨i, _, rfl⟩
    exact Nat.mod_lt _ (by omega)
  obtain ⟨h1, h2⟩ := rsCheck_symbols _ hd
  refine ⟨by rw [codeword, List.length_append, h1]; simp [tabulate], fun x hx => ?_⟩
  rcases List.mem_append.mp hx with h | h
  · exact hd x h
  · exact h2 x h

/-- Symbols followed by their check symbols are a codeword. -/
theorem codewordData_append (l : List Nat) (h : l.length = 448) :
    codewordData (l ++ rsCheck l) = some (leBytes 560 (packFields 10 l)) := by
  simp [codewordData, ← h]

/-- A codeword gives its bytes back. -/
theorem codewordData_codeword (bytes : List (BitVec 8)) :
    codewordData (codeword bytes) =
      some (leBytes 560 (packFields 10 (tabulate 448 (fun i => fieldAt 10 (leNat bytes) i)))) :=
  codewordData_append _ (by simp [tabulate])

/-- The bits of the levels that carry `b`. -/
theorem levelBits_levels (k b : Nat) (h : b < 4 ^ k) : levelBits (levels k b) = b := by
  suffices g : ∀ (k o b : Nat), b < 4 ^ k → ∀ n, n / 4 ^ o % 4 ^ k = b →
      levelBits ((List.range' o k).map (fun i => gray (n.testBit (2 * i)) (n.testBit (2 * i + 1)))) = b by
    have := g k 0 b h b (by simpa using Nat.mod_eq_of_lt h)
    simpa [levels, tabulate, List.range_eq_range'] using this
  intro k
  induction k with
  | zero => intro o b hb n _; simp at hb; simp [levelBits, hb]
  | succ k ih =>
    intro o b hb n hn
    rw [List.range'_succ, List.map_cons]
    have h4 : 4 ^ (k + 1) = 4 * 4 ^ k := by rw [Nat.pow_succ, Nat.mul_comm]
    have hq : n / 4 ^ (o + 1) % 4 ^ k = b / 4 := by
      rw [Nat.pow_succ, ← Nat.div_div_eq_div_mul, ← hn, h4, Nat.mod_mul_right_div_self]
    have e := ih (o + 1) (b / 4) (by omega) n hq
    have hb4 : b % 4 = n / 4 ^ o % 4 := by rw [← hn, h4, Nat.mod_mul_right_mod]
    have e0 : n.testBit (2 * o) = decide (n / 4 ^ o % 2 = 1) := by
      rw [Nat.testBit_eq_decide_div_mod_eq, Nat.pow_mul]
    have e1 : n.testBit (2 * o + 1) = decide (n / 4 ^ o / 2 % 2 = 1) := by
      rw [Nat.testBit_eq_decide_div_mod_eq, Nat.pow_succ, Nat.pow_mul, Nat.div_div_eq_div_mul]
    simp only [levelBits, e, e0, e1]
    have hcases : n / 4 ^ o % 4 = 0 ∨ n / 4 ^ o % 4 = 1 ∨ n / 4 ^ o % 4 = 2 ∨ n / 4 ^ o % 4 = 3 := by omega
    rcases hcases with hc | hc | hc | hc
    · have a0 : n / 4 ^ o % 2 = 0 := by omega
      have a1 : n / 4 ^ o / 2 % 2 = 0 := by omega
      simp [a0, a1, gray, b2n]; omega
    · have a0 : n / 4 ^ o % 2 = 1 := by omega
      have a1 : n / 4 ^ o / 2 % 2 = 0 := by omega
      simp [a0, a1, gray, b2n]; omega
    · have a0 : n / 4 ^ o % 2 = 0 := by omega
      have a1 : n / 4 ^ o / 2 % 2 = 1 := by omega
      simp [a0, a1, gray, b2n]; omega
    · have a0 : n / 4 ^ o % 2 = 1 := by omega
      have a1 : n / 4 ^ o / 2 % 2 = 1 := by omega
      simp [a0, a1, gray, b2n]; omega

/-- A generator at rest changes no bit. -/
theorem scramble_rest (n i b acc : Nat) : (scramble n i b 0 acc).1 = acc + 2 ^ i * (b / 2 ^ i % 2 ^ n) := by
  induction n generalizing i acc with
  | zero => simp [scramble, Nat.mod_one]
  | succ n ih =>
    have e : b / 2 ^ i % 2 ^ (n + 1) = b2n (b.testBit i) + 2 * (b / 2 ^ (i + 1) % 2 ^ n) := by
      rw [Nat.pow_succ 2 n, Nat.mul_comm (2 ^ n) 2, Nat.mod_mul, Nat.pow_succ 2 i, ← Nat.div_div_eq_div_mul,
        Nat.testBit_eq_decide_div_mod_eq]
      have : b / 2 ^ i % 2 = 0 ∨ b / 2 ^ i % 2 = 1 := by omega
      rcases this with h | h <;> simp [h, b2n]
    simp only [scramble, Nat.zero_testBit, bne_self_eq_false, Bool.bne_false]
    rw [show (0 * 2 + b2n false) % 2 ^ 31 = 0 from rfl, ih, e, Nat.mul_add, Nat.pow_succ, Nat.mul_assoc,
      Nat.mul_comm (b2n _), Nat.add_assoc]

/-- The levels of a 16-lane slot that carries 512 symbols, with every generator at rest. -/
def restLanes (syms : List Nat) : List (List (Fin 4)) :=
  tabulate 16 (fun l => levels 160 (packFields 10 (tabulate 32 (fun j => syms.getD (16 * j + l) 0))))

set_option exponentiation.threshold 400 in
/-- A port whose generators are at rest reads those symbols from them. -/
theorem readSlot_restLanes (p : Port) (syms : List Nat) (h : syms.length = 512 ∧ ∀ x ∈ syms, x < 1024)
    (hm : p.mode = 0) (hs : ∀ l, (p.lane l).scram = 0) : (p.readSlot (restLanes syms)).2 = syms := by
  have key (l : Nat) : (scramble 320 0 (levelBits (levels 160 (packFields 10 (tabulate 32 (fun j => syms.getD (16 * j + l) 0))))) 0 0).1 =
      packFields 10 (tabulate 32 (fun j => syms.getD (16 * j + l) 0)) := by
    have hlen : (tabulate 32 (fun j => syms.getD (16 * j + l) 0)).length = 32 := by simp [tabulate]
    have hlt := packFields_lt 10 (tabulate 32 (fun j => syms.getD (16 * j + l) 0))
    rw [hlen] at hlt
    have h4 : (4 : Nat) ^ 160 = 2 ^ (10 * 32) := by rw [show (4 : Nat) = 2 ^ 2 from rfl, ← Nat.pow_mul]
    rw [levelBits_levels 160 _ (by rw [h4]; exact hlt), scramble_rest]
    simp only [Nat.zero_add, Nat.pow_zero, Nat.one_mul, Nat.div_one]
    exact Nat.mod_eq_of_lt hlt
  have hl : (p.active.zip (restLanes syms)).map (fun a => (scramble 320 0 (levelBits a.2) (p.lane a.1).scram 0).1) =
      tabulate 16 (fun l => packFields 10 (tabulate 32 (fun j => syms.getD (16 * j + l) 0))) := by
    simp only [Port.active, hm, lanesOf, if_true, restLanes, tabulate, hs]
    rw [List.zip_map_right, List.map_map]
    simp only [List.zip_eq_zipWith, List.zipWith_self, List.map_map, Function.comp_def, Prod.map]
    exact List.map_congr_left (fun l _ => key l)
  have e : (p.readSlot (restLanes syms)).2 =
      destripe ((p.active.zip (restLanes syms)).map (fun a => (scramble 320 0 (levelBits a.2) (p.lane a.1).scram 0).1)) := by
    simp [Port.readSlot, hm, List.map_map, Function.comp_def]
  rw [e, hl]
  apply List.ext_getElem
  · simp [destripe, tabulate, h.1]
  · intro i h1 h2
    have hi : i < 512 := by simpa [h.1] using h2
    have e1 : (tabulate 16 (fun l => packFields 10 (tabulate 32 (fun j => syms.getD (16 * j + l) 0)))).getD (i % 16) 0 =
        packFields 10 (tabulate 32 (fun j => syms.getD (16 * j + i % 16) 0)) := by
      simp [tabulate, List.getD_eq_getElem?_getD, Nat.mod_lt]
    have e2 : (tabulate 32 (fun j => syms.getD (16 * j + i % 16) 0)).getD (i / 16) 0 = syms[i] := by
      have : 16 * (i / 16) + i % 16 = i := Nat.div_add_mod i 16
      have h32 : i / 16 < 32 := by omega
      simp [tabulate, List.getD_eq_getElem?_getD, h32, this, h2]
    have hx := h.2 syms[i] (List.getElem_mem h2)
    simp only [destripe, tabulate, List.getElem_map, List.getElem_range, List.length_map, List.length_range]
    simp only [tabulate] at e1 e2
    rw [e1, fieldAt_packFields _ _ _ (by simp; omega), e2]
    exact Nat.mod_eq_of_lt hx

end Sys2Proof.Machine
end

