-- ==== Sys2Proof/WellFormed.lean ====
section
/-! DEFINITION. Which commands are well formed: the checks on operands whose type is wider than what the outside can
send. Every other operand is in range by its type. -/

namespace Sys2Proof

/-- There are 48 die supervisors and the MMC. -/
def Requester.wf : Requester → Bool
  | .prog _ => true
  | .host => true
  | .supervisor d => decide (d < 49)

open Sys2Proof.Machine

/-- Three samples of the place pins, one state per slot, readings of regions that exist (17), locators that a unit can hold (01
R28, R29). -/
def StartIn.wf (x : StartIn) : Bool :=
  decide (x.pins.length = 3) && decide (x.pages.length = 2) && x.pages.all (fun p => decide (p ≤ 2)) &&
  x.dead.all (fun d => decide (d.2.1 < 256)) && x.units.all (fun u => decide (u.first.length = 5) && decide (u.again.length = 5) && locatorOk u.unit) &&
  x.dead.all (fun d => locatorOk d.2.2.1) && x.lanes.all (fun w => locatorIn 8 1 4 w)

/-- The checks of the commands that need one. -/
def Instr.wf : Instr → Bool
  | .registerWrite who _ _ => who.wf
  -- an event's data is a locator, or a value with bit 63 zero (19 R602)
  | .jobStoppingEvent _ _ _ data => !data.getLsbD 63 || locatorOk data
  | .moduleRemovingEvent _ _ _ data => !data.getLsbD 63 || locatorOk data
  -- the 40-byte marker (11 R344, Table 11-2)
  | .markerRecognised _ _ _ bytes => decide (bytes.length = 40)
  -- 448 data symbols of 10 bits, two frames of 280 bytes; an error names one of its 512 symbols (R340)
  | .codewordReceive _ lanes errs => errs.all (fun e => decide (e < 512)) &&
      ((lanes.length == 16 && lanes.all (fun l => l.length == 160)) || (lanes.length == 8 && lanes.all (fun l => l.length == 320)))
  | .bar0Access _ _ size _ => decide (0 < size) && decide (size ≤ 4096)
  | .bar2Read _ _ n => decide (0 < n) && decide (n ≤ 4096)
  | .bar2Write _ _ data _ => decide (0 < data.length) && decide (data.length ≤ 4096)
  -- a descriptor is 64 bytes (R457)
  | .dmaDescriptorExecute _ words => decide (words.length = 8)
  -- four sensors in each of 16 clusters (R533)
  | .throttleUpdate _ readings => decide (readings.length = 64)
  | .thermalCriticalGate _ _ readings => decide (readings.length = 4)
  | .thermalUngate _ _ readings => decide (readings.length = 4)
  | .thermalShutdown _ _ readings => decide (readings.length = 4)
  -- the five coolant sensors (R536)
  | .coolantSample v => decide (v.length = 5)
  -- CAN FD carries at most 64 bytes (R492)
  | .canFrameReceive _ _ _ data => decide (data.length ≤ 64)
  -- a UDP datagram (R495)
  | .udpDatagramReceive _ _ _ data => decide (data.length ≤ 65535)
  -- what a move reads from the host: nothing, or a page's payload and scale plane (R257)
  | .poolMoveSwitch data => (data.bytes.isEmpty || decide (data.bytes.length = 270336)) && data.bad.all (fun g => decide (g < 4224))
  | .coldStart x => x.wf
  | .warmStart x => x.wf
  | _ => true

end Sys2Proof
end

