-- ==== Sys2Proof/Tests/Slice0.lean ====
section
/-! SUPPORT. Tests: the ill-formed terms that WellFormed refuses; one step on small states with results worked out from the
spec; and, for every statement with hypotheses, states and operands that meet them. -/

namespace Sys2Proof.Tests

open Sys2Proof Sys2Proof.Machine

-- one theorem at a time: each is a kernel evaluation, and many at once take a thread and its stack each
set_option Elab.async false

/-! ### Helpers -/

/-- Core 0 of die 0, context 0. -/
def c0 : CtxId := ⟨0, 0, 0⟩
/-- The same core, context 1. -/
def c1 : CtxId := ⟨0, 0, 1⟩

/-- A word from its fields, each a value and its lowest bit. -/
def wd (fs : List (Nat × Nat)) : Low56 := BitVec.ofNat 56 (fs.map (fun f => f.1 * 2 ^ f.2)).sum

/-- Context 0 of core 0 runs; g2 = 5, g3 = 7 and poisoned, g4 and g5 addresses of local SRAM, g6 = -2^63, g7 all ones. -/
def base : State := State.reset.updCtx 0 0 (fun x =>
  { ((((((x.setG 2 ⟨5, false⟩).setG 3 ⟨7, true⟩).setG 4 ⟨globalHere (sramMla 0 4096), false⟩).setG 5
      ⟨globalHere (sramMla 0 8192), false⟩).setG 6 ⟨BitVec.intMin 64, false⟩).setG 7 ⟨BitVec.allOnes 64, false⟩).setP 2 6 with
    st := .running })

/-- The hypotheses of `Ready` as a Bool. -/
def rdy (vector : Bool) (s : State) (c : CtxId) (w : Low56) : Bool :=
  (s.core c.key).canIssue c.ctx.val && !s.gatedCore c.key && !s.upsets.contains (.regFile c.key) &&
  !((s.core c.key).brkEn && (s.cx c).pc == (s.core c.key).brkPc && (s.cx c).stepping == .off) &&
  (s.fetch c.key c.ctx.val).2.isNone &&
  !((s.fetched c).inFlight c.key c.ctx.val).contains (.p (bitsOf w.toNat 55 53)) &&
  (vector || ((s.cx c).mask w).getLsbD 0)

theorem Ready.of_rdy (v : Bool) (s : State) (c : CtxId) (w : Low56) (h : rdy v s c w = true) : Ready v s c w := by
  simp only [rdy, Bool.and_eq_true, Bool.not_eq_true', Option.isNone_iff_eq_none, Bool.or_eq_true] at h
  obtain ⟨⟨⟨⟨⟨⟨h1, h2⟩, h3⟩, h4⟩, h5⟩, h6⟩, h7⟩ := h
  exact ⟨h1, h2, h3, h4, h5, h6, h7⟩

/-- `Free` as a Bool. -/
def free (s : State) (c : CtxId) (rs : List RegRef) : Bool := (s.fetched c).hazardOn c.key c.ctx.val rs == false

theorem Free.of_free (s : State) (c : CtxId) (rs : List RegRef) (h : free s c rs = true) : Free s c rs := by
  simpa [free, Free] using h

/-- What a command leaves satisfies `p`. -/
def after (i : Instr) (s : State) (p : State → Bool) : Bool :=
  match exec i s with
  | .next t => p t
  | _ => false

/-- A command leaves the state as it is. -/
def idle (i : Instr) (s : State) : Bool := after i s (fun t => decide (t = s))

/-! ### The queue -/

theorem test_step_front : step { State.reset with pending := [.chainStop, .jobStop] } = exec .chainStop { State.reset with pending := [.jobStop] } := by
  rfl

theorem witness_EmptyQueueIdles : State.reset.pending = [] ∧ step State.reset = .next State.reset := ⟨rfl, rfl⟩

theorem witness_StepKeepsSound : State.reset.Sound ∧ ∃ t, step State.reset = .next t := by
  refine ⟨?_, _, rfl⟩
  constructor <;> decide +kernel

theorem witness_Ready : Ready false base c0 (wd []) ∧ Ready true base c0 (wd []) ∧ Free base c0 [.g 1, .g 2, .g 3] :=
  ⟨Ready.of_rdy _ _ _ _ (by decide +kernel), Ready.of_rdy _ _ _ _ (by decide +kernel), Free.of_free _ _ _ (by decide +kernel)⟩

/-! ### Scalar instructions (Table 6-7) -/

/-- rd = 1, ra, rb. -/
def w3 (a b : Nat) : Low56 := wd [(1, 47), (a, 42), (b, 37)]
/-- rd = 1, ra, imm. -/
def wi (a imm : Nat) : Low56 := wd [(1, 47), (a, 42), (imm, 0)]

def g1 (v : Word) (p : Bool) (t : State) : Bool := (t.cx c0).greg 1 == ⟨v, p⟩ && (t.cx c0).pc == 1

theorem witness_ScalarInstructions :
    rdy false base c0 (w3 2 3) = true ∧ namedOnly [(51, 37)] (w3 2 3) = true ∧ free base c0 [.g 1, .g 2, .g 3] = true ∧
    ((base.cx c0).greg 0).val = 0 ∧ ((base.cx c0).greg 6).val = BitVec.intMin 64 ∧ ((base.cx c0).greg 7).val = BitVec.allOnes 64 ∧
    namedOnly [(51, 42), (31, 0)] (wi 2 63) = true ∧ fld (wi 2 63) 31 0 < 64 ∧ fld (wi 2 (2 ^ 24 - 1)) 31 24 = 0 ∧
    namedOnly [(51, 42)] (wi 2 0) = true ∧ namedOnly [(51, 37), (34, 32)] (wd [(1, 47), (2, 42), (3, 37), (2, 32)]) = true ∧
    free base c0 [.g 1, .g 2, .g 3, .p 2] = true := by decide +kernel

theorem test_add : after (.add c0 (w3 2 3)) base (g1 12 true) = true := by decide +kernel
theorem test_sub : after (.sub c0 (w3 2 7)) base (g1 6 false) = true := by decide +kernel
theorem test_mul : after (.mul c0 (w3 7 7)) base (g1 1 false) = true := by decide +kernel
theorem test_mulhu : after (.mulhu c0 (w3 7 7)) base (g1 0xFFFFFFFFFFFFFFFE false) = true := by decide +kernel
theorem test_divu_zero : after (.divu c0 (w3 2 0)) base (g1 (BitVec.allOnes 64) false) = true := by decide +kernel
theorem test_divs_wraps : after (.divs c0 (w3 6 7)) base (g1 (BitVec.intMin 64) false) = true := by decide +kernel
theorem test_remu_zero : after (.remu c0 (w3 2 0)) base (g1 5 false) = true := by decide +kernel
theorem test_rems_wraps : after (.rems c0 (w3 6 7)) base (g1 0 false) = true := by decide +kernel
theorem test_and : after (.and c0 (w3 2 6)) base (g1 0 false) = true := by decide +kernel
theorem test_or : after (.or c0 (w3 2 6)) base (g1 0x8000000000000005 false) = true := by decide +kernel
theorem test_xor : after (.xor c0 (w3 2 7)) base (g1 0xFFFFFFFFFFFFFFFA false) = true := by decide +kernel
theorem test_shl : after (.shl c0 (w3 2 7)) base (g1 0x8000000000000000 false) = true := by decide +kernel
theorem test_shr : after (.shr c0 (w3 6 7)) base (g1 1 false) = true := by decide +kernel
theorem test_sra : after (.sra c0 (w3 6 7)) base (g1 (BitVec.allOnes 64) false) = true := by decide +kernel
theorem test_min : after (.min c0 (w3 2 6)) base (g1 (BitVec.intMin 64) false) = true := by decide +kernel
theorem test_max : after (.max c0 (w3 2 6)) base (g1 5 false) = true := by decide +kernel
theorem test_minu : after (.minu c0 (w3 2 6)) base (g1 5 false) = true := by decide +kernel
theorem test_maxu : after (.maxu c0 (w3 2 6)) base (g1 (BitVec.intMin 64) false) = true := by decide +kernel
theorem test_addi : after (.addi c0 (wi 2 0xFFFFFFFF)) base (g1 4 false) = true := by decide +kernel
theorem test_andi : after (.andi c0 (wi 6 0x80000000)) base (g1 (BitVec.intMin 64) false) = true := by decide +kernel
theorem test_ori : after (.ori c0 (wi 2 2)) base (g1 7 false) = true := by decide +kernel
theorem test_xori : after (.xori c0 (wi 7 1)) base (g1 0xFFFFFFFFFFFFFFFE false) = true := by decide +kernel
theorem test_shli_63 : after (.shli c0 (wi 2 63)) base (g1 0x8000000000000000 false) = true := by decide +kernel
theorem test_shri : after (.shri c0 (wi 6 63)) base (g1 1 false) = true := by decide +kernel
theorem test_srai : after (.srai c0 (wi 6 1)) base (g1 0xC000000000000000 false) = true := by decide +kernel
theorem test_lip : after (.lip c0 (wi 7 5)) base (g1 0x000005FFFFFFFFFF false) = true := by decide +kernel
theorem test_liw_sign : after (.liw c0 (wd [(1, 47), (1, 46)])) base (g1 0xFFFFC00000000000 false) = true := by decide +kernel
theorem test_clz : after (.clz c0 (wi 2 0)) base (g1 61 false) = true := by decide +kernel
theorem test_popc : after (.popc c0 (wi 7 0)) base (g1 64 false) = true := by decide +kernel
-- p2 = 6: bit 0 is 0, so the second source is taken, with its poison
theorem test_sel : after (.sel c0 (wd [(1, 47), (2, 42), (3, 37), (2, 32)])) base (g1 7 true) = true := by decide +kernel

theorem witness_IllegalWordsTrap :
    namedOnly [(51, 37)] (wd [(1, 0)]) = false ∧ namedOnly [(51, 42), (31, 0)] (wd [(1, 32)]) = false ∧ namedOnly [] (wd [(1, 0)]) = false ∧
    (base.cx c0).inh = false ∧ 64 ≤ fld (wi 2 64) 31 0 ∧ fXmask (wd []) = 0 ∧ (base.core 0).canIssue 0 = true ∧ base.gatedCore 0 = false := by
  decide +kernel

theorem test_illegal : after (.add c0 (wd [(1, 0)])) base (fun t => (t.cx c0).st == .stopped && (t.cx c0).excCause == 1) = true := by decide +kernel

/-- pr = 2, whose bit 0 is 0. -/
def off2 : Nat × Nat := (2, 53)
theorem witness_FalsePredicateSkips : ((base.cx c0).mask (wd [off2])).getLsbD 0 = false ∧
    ((base.fetched c0).inFlight 0 0).contains (.p (bitsOf (wd [off2]).toNat 55 53)) = false ∧ namedOnly [] (wd [off2]) = true ∧
    namedOnly [(51, 37)] (wd [off2, (1, 47)]) = true ∧ namedOnly [(51, 42), (31, 0)] (wd [off2, (1, 47)]) = true ∧
    namedOnly [(51, 40), (31, 0)] (wd [off2, (1, 47)]) = true ∧ namedOnly [(18, 0)] (wd [off2, (9, 0)]) = true ∧
    namedOnly [(46, 33), (18, 0)] (wd [off2, (9, 0)]) = true ∧ fCondB (wd [off2, (9, 0)]) ≤ 9 := by decide +kernel

theorem test_predicate_off : after (.addi c0 (wd [off2, (1, 47), (9, 0)])) base (g1 0 false) = true := by decide +kernel

/-! ### Branches, predicates, system instructions -/

theorem witness_BranchesAndCompares :
    namedOnly [(18, 0)] (wd [(0x7FFFF, 0)]) = true ∧ namedOnly [(51, 47), (18, 0)] (wd [(1, 47), (9, 0)]) = true ∧
    namedOnly [(46, 42)] (wd [(4, 42)]) = true ∧ ((base.cx c0).greg 4).val.toNat % 8 = 0 ∧ ((base.cx c0).greg 4).poison = false ∧
    ((base.cx c0).greg 2).val.toNat % 8 ≠ 0 ∧ ((base.cx c0).greg 3).poison = true ∧ namedOnly [(51, 42)] (wd [(1, 47), (4, 42)]) = true ∧
    namedOnly [(46, 33), (18, 0)] (wd [(2, 42), (6, 37), (9, 33), (5, 0)]) = true ∧ fCondB (wd [(9, 33)]) = 9 ∧
    namedOnly [(51, 35)] (wd [(1, 49), (2, 44), (9, 40), (6, 35)]) = true ∧ fPcond (wd [(9, 40)]) = 9 ∧
    namedOnly [(51, 40), (31, 0)] (wd [(1, 49), (2, 44), (2, 40), (0xFFFFFFFF, 0)]) = true ∧ free base c0 [.p 1, .g 2, .g 6] = true := by
  decide +kernel

theorem test_j_last_word : after (.j c0 (wd [(0x7FFFF, 0)])) base (fun t => (t.cx c0).pc == 0x7FFFF) = true := by decide +kernel
theorem test_jal_link : after (.jal c0 (wd [(1, 47), (9, 0)])) base (fun t => (t.cx c0).pc == 9 && (t.cx c0).greg 1 == ⟨8, false⟩) = true := by decide +kernel
theorem test_jr : after (.jr c0 (wd [(4, 42)])) base (fun t => (t.cx c0).pc == 512) = true := by decide +kernel
theorem test_jalr_same_register : after (.jalr c0 (wd [(4, 47), (4, 42)])) base
    (fun t => (t.cx c0).pc == 512 && (t.cx c0).greg 4 == ⟨8, false⟩) = true := by decide +kernel
-- 5 < 2^63 unsigned (code 4), not signed (code 2)
theorem test_bc_taken : after (.bc c0 (wd [(2, 42), (6, 37), (4, 33), (5, 0)])) base (fun t => (t.cx c0).pc == 5) = true := by decide +kernel
theorem test_bc_not : after (.bc c0 (wd [(2, 42), (6, 37), (2, 33), (5, 0)])) base (fun t => (t.cx c0).pc == 1) = true := by decide +kernel
theorem test_pcmp : after (.pcmp c0 (wd [(1, 49), (2, 44), (9, 40), (6, 35)])) base (fun t => (t.cx c0).preg 1 == 0) = true := by decide +kernel
-- 5 < -1 is false (code 2), 5 >= -1 true (code 3)
theorem test_pcmpi : after (.pcmpi c0 (wd [(1, 49), (2, 44), (3, 40), (0xFFFFFFFF, 0)])) base
    (fun t => (t.cx c0).preg 1 == BitVec.allOnes 64) = true := by decide +kernel
theorem test_pandn : after (.pandn c0 (wd [(1, 49), (0, 32), (2, 29)])) base
    (fun t => (t.cx c0).preg 1 == ~~~ (6 : Word)) = true := by decide +kernel
theorem test_pand : after (.pand c0 (wd [(1, 49), (0, 32), (2, 29)])) base (fun t => (t.cx c0).preg 1 == 6) = true := by decide +kernel
theorem test_por : after (.por c0 (wd [(1, 49), (1, 32), (2, 29)])) base (fun t => (t.cx c0).preg 1 == 6) = true := by decide +kernel
theorem test_pxor : after (.pxor c0 (wd [(2, 49), (2, 32), (2, 29)])) base (fun t => (t.cx c0).preg 2 == 0) = true := by decide +kernel
theorem test_pfromg : after (.pfromg c0 (wd [(1, 49), (2, 44)])) base (fun t => (t.cx c0).preg 1 == 5) = true := by decide +kernel
theorem test_ptog : after (.ptog c0 (wd [(1, 35), (2, 32)])) base (g1 6 false) = true := by decide +kernel
theorem test_pcnt : after (.pcnt c0 (wd [(1, 35), (2, 32)])) base (g1 2 false) = true := by decide +kernel
theorem test_pfirst : after (.pfirst c0 (wd [(1, 35), (2, 32)])) base (g1 1 false) = true := by decide +kernel
theorem test_pfirst_none : after (.pfirst c0 (wd [(1, 35), (1, 32)])) base (g1 64 false) = true := by decide +kernel

theorem witness_PredicateAndSystemResults :
    namedOnly [(51, 49), (34, 29)] (wd [(1, 49), (1, 32), (2, 29)]) = true ∧ namedOnly [(51, 44)] (wd [(1, 49), (2, 44)]) = true ∧
    namedOnly [(39, 32)] (wd [(1, 35), (2, 32)]) = true ∧ free base c0 [.p 1, .p 2, .g 1, .g 2] = true ∧
    namedOnly [(51, 47)] (wd [(1, 47)]) = true ∧ ((base.cx c0).greg 3).poison = true := by decide +kernel

theorem test_rdid : after (.rdid c1 (wd [(1, 47)])) (State.reset.updCtx 0 1 (fun x => { x with st := .running }))
    (fun t => ((t.cx c1).greg 1).val.toNat % 2 ^ 24 == 1) = true := by decide +kernel

/-- The context has a handler at word 64; or is in it. -/
def handled (inh : Bool) : State := base.updCtx 0 0 (fun x => { x with hen := true, inh := inh, handler := 64 })

theorem witness_TrapsAndReturns : rdy false (handled false) c0 (wd [(7, 0)]) = true ∧ namedOnly [(15, 0)] (wd [(7, 0)]) = true ∧
    ((handled false).cx c0).hen = true ∧ (base.cx c0).hen = false ∧ ((handled true).cx c0).inh = true ∧
    namedOnly [(46, 42)] (wd [(4, 42)]) = true ∧ free (handled true) c0 [.g 4] = true ∧ ((base.cx c0).greg 2).val.toNat % 8 ≠ 0 := by
  decide +kernel

theorem test_trap_handler : after (.trap c0 (wd [(7, 0)])) (handled false)
    (fun t => (t.cx c0).pc == 64 && (t.cx c0).excCause == 0xA && (t.cx c0).inh && (t.cx c0).st == .running) = true := by decide +kernel
theorem test_trap_double : after (.trap c0 (wd [(7, 0)])) (handled true)
    (fun t => (t.cx c0).st == .stopped && (t.cx c0).excCause == 0xD) = true := by decide +kernel
theorem test_eret : after (.eret c0 (wd [(4, 42)])) (handled true) (fun t => (t.cx c0).pc == 512 && !(t.cx c0).inh) = true := by decide +kernel

/-- A FENCE waits in context 0. -/
def fencing (mask : Nat) : State := base.updCtx 0 0 (fun x => { x with st := .waiting, wait := some (.fence mask 1 0), remErr := 3 })
/-- An engine operation of context 0 is queued; a far store of it is not answered. -/
def queuing (s : State) : State := s.updCore 0 (fun d => d.setQueue 0 0 [tileOp .tz (wd [])])
def storing (s : State) : State := s.addReq c0 .store (globalHere (sramMla 300 64)) 8 (leBytes 8 1) none .sent []

theorem witness_HaltSyncAndFence : fXmask (wd [(1, 16)]) ≠ 0 ∧ (fXmask (wd [(1, 16)])).testBit 3 = false ∧ namedOnly [(19, 16)] (wd [(1, 16)]) = true ∧
    (base.fetched c0).fenceHolds c0 1 (base.fetched c0).nextId = true ∧
    ((queuing base).fetched c0).fenceHolds c0 2 ((queuing base).fetched c0).nextId = false ∧
    namedOnly [(19, 16)] (wd [(2, 16)]) = true ∧
    namedOnly [(51, 47), (19, 16)] (wd [(1, 47), (15, 16)]) = true ∧ (fXmask (wd [(1, 47), (15, 16)])).testBit 3 = true ∧
    ((fencing 15).cx c0).wait = some (.fence 15 1 0) ∧ (fencing 15).fenceHolds c0 15 0 = true ∧ ((fencing 15).cx c0).st = .waiting ∧
    (queuing (fencing 2)).fenceHolds c0 2 0 = false ∧ (storing (fencing 8)).fenceHolds c0 8 5 = false ∧ (base.cx c0).wait = none := by
  decide +kernel

theorem test_halt : after (.halt c0 (wd [])) base (fun t => (t.cx c0).st == .halted && (t.cx c0).pc == 1) = true := by decide +kernel
theorem test_fence_complete : after (.fenceComplete c0) (fencing 15)
    (fun t => (t.cx c0).st == .running && (t.cx c0).greg 1 == ⟨3, false⟩ && (t.cx c0).remErr == 0) = true := by decide +kernel

/-! ### Loads and stores -/

/-- rd = 1, ra = 4, size and sign, offset. -/
def wl (sz sx off : Nat) : Low56 := wd [(1, 47), (4, 42), (sz, 40), (sx, 39), (off, 0)]
def ws (rd sz off : Nat) : Low56 := wd [(rd, 47), (4, 42), (sz, 40), (off, 0)]

def near (n : Nat) : Reach := .near n

/-- Byte 0x80 at offset 4096; the granule at 8192 poisoned. -/
def mem1 : State := { base with mem := memStore base.mem (sramMla 0 4096) [0x80] }
def mem2 : State := base.poisonGranule (sramMla 0 8192 / 64) 77

theorem witness_LocalLoads : namedOnly [(51, 39), (31, 0)] (wl 0 1 0) = true ∧ (fSx (wl 3 0 0) && fSz (wl 3 0 0) == 3) = false ∧
    (mem1.fetched c0).reach c0 (effAddr ((mem1.cx c0).greg 4).val 0) 1 false = near 4096 ∧
    ((mem1.fetched c0).readMem (sramMla 0 4096) 1).2.2 = none ∧
    (mem2.fetched c0).reach c0 (effAddr ((mem2.cx c0).greg 4).val 4096) 8 false = near 8192 ∧
    ((mem2.fetched c0).readMem (sramMla 0 8192) 8).2.2 = some 77 := by decide +kernel

theorem test_ld_sign : after (.ld c0 (wl 0 1 0)) mem1 (g1 0xFFFFFFFFFFFFFF80 false) = true := by decide +kernel
theorem test_ld_poison : after (.ld c0 (wl 3 0 4096)) mem2
    (fun t => ((t.cx c0).greg 1).poison && (t.cx c0).latch == some 77 && (t.cx c0).pc == 1) = true := by decide +kernel

theorem witness_LocalStores : namedOnly [(51, 40), (31, 0)] (ws 2 3 0) = true ∧
    (base.fetched c0).reach c0 (effAddr ((base.cx c0).greg 4).val 0) 8 true = near 4096 ∧
    (base.fetched c0).granule (sramMla 0 4096 / 64) = none ∧ (base.fetched c0).cellErr (sramMla 0 4096) = CellErr.zero ∧
    ((base.cx c0).greg 3).poison = true ∧ ((base.cx c0).greg 2).poison = false := by decide +kernel

theorem test_st : after (.st c0 (ws 2 0 3)) base
    (fun t => memBytes t.mem (sramMla 0 4098) 4 == [0, 5, 0, 0]) = true := by decide +kernel
theorem test_st_poison : after (.st c0 (ws 3 3 0)) base (fun t => (t.granule (sramMla 0 4096 / 64)).isSome) = true := by decide +kernel

/-- g4 names core 1 of the module, or an address that nothing holds. -/
def far : State := base.updCtx 0 0 (fun x => x.setG 4 ⟨globalHere (sramMla 1 64), false⟩)
def bad (v : Word) : State := base.updCtx 0 0 (fun x => x.setG 4 ⟨v, false⟩)

theorem witness_FarAccesses : (far.fetched c0).reach c0 (effAddr ((far.cx c0).greg 4).val 0) 8 false = .far ∧
    (far.fetched c0).reach c0 (effAddr ((far.cx c0).greg 4).val 0) 8 true = .far ∧ ((far.fetched c0).farLoads c0).length < 8 ∧
    ((far.fetched c0).remoteWrites c0).length < 32 ∧ (far.fetched c0).storeAhead c0 (effAddr ((far.cx c0).greg 4).val 0) 8 = false ∧
    ((base.fetched c0).reach c0 (effAddr ((base.cx c0).greg 4).val 1) 8 false = .bad 3) ∧
    ((base.fetched c0).reach c0 (effAddr ((base.cx c0).greg 4).val 1) 8 true = .bad 3) := by decide +kernel

theorem test_ld_far : after (.ld c0 (wl 3 0 0)) far (fun t => t.reqs.length == 1 && (t.cx c0).pc == 1) = true := by decide +kernel
theorem test_st_far : after (.st c0 (ws 2 3 0)) far (fun t => t.reqs.length == 1 && (t.cx c0).pc == 1) = true := by decide +kernel

theorem witness_PredicateAndVectorMemory : namedOnly [(49, 42), (31, 0)] (ws 2 0 0) = true ∧ namedOnly [(51, 42), (31, 0)] (ws 2 0 0) = true ∧
    ownAccess c0 (effAddr ((base.cx c0).greg 4).val 0) 8 = near 4096 ∧ ownAccess c0 (effAddr ((base.cx c0).greg 4).val 0) 256 = near 4096 ∧
    ((base.fetched c0).readMem (sramMla 0 4096) 8).2.2 = none ∧ firstPoison ((base.fetched c0).touch (sramMla 0 4096) 256).2 = none ∧
    (base.cx c0).mask (ws 2 0 0) ≠ 0 ∧ (base.cx c0).mask (wd [(1, 53)]) = 0 ∧ ((base.cx c0).vreg 2).poison = 0 ∧
    (∀ q, q < 4 → (base.fetched c0).granule (sramMla 0 4096 / 64 + q) = none) ∧ (base.fetched c0).cells = [] ∧ free base c0 [.p 2, .v 2, .g 4] = true := by decide +kernel

theorem test_stp : after (.stp c0 (ws 2 0 0)) base (fun t => memBytes t.mem (sramMla 0 4096) 8 == leBytes 8 6) = true := by decide +kernel
theorem test_ldp : after (.ldp c0 (ws 1 0 0)) mem1 (fun t => (t.cx c0).preg 1 == 0x80) = true := by decide +kernel
theorem test_vld : after (.vld c0 (ws 1 0 0)) mem1
    (fun t => (t.cx c0).vecPend == [⟨[.v 1 ⟨BitVec.ofNat 2048 0x80, 0⟩], 0⟩]) = true := by decide +kernel
theorem test_vst_mask : after (.vst c0 (wd [(2, 53), (1, 47), (4, 42)])) (base.updCtx 0 0 (fun x => x.setV 1 ⟨BitVec.allOnes 2048, 0⟩))
    (fun t => memBytes t.mem (sramMla 0 4096) 16 == [0, 0, 0, 0] ++ List.replicate 8 255 ++ [0, 0, 0, 0]) = true := by decide +kernel

/-! ### Vector instructions (Table 6-9) -/

/-- Lanes as a register. -/
def reg (f : Nat → Nat) : VReg := ⟨ofLanes (tabulate 64 f), 0⟩
def one : Nat := 0x3F800000
def two : Nat := 0x40000000
def three : Nat := 0x40400000

/-- v2 counts the lanes, v3 all ones, v4 to v6 FP32 1, 2 and 3, v7 BF16 pairs of 1 and 2; v8 poisoned in group 0. -/
def vb : State := base.updCtx 0 0 (fun x => ((((((x.setV 2 (reg (fun i => i))).setV 3 (reg (fun _ => 2 ^ 32 - 1))).setV 4 (reg (fun _ => one))).setV 5
  (reg (fun _ => two))).setV 6 (reg (fun _ => three))).setV 7 (reg (fun _ => 0x40003F80))).setV 8 { reg (fun i => i) with poison := 1 })

/-- vd = 1, va, vb. -/
def v3 (a b : Nat) : Low56 := wd [(1, 47), (a, 42), (b, 37)]

/-- Lane `n` of the one result in flight, its register and its poison. -/
def vl (i : Instr) (s : State) (n : Nat) : Option (Nat × Nat × BitVec 4) :=
  match exec i s with
  | .next t => match (t.cx c0).vecPend with
    | [⟨[.v d r], _⟩] => some (d, lane r.val n, r.poison)
    | _ => none
  | _ => none

theorem witness_VectorIntegerLanes : rdy true vb c0 (v3 2 3) = true ∧ free vb c0 [.v 1, .v 2, .v 3, .g 0, .p 0] = true ∧
    tileTrap c0 (v3 2 3) (vb.fetched c0) = none ∧ vb.upsets = [] ∧ ((vb.cx c0).vreg 2).poison = 0 ∧
    vLegal [(51, 37), (21, 21)] false tilesABD false true (v3 2 3) = true ∧ fSat (v3 2 3) = false ∧
    fSat (wd [(1, 47), (2, 42), (3, 37), (1, 21)]) = true ∧
    vLegal [(51, 37), (21, 21)] false tilesABD false true (wd [(1, 47), (2, 42), (3, 37), (1, 21)]) = true ∧
    vLegal [(51, 37)] false tilesABD false true (v3 2 3) = true ∧ (∀ i < 64, isBoreLane (lane ((vb.cx c0).vreg 2).val i) = true) ∧
    vLegal [(51, 37), (34, 32)] false tilesABD false true (wd [(1, 47), (2, 42), (3, 37), (2, 32)]) = true ∧
    vLegal [(51, 42)] false ⟨true, true, false⟩ false true (wd [(1, 47), (2, 42)]) = true := by decide +kernel

theorem test_viadd_wraps : vl (.viadd c0 (v3 2 3)) vb 0 = some (1, 2 ^ 32 - 1, 0) ∧ vl (.viadd c0 (v3 2 3)) vb 1 = some (1, 0, 0) := by decide +kernel
-- 2^31 - 1 + 1 clips
theorem test_viadd_sat : vl (.viadd c0 (wd [(1, 47), (2, 42), (3, 37), (1, 21)])) (vb.updCtx 0 0 (fun x => (x.setV 2
    (reg (fun _ => 0x7FFFFFFF))).setV 3 (reg (fun _ => 1)))) 63 = some (1, 0x7FFFFFFF, 0) := by decide +kernel
theorem test_visub : vl (.visub c0 (v3 2 2)) vb 9 = some (1, 0, 0) ∧ vl (.visub c0 (v3 2 3)) vb 9 = some (1, 10, 0) := by decide +kernel
theorem test_vand : vl (.vand c0 (v3 2 3)) vb 9 = some (1, 9, 0) := by decide +kernel
theorem test_vor : vl (.vor c0 (v3 2 2)) vb 9 = some (1, 9, 0) := by decide +kernel
theorem test_vxor : vl (.vxor c0 (v3 2 3)) vb 9 = some (1, 2 ^ 32 - 10, 0) := by decide +kernel
theorem test_vshl_count_modulo : vl (.vshl c0 (v3 3 2)) vb 33 = some (1, 2 ^ 32 - 2, 0) := by decide +kernel
theorem test_vshr : vl (.vshr c0 (v3 3 2)) vb 31 = some (1, 1, 0) := by decide +kernel
theorem test_vsra : vl (.vsra c0 (v3 3 2)) vb 31 = some (1, 2 ^ 32 - 1, 0) := by decide +kernel
theorem test_vbadd : vl (.vbadd c0 (v3 2 2)) vb 5 = some (1, 10, 0) := by decide +kernel
theorem test_vsel : vl (.vsel c0 (wd [(1, 47), (2, 42), (3, 37), (2, 32)])) vb 1 = some (1, 1, 0) ∧
    vl (.vsel c0 (wd [(1, 47), (2, 42), (3, 37), (2, 32)])) vb 0 = some (1, 2 ^ 32 - 1, 0) := by decide +kernel
theorem test_vmov_mask : vl (.vmov c0 (wd [(2, 53), (1, 47), (3, 42)])) vb 1 = some (1, 2 ^ 32 - 1, 0) ∧
    vl (.vmov c0 (wd [(2, 53), (1, 47), (3, 42)])) vb 3 = some (1, 0, 0) := by decide +kernel

theorem witness_VectorFloatLanes : vLegal [(51, 37), (29, 26)] true tilesABD false (fsFloat (v3 4 5)) (v3 4 5) = true ∧
    fFs (v3 4 5) = 0 ∧ fFs (wd [(1, 47), (7, 42), (7, 37), (1, 26)]) = 1 ∧ vb.srPoison c0 (v3 4 5) = false ∧
    vLegal [(51, 37), (29, 26)] true tilesABD false true (wd [(1, 47), (7, 42), (7, 37), (1, 26)]) = true ∧
    vLegal [(51, 37), (29, 26)] false tilesABD false true (v3 4 5) = true ∧
    vLegal [(51, 37), (29, 26)] false tilesABD false true (wd [(1, 47), (7, 42), (7, 37), (1, 26)]) = true ∧
    free vb c0 [.v 1, .v 4, .v 5, .v 6, .g 0] = true ∧
    vLegal ([(51, 37), (29, 26)] ++ [(36, 32)]) true tilesABD false true (wd [(1, 47), (4, 42), (5, 37), (6, 32)]) = true ∧
    vLegal ([(51, 37), (29, 26)] ++ [(36, 32)]) true tilesABD false true (wd [(1, 47), (7, 42), (7, 37), (7, 32), (1, 26)]) = true ∧
    vLegal [(51, 42)] true noTiles false true (wd [(1, 47), (4, 42)]) = true := by decide +kernel

theorem test_vadd : vl (.vadd c0 (v3 4 5)) vb 0 = some (1, three, 0) := by decide +kernel
theorem test_vadd_bf16 : vl (.vadd c0 (wd [(1, 47), (7, 42), (7, 37), (1, 26)])) vb 0 = some (1, 0x40804000, 0) := by decide +kernel
theorem test_vsub : vl (.vsub c0 (v3 4 5)) vb 0 = some (1, 0xBF800000, 0) := by decide +kernel
theorem test_vmul : vl (.vmul c0 (v3 5 6)) vb 63 = some (1, 0x40C00000, 0) := by decide +kernel
theorem test_vfma : vl (.vfma c0 (wd [(1, 47), (4, 42), (5, 37), (6, 32)])) vb 0 = some (1, 0x40A00000, 0) := by decide +kernel
theorem test_vmin : vl (.vmin c0 (v3 4 5)) vb 0 = some (1, one, 0) := by decide +kernel
theorem test_vmax : vl (.vmax c0 (v3 4 5)) vb 0 = some (1, two, 0) := by decide +kernel
theorem test_vexp2 : vl (.vexp2 c0 (wd [(1, 47), (6, 42)])) vb 0 = some (1, 0x41000000, 0) := by decide +kernel
theorem test_vlog2 : vl (.vlog2 c0 (wd [(1, 47), (5, 42)])) vb 0 = some (1, one, 0) := by decide +kernel
theorem test_vrcp : vl (.vrcp c0 (wd [(1, 47), (5, 42)])) vb 0 = some (1, 0x3F000000, 0) := by decide +kernel
-- 1 / sqrt 4 = 1/2
theorem test_vrsq : vl (.vrsq c0 (wd [(1, 47), (1, 42)])) (vb.updCtx 0 0 (fun x => x.setV 1 (reg (fun _ => 0x40800000)))) 0 =
    some (1, 0x3F000000, 0) := by decide +kernel

theorem witness_VectorPoisonByGroups : fTD (v3 8 2) = false ∧ ((vb.cx c0).vreg 8).poison = 1 ∧ vb.srPoison c0 (v3 8 2) = false ∧
    vLegal [(51, 37)] false tilesABD false true (v3 8 2) = true ∧ free vb c0 [.v 1, .v 8, .v 2] = true := by decide +kernel

theorem test_poison_group : vl (.vor c0 (v3 8 2)) vb 3 = some (1, 0, 1) ∧ vl (.vor c0 (v3 8 2)) vb 16 = some (1, 16, 1) := by decide +kernel

/-- The predicate result in flight. -/
def pl (i : Instr) (s : State) : Option Word :=
  match exec i s with
  | .next t => match (t.cx c0).vecPend with
    | [⟨[.p 1 v], _⟩] => some v
    | _ => none
  | _ => none

theorem witness_VectorCompares : free vb c0 [.p 8, .v 2, .v 3, .g 0] = true ∧ fVc (wd [(9, 32)]) = 9 ∧
    vLegal [(49, 47), (46, 37), (35, 32)] false ⟨false, true, true⟩ false true (wd [(1, 47), (2, 42), (3, 37), (9, 32)]) = true ∧
    (fpCond 0 .nan .nan).isSome = true ∧ (vb.cx c0).mask (wd []) ≠ 0 ∧
    ((vb.updCtx 0 0 (fun x => x.setV 2 ⟨0, 15⟩)).cx c0).vreg 2 = ⟨0, 15⟩ := by decide +kernel

-- unsigned: lane < all ones everywhere (code 4)
theorem test_vicmp : pl (.vicmp c0 (wd [(1, 47), (2, 42), (3, 37), (4, 32)])) vb = some (BitVec.allOnes 64) := by decide +kernel
theorem test_vfcmp : pl (.vfcmp c0 (wd [(1, 47), (4, 42), (5, 37), (2, 32)])) vb = some (BitVec.allOnes 64) := by decide +kernel

theorem witness_VectorMoves : vLegal [(51, 42), (9, 5)] false noTiles true true (wd [(1, 47), (2, 42), (2, 5)]) = true ∧
    ((vb.cx c0).greg 2).poison = false ∧ ((vb.cx c0).greg 3).poison = true ∧
    vLegal [(51, 47), (9, 5)] false noTiles true true (wd [(1, 47), (2, 5)]) = true ∧
    vLegal [(51, 37), (34, 32)] false noTiles true true (wd [(1, 47), (2, 42), (3, 37), (7, 32)]) = true ∧
    vLegal [(46, 42), (9, 0)] false noTiles true true (wd [(2, 42), (2, 5), (1, 0)]) = true ∧
    vLegal [(51, 47), (9, 0)] false noTiles true true (wd [(1, 47), (7, 5), (2, 0)]) = true ∧ free vb c0 [.v 1, .v 2, .v 3, .g 1, .g 2, .g 7] = true := by
  decide +kernel

theorem test_vbcast : vl (.vbcast c0 (wd [(1, 47), (2, 42), (2, 5)])) vb 40 = some (1, 5, 0) := by decide +kernel
theorem test_vsegb : vl (.vsegb c0 (wd [(1, 47), (2, 42), (2, 5)])) vb 40 = some (1, 37, 0) := by decide +kernel
theorem test_vsplat : vl (.vsplat c0 (wd [(1, 47), (2, 5)])) vb 63 = some (1, 5, 0) := by decide +kernel
theorem test_vperm : vl (.vperm c0 (wd [(1, 47), (2, 42), (3, 37), (0, 32)])) vb 0 = some (1, 63, 0) ∧
    vl (.vperm c0 (wd [(1, 47), (2, 42), (3, 37), (3, 32)])) vb 62 = some (1, 31, 0) := by decide +kernel
theorem test_vext : after (.vext c0 (wd [(2, 42), (2, 5), (1, 0)])) vb
    (fun t => (t.cx c0).vecPend == [⟨[.g 1 ⟨5, false⟩], 0⟩]) = true := by decide +kernel
theorem test_vins : vl (.vins c0 (wd [(1, 47), (7, 5), (2, 0)])) vb 5 = some (1, 2 ^ 32 - 1, 0) := by decide +kernel

-- the known answer of Philox4x32-10 for a zero counter and a zero key
theorem test_philox : philoxWord 0 0 0 = 0x6627E8D5 := by decide +kernel

theorem witness_VectorRandomDraws : vLegal [(51, 47), (9, 0)] false noTiles false true (wd [(1, 47), (2, 5), (4, 0)]) = true ∧
    vLegal [(49, 47), (36, 32), (9, 0)] false noTiles false true (wd [(1, 47), (7, 32), (2, 5), (4, 0)]) = true ∧
    free vb c0 [.v 1, .p 1, .g 2, .g 4, .g 7] = true ∧ ((vb.cx c0).greg 7).poison = false ∧ ((vb.cx c0).greg 3).poison = true := by decide +kernel

theorem test_vrndu : vl (.vrndu c0 (wd [(1, 47), (2, 5), (0, 0)])) vb 3 = some (1, philoxWord 5 3 1, 0) := by decide +kernel
theorem test_vrndf_range : (match vl (.vrndf c0 (wd [(1, 47), (2, 5), (0, 0)])) vb 3 with
    | some (1, v, 0) => decide (0x33800000 ≤ v ∧ v ≤ one) | _ => false) = true := by decide +kernel
-- no word lies below 0
theorem test_vrndm_zero : pl (.vrndm c0 (wd [(1, 47), (0, 32), (2, 5), (0, 0)])) vb = some 0 := by decide +kernel

theorem witness_VectorConversions :
    vLegal ([(51, 42), (29, 21)]) true ⟨false, true, false⟩ (cvtCross 0 0xD) (isConvFmt 0 && isConvFmt 0xD) (wd [(1, 47), (6, 42), (0xD, 22)]) = true ∧
    isMx 0xD = false ∧ isMx 5 = true ∧ usesVc 5 = true ∧
    vLegal ([(51, 42), (29, 21)] ++ [(36, 32)]) true ⟨false, true, false⟩ (cvtCross 0 5) (isConvFmt 0 && isConvFmt 5) (wd [(1, 47), (6, 42), (1, 32), (5, 22)]) = true ∧
    vLegal [(51, 37), (25, 22)] true ⟨false, true, true⟩ true true (wd [(1, 47), (4, 42), (5, 37), (1, 22)]) = true ∧
    vLegal [(46, 42), (29, 26), (4, 0)] false noTiles true true (wd [(6, 42), (0, 26), (1, 0)]) = true ∧
    vLegal [(46, 42), (29, 26), (4, 0)] false noTiles true true (wd [(6, 42), (1, 26), (1, 0)]) = true ∧
    free vb c0 [.v 1, .v 4, .v 5, .v 6, .g 0, .g 1] = true := by decide +kernel

theorem test_vcvt_int32 : vl (.vcvt c0 (wd [(1, 47), (6, 42), (0xD, 22)])) vb 0 = some (1, 3, 0) := by decide +kernel
theorem test_vpack : vl (.vpack c0 (wd [(1, 47), (4, 42), (5, 37), (1, 22)])) vb 0 = some (1, 0x3F803F80, 0) ∧
    vl (.vpack c0 (wd [(1, 47), (4, 42), (5, 37), (1, 22)])) vb 16 = some (1, 0x40004000, 0) := by decide +kernel

theorem witness_VectorReductions : vLegal [(51, 42), (32, 32), (29, 26)] false noTiles true true (wd [(1, 47), (4, 42)]) = true ∧
    vLegal [(51, 42), (32, 32), (29, 26)] false noTiles true true (wd [(1, 47), (2, 42), (1, 32), (0xD, 26)]) = true ∧
    fFs (wd [(0xD, 26)]) = 0xD ∧ fVc (wd [(1, 32)]) ≠ 0 ∧ fVc (wd []) = 0 ∧ free vb c0 [.v 1, .v 2, .v 4] = true ∧
    vLegal [(51, 42), (9, 5)] false ⟨false, true, false⟩ true true (wd [(1, 47), (4, 42), (2, 5)]) = true ∧
    vLegal [(51, 47)] false noTiles true true (wd [(1, 47)]) = true ∧ ((vb.cx c0).vreg 1).poison = 0 ∧
    vLegal [(51, 42), (36, 32), (9, 5)] false ⟨false, true, false⟩ true true (wd [(1, 47), (4, 42), (9, 32), (2, 5)]) = true ∧
    tileTrap c0 (wd [(1, 47), (4, 42), (9, 32), (2, 5)]) (vb.fetched c0) = none := by decide +kernel

-- 64 ones sum to 64; 0 + … + 31 = 496 and 32 + … + 63 = 1520
theorem test_vrsum : vl (.vrsum c0 (wd [(1, 47), (4, 42)])) vb 0 = some (1, 0x42800000, 0) := by decide +kernel
theorem test_vrsum_segments : vl (.vrsum c0 (wd [(1, 47), (2, 42), (1, 32), (0xD, 26)])) vb 0 = some (1, 496, 0) ∧
    vl (.vrsum c0 (wd [(1, 47), (2, 42), (1, 32), (0xD, 26)])) vb 32 = some (1, 1520, 0) := by decide +kernel
theorem test_vrmax : vl (.vrmax c0 (wd [(1, 47), (2, 42), (0xD, 26)])) vb 0 = some (1, 63, 0) := by decide +kernel
theorem test_vrmin : vl (.vrmin c0 (wd [(1, 47), (2, 42), (0xD, 26)])) vb 0 = some (1, 0, 0) := by decide +kernel

/-- v9 is a state of online softmax before any row: maxima -Inf, sums 0; g2 is the FP32 1. -/
def osm : State := vb.updCtx 0 0 (fun x => (x.setV 9 (reg (fun n => if n % 32 = 0 ∨ n % 32 = 3 then negInf32 else 0))).setG 2 ⟨BitVec.ofNat 64 one, false⟩)

-- all scores 1: the next maximum is 1
theorem test_vsegmax : vl (.vsegmax c0 (wd [(9, 47), (4, 42), (2, 5)])) osm 3 = some (9, one, 0) := by decide +kernel
-- from a first row the maximum moves and the correction of an empty sum is 0
theorem test_vosmc : vl (.vosmc c0 (wd [(9, 47)])) (osm.updCtx 0 0 (fun x => x.setV 9 (reg (fun n => if n % 32 = 0 then negInf32 else if n % 32 = 3 then one else 0)))) 0 =
    some (9, one, 0) := by decide +kernel
-- each probability is 2^(1 - 1) = 1 and the sum of a segment 32
theorem test_vosm : after (.vosm c0 (wd [(1, 47), (4, 42), (9, 32), (2, 5)])) (osm.updCtx 0 0 (fun x => x.setV 9 (reg (fun n => if n % 32 = 0 then one else 0))))
    (fun t => match (t.cx c0).vecPend with
      | [⟨[.v 1 p, .v 9 q], _⟩] => lane p.val 7 == one && lane q.val 33 == 0x42000000
      | _ => false) = true := by decide +kernel

theorem witness_TopKAndSampling : vLegal [(51, 42), (9, 0)] false noTiles true true (wd [(1, 47), (4, 42), (2, 5), (4, 0)]) = true ∧
    vLegal [(51, 37), (9, 5)] false noTiles true true (wd [(1, 47), (4, 42), (5, 37), (2, 5)]) = true ∧
    vLegal [(51, 42), (36, 32), (9, 0)] false noTiles true true (wd [(1, 47), (4, 42), (8, 32), (2, 5), (4, 0)]) = true ∧
    free vb c0 [.v 1, .v 4, .v 5, .g 1, .g 2, .g 4, .g 8] = true ∧ ((vb.cx c0).greg 7).val.toInt < 1 ∧ 32 < (((vb.updCtx 0 0 (fun x => x.setG 2 ⟨33, false⟩)).cx c0).greg 2).val.toInt ∧
    (smplScan 0 (tabulate 64 (fun _ => one)) 0 0 none flNone).1 = some 0 ∧ (smplScan 0x43000000 (tabulate 64 (fun _ => one)) 0 0 none flNone).1 = none := by
  decide +kernel

-- the largest of 1 everywhere but 3 in lane 9 is lane 9
theorem test_vtopk : vl (.vtopk c0 (wd [(1, 47), (4, 42), (2, 5), (0, 0)])) (vb.updCtx 0 0 (fun x => x.setV 4 (reg (fun n => if n = 9 then three else one)))) 32 =
    some (1, 9, 0) := by decide +kernel
theorem test_vtopkm : vl (.vtopkm c0 (wd [(1, 47), (4, 42), (5, 37), (2, 5)])) (vb.updCtx 0 0 (fun x => (x.setV 4 (reg (fun n => if n < 32 then one else n))).setV 5
    (reg (fun n => if n < 32 then three else 100 + n)))) 0 = some (1, three, 0) := by decide +kernel
-- weights 1 with threshold 2: the third running sum is the first past it
theorem test_vsmpl : after (.vsmpl c0 (wd [(1, 47), (4, 42), (8, 32), (2, 5), (0, 0)])) (vb.updCtx 0 0 (fun x => x.setG 2 ⟨BitVec.ofNat 64 two, false⟩))
    (fun t => (t.cx c0).vecPend.map (fun p => p.writes) == [[.g 1 ⟨2, false⟩, .g 8 ⟨0x42800000, false⟩]]) = true := by decide +kernel

/-- One result in flight, to `w`. -/
def pend1 (ws : List VWrite) : State := vb.updCtx 0 0 (fun x => { x with vecPend := [⟨ws, 0⟩] })

theorem witness_VectorResultsLand : (vb.gatedCore 0) = false ∧ ((pend1 [.v 1 ⟨7, 0⟩]).cx c0).vecPend[0]? = some ⟨[.v 1 ⟨7, 0⟩], 0⟩ ∧
    ((pend1 [.row 31 15 ⟨7, 0⟩]).cx c0).vecPend[0]? = some ⟨[.row 31 15 ⟨7, 0⟩], 0⟩ ∧ ((pend1 []).cx c0).stepping = .off := by decide +kernel

theorem test_vector_complete : after (.vectorComplete c0 0) (pend1 [.v 1 ⟨7, 0⟩])
    (fun t => (t.cx c0).vreg 1 == ⟨7, 0⟩ && (t.cx c0).vecPend == []) = true := by decide +kernel
theorem test_vector_complete_row : after (.vectorComplete c0 0) (pend1 [.row 31 15 ⟨7, 0⟩])
    (fun t => ((t.core 0).tile 31).rowPair 15 == ⟨7, 0⟩) = true := by decide +kernel

/-! ### Engines -/

/-- INT8 operands at addresses g4 and g5, engine 0, tile 0, Kt 1. -/
def wm : Low56 := wd [(0, 50), (0, 47), (0xB, 36), (0xB, 32), (1, 31), (4, 26), (1, 25), (5, 20)]
/-- BF16, from slots 0 and 1. -/
def wms (as' bs : Nat) : Low56 := wd [(0, 50), (1, 36), (1, 32), (as', 31), (if as' = 1 then 4 else 0, 26), (bs, 25), (if bs = 1 then 5 else 1, 20)]
/-- Slots 0 and 1 hold streams of 4 tiles for engine 0. -/
def engSlot : Slot := { Slot.closed with st := .active, desc := [BitVec.ofNat 64 (4 * 2 ^ 35 + 4 * 2 ^ 32 + 4)] }
def slots : State := vb.updCore 0 (fun d => (d.setSlot 0 engSlot).setSlot 1 engSlot)

theorem witness_MacIssue : rdy false vb c0 wm = true ∧ macLegal false wm = true ∧ free vb c0 (macRegs false wm) = true ∧
    ((vb.core 0).queue 0 0).length < 8 ∧ (vb.core 0).tileOwner 0 = 0 ∧
    (if eSp wm then engAddr c0 ((vb.cx c0).greg (eGmd wm)) 0 64 else (0, 0)) = (0, 0) ∧ eAs wm = true ∧ eBs wm = true ∧
    (engAddr c0 ((vb.cx c0).greg 4) 4096 4096).1 = 0 ∧ (engAddr c0 ((vb.cx c0).greg 5) 4096 4096).1 = 0 ∧
    macLegal true (wms 1 1) = true ∧ eAm (wms 1 1) = false ∧ macLegal false (wms 0 1) = true ∧ macLegal false (wms 1 0) = true ∧
    macLegal false (wms 0 0) = true ∧ (vb.core 0).slotOwner 0 = 0 ∧ (vb.core 0).slotOwner 1 = 0 ∧
    ((slots.core 0).slot 0).armed = true ∧ ((slots.core 0).slot 1).armed = true ∧ ((slots.core 0).slot 0).cons = 4 ∧ ((slots.core 0).slot 1).cons = 4 ∧
    rdy false slots c0 (wms 0 0) = true := by decide +kernel

theorem test_mma_queues : after (.mma c0 wm) vb (fun t => ((t.core 0).queue 0 0).length == 1 && (t.cx c0).pc == 1) = true := by decide +kernel
theorem test_mma_takes : after (.mma c0 (wms 0 0)) slots (fun t => ((t.core 0).queue 0 0).length == 1 && ((t.core 0).slot 1).taken == 1) = true := by decide +kernel
theorem test_mmx_queues : after (.mmx c0 (wms 1 1)) vb (fun t => ((t.core 0).queue 0 0).length == 1) = true := by decide +kernel

/-- eng 0, t, u. -/
def wt (t u : Nat) : Low56 := wd [(t, 47), (u, 44)]
/-- All tiles belong to context 0. -/
def own8 : State := vb.updCore 0 (fun d => { d with acc0 := 8 })

theorem witness_TileOperations : namedOnly [(51, 44)] (wt 0 3) = true ∧ eT (wt 0 3) + 2 < eU (wt 0 3) ∧ eT (wt 0 5) + 2 < eU (wt 0 5) ∧
    (∀ t ∈ [0, 1, 2, 3, 4, 5], (own8.core 0).tileOwner t = 0) ∧ ¬ (∀ t ∈ [0, 1, 2, 3, 4, 5], (vb.core 0).tileOwner t = 0) ∧
    namedOnly [(51, 44), (7, 7)] (wt 5 0) = true ∧ eN (wd [(3, 4)]) = 4 ∧ namedOnly [(51, 47), (5, 4)] (wd [(5, 47), (2, 4)]) = true ∧
    eT (wd [(5, 47), (2, 4)]) + eN (wd [(5, 47), (2, 4)]) = 8 ∧ namedOnly [(51, 47), (14, 10)] (wd [(2, 10)]) = true ∧
    tagStall c0 (wd [(2, 10)]) (vb.fetched c0) = false ∧ (vb.core 0).tileOwner 7 ≠ 0 ∧ free vb c0 [.g 2] = true := by decide +kernel

theorem test_lbm_queues : after (.lbm c0 (wt 0 3)) own8 (fun t => (((t.core 0).queue 0 0).map (fun o => o.kind)) == [.lbm]) = true := by decide +kernel
theorem test_lbr_queues : after (.lbr c0 (wt 0 3)) own8 (fun t => (((t.core 0).queue 0 0).map (fun o => o.kind)) == [.lbr]) = true := by decide +kernel
theorem test_tz_denied : after (.tz c0 (wd [(7, 47)])) vb (fun t => (t.cx c0).excCause == 4) = true := by decide +kernel
theorem test_lbtw_masks : after (.lbtw c0 (wd [(7, 10)])) vb (fun t => ((t.core 0).tile 0).tag == 0xFFFFFFFF000FFFFF) = true := by decide +kernel
theorem test_lbtr : after (.lbtr c0 (wd [(1, 10)])) (vb.updCore 0 (fun d => d.setTile 0 ⟨0, 0, 9⟩)) (g1 9 false) = true := by decide +kernel

/-- A TZ of tile 0 waits in the queue of context 0, and of tile 4 in that of context 1; or has started. -/
def tz0 : State := own8.updCore 0 (fun d => (d.setTile 0 ⟨1, 1, 1⟩).setQueue 0 0 [tileOp .tz (wd [])])
def tz01 : State := tz0.updCore 0 (fun d => d.setQueue 0 1 [tileOp .tz (wd [(4, 47)])])

theorem witness_EngineRuns : opDoomed (tz0.core 0) (tileOp .tz (wd [])) = none ∧ opReady (tz0.core 0) 0 (tileOp .tz (wd [])) = true ∧
    (tz0.core 0).queue 0 0 = [tileOp .tz (wd [])] ∧ (tz0.core 0).queue 0 1 = [] ∧ (tz01.core 0).queue 0 1 = [tileOp .tz (wd [(4, 47)])] ∧
    opReady (tz01.core 0) 0 (tileOp .tz (wd [(4, 47)])) = true ∧ opDoomed (tz01.core 0) (tileOp .tz (wd [(4, 47)])) = none := by decide +kernel

theorem test_tz_runs : after (.engineOpStart ⟨0, 0⟩ 0) tz0 (fun t => ((t.core 0).run 0).length == 1 && ((t.core 0).tile 0) == ⟨1, 1, 1⟩ &&
    after (.engineOpWrite ⟨0, 0⟩ 0) t (fun u => (u.core 0).tile 0 == ⟨0, 0, 0⟩ && (u.core 0).run 0 == [])) = true := by decide +kernel

/-- Errors that core 0 has: in its register file, in the control of engine 0, in a word of tile 0. -/
def upset (u : Upset) (s : State) : State := { s with upsets := [u] }
/-- An MMA into tile 0 has started. -/
def mma0 : EngRun := { op := { tileOp .tz (wd []) with kind := .mma }, ctx := 0, aTiles := [], bTiles := [], meta_ := [], metaPoison := [], discard := false }
/-- vd = 1, va = tile 0, vb = 2. -/
def tileA : Low56 := wd [(1, 47), (2, 37), (1, 19)]
def mmaS : State := upset (.acc 0 0 1023) (own8.updCore 0 (fun d => d.setRun 0 [mma0]))

theorem witness_CoreErrorsAreDetected : mmaS.gatedCore 0 = false ∧ (mmaS.core 0).run 0 = [mma0] ∧ mma0.op.z = false ∧
    rdy true (upset (.acc 0 0 1023) own8) c0 tileA = true ∧ fTA tileA = true ∧ fVa tileA = 0 ∧
    tileTrap c0 tileA ((upset (.acc 0 0 1023) own8).fetched c0) = none ∧ vLegal [(51, 37)] false tilesABD false true tileA = true ∧
    free (upset (.acc 0 0 1023) own8) c0 [.v 1, vref true 0, .g 0, .v 2, .p 0] = true ∧ (base.core 0).canIssue 0 = true ∧
    (upset (.regFile 0) base).gatedCore 0 = false ∧ ((upset (.engCtl 0 3) base).cx c0).st ≠ .stopped := by decide +kernel

theorem test_register_file_error : after (.add c0 (w3 2 3)) (upset (.regFile 0) base) (fun t => (t.cx c0).st == .stopped && (t.cx c0).excCause == 0xB) = true := by
  decide +kernel
theorem test_engine_control_error : after (.engineOpStart ⟨0, 0⟩ 0) (upset (.engCtl 0 0) base) (fun t => (t.cx c0).excCause == 0xC && (t.cx c0).excUnit == 2) = true := by
  decide +kernel

/-! ### Streams, valves, counters, remote signals -/

/-- A descriptor: kind, pattern, drone, ring of 4, consumer, count; ring base 0x10000 of the own SRAM. -/
def desc (kind pat drone cons count : Nat) : List Word :=
  [BitVec.ofNat 64 (kind * 2 ^ 60 + pat * 2 ^ 58 + drone * 2 ^ 57 + 4 * 2 ^ 35 + cons * 2 ^ 32 + count), BitVec.ofNat 64 (sramMla 0 65536)] ++
    List.replicate 6 0
def strm (ws : List Word) : Slot := { Slot.closed with st := .active, desc := ws, nextBase := 4 }
def putSlot (x : Slot) : State := vb.updCore 0 (fun d => d.setSlot 0 x)
/-- The descriptor of a LOAD stands at g4. -/
def armS : State := { vb with mem := memStore vb.mem (sramMla 0 4096) ((desc 0 0 0 0 4).flatMap (fun w => leBytes 8 w.toNat)) }
def load : Slot := strm (desc 0 0 1 0 4)
def store : Slot := strm (desc 1 0 0 0 4)

theorem witness_StreamInstructions : rdy false armS c0 (wd [(4, 43)]) = true ∧ (vb.core 0).slotOwner 8 ≠ 0 ∧ namedOnly [(51, 48)] (wd [(8, 48)]) = true ∧
    namedOnly [(51, 48), (37, 33)] (wd [(8, 48), (1, 33)]) = true ∧ namedOnly [(51, 43)] (wd [(4, 43)]) = true ∧ ((armS.core 0).slot 0).st = .closed ∧
    ownAccess c0 ((armS.cx c0).greg 4).val 64 = near 4096 ∧ ((armS.fetched c0).readMem (sramMla 0 4096) 64).2.2 = none ∧
    ({ Slot.closed with desc := desc 0 0 0 0 4 } : Slot).refused 0 = false ∧ ({ Slot.closed with desc := List.replicate 8 0 } : Slot).refused 0 = true ∧
    namedOnly [(51, 38)] (wd [(4, 43)]) = true ∧ load.drone = true ∧ load.queued = none ∧ load.kind = 0 ∧ load.pat ≠ 2 ∧ load.passIssued = false ∧
    ({ load with st := .ended } : Slot).drone = true ∧ load.inbound = true ∧ (∃ q ∈ [(⟨0, 0, none, false, [], 0, 0⟩ : TileReq)], q.id < 1) ∧
    load.armed = true ∧ load.cons = 0 ∧ ({ load with presented := 1 } : Slot).taken < 1 ∧ load.taken = load.presented ∧ store.kind = 1 ∧
    store.inbound = false ∧ store.taken < store.nextBase ∧ store.taken < store.completed + store.ring ∧
    namedOnly [(51, 48), (32, 27)] (wd [(0, 27)]) = true ∧ fTn (wd [(0, 27)]) ≤ ({ load with presented := 1, taken := 1 } : Slot).held ∧
    fTn (wd [(0, 27)]) ≤ ({ store with taken := 1 } : Slot).held := by decide +kernel

theorem test_sarm : after (.sarm c0 (wd [(4, 43)])) armS (fun t => ((t.core 0).slot 0).st == .active && ((t.core 0).slot 0).gen == 1) = true := by decide +kernel
theorem test_sarm_refused : after (.sarm c0 (wd [(4, 43)])) vb (fun t => (t.cx c0).excCause == 6 && ((t.core 0).slot 0).fault == 1) = true := by decide +kernel
theorem test_srarm_queues : after (.srarm c0 (wd [(5, 43)])) (putSlot load) (fun t => ((t.core 0).slot 0).queued.isSome) = true := by decide +kernel
theorem test_sclose : after (.sclose c0 (wd [])) (putSlot { load with gen := 3 }) (fun t => (t.core 0).slot 0 == { Slot.closed with gen := 3 }) = true := by decide +kernel
theorem test_sclose_other : after (.sclose c0 (wd [(8, 48)])) vb (fun t => (t.cx c0).excCause == 4) = true := by decide +kernel
theorem test_shead : after (.shead c0 (wd [(1, 33)])) (putSlot { load with presented := 1 }) (g1 (globalHere (sramMla 0 65536)) false) = true := by decide +kernel
theorem test_shead_end : after (.shead c0 (wd [(1, 33)])) (putSlot { load with st := .ended }) (g1 (BitVec.allOnes 64) false) = true := by decide +kernel
theorem test_srel : after (.srel c0 (wd [(0, 27)])) (putSlot { load with presented := 1, taken := 1 }) (fun t => ((t.core 0).slot 0).released == 1) = true := by decide +kernel
theorem test_swait_done : after (.swait c0 (wd [])) (putSlot load) (fun t => (t.cx c0).pc == 1) = true := by decide +kernel
theorem test_sstat : after (.sstat c0 (wd [(1, 33)])) vb (fun t => (t.cx c0).pc == 1) = true := by decide +kernel

/-- Context 1 of core 0 waits on valve 47; with C = 1 in the second. -/
def valveWait (b : Bool) : State := base.updCtx 0 1 (fun x => { x with st := .waiting, wait := some (.valve 47 b) })
def opened : State := base.updCore 0 (fun d => d.setValve 47 { d.valve 47 with isOpen := true })
def wv (c : Nat) : Low56 := wd [(47, 46), (c, 23)]

theorem witness_ValvesOfCoreAndHost : fYv (wv 0) < 48 ∧ namedOnly [(51, 46)] (wv 0) = true ∧ base.waitsFor 0 1 (.valve 47 false) = false ∧
    base.waitsFor 0 1 (.valve 47 true) = false ∧ (valveWait false).waitsFor 0 1 (.valve 47 false) = true ∧
    (valveWait true).waitsFor 0 1 (.valve 47 true) = true ∧ ((valveWait true).ctx 0 1).stepping = .off ∧ namedOnly [(51, 46), (23, 23)] (wv 1) = true ∧
    ((opened.core 0).valve 47).isOpen = true ∧ ((base.core 0).valve 47).isOpen = false ∧ namedOnly [(51, 46), (40, 36)] (wd [(47, 46), (1, 36)]) = true ∧
    awf Core.zero base.cores = true ∧ namedOnly [(35, 28)] (wd [(255, 28)]) = true ∧ (base.fetched c0).hvCovers 255 0 0 = [] ∧
    namedOnly [(35, 28), (40, 36)] (wd [(255, 28), (1, 36)]) = true ∧ free base c0 [.g 1] = true := by decide +kernel

theorem test_vopen_wakes_and_closes : after (.vopen c0 (wv 0)) (valveWait true)
    (fun t => (t.ctx 0 1).st == .running && !((t.core 0).valve 47).isOpen && (t.ctx 0 1).pc == 1) = true := by decide +kernel
theorem test_vopen : after (.vopen c0 (wv 0)) base (fun t => ((t.core 0).valve 47).isOpen && ((t.core 0).valve 47).opens == 1) = true := by decide +kernel
theorem test_vclose : after (.vclose c0 (wv 0)) opened (fun t => !((t.core 0).valve 47).isOpen) = true := by decide +kernel
theorem test_vwait_waits : after (.vwait c0 (wv 0)) base (fun t => (t.cx c0).st == .waiting && (t.cx c0).pc == 0) = true := by decide +kernel
theorem test_vwait_open_c1 : after (.vwait c0 (wv 1)) opened (fun t => (t.cx c0).st == .running && !((t.core 0).valve 47).isOpen) = true := by decide +kernel
theorem test_vtest : after (.vtest c0 (wd [(47, 46), (1, 36)])) opened (g1 1 false) = true := by decide +kernel
theorem test_hvset : after (.hvset c0 (wd [(255, 28)])) base (fun t => (t.hostValve 255).isOpen) = true := by decide +kernel
theorem test_hvclr : after (.hvclr c0 (wd [(255, 28)])) (base.setHostValve 255 { HostValve.closed with isOpen := true }) (fun t => !(t.hostValve 255).isOpen) = true := by
  decide +kernel
theorem test_hvwait : after (.hvwait c0 (wd [(255, 28)])) base (fun t => (t.cx c0).st == .waiting) = true := by decide +kernel
theorem test_hvtest : after (.hvtest c0 (wd [(255, 28), (1, 36)])) base (g1 0 false) = true := by decide +kernel

/-- Counter 15 stands one below 2^64 - 4. -/
def tally : State := base.updCore 0 (fun d => d.setTally 15 { d.tally 15 with value := 2 ^ 64 - 6 })
def wtc (ra : Nat) : Low56 := wd [(ra, 41), (15, 24)]

theorem witness_TalliesAndRemoteSignals : namedOnly [(45, 41), (27, 24)] (wtc 2) = true ∧ ((tally.core 0).tally 15).value + 5 = 2 ^ 64 - 1 ∧
    2 ^ 64 ≤ ((tally.core 0).tally 15).value + ((tally.cx c0).greg 7).val.toNat ∧ (tally.cx c0).inh = false ∧
    ((tally.cx c0).greg 2).val.toNat ≤ ((tally.core 0).tally 15).value ∧ ((base.core 0).tally 15).value < ((base.cx c0).greg 2).val.toNat ∧
    ((base.cx c0).greg 3).poison = true ∧ namedOnly [(40, 36), (27, 24)] (wd [(1, 36), (15, 24)]) = true ∧
    namedOnly [(51, 46), (45, 41)] (wd [(47, 46), (4, 41)]) = true ∧ (far.fetched c0).targetBad ((far.cx c0).greg 4).val 1 = false ∧
    ((far.fetched c0).remoteWrites c0).length < 32 ∧ namedOnly [(45, 41), (40, 36), (27, 24)] (wd [(4, 41), (2, 36), (15, 24)]) = true ∧
    fFv (wd [(63, 33)]) = 63 ∧ fFv (wd [(47, 33)]) < 48 ∧ namedOnly [(51, 47), (46, 42), (38, 33)] (wd [(2, 47), (4, 42), (63, 33)]) = true ∧
    (far.fetched c0).targetBad ((far.cx c0).greg 4).val 8 = false ∧ ((far.cx c0).greg 4).val.toNat % 64 + 64 ≤ 64 ∧ (far.fetched c0).fippleRoom 0 0 = true ∧
    namedOnly [(51, 47), (46, 42), (41, 39), (38, 33)] (wd [(5, 47), (4, 42), (7, 39), (47, 33)]) = true ∧ fFlen (wd [(7, 39)]) = 8 ∧
    (far.fetched c0).targetBad ((far.cx c0).greg 4).val 64 = false ∧ ownAccess c0 ((far.cx c0).greg 5).val 8 = near 8192 ∧
    ((far.cx c0).greg 5).val.toNat % 64 + 64 ≤ 64 ∧ ((far.fetched c0).readMem (sramMla 0 8192) 64).2.2 = none ∧
    free far c0 [.g 2, .g 4, .g 5] = true := by decide +kernel

theorem test_tcadd : after (.tcadd c0 (wtc 2)) tally (fun t => ((t.core 0).tally 15).value == 2 ^ 64 - 1) = true := by decide +kernel
theorem test_tcadd_wrap : after (.tcadd c0 (wtc 7)) tally (fun t => ((t.core 0).tally 15).value == 2 ^ 64 - 6 && (t.cx c0).excCause == 7 &&
    ((t.core 0).tally 15).refused == 1) = true := by decide +kernel
theorem test_tcwait : after (.tcwait c0 (wtc 2)) base (fun t => (t.cx c0).st == .waiting) = true := by decide +kernel
theorem test_tcrd : after (.tcrd c0 (wd [(1, 36), (15, 24)])) tally (g1 0xFFFFFFFFFFFFFFFA false) = true := by decide +kernel
theorem test_vsetr : after (.vsetr c0 (wd [(47, 46), (4, 41)])) far (fun t => t.reqs.map (fun r => r.kind) == [.valveSet 47]) = true := by decide +kernel
theorem test_tcaddr : after (.tcaddr c0 (wd [(4, 41), (2, 36), (15, 24)])) far (fun t => t.reqs.map (fun r => r.kind) == [.tallyAdd 15 5]) = true := by decide +kernel
theorem test_fsendr : after (.fsendr c0 (wd [(2, 47), (4, 42), (63, 33)])) far (fun t => t.reqs.map (fun r => r.data) == [leBytes 8 5]) = true := by decide +kernel
theorem test_fsend : after (.fsend c0 (wd [(5, 47), (4, 42), (7, 39), (47, 33)])) far
    (fun t => t.reqs.map (fun r => (r.size, r.data)) == [(64, List.replicate 64 0)]) = true := by decide +kernel

/-! ### Commands of the CCB, register writes -/

/-- Context 0 in a state, with a cause. -/
def inSt (st : CtxState) (cause : Nat) : State := State.reset.updCtx 0 0 (fun x => { x.setG 1 ⟨4, false⟩ with st := st, excCause := cause })
def busy : State := State.reset.updCore 0 (fun d => { d with cmdBusy := true })
def k0 : CoreId := ⟨0, 0⟩

theorem witness_ContextAndCoreCommands : (State.reset.core 0).cmdBusy = false ∧ (State.reset.core 0).fenced = none ∧ (State.reset.cx c0).st = .halted ∧
    (State.reset.cx c0).excCause = 0 ∧ (busy.core 0).cmdBusy = true ∧ ((inSt .stopped 1).cx c0).excCause ≠ 0 ∧ ((inSt .running 0).cx c0).st = .running ∧
    (State.reset.core 0).quiet 0 = true ∧ (State.reset.core 0).quiet 1 = true ∧ State.reset.obj .moduleState < 2 ∧
    ¬ ((inSt .running 0).core 0).quiet 0 = true ∧ 32 + 32 ≤ 64 ∧ bitsOf (0x20201008 : Word).toNat 30 24 = 32 ∧
    bitsOf (0x20201008 : Word).toNat 3 0 = 8 ∧ bitsOf (0x20201008 : Word).toNat 12 8 = 16 ∧ (State.reset.cx c0).stopReport = false := by decide +kernel

theorem test_start : after (.ccbStart c0) State.reset (fun t => (t.cx c0).st == .running) = true := by decide +kernel
theorem test_start_refused : after (.ccbStart c0) (inSt .stopped 1) (fun t => (t.core 0).cmdRefused && (t.cx c0).st == .stopped) = true := by decide +kernel
theorem test_halt_command : after (.ccbHalt c0) (inSt .running 0) (fun t => (t.cx c0).st == .halted) = true := by decide +kernel
theorem test_step_command : after (.ccbStep c0) State.reset (fun t => (t.cx c0).stepping == .armed && (t.core 0).cmdBusy) = true := by decide +kernel
theorem test_clear_exception : after (.ccbClearException c0) (inSt .stopped 1) (fun t => (t.cx c0).st == .halted && (t.cx c0).excCause == 0) = true := by decide +kernel
theorem test_context_reset : after (.ccbContextReset c0) (inSt .stopped 1) (fun t => (t.cx c0).g == [] && (t.cx c0).st == .halted) = true := by decide +kernel
theorem test_core_reset : after (.ccbCoreReset k0) (inSt .stopped 1) (fun t => (t.cx c0).g == []) = true := by decide +kernel
theorem test_core_reset_zero_fill : after (.ccbCoreResetZeroFill k0) { State.reset with mem := [(sramMla 0 0, 1), (sramMla 1 0, 2)] }
    (fun t => t.mem == [(sramMla 1 0, 2)]) = true := by decide +kernel
theorem test_split : after (.ctxSplitWrite k0 0x20201008) State.reset (fun t => (t.core 0).slot0 == 16 && (t.core 0).treq1 == 32) = true := by decide +kernel
theorem test_split_refused : after (.ctxSplitWrite k0 0x20211008) State.reset (fun t => (t.core 0).cmdRefused && (t.core 0).slot0 == 8) = true := by decide +kernel
theorem test_stop_report : after (.supervisorStopReport c0) ((inSt .stopped 1).updCtx 0 0 (fun x => { x with stopReport := true }))
    (fun t => (t.chb.events.map (fun e => (e.code, e.outcome))) == [(0x0301, 4)] && !(t.cx c0).stopReport) = true := by decide +kernel

/-- The CCB of core 0. -/
def ccb (off : Nat) : BitVec 40 := BitVec.ofNat 40 (0x3000000000 + off)

theorem witness_RegisterWrites : (ccb 0x180).toNat % 8 = 0 ∧ base.region (ccb 0x180).toNat = .ccb 0 0x180 ∧ base.region (ccb 0x118).toNat = .ccb 0 0x118 ∧
    base.region (ccb 0x1C0).toNat = .ccb 0 0x1C0 ∧ base.region (ccb 8).toNat = .ccb 0 8 ∧ base.region (ccb 0x11F8).toNat = .ccb 0 0x11F8 ∧
    base.memoryOff (.ccb 0 8) = false ∧ (ccb 0x11F8).toNat < 2 ^ 38 ∧ 0x11F8 + 8 ≤ 2 ^ 16 ∧ (base.ctx 0 1).st = .halted ∧ (base.ctx 0 0).st = .running ∧
    (base.core 0).fenced = none := by decide +kernel

theorem test_register_write_hen : after (.registerWrite (.prog c1) (ccb 0x180) 1) base (fun t => (t.ctx 0 1).hen && !(t.ctx 0 0).hen) = true := by decide +kernel
theorem test_register_write_window : after (.registerWrite .host (ccb 0x11F8) 9) base (fun t => (t.ctx 0 1).greg 31 == ⟨9, false⟩) = true ∧
    after (.registerWrite .host (ccb 0x10F8) 9) base (fun t => (t.core 0).cmdRefused && (t.ctx 0 0).greg 31 == ⟨0, false⟩) = true := by decide +kernel

/-! ### The stream controller, pushes, requests -/

def far300 : Word := globalHere (sramMla 300 0)
/-- A LOAD, and a STORE with one tile handed over, whose tiles lie in core 300. -/
def loadF : Slot := strm ((desc 0 0 0 0 4).set 2 far300)
def storeF : Slot := { strm ((desc 1 0 0 0 4).set 2 far300) with handed := 1, taken := 1 }
/-- An answer, its bytes cut to the first eight of the tile's 4,096. -/
def okAns : PieceAns := ⟨true, List.replicate 8 9, [], [], []⟩
def pieceR (out : Option PieceAns) (resp : Option (Nat × PieceAns)) : Piece := ⟨some far300, false, false, out, none, resp, false⟩
def tileR (write : Bool) (out : Option PieceAns) (resp : Option (Nat × PieceAns)) : TileReq := ⟨7, 0, none, write, [pieceR out resp], 0, 0⟩
def fly (x : Slot) (t : TileReq) : State := putSlot { x with inflight := [t] }
def late (s : State) : State := { s with gtc := 1000000 }
/-- Leg `ref` stands at an endpoint of the fabric. -/
def stands (ref : Nat) (s : State) : State := { s with fab := { s.fab with pkts := [
  { ref := ref, cls := 0, len := 1, src := ⟨0, 0, 0⟩, dst := ⟨0, 0, 0⟩, psn := 0, posted := false, gx := 0, gy := 0, input := 5, way := none
    phase := 0, since := 0, urgent := false, coming := 0 }] } }

/-- The credited index granules are taken first (R213). -/
def owned (s : State) : State := (List.range 32).foldl (fun t i => t.ownIndex 0 (i % 16)) s
def isTile : Plan → Bool
  | .tile _ ps => ps.any (fun p => p.addr.isSome && p.ans.isNone) && ps.all (fun p => p.addr.all (fun a => base.isHere (placeOf a)))
  | _ => false
/-- A gather through an index in core 300; tiles at a place with bit 23 set. -/
def loadX : Slot := strm (((desc 0 2 0 0 4).set 2 far300).set 4 far300)
def loadB : Slot := strm ((desc 0 0 0 0 4).set 2 (BitVec.ofNat 64 (2 ^ 63)))
/-- Every region of the module sleeps. -/
def dark (s : State) : State := (List.range 192).foldl (fun (t : State) i => t.setObj .regionState 1 i) s
/-- A RECV that has waited past STREAM_WDT for its peer. -/
def stalledS : State := { putSlot { strm ((desc 2 0 0 0 4).set 2 far300) with granted0 := 4, credOut0 := 4 } with gtc := 2 ^ 50 }

theorem witness_StreamsPushesAndRings : (dark (putSlot loadF)).gatedCore 0 = true ∧ (putSlot loadF).gatedCore 0 = false ∧
    (owned vb).nextServed 0 = none ∧ (owned (putSlot loadF)).nextServed 0 = some (0, 0) ∧
    isTile ((owned (putSlot loadF)).plan ((owned (putSlot loadF)).core 0 |>.slot 0)) = true ∧ loadF.inflight = [] ∧
    (owned (putSlot loadX)).nextServed 0 = some (0, 0) ∧ (owned (putSlot loadX)).plan ((owned (putSlot loadX)).core 0 |>.slot 0) = .index far300 ∧
    (owned (putSlot loadB)).nextServed 0 = some (0, 0) ∧ (owned (putSlot loadB)).plan ((owned (putSlot loadB)).core 0 |>.slot 0) = .fault 2 ∧
    (fly loadF (tileR false none none)).findTile 7 = some (0, some 0, tileR false none none) ∧
    ((fly loadF (tileR false none none)).core 0).findTile 7 = some (some 0, tileR false none none) ∧
    (stands 1792 (fly loadF (tileR false none none))).legFor 1792 3 ≠ none ∧ (stands 1793 (fly loadF (tileR false none none))).standing 1793 ≠ none ∧
    (stands 1792 (fly storeF (tileR true (some okAns) none))).legFor 1792 1 ≠ none ∧
    loadF.conv = false ∧ loadF.kind = 0 ∧ loadF.pieces = 1 ∧ loadF.presented = 0 ∧ loadF.ringBase % 4096 = 0 ∧ storeF.kind = 1 ∧ storeF.completed = 0 ∧
    (tileR false none none).target (pieceR none none) = some far300 ∧ coreOfWord far300 ≠ some 0 ∧ (tileR false none none).pieceBytes = 4096 ∧
    (late vb).tierTimeout ((late vb).tierOf far300) ≤ (late vb).dieGtc 0 - 0 ∧ vb.dieGtc 0 - 0 < vb.tierTimeout (vb.tierOf far300) ∧
    vb.isHere (placeOf far300) = true ∧ vb.region (mlaOf far300) = .sram 300 0 ∧ vb.memoryOff (.sram 300 0) = false ∧ vb.fillWaits (.sram 300 0) = false ∧
    vb.asleep 300 = false ∧ (vb.poolAccess (mlaOf far300) 4096 false true).2 = some (mlaOf far300) ∧
    (vb.poolAccess (mlaOf far300) 4096 true true).2 = some (mlaOf far300) ∧ regionOf (mlaOf far300) = .sram 300 0 ∧ mlaOf far300 % 64 = 0 ∧
    ((stalledS.core 0).slot 0).peerStalled = true ∧ 1000000 * stalledS.obj .streamWdt ≤ stalledS.countedSince 0 ∧ loadF.peerStalled = false := by
  decide +kernel

theorem test_stream_request : after (.streamRequestIssue k0) (putSlot loadF)
    (fun t => ((t.core 0).slot 0).inflight.map (fun q => (q.tile, q.write)) == [(0, false)] && t.nextId == 1) = true ∧
    after (.streamRequestIssue k0) (putSlot loadB) (fun t => ((t.core 0).slot 0).fault == 2) = true := by decide +kernel
-- the granules of tile 0 of core 300 leave for core 0
theorem test_tile_served : after (.endpointRequestArrive 7 0) (stands 1792 { fly loadF (tileR false none none) with mem := [(sramMla 300 7, 9)] })
    (fun t => ((t.core 0).slot 0).inflight.map (fun q => q.pieces.map (fun p => p.resp.map (fun r => (r.1, r.2.ok, r.2.payload.getD 7 0)))) ==
      [[some (0, true, 9)]]) = true := by decide +kernel
theorem test_stream_response : after (.streamResponseLand 7) (stands 1793 (fly loadF (tileR false none (some (0, okAns)))))
    (fun t => ((t.core 0).slot 0).presented == 1 && memByte t.mem (sramMla 0 65536 + 7) == 9 && ((t.core 0).slot 0).inflight == []) = true ∧
    after (.streamResponseLand 7) (fly loadF (tileR false none (some (0, okAns)))) (fun t => ((t.core 0).slot 0).presented == 0) = true := by decide +kernel
theorem test_store_write : after (.storeWrite 7 0) (stands 1792 (fly storeF (tileR true (some okAns) none))) (fun t => memByte t.mem (sramMla 300 7) == 9) = true := by
  decide +kernel
theorem test_store_ack : after (.storeWriteAck 7) (stands 1793 (fly storeF (tileR true none (some (0, okAns))))) (fun t => ((t.core 0).slot 0).completed == 1) = true := by
  decide +kernel
theorem test_tile_timeout : after (.tileRequestTimeout 7) (late (fly loadF (tileR false none none))) (fun t => ((t.core 0).slot 0).failed == 1 &&
    (t.core 0).orphans.map (fun o => o.req.id) == [7]) = true := by decide +kernel
theorem test_stream_watchdog : after (.streamWatchdogExpiry k0 0) stalledS (fun t => ((t.core 0).slot 0).fault == 9) = true := by decide +kernel

/-- A SEND to slot 2 of core 300 with one credit and a tile handed over; a RECV; a REDUCE with a pair; a ROTATE of one tile. -/
def send : Slot := { strm ((desc 3 0 0 0 4).set 2 far300) with handed := 1, credits := [5] }
def recv : Slot := { strm (((desc 2 0 0 0 4).set 2 far300)) with granted0 := 4, credOut0 := 4, gen := 1 }
def reduce : Slot := { strm ((desc 4 0 0 0 4)) with child0 := [0], child1 := [0] }
def pushT (gen seq : Nat) : Push := ⟨7, 1, 44, 0, globalHere (sramMla 0 0), 0, 0, gen, seq, List.replicate 8 9, [], [], [], false, false⟩
def credT : Credit := ⟨7, far300, 0, globalHere (sramMla 0 0), 0, 6⟩

/-- Both children of a REDUCE have brought tile 0; a tile of a ROTATE goes on; the sender of a push is slot 0 of core 300. -/
def peer300 : Word := vb.peerKey far300 0
def turned : Slot := { strm ((desc 5 0 0 0 4).set 7 256) with presented := 1, acked := [] }

theorem witness_Pushes : send.credits = [5] ∧ send.kind = 3 ∧ send.st = .active ∧ send.paused = false ∧ send.nextMem < send.handed ∧
    (putSlot send).gatedCore 0 = false ∧ vb.isHere (placeOf send.receiver) = true ∧ vb.peerBad send.receiver = false ∧
    vb.peerBad (BitVec.ofNat 64 (2 ^ 63)) = true ∧ reduce.kind = 4 ∧ reduce.st = .active ∧ reduce.child0.contains reduce.sums = true ∧
    reduce.child1.contains reduce.sums = true ∧ reduce.ringBase % 4096 = 0 ∧ loadF.kind ≠ 4 ∧ recv.kind = 2 ∧ recv.presented = 0 ∧
    vb.peerKey (globalHere (sramMla 300 0)) 0 = peer300 ∧ vb.pushOk recv 0 1 0 peer300 = true ∧ vb.pushOk recv 0 2 0 peer300 = false ∧
    vb.isHere (placeOf (globalHere (sramMla 0 0))) = true ∧ vb.region (mlaOf (globalHere (sramMla 0 0))) = .sram 0 0 ∧
    vb.asleep 0 = false ∧ vb.regionOff 0 = false ∧ recv.conv = false ∧
    (stands 1792 { putSlot recv with pushes := [pushT 1 0] }).legFor 1792 1 ≠ none ∧
    (stands 1792 { putSlot send with credits := [credT] }).standing 1792 ≠ none ∧ send.pushes = true ∧ recv.pushes = false ∧
    vb.peerKey send.receiver send.peerSlot = peer300 ∧ ((putSlot Slot.closed).core 0).slot 0 = Slot.closed ∧ Slot.closed.bankOrigin = none ∧
    ((List.range 16).map (fun i => (((owned (putSlot turned)).core 0).lastRot + 1 + i) % 16)).find?
      (fun i => ((owned (putSlot turned)).core 0 |>.slot i).canForward) = some 0 := by decide +kernel

theorem test_push_send : after (.pushTileSend k0 0) (putSlot send) (fun t => t.pushes.map (fun p => (p.gen, p.seq, p.dstSlot)) == [(5, 0, 0)] &&
    ((t.core 0).slot 0).credits == []) = true := by decide +kernel
theorem test_push_arrive : after (.pushedTileArrive 7) (stands 1792 { putSlot recv with pushes := [pushT 1 0] }) (fun t => ((t.core 0).slot 0).presented == 1) = true ∧
    after (.pushedTileArrive 7) (stands 1792 { putSlot recv with pushes := [pushT 2 0] }) (fun t => ((t.core 0).slot 0).dropped == 1 && t.mem == []) = true := by
  decide +kernel
theorem test_credit_arrive : after (.pushCreditArrive 7) (stands 1792 { putSlot send with credits := [credT] }) (fun t => ((t.core 0).slot 0).credits == [5, 6]) = true ∧
    after (.pushCreditArrive 7) (stands 1792 { vb with credits := [credT] }) (fun t => ((t.core 0).slot 0).credits == [6]) = true := by decide +kernel
/-- A far load of g1, a store and a signal of context 0 to core 300. -/
def rq (kind : ReqKind) (stage : ReqStage) (data : List (BitVec 8)) : Req :=
  { id := 7, die := 0, core := 0, ctx := 0, kind := kind, addr := far300, size := 8, data := data, poison := none, pc := 0, sendTime := 0,
    stage := stage, errMark := false, covers := [], dead := false, late := false, home := false }
def withReq (r : Req) : State := { base with reqs := [r], nextId := 8 }

/-- Its answer stands at its core. -/
def back (kind : ReqKind) (status : Nat) (data : List (BitVec 8)) : State := withReq { rq kind (.answered status data none) [] with home := true }

theorem witness_RequestsCompleteOrFail : (withReq (rq (.load 1 3 false) .sent [])).findReq 7 = some (rq (.load 1 3 false) .sent []) ∧
    (stands 1792 (withReq (rq .store .sent (leBytes 8 9)))).legFor 1792 1 ≠ none ∧ base.granule (mlaOf far300 / 64) = none ∧
    base.cellErr (mlaOf far300 / 8 * 8) = CellErr.zero ∧ mlaOf far300 % 8 + 8 ≤ 8 ∧ (late base).tierTimeout ((late base).tierOf far300) ≤ (late base).dieGtc 0 - 0 ∧
    base.dieGtc 0 - 0 < base.tierTimeout (base.tierOf far300) ∧ (back .store 0 []).answerHome { rq .store (.answered 0 [] none) [] with home := true } = true ∧
    (stands 1793 (withReq (rq .store (.answered 0 [] none) []))).answerHome (rq .store (.answered 0 [] none) []) = true ∧ base.hst.hvPend = [] ∧
    (withReq (rq (.valveSet 3) .queued [])).signalWaits (rq (.valveSet 3) .queued []) = false ∧
    ({ base with reqs := [{ rq .store .sent [] with id := 6 }, rq (.valveSet 3) .queued []] } : State).signalWaits (rq (.valveSet 3) .queued []) = true ∧
    ((withReq (rq (.fipple 63) .queued (leBytes 8 9))).fippleQueue 0).find? (fun q => (withReq (rq (.fipple 63) .queued (leBytes 8 9))).fippleReady q) =
      some (rq (.fipple 63) .queued (leBytes 8 9)) := by decide +kernel

theorem test_request_arrive : after (.endpointRequestArrive 7 0) (stands 1792 (withReq (rq .store .sent (leBytes 8 9))))
    (fun t => memByte t.mem (sramMla 300 0) == 9 && t.reqs.map (fun r => r.stage) == [.answered 0 [] none]) = true ∧
    after (.endpointRequestArrive 7 0) (withReq (rq .store .sent (leBytes 8 9))) (fun t => t.mem == []) = true := by decide +kernel
theorem test_load_response : after (.farLoadResponse 7) (back (.load 1 0 true) 0 [0x80])
    (fun t => (t.cx c0).greg 1 == ⟨0xFFFFFFFFFFFFFF80, false⟩ && t.reqs == []) = true := by decide +kernel
theorem test_write_ack_error : after (.remoteWriteAck 7) (back .store 3 []) (fun t => (t.cx c0).remErr == 1 && t.reqs == []) = true := by
  decide +kernel
theorem test_request_timeout : after (.requestTimeout 7) (late (withReq (rq (.load 1 3 false) .sent [])))
    (fun t => t.reqs.all (fun r => r.dead) && t.obj .tierFails 0 1 == 1) = true := by decide +kernel
theorem test_signal_send : after (.remoteSignalSend 7) (withReq (rq (.valveSet 3) .queued [])) (fun t => t.reqs.map (fun r => r.stage) == [.sent]) = true := by
  decide +kernel
theorem test_fipple_send : after (.fippleQueueSend k0) (withReq (rq (.fipple 63) .queued (leBytes 8 9))) (fun t => t.reqs.map (fun r => r.stage) == [.sent]) = true := by
  decide +kernel

/-- A signal at core 300, which sleeps, or whose sender has given it up. -/
def atCore (r : Req) : State := stands 1792 (withReq r)
def sleepy : State := (atCore (rq (.valveSet 3) .sent [])).setObj .regionState 1 (regionOfCore 300)
def gone3 : Req := { rq (.valveSet 3) .sent [] with dead := true, late := true }

theorem witness_SignalsAndSync : (withReq (rq (.fipple 47) .sent (leBytes 8 9))).region (mlaOf far300) = .sram 300 0 ∧
    (atCore (rq (.fipple 47) .sent (leBytes 8 9))).legFor 1792 1 ≠ none ∧ (withReq (rq (.fipple 47) .sent (leBytes 8 9))).asleep 300 = false ∧
    base.regionOff 300 = false ∧ sleepy.asleep 300 = true ∧ sleepy.regionOff 300 = false ∧ (base.setObj .regionState 4 (regionOfCore 300)).regionOff 300 = true ∧
    base.granule (sramMla 300 0 / 64) = none ∧ base.cells = [] ∧ (atCore gone3).findReq 7 = some gone3 ∧
    ((base.core 0).tally 15).value + (base.core 0).syncArg.toNat < 2 ^ 64 ∧ (base.core 9).lendSince = none ∧ (base.core 9).unitsIdle = true ∧
    ((base.core 9).ctx 0).st = .halted ∧ base.overdue 0 = [] ∧ ((base.core 0).ctx 0).st = .running ∧ (valveWait false).waitsFor 0 1 (.valve 47 false) = true ∧
    1000000 * (late (late (valveWait false))).obj .valveWdt ≤ ({ valveWait false with gtc := 3000000000 }).countedSince 0 ∧
    ({ valveWait false with gtc := 3000000000 }).overdue 0 = [(0, 1)] ∧ ((valveWait false).ctx 0 1).waitBlk.since = 0 := by decide +kernel

theorem test_fipple_delivery : after (.fippleDelivery 7) (atCore (rq (.fipple 47) .sent (leBytes 8 9)))
    (fun t => memByte t.mem (sramMla 300 0) == 9 && ((t.core 300).valve 47).isOpen) = true := by decide +kernel
theorem test_valve_arrive : after (.valveOpenArrive 7) (atCore (rq (.valveSet 3) .sent [])) (fun t => ((t.core 300).valve 3).isOpen) = true ∧
    after (.valveOpenArrive 7) sleepy (fun t => !((t.core 300).valve 3).isOpen && t.pwr.wakes.contains (regionOfCore 300)) = true := by decide +kernel
-- R284: a signal that has timed out opens nothing
theorem test_valve_late : after (.valveOpenArrive 7) (atCore gone3) (fun t => !((t.core 300).valve 3).isOpen) = true := by decide +kernel
theorem test_tally_arrive : after (.tallyAddArrive 7) (atCore (rq (.tallyAdd 3 9) .sent [])) (fun t => ((t.core 300).tally 3).value == 9) = true := by
  decide +kernel
theorem test_sync_open_wakes : after (.syncOpenValve k0 true 47) (valveWait false) (fun t => (t.ctx 0 1).st == .running && (t.ctx 0 1).pc == 1) = true := by
  decide +kernel
theorem test_sync_refused : after (.syncOpenValve k0 true 48) base (fun t => (t.core 0).cmdRefused) = true ∧
    after (.syncAddCounter k0 true 16) base (fun t => (t.core 0).cmdRefused) = true := by decide +kernel
theorem test_sync_close : after (.syncCloseValve k0 47) opened (fun t => !((t.core 0).valve 47).isOpen) = true := by decide +kernel
theorem test_sync_add : after (.syncAddCounter k0 false 15) (base.updCore 0 (fun d => { d with syncArg := 9 })) (fun t => ((t.core 0).tally 15).value == 9) = true := by
  decide +kernel
theorem test_hv_open : after (.hvOpenWrite 255) base (fun t => (t.hostValve 255).isOpen) = true := by decide +kernel
theorem test_hv_close : after (.hvCloseWrite 255) (base.setHostValve 255 { HostValve.closed with isOpen := true }) (fun t => !(t.hostValve 255).isOpen) = true := by
  decide +kernel
theorem test_lending : after (.lendingStart ⟨0, 9⟩) base (fun t => (t.core 9).lendSince == some 0) = true ∧ idle (.lendingStart k0) base = true := by decide +kernel
theorem test_valve_watchdog : after (.valveWatchdogScan 0) { valveWait false with gtc := 3000000000 }
    (fun t => (t.ctx 0 1).excCause == 8 && (t.ctx 0 1).waitBlk.fired) = true := by decide +kernel


/-- A ROTATE of groups of one tile, its own group presented. -/
def rotate : Slot := { strm ((desc 5 0 0 0 4).set 7 256) with presented := 1 }
/-- The upstream core's tile of step 1. -/
def turnP : Push := ⟨7, 0, 15, 0, globalHere (sramMla 0 0), 0, 1, 4, 0, [9], [], [], [], false, true⟩
def turning : State := { putSlot rotate with pushes := [turnP] }

theorem witness_Rotate : rotate.kind = 5 ∧ rotate.count = 4 ∧ rotate.group = 1 ∧ rotate.st = .active ∧ rotate.conv = false ∧ rotate.paused = false ∧ 1 < rotate.nextBase ∧
    rotate.presented ≤ 1 ∧ rotate.landed.contains 1 = false ∧ rotate.halfFree 1 = true ∧ rotate.canForward = true ∧ (15 : Nat) / 16 * 16 + (15 + 1) % 16 = 0 ∧
    turning.pushes.find? (fun p => p.id == 7 && p.rotate == turnP.rotate) = some turnP ∧ (putSlot rotate).gatedCore 0 = false := by decide +kernel
theorem test_rotate : after (.rotateTileArrive 7) turning (fun t => t.pushes == [] && ((t.core 0).slot 0).presented == 2) = true := by decide +kernel

/-! ### Hang census -/

def p0 : Fin 48 := ⟨0, by decide⟩
/-- A module in JOB_ACTIVE with port 0 facing east; values of objects of index 0 and element 0. -/
def job (os : List (Obj × Nat)) : State := (os ++ [(Obj.moduleState, 3), (Obj.portRole, 2)]).foldl (fun (s : State) (o : Obj × Nat) => s.setObj o.1 o.2) base
def inPort (p : Port) (s : State) : State := { s with ports := [(0, p)] }
/-- A packet at port 0 from place 8. -/
def pk (vc opc : Nat) (content : List (BitVec 8)) : Packet :=
  { Packet.zero with vc := vc, opc := opc, splace := 8, len := content.length, content := content }
def gets (q : Packet) (s : State) : State := inPort { Port.zero with st := 2, step := 5, rxq := [q] } s
def cStart (c : Census → Census) (os : List (Obj × Nat)) : State := { job ((.censusState, 1) :: os) with census := c Census.zero }
def pr : Probe := ⟨7, 2 ^ 40 * 9, 0, 0, [], [], 0, 0⟩
def headOf (kind len : Nat) (s : State) : Bool :=
  match (s.port 0).rxHead 6 with | some p => p.opc == 0x21 && natAt p.content 0 1 == kind && p.content.length == len | none => false

theorem witness_HangCensus : (job []).obj .moduleState = 3 ∧ (job []).obj .censusState = 0 ∧
    headOf 1 16 (gets (pk 6 0x21 (requestBytes 7)) (job [])) = true ∧ headOf 1 16 (gets (pk 6 0x21 (requestBytes 7)) (cStart id [])) = true ∧
    (cStart id []).obj .censusState = 1 ∧ (cStart id []).census.copied = false ∧ awf Core.zero (cStart id []).cores = true ∧
    (cStart (fun c => { c with copied := true }) []).census.written = false ∧
    headOf 2 1056 (gets (pk 6 0x21 pr.bytes) (cStart (fun c => { c with copied := true }) [])) = true ∧
    headOf 3 48 (gets (pk 6 0x21 (reportBytes pr 2)) (job [])) = true ∧
    (cStart (fun c => { c with written := true }) []).census.waiting = [] ∧ State.reset.obj .moduleState = 1 := by decide +kernel

theorem test_census_cmd : after (.censusCmd 1) (job []) (fun t => t.obj .censusState == 1 && t.census.trigger == 3) = true ∧
    after (.censusCmd 2) (job []) (fun t => t.obj .censusState == 0) = true := by decide +kernel
theorem test_census_request : after (.censusRequestReceive p0) (gets (pk 6 0x21 (requestBytes 7)) (job []))
    (fun t => t.obj .censusState == 1 && t.obj .censusId == 7 && (t.port 0).rxq == []) = true := by decide +kernel
theorem test_census_snapshot : after .censusSnapshot (cStart (fun c => { c with trigger := 2 }) [])
    (fun t => t.census.copied && (t.cx c0).st == .halted && t.census.recs.map (fun e => e.1) == [0]) = true := by decide +kernel
-- a probe whose target is no waiting context of this module: a report goes to its origin's module
theorem test_census_probe : after (.censusProbeReceive p0) (gets (pk 6 0x21 pr.bytes) (cStart (fun c => { c with copied := true }) []))
    (fun t => t.census.received == 1) = true := by decide +kernel
theorem test_census_report : after (.censusReportReceive p0) (gets (pk 6 0x21 (reportBytes pr 2)) { job [] with census := { Census.zero with waiting := [pr.origin, 5] } })
    (fun t => t.census.waiting == [5]) = true := by decide +kernel
theorem test_census_complete : after .censusComplete (cStart (fun c => { c with written := true }) []) (fun t => t.obj .censusState == 2) = true ∧
    after .censusComplete { cStart (fun c => { c with written := true, waiting := [5] }) [] with gtc := 1000000000 } (fun t => t.obj .censusState == 3) = true ∧
    after .censusComplete { cStart (fun c => { c with written := true, waiting := [5] }) [] with gtc := 999999999 } (fun t => t.obj .censusState == 1) = true := by
  decide +kernel

/-! ### The pool, the place -/

/-- Two pages in die 0's pool and one in the host pool; a quota of one page for tenant 5. -/
def pool (ps : List (Nat × Page)) : State :=
  { (((base.setObj .poolCount 2 0).setObj .hostPoolCount 1).setObj .tenantQuota 1 0 10).setObj .poolAuto 0x20002 with pages := ps, gtc := 65536 }
def res (st : PageState) (fwd back : Nat) : Page := ⟨st, false, false, 2, 5, 9, 0, fwd, back, 0⟩
/-- ALLOC of one page for tenant 5 of class 2; a record that names handle `h`; one with COUNT 1 of every class, tenant 5. -/
def wAlloc : Low56 := wd [(2, 53), (5, 32), (9, 0)]
def hw (h : Nat) : Word := BitVec.ofNat 64 (h * 2 ^ 32)
def wEvict : Low56 := wd [(5, 32)]
def rAlloc : PoolRec := PoolRec.ofWords wAlloc 1 0 0
def rHandle : PoolRec := PoolRec.ofWords 0 (hw 1) 0 0
def rEvict : PoolRec := PoolRec.ofWords wEvict 1 0xFF 0
def hostP : Nat := 2 ^ 30

theorem witness_PoolCommands : (pool []).poolOp = none ∧ rAlloc.resv = false ∧ rAlloc.unused true false false false false = false ∧ rAlloc.cls = 2 ∧
    rAlloc.tier = 0 ∧ rAlloc.count = 1 ∧ rAlloc.die = 0 ∧ (pool []).tenantUse 5 false + 1 ≤ (pool []).quota 5 false ∧ (pool []).freeOn 0 = [0, 1] ∧
    (pool [(0, res .resident 0 noBack)]).quota 5 false < (pool [(0, res .resident 0 noBack)]).tenantUse 5 false + 1 ∧ (base.setObj .poolCount 0 1).freeOn 1 = [] ∧
    (PoolRec.ofWords (wd [(1, 48)]) 0 0 0).resv = true ∧ rHandle.resv = false ∧ rHandle.unused false false false false true = false ∧
    (pool []).handleStatus 1 = 0 ∧ rHandle.handle = 1 ∧ rHandle.unused false true false false true = false ∧ rHandle.unused false false true false true = false ∧
    rEvict.unused false false false true false = false ∧ rEvict.count = 1 ∧ rEvict.tenant = 5 ∧ rEvict.resv = false ∧
    (pool [(1, res .resident 0 noBack)]).candidates rEvict.mask 5 0 1 = [1] ∧ (pool []).candidates rEvict.mask 5 0 1 = [] ∧
    (pool []).freeHost = [hostP] := by decide +kernel

/-- A page with a forwarding page behind it; a page that forwards. -/
def backed : State := pool [(0, { res .forwarding 1 noBack with cls := 0 }), (1, res .resident 0 0)]

theorem witness_PoolAndPlace : (pool []).freeCount 0 = 2 ∧ (pool [(0, res .resident 0 noBack)]).freeCount 0 = 1 ∧
    (pool [(0, res .resident 0 noBack)]).candidates ((pool []).obj .poolAutoMask) 0xFFFF 0 12288 = [0] ∧ (pool []).obj .poolAuto % 65536 = 2 ∧
    (pool []).obj .poolAuto / 65536 = 2 ∧ (pool []).freeHost = [hostP] ∧ base.freeHost = [] ∧
    (pool []).rangeStatus 1 0 12288 = 0 ∧ (pool []).rangeStatus 1 0 12289 = 0x15 ∧ (pool [(1, res .resident 0 noBack)]).rangeStatus 1 0 1 = 0x18 ∧
    (pool []).obj .moduleState = 1 ∧ base.obj .placeValid = 1 ∧ base.place = 0 ∧ ({ base with fab := { base.fab with seedFill := true } }).fab.seedFill = true ∧
    (backed.page 1).back = 0 ∧ (backed.page 0).fwd = 1 ∧ backed.handleStatus 0 = 0 ∧ backed.handleStatus 1 = 0 ∧
    (pool []).hst.hvPend = [] ∧ (pool []).hostReady 1 = true ∧ (pool []).hostReady hostP = false ∧ isHostPage 1 = false ∧ handleOk 0 = true ∧ handleOk 1 = true ∧
    (pool []).cells = [] ∧ (pool []).poison = [] ∧ (pool []).candidates 0 0xFFFF 0 1 = [] := by
  decide +kernel

def result (st op : Nat) (t : State) : Bool := t.obj .poolResult 0 7 == st && t.obj .poolResult 0 6 == op

theorem test_pool_alloc : after (.poolAlloc wAlloc 1 0 0) (pool []) (fun t => result 0 1 t && t.page 0 == ⟨.resident, false, false, 2, 5, 9, 1, 0, 0xFFFFFFFF, 1⟩) = true ∧
    after (.poolAlloc wAlloc 1 0 0) (pool [(0, res .resident 0 noBack)]) (result 4 1) = true := by decide +kernel
theorem test_pool_move : after (.poolMove 0 (hw 1) 0 0) (pool [(1, res .resident 0 noBack)])
    (fun t => (t.page 1).st == .moving && (t.page 0).st == .reserved && t.move == some (Move.start 1 0)) = true := by decide +kernel
theorem test_pool_evict : after (.poolEvict wEvict 1 0xFF 0) (pool [(1, res .resident 0 noBack)])
    (fun t => (t.page 1).fwd == hostP && (t.page hostP).st == .reserved) = true := by decide +kernel
/-- A move of page 1 to page 0 by a POOL_MOVE, copied but for the dirty granules `d`. -/
def moving (d : List Nat) (copied : Nat) : State :=
  { pool [(0, res .reserved 1 0), (1, res .moving 0 noBack)] with move := some { Move.start 1 0 with dirty := d, copied := copied }, poolOp := some (PoolOp.start 4 [] 0 false) }
def noData : HostPage := ⟨[], []⟩
-- a dirty granule is copied again; then the switch
theorem test_move_switch : after (.poolMoveSwitch noData) { moving [3] 1056 with mem := [(pageMla 1 + 768, 9)] }
    (fun t => t.move == some { Move.start 1 0 with copied := 1056, passes := 1 } && memByte t.mem (pageMla 0 + 768) == 9 && (t.page 1).st == .moving) = true ∧
    after (.poolMoveSwitch noData) (moving [] 1056) (fun t => (t.page 1).st == .forwarding && (t.page 0).st == .resident && t.move.isNone && t.poolOp.isNone) = true := by
  decide +kernel
theorem test_move_fail : after .poolMoveFail (moving [] 0) (fun t => (t.page 1).st == .resident && t.page 0 == Page.free && t.move.isNone) = true := by decide +kernel
theorem test_auto_evict : after (.poolAutoEvict ⟨0, by decide⟩) (pool [(0, res .resident 0 noBack)]) (fun t => (t.page 0).st == .moving && (t.page 0).fwd == hostP) = true := by
  decide +kernel
theorem test_range_write : after (.poolRangeWrite 1 ⟨3, by decide⟩ 12288) (pool []) (fun t => t.obj .poolCount 3 == 12288) = true ∧
    after (.poolRangeWrite 1 ⟨3, by decide⟩ 12289) (pool []) (fun t => t.obj .poolCount 3 == (pool []).obj .poolCount 3) = true := by decide +kernel
theorem test_hot_bank : after (.hotBankWindow ⟨1, by decide⟩) { base with fab := { base.fab with bankWin := [(127, 1), (128, 4)], hotRun := [(130, 3)] } }
    (fun t => t.fab.bankWin == [(127, 1)] && t.fab.hotRun == []) = true := by decide +kernel
theorem test_hash_seed : after (.hashSeedWrite 9) (pool [(1, res .resident 0 noBack)]) (fun t => t.obj .hashSeed == 9 && t.fab.seedFill && t.pages == []) = true ∧
    after (.hashSeedWrite 9) (job []) (fun t => t.obj .hashSeed == 0) = true := by decide +kernel
theorem test_seed_fill : after .hashSeedFillDone { base with fab := { base.fab with seedFill := true }, mem := [(64, 9)] } (fun t => t.mem == [] && !t.fab.seedFill) = true := by
  decide +kernel
theorem test_place_override : after (.placeOverrideWrite 0x7FFFF) base (fun t => t.obj .placeOverride == 0x7FFFF) = true ∧
    after (.placeOverrideWrite 0x80000) base (fun t => t.obj .placeOverride == base.obj .placeOverride) = true := by decide +kernel
theorem test_place_pins : after (.placePinSample 5) base (fun t => t.obj .placePins == 5 && t.obj .placeChanges == 1 && t.obj .place == 0) = true := by decide +kernel

/-! ### The fabric -/

/-- A one-flit W0 packet from (0, 0), at (x, y) on input `i`, to core 0 of point (6, 1); its space is taken. -/
def fp (x y i : Nat) : FabPkt :=
  { ref := 1792, cls := 0, len := 1, src := ⟨0, 0, 0⟩, dst := ⟨6, 1, 0⟩, psn := 0, posted := false, gx := x, gy := y, input := i
    way := none, phase := 0, since := 0, urgent := false, coming := 0 }
def fabS (p : FabPkt) : State := { withReq (rq .store .sent []) with fab := { Fabric.zero with pkts := [p], used := [(p.key, p.len)] } }
/-- Five flits of a pushed tile. -/
def fp5 : FabPkt := { fp 0 0 4 with cls := 3, len := 5 }

theorem witness_FabricCommands : ((fabS (fp 0 0 4)).arbitrate 0 0 1).2 = some (fp 0 0 4) ∧ ((fabS (fp 0 0 4)).arbitrate 0 0 2).2 = none ∧
    ((fabS (fp 3 0 3)).arbitrate 3 0 1).2 = some (fp 3 0 3) ∧ crossing 3 0 1 ≠ none ∧ crossing 0 0 1 = none ∧
    ((fabS (fp 6 1 0)).arbitrate 6 1 4).2 = some (fp 6 1 0) ∧ ((fabS { fp 6 1 0 with posted := true }).arbitrate 6 1 4).2 = some { fp 6 1 0 with posted := true } ∧
    ((fabS fp5).arbitrate 0 0 1).2 = some fp5 ∧ (fabS fp5).findTile 7 = none ∧ (fabS fp5).fab.wait = [] ∧ (fabS fp5).fab.w4q = [] ∧
    ((fabS (fp 0 0 4)).headsAt 0 0).find? (fun q => q.key == partKey 0 0 4 0 0) = some (fp 0 0 4) ∧
    5 * base.obj .ageCycles ≤ 8 * 1000000 ∧ 0 < 5 * base.obj .ageCycles ∧
    ((({ fabS (fp 0 0 4) with fab := { Fabric.zero with used := [(partKey 0 0 31 0 0, 1)] } }).fab.pkts.filter (fun (p : FabPkt) => p.key == partKey 0 0 31 0 0)).map
      (fun (p : FabPkt) => p.len)).sum < aget 0 [(partKey 0 0 31 0 0, 1)] (partKey 0 0 31 0 0) ∧ d2dPeer 0 0 = none ∧ d2dPeer 0 1 = some 1 ∧
    (base.lane 0 1 0).down = false ∧ base.laneStopped 0 1 = false ∧ (base.setObj .fenceDie 1 |>.laneStopped 0 1) = ((base.setObj .fenceDie 1).fencedDie == some 1) := by
  decide +kernel

theorem test_router : after (.routerForward 0 0 1 []) (fabS (fp 0 0 4)) (fun t => t.fab.pkts.map (fun q => (q.gx, q.gy, q.input, q.coming)) == [(1, 0, 3, 0)]) = true ∧
    after (.routerForward 0 0 1 [(0, 1)]) (fabS (fp 0 0 4)) (fun t => t.fab.pkts == [] && t.obj .hdrDrops 0 == 1) = true := by decide +kernel
-- between two sites the flit stands in the lane until it has been received
theorem test_router_crosses : after (.routerForward 3 0 1 []) (fabS (fp 3 0 3)) (fun t => (t.lane 1 3 0).buf == [1792] && t.fab.pkts.map (fun q => q.coming) == [1] &&
    after (.d2dFlitReceive 1 3 0 true) t (fun u => (u.lane 1 3 0).buf == [] && u.fab.pkts.map (fun q => q.coming) == [0])) = true := by decide +kernel
-- flit 2 of five carries granules 2 and 3 of the content
theorem test_router_poison : after (.routerForward 0 0 1 [(2, 1)]) (fabS fp5) (fun t => t.fab.pkts.map (fun q => q.psn) == [4] && t.obj .meshParity 0 == 1) = true := by decide +kernel
theorem test_urgent : after (.headUrgent 0 0 4 0 0) (late (fabS (fp 0 0 4))) (fun t => t.fab.pkts.all (fun q => q.urgent)) = true ∧
    after (.headUrgent 0 0 4 0 0) (fabS (fp 0 0 4)) (fun t => t.fab.pkts == [fp 0 0 4]) = true := by decide +kernel
theorem test_fabric_credit : after (.fabricCreditReturn 0 0 31 0 0) { fabS (fp 0 0 4) with fab := { Fabric.zero with used := [(partKey 0 0 31 0 0, 1)] } } (fun t => t.fab.used == []) = true := by
  decide +kernel
theorem test_d2d : after (.d2dFlitReceive ⟨0, by decide⟩ 1 0 false) (base.setLane 0 1 0 { D2dLane.zero with fails := 4 })
    (fun t => (t.lane 0 1 0).down && (t.obj .d2dLanes 0).testBit 4 == false) = true ∧
    after (.d2dFlitReceive ⟨48, by decide⟩ 1 0 true) (base.setLane 48 1 0 { D2dLane.zero with seq := 255 }) (fun t => (t.lane 48 1 0).seq == 0) = true := by decide +kernel
theorem test_weights : after (.fabricWeightsWrite 0x0A0A0A2828) base (fun t => t.obj .fabricWeights == base.obj .fabricWeights) = true ∧
    after (.fabricWeightsWrite 0x0A0A0A281E) base (fun t => t.obj .fabricWeights == 0x0A0A0A281E) = true := by decide +kernel

/-! ### Training -/

/-- Port 0 faces east; the time is 2 s. -/
def line (f : Port → Port) : State := inPort (f Port.zero) { base.setObj .portRole 2 with gtc := 2000000000 }
/-- All sixteen lanes hold signal and CDR. -/
def lit (f : Nat → Machine.Lane → Machine.Lane) : List (Nat × Machine.Lane) := (List.range 16).map (fun l => (l, f l { Machine.Lane.zero with sd := true, cdr := true }))
def mark (m : Nat) : List (BitVec 8) := markerBytes 3 m 0 0 0 3 77
def l3 : Fin 16 := ⟨3, by decide⟩
/-- Lane 3 waits for marker 6 at position 9; in CONFIRM every other lane has followed. -/
def held (a : Nat) : Port := { Port.zero with
  st := 1, step := 3, align := a, confirm := 3,
  lanes := lit (fun l x => { x with cand := some (9, 5, 0), followed := l != 3 }) }
def linkF (flags role : Nat) : Frame :=
  { ft := 2, vcc := 0, sop := false, eop := false, len := 32, psn := 0, creds := [], payload := leBytes 1 1 ++ leBytes 1 1 ++ leBytes 1 flags ++
    leBytes 1 role ++ leBytes 1 0 ++ leBytes 1 0 ++ leBytes 2 0 ++ leBytes 3 1 ++ leBytes 1 0 ++ leBytes 4 1 ++ leBytes 2 0 ++ leBytes 14 0,
    seq := 0, ackseq := 0, ak := 2 }
def shake (flags role : Nat) : State := line (fun p => { p with st := 1, step := 4, frames := [linkF flags role] })
def degF : Frame := { linkF 0 0 with payload := leBytes 1 2 ++ leBytes 1 1, len := 2 }

/-- Lanes whose bad ones are those of `f`, in LOCKED. -/
def badIf (f : Nat → Bool) : Port := { held 2 with lanes := lit (fun l x => { x with cand := some (9, 5, 0), bad := f l, missed := 2 }) }

theorem witness_FelunTraining : (line id).enabled 0 = true ∧ (line id).zStopped 0 = false ∧ markerOk 3 (mark 6) = true ∧ markerOk 4 (mark 6) = false ∧
    leNat (((mark 6).drop 10).take 2) = 6 ∧ (held 1).align = 1 ∧ ((held 1).lane 3).cand = some (9, 5, 0) ∧ (lanesOf 0).contains 3 = true ∧
    (lanesOf 0).all (fun j => j == 3 || ((held 1).lane j).followed) = true ∧ ((held 1).lane 15).bad = false ∧ (held 2).mode = 0 ∧ (lanesOf 2).contains 15 = true ∧
    (inPort (shake 1 3 |>.port 0) (line id)).judgePeer 0 3 0 1 = 2 ∧ (line id).judgePeer 0 4 0 1 = 3 ∧
    ((shake 1 3).port 0).lcFrame 1 = some (linkF 1 3) ∧ natAt (linkF 1 3).payload 3 1 = 3 ∧ natAt (linkF 1 3).payload 8 3 = 1 ∧
    ({ Port.zero with frames := [degF] }).lcFrame 2 = some degF ∧ natAt degF.payload 1 1 = 1 ∧ markerOk 3 [] = false ∧
    bitsOf (leNat (((markerBytes 3 6 16 0 0 3 77).drop 12).take 1)) 5 4 = 1 ∧ markerOk 3 (markerBytes 3 6 16 0 0 3 77) = true ∧
    ((badIf (fun _ => false)).lane 3).missed = 2 ∧ (badIf (fun l => l == 9)).ownBad = [9] ∧ modeFor [9] 1 = some 1 ∧ modeFor [9] 2 = none ∧
    (badIf (fun l => l == 9)).peerWant = 0 ∧ ((badIf (fun l => l == 9)).lane 3).bad = false ∧ (Port.zero.lane 3).cand = none ∧ Port.zero.ownBad = [] ∧
    (lanesOf 1).contains 3 = true ∧ (lanesOf 1).contains 15 = false := by decide +kernel

theorem test_signal_detect : after (.signalDetectHeld p0 0x00FF) (line (fun p => { p with st := 1 })) (fun t => (t.port 0).step == 2 && ((t.port 0).lane 7).sd && !((t.port 0).lane 8).sd) = true ∧
    after (.signalDetectHeld p0 0x807F) (line (fun p => { p with st := 1 })) (fun t => (t.port 0).step == 1) = true := by decide +kernel
theorem test_converged : after (.receiverConverged p0) (line (fun p => { p with st := 1, step := 2, lanes := lit (fun l x => { x with sd := l < 8 }) }))
    (fun t => (t.port 0).step == 3 && (t.port 0).mode == 1) = true ∧
    after (.receiverConverged p0) (line (fun p => { p with st := 1, step := 2 })) (fun t => (t.port 0).st == 4 && (t.port 0).step == 1) = true := by decide +kernel
theorem test_receiver_timeout : after (.receiverStepTimeout p0 0x01FF) (line (fun p => { p with st := 1, step := 2, lanes := lit (fun _ x => x) }))
    (fun t => (t.port 0).step == 2 && !((t.port 0).lane 8).bad && ((t.port 0).lane 9).bad) = true := by decide +kernel
theorem test_alignment_timeout : after (.alignmentTimeout p0) (line (fun p => { p with st := 1, step := 3 })) (fun t => (t.port 0).step == 2) = true := by decide +kernel
theorem test_handshake_timeout : after (.handshakeTimeout p0) (line (fun p => { p with st := 1, step := 4 })) (fun t => (t.port 0).step == 3) = true := by decide +kernel
theorem test_failed_restart : after (.failedPortRestart p0) (line (fun p => { p with st := 4 })) (fun t => (t.port 0).st == 1) = true := by decide +kernel
theorem test_port_failed : after (.portFailedTimeout p0) (line (fun p => { p with st := 1, step := 3, leftStep1 := some 1000000000 })) (fun t => (t.port 0).st == 4) = true ∧
    after (.portFailedTimeout p0) (line (fun p => { p with st := 1, step := 3, leftStep1 := some 1000000001 })) (fun t => (t.port 0).st == 1) = true := by decide +kernel
theorem test_marker_locks : after (.markerRecognised p0 l3 9 (mark 6)) (line (fun _ => held 1)) (fun t => (t.port 0).align == 2 && (t.port 0).step == 4) = true ∧
    after (.markerRecognised p0 l3 9 (mark 7)) (line (fun _ => held 1)) (fun t => (t.port 0).align == 0 && ((t.port 0).lane 3).excl == [9]) = true := by decide +kernel
theorem test_marker_found : after (.markerRecognised p0 l3 9 (mark 6)) (line (fun p => { p with st := 1, step := 3 }))
    (fun t => (t.port 0).lastPair == some (6, 2000000000, 77) && ((t.port 0).lane 3).mlock) = true := by decide +kernel
theorem test_marker_missed : after (.markerMissed p0 l3) (line (fun _ => held 2)) (fun t => ((t.port 0).lane 3).missed == 1) = true ∧
    after (.markerMissed p0 l3) (line (fun _ => held 1)) (fun t => (t.port 0).align == 0) = true := by decide +kernel
theorem test_lane_bad : after (.laneBad p0 l3 1) (line (fun _ => held 2)) (fun t => ((t.port 0).lane 3).bad && (t.port 0).want == 2) = true ∧
    after (.laneBad p0 l3 2) (line (fun _ => badIf (fun l => l == 9))) (fun t => (t.port 0).step == 2 && (t.port 0).st == 1) = true := by decide +kernel
theorem test_degrade_send : after (.degradeSend p0) (line (fun _ => { badIf (fun l => l == 3) with want := 2 })) (fun t => (t.port 0).lcq == [[2, 2]]) = true := by decide +kernel
-- both ends go to 8 lanes once the markers of both show the request
theorem test_degrade_receive : after (.degradeReceive p0) (line (fun p => { p with frames := [degF], step := 5, st := 2, peerWant := 1, shown := 1 })) (fun t => (t.port 0).mode == 1 && (t.port 0).step == 3) = true ∧
    after (.degradeReceive p0) (line (fun p => { p with frames := [degF], step := 5, st := 2 })) (fun t => (t.port 0).mode == 0 && (t.port 0).want == 1) = true := by
  decide +kernel
theorem test_degrade_marker : after (.markerRecognised p0 l3 9 (markerBytes 3 6 16 0 0 3 77)) (line (fun _ => { badIf (fun l => l == 9) with want := 1, shown := 1, step := 5, st := 2 }))
    (fun t => (t.port 0).mode == 1 && (t.port 0).step == 3) = true := by decide +kernel
theorem test_link_init_send : after (.linkInitSend p0) (line (fun p => { p with step := 4, seen := true })) (fun t => (t.port 0).sentSeen && (t.port 0).lcq.map (fun b => b.take 4) == [[1, 1, 1, 2]]) = true := by
  decide +kernel
theorem test_link_init_receive : after (.linkInitReceive p0) (shake 1 3) (fun t => (t.port 0).st == 2 && (t.port 0).step == 5 && (t.port 0).peerPlace == 1) = true ∧
    after (.linkInitReceive p0) (shake 0 4) (fun t => (t.port 0).st == 3) = true := by decide +kernel

/-! ### Flits -/

/-- A data flit of VC5, number `q`, too short for a packet; a NAK in an idle flit. -/
def dataF (q : Nat) : Frame := ⟨1, 6, true, false, 8, 0, [], leBytes 8 9, q, 0, 2⟩
def nakF : Frame := ⟨0, 0, false, false, 0, 0, [], [], 0, 4, 1⟩
def flits (f : Port → Port) : State := line (fun p => f { p with st := 2, step := 5, align := 2, mode := 0 })
def sentF (q : Nat) : TxFlit := ⟨q, 6, true, true, pk 6 0x21 [], 0⟩
/-- A CENSUS packet waits on VC5 with its credit. -/
def ready5 : State := flits (fun p => { p with txq := [(6, [pk 6 0x21 (leBytes 16 1)])], credits := [(6, 1)] })

/-- A port that has sent flits of `l`, the next number `q`. -/
def gotF (l : List TxFlit) (q : Nat) : Port := { Port.zero with replay := l, txSeq := q }
/-- The levels of the codeword that carries data flits 5 and 6, its generators at rest, and a port that expects flit 5. -/
def bytes56 : List (BitVec 8) := (dataF 5).bytes ++ (dataF 6).bytes
def lanes56 : List (List (Fin 4)) := restLanes (codeword bytes56)
def awaits5 : State := flits (fun p => { p with rxSeq := 5 })

set_option maxRecDepth 20000 in
-- the port reads the two flits' bytes from the levels, whatever the check symbols are
theorem witness_codeword : codewordData ((awaits5.port 0).readSlot lanes56).2 = some bytes56 := by
  rw [lanes56, readSlot_restLanes _ _ (codeword_symbols _) rfl (fun _ => rfl), codewordData_codeword]
  decide +kernel

set_option maxRecDepth 20000 in
theorem witness_FlitCommands : bytes56.take 280 = (dataF 5).bytes ∧ (bytes56.drop 280).take 280 = (dataF 6).bytes ∧ frameCrcOk (dataF 5).bytes = true ∧ frameCrcOk (dataF 6).bytes = true ∧ (Frame.ofBytes (dataF 5).bytes).ft = 1 ∧ (Frame.ofBytes (dataF 5).bytes).vcc = 6 ∧
    (List.range 32).length ≤ 32 ∧ 32 < (List.range 33).length ∧ (ready5.chooseVc (ready5.port 0)).2 = some 6 ∧
    (5 + 4096 - 6) % 4096 ≥ 2048 ∧ 0 < (6 + 4096 - 5) % 4096 ∧ (6 + 4096 - 5) % 4096 < 2048 ∧ ready5.enabled 0 = true ∧
    ([sentF 4, sentF 5].any (fun x => x.seq == nakF.ackseq)) = true ∧ ((gotF [] 6).acked nakF.ackseq).2 = true ∧ ((gotF [sentF 4] 6).acked nakF.ackseq).2 = false := by decide +kernel

theorem test_data_flit : after (.dataFlitReceive p0) (flits (fun p => { p with frames := [dataF 4095], rxSeq := 4095 })) (fun t => (t.port 0).rxSeq == 0) = true ∧
    after (.dataFlitReceive p0) (flits (fun p => { p with frames := [dataF 6], rxSeq := 5 }))
      (fun t => (t.port 0).nak == some (4, 2000000000) && (t.port 0).rxSeq == 5) = true := by decide +kernel
-- one uncorrectable codeword ends CONFIRMING
theorem test_codeword_bad : (((flits (fun p => { p with step := 3, align := 1 })).badWord 0).port 0).align = 0 := by decide +kernel
-- 33 symbols in error fail the two data flits and draw a NAK
theorem test_codeword_failed : isDataFrame (bytes56.take 280) = true ∧ ((((awaits5.badWord 0).flitFailed 0).port 0).nak = some (4, 2000000000)) := by decide +kernel
theorem test_nak_receive : after (.nakReceive p0) (flits (fun p => { p with frames := [nakF], replay := [sentF 4, sentF 5], txSeq := 6 }))
    (fun t => (t.port 0).replay == [sentF 5] && (t.port 0).resend == 1 && (t.port 0).resendFor == some 4) = true := by decide +kernel
theorem test_nak_retry : after (.nakRetryTimeout p0) (flits (fun p => { p with nak := some (4, 1999998000), rxFails := 3 })) (fun t => (t.port 0).rxFails == 4 && (t.port 0).nakDue) = true ∧
    after (.nakRetryTimeout p0) (flits (fun p => { p with nak := some (4, 1999998000), rxFails := 4 })) (fun t => (t.port 0).step == 3) = true := by decide +kernel
theorem test_flit_transmit : after (.flitTransmit p0) ready5 (fun t => (t.port 0).txSeq == 1 && (t.port 0).txq == [] && (t.port 0).replay.map (fun f => f.seq) == [0]) = true ∧
    after (.flitTransmit p0) (flits (fun p => { p with lcq := [[2, 1]] })) (fun t => (t.port 0).lcq == [] && (t.port 0).txSeq == 0) = true := by decide +kernel

/-! ### Packets -/

/-- A packet for address `a` of place 0, sent by core 0 of place 8; port 1 faces west. -/
def pa (opc vc a : Nat) (content : List (BitVec 8)) : Packet := { pk vc opc content with addr := a }
def q (p : Packet) : State := gets p (base.setObj .portRole 3 1)
def w300 : Nat := sramMla 300 64
def pushP : Packet := { pa 4 1 (sramMla 0 0) (List.replicate 8 9) with hdr := [0, 1, 0, 0] }
def tagged (ref : TagRef) (p : Packet) : State :=
  { withReq (rq .store .away []) with ports := [(0, { Port.zero with rxq := [p], tags := [⟨4, ref, 9⟩], st := 2, step := 5 })] }
def ackP : Packet := { pa 9 4 0 [] with tag := 4, sendt := 9 }

/-- A packet that came by port 0 stands at its endpoint. -/
def landed (p : Packet) : State :=
  let s := stands 1792 (inPort { Port.zero with st := 2, step := 5 } (base.setObj .portRole 2))
  { s with fab := { s.fab with inb := [⟨7, 0, 0, 0, p.vc, p⟩] } }
/-- A packet at port 0, which faces west; port 1 faces east and is up. -/
def through (p : Packet) : State :=
  { (base.setObj .portRole 3 0).setObj .portRole 2 1 with
    ports := [(0, { Port.zero with st := 2, step := 5, rxq := [p] }), (1, { Port.zero with st := 2, step := 5 })] }
def readP : Packet := { pa 1 3 w300 [] with len := 8 }
def writeP : Packet := pa 3 1 w300 (List.replicate 8 9)
def fippleP : Packet := { pa 5 5 w300 (List.replicate 8 9) with valve := 47 }
def crossP : Packet := { ackP with rport := 1 }

theorem witness_FelunPackets : (q readP).takePacket 0 (fun p => p.opc == 1) = some readP ∧ (q readP).inbReady 0 1 = none ∧
    (q readP).canEmit (attachEndp 0 ((q readP).endpOf (.sram 300 64)).region) readP.wafer.1 = true ∧ (readBytes 8).bind (base.remoteRegion w300) = some (.sram 300 64) ∧
    (readBytes 64).bind (base.remoteRegion w300) = none ∧ (q readP).remoteRegion (2 ^ 40 - 1) 8 = none ∧ (q readP).takePacket 0 (fun p => p.opc == 8) = none ∧
    ((landed readP).inbReady 0 1).map (fun r => r.1.pkt) = some readP ∧ ((landed writeP).inbReady 0 3).map (fun r => r.1.pkt) = some writeP ∧
    ((landed pushP).inbReady 0 4).map (fun r => r.1.pkt) = some pushP ∧ ((landed fippleP).inbReady 0 5).map (fun r => r.1.pkt) = some fippleP ∧
    ((landed { pa 8 5 (sramMla 300 0) [] with hdr := [15, 6] }).inbReady 0 8).isSome = true ∧
    base.waitsAt (.sram 300 64) = false ∧ (dark base).waitsAt (.sram 300 64) = true ∧ base.memoryOff (.sram 300 64) = false ∧
    (base.setObj .regionState 4 (regionOfCore 300)).memoryOff (.sram 300 64) = true ∧ base.fillWaits (.sram 300 64) = false ∧
    (base.poolAccess w300 8 false true).2 = some w300 ∧ (base.poolAccess w300 8 true true).2 = some w300 ∧ regionOf w300 = .sram 300 64 ∧
    (landed pushP).packetCore pushP 1 = some (.sram 0 0) ∧ base.asleep 0 = false ∧ base.regionOff 0 = false ∧
    ((base.core 0).slot 0).st = .closed ∧ ((base.core 0).slot 0).bankOrigin = none ∧ ((base.core 0).slot 0).credits = [] ∧
    (tagged (.req 7) ackP).takePacket 0 (fun x => x.opc == 9 && ((tagged (.req 7) ackP).chunkTag x).isNone) = some ackP ∧ ackP.rport = 0 ∧
    (tagged (.req 7) ackP).fab.inb = [] ∧ (tagged (.req 7) ackP).canEmit (attachEndp 0 0) ackP.wafer.1 = true ∧
    ((tagged (.req 7) ackP).matchTag ackP).map (fun g => g.num) = some 4 ∧ ((tagged (.req 7) { ackP with sendt := 8 }).matchTag { ackP with sendt := 8 }) = none ∧
    (tagged (.req 7) crossP).takePacket 0 (fun x => x.opc == 9 && ((tagged (.req 7) crossP).chunkTag x).isNone) = some crossP ∧
    (q { pa 1 3 0 [] with dplace := 9 }).isHere 9 = false ∧ (q (pa 1 3 0 [])).isHere 0 = true ∧
    ((through { readP with dplace := 7 }).nextHop { readP with dplace := 7 } (axisOf 3)) = some (1, 3) ∧ (through readP).canEmit (attachEndp 0 0) readP.wafer.1 = true ∧
    (q readP).nextHop { readP with dplace := 7 } none = none ∧
    ({ base with gtc := 1000 * base.obj .timeoutRemote }).tierTimeout 1 ≤ 2 ^ 60 ∧ 0 < base.tierTimeout 1 ∧ (q (pk 6 0x20 [])).chainAnswer 0 [] = none := by decide +kernel

-- from the port's buffer into the wafer, towards core 300
theorem test_felun_enters : after (.felunRead p0) (q readP) (fun t => (t.port 0).rxq == [] && t.fab.inb.map (fun i => i.pkt) == [readP] &&
    t.fab.pkts.map (fun k => (k.cls, k.dst == t.coreEndp 300)) == [(0, true)]) = true := by decide +kernel
-- LEN 64 is no length of a READ
theorem test_felun_read : after (.felunRead p0) { landed { readP with splace := 7 } with mem := [(w300, 9)] } (fun t => t.fab.inb.map (fun i => (i.stage, i.pkt.opc, i.pkt.content.take 1)) == [(1, 2, [9])]) = true ∧
    after (.felunRead p0) (q { readP with len := 64 }) (fun t => t.obj .addrErrorsRemote == 1 && (t.port 0).rxq == []) = true := by decide +kernel
theorem test_felun_write : after (.felunWrite p0) (landed writeP) (fun t => memByte t.mem w300 == 9 && memByte t.mem (w300 + 8) == 0) = true ∧
    after (.felunWrite p0) (q (pa 3 1 (2 ^ 40 - 1) (List.replicate 8 9))) (fun t => t.obj .addrErrorsRemote == 1 && t.mem == []) = true := by decide +kernel
theorem test_felun_push : after (.felunPush p0) (landed pushP) (fun t => t.fab.pkts.all (fun k => k.ref != 1792) && t.mem == []) = true := by decide +kernel
theorem test_felun_fipple : after (.felunFipple p0) (landed fippleP) (fun t => memByte t.mem w300 == 9 && ((t.core 300).valve 47).isOpen) = true := by decide +kernel
theorem test_felun_vset : after (.felunVset p0) (landed { pa 6 5 w300 [] with valve := 47 }) (fun t => ((t.core 300).valve 47).isOpen) = true ∧
    after (.felunVset p0) (q { pa 6 5 w300 [] with valve := 48 }) (fun t => t.obj .addrErrorsRemote == 1) = true := by decide +kernel
theorem test_felun_tadd : after (.felunTadd p0) (landed (pa 7 5 (sramMla 300 15) (leBytes 8 9))) (fun t => ((t.core 300).tally 15).value == 9) = true := by decide +kernel
theorem test_felun_credit : after (.felunCredit p0) (landed { pa 8 5 (sramMla 300 0) [] with hdr := [15, 6] }) (fun t => ((t.core 300).slot 15).credits == [6] && t.fab.inb == []) = true := by
  decide +kernel
theorem test_ack_crosses : after (.felunAck p0) (tagged (.req 7) crossP) (fun t => (t.port 0).rxq == [] && t.fab.inb.map (fun i => (i.stage, i.out)) == [(2, 1)]) = true := by decide +kernel
theorem test_felun_ack : after (.felunAck p0) (tagged (.req 7) ackP) (fun t => t.reqs.map (fun r => r.stage) == [.answered 0 [] none] && (t.port 0).tags == []) = true ∧
    after (.felunAck p0) (tagged (.req 7) { ackP with sendt := 8 }) (fun t => t.obj .portCounters 0 12 == 1 && (t.port 0).tags.length == 1) = true := by decide +kernel
theorem test_felun_rdata : after (.felunRdata p0) { tagged (.req 7) { pa 2 4 0 (leBytes 8 9) with tag := 4, sendt := 9 } with reqs := [rq (.load 1 3 false) .away []] }
    (fun t => t.reqs.map (fun r => r.stage) == [.answered 0 (leBytes 8 9) none]) = true := by decide +kernel
theorem test_felun_mgmt : after (.felunMgmt p0) (q (pk 6 0x20 [])) (fun t => (t.port 0).rxq == []) = true := by decide +kernel
theorem test_felun_census : after (.felunCensus p0) (gets (pk 6 0x21 (requestBytes 7)) (job [])) (fun t => t.obj .censusState == 1) = true := by decide +kernel
-- for another place: across the wafer to the port that faces it, or turned back where none does
theorem test_forward : after (.packetForward p0 3) (through { readP with dplace := 7 }) (fun t => (t.port 0).rxq == [] && t.fab.inb.map (fun i => (i.stage, i.out)) == [(1, 1)]) = true ∧
    after (.packetForward p0 3) (q { readP with dplace := 7 }) (fun t => (t.port 0).rxq == [] && t.fab.inb == []) = true := by decide +kernel
theorem test_tag_timeout : after (.tagTimeout p0 4) (late (late { tagged (.req 7) ackP with gtc := 2 ^ 50 })) (fun t => (t.port 0).tags.length == 1) = true ∧
    after (.tagTimeout p0 4) { tagged (.req 7) ackP with gtc := 2 ^ 50 } (fun t => (t.port 0).tags == [] && (t.port 0).tagLru == [4]) = true := by decide +kernel
theorem test_imbalance : after .portImbalanceWindow (inPort { Port.zero with aboveRun := 99, winTx := 1000000000 } ((base.setObj .portRole 2).setObj .portRole 2 1))
    (fun t => (t.port 0).winTx == 0) = true := by decide +kernel

/-! ### Time between modules, port registers -/

def tsyncF : Frame := { linkF 0 0 with payload := leBytes 1 3 ++ leBytes 7 0 ++ leBytes 8 110 ++ leBytes 8 100 ++ leBytes 3 1 ++ leBytes 1 2 ++ leBytes 2 3, len := 30 }
def rooted (r : Nat) (th : List Int) : State :=
  inPort { Port.zero with st := 2, step := 5, peerRoot := r, peerDist := 3, thetas := th } ((base.setObj .portRole 2).setObj .timeRoot r)

theorem witness_TimeAndPortRegisters : ({ Port.zero with frames := [tsyncF] }).lcFrame 3 = some tsyncF ∧ (rooted 0xFFFFFF []).freeRunning = true ∧
    (rooted 0 []).freeRunning = false ∧ (rooted 0 []).isRoot = true ∧ (rooted 1 []).isRoot = false ∧ (rooted 1 []).timeParent = some 0 ∧
    (rooted 8 []).timeParent = none ∧ (List.replicate 16 (20000 : Int)).length = 16 ∧ base.obj .moduleState = 1 ∧ 2 ≤ (job []).obj .moduleState ∧
    (job []).jobRuns = true ∧ base.jobRuns = false ∧ ({ (List.range 1).foldl (fun (s : State) z => s.setObj .zmap z 0 z) base with gtc := 0 }).obj .zmap 0 0 = 0 := by
  decide +kernel

theorem test_tsync_send : after (.tsyncSend p0) (flits (fun p => { p with lastPair := some (6, 9, 8) })) (fun t => (t.port 0).lcq.map (fun b => b.take 4) == [[3, 0, 6, 0]]) = true := by
  decide +kernel
theorem test_tsync_receive : after (.tsyncReceive p0) (line (fun p => { p with frames := [tsyncF], lastPair := some (6, 9, 4) }))
    (fun t => (t.port 0).thetas == [5] && (t.port 0).peerDist == 3) = true := by decide +kernel
theorem test_time_loop : after .timeLoopUpdate (rooted 0 []) (fun t => t.obj .timeSync == 4) = true ∧ after .timeLoopUpdate (rooted 1 []) (fun t => t.obj .timeSync == 1) = true ∧
    after .timeLoopUpdate (rooted 1 (List.replicate 16 20000)) (fun t => t.gtc == 10000 && t.time.theta == 160000 && t.time.dist == 4) = true := by decide +kernel
theorem test_port_role : after (.portRoleWrite p0 7) base (fun t => t.obj .portRole == 7 && (t.port 0).incarn == 1 && (t.port 0).st == 1) = true ∧
    after (.portRoleWrite p0 8) base (fun t => t.obj .portRole == base.obj .portRole) = true := by decide +kernel
theorem test_port_retrain : after (.portRetrain p0) (line (fun p => { p with st := 2, step := 5, mode := 2, want := 2 })) (fun t => (t.port 0).step == 2 && (t.port 0).mode == 0) = true := by
  decide +kernel
theorem test_fp_retrain : after (.fpRetrain p0) (line (fun p => { p with st := 2, step := 5, mode := 2 })) (fun t => (t.port 0).step == 2 && (t.port 0).want == 0) = true := by
  decide +kernel
theorem test_port_disable : after (.portDisable p0) (line (fun p => { p with st := 2, step := 5 })) (fun t => (t.port 0).txoff && (t.port 0).st == 0) = true := by decide +kernel
theorem test_port_enable : after (.portEnable p0) (line (fun p => { p with txoff := true })) (fun t => !(t.port 0).txoff && (t.port 0).st == 1) = true := by decide +kernel
theorem test_fp_txoff : after (.fpTxoff p0 true) (line id) (fun t => (t.port 0).txoff) = true := by decide +kernel
theorem test_felun_weights : after (.felunWeightsWrite 0x0A141414141E) base (fun t => t.obj .felunWeights == base.obj .felunWeights) = true ∧
    after (.felunWeightsWrite 0x0A141414141C) base (fun t => t.obj .felunWeights == base.obj .felunWeights) = true ∧
    after (.felunWeightsWrite 0x0A1414141414) base (fun t => t.obj .felunWeights == 0x0A1414141414) = true := by decide +kernel

/-! ### Weight pages -/

/-- A Weight port that is Up, epoch 0; its mouthpiece runs a plan of one entry: page 0x55, one RECV destination, tile 0, to slot 1 of
core 300, one credit in hand. -/
def destW : Word := BitVec.ofNat 64 (1 * 2 ^ 49 + 1 * 2 ^ 40 + sramMla 300 0)
def plan : Bank := ⟨[(0, 0x55), (1, BitVec.ofNat 64 (2 ^ 63 + 1 * 2 ^ 47))], [(0, destW)]⟩
def grantW : Granted := ⟨4, 0, 0, ⟨0x55, false, 0, [(0, destW)]⟩, 0, 0, [(0, 1, 0)], some 0, false⟩
def wport (f : Port → Port) (m : Mouth) (os : List (Obj × Nat)) : State :=
  { ((Obj.portRole, 1) :: os).foldl (fun (s : State) (o : Obj × Nat) => s.setObj o.1 o.2) base with
    ports := [(0, f { Port.zero with st := 2, step := 5, peerPlace := 8, tags := [⟨4, .run 2, 9⟩] })], mouths := [(0, m)], banks := [(0, plan)], gtc := 1000000 }
def mRun : Mouth := { Mouth.zero with running := true, pairs := [⟨300, 1, 1, 1, 0⟩] }
def mWait : Mouth := { mRun with runs := [⟨2, [4]⟩], grants := [grantW] }
def page (opc : Nat) (hdr : List Word) (content : List (BitVec 8)) : Packet :=
  { pk 0 opc content with tag := 4, sendt := 9, hdr := hdr }
def tileP : Packet := { page 0x11 [0x55, 0, 0, 0] (List.replicate 8 9) with len := 4224 }
def errP : Packet := page 0x12 [0, 2 ^ 19, 0, 0] []
def tabP : Packet := page 0x13 [0, 1 * 2 ^ 7 + 9 * 2 ^ 15, 0, 0] (leBytes 8 0x11)
def cp (kind addr : Nat) : Copy := ⟨7, 4, false, kind, addr, 1, 1, 0, List.replicate 8 9, [], [], [], false⟩
def credM : Credit := ⟨7, globalHere (sramMla 300 0), 1, 0, mouthSlot, 1⟩

theorem witness_WeightPages : (wport id mRun []).holding = false ∧ (wport id mRun []).walks 0 = true ∧ (wport id mRun []).obj .ingressMode = 0 ∧
    mRun.runs.length < (wport id mRun []).obj .mpReqs ∧ ((wport id mRun []).reserveRun 0).map (fun r => r.2) = some [0] ∧
    ((wport id mRun []).port 0).freeTag = some 1 ∧ (wport id mRun [(.ingressMode, 1)]).obj .ingressMode = 1 ∧
    (wport (fun p => { p with rxq := [tileP] }) mWait []).takePacket 0 (fun x => x.opc == 0x11) = some tileP ∧
    (wport id mWait []).epochOk 0 tileP = none ∧ (wport id mWait []).tagHeld 0 tileP = true ∧ (wport id mWait []).tagHeld 0 { tileP with tag := 5 } = false ∧
    (wport id mWait []).wantOf 0 tileP 0 = some grantW ∧ tileP.word 0 = (((wport id mWait []).bank 0 0).entry 0).pageId ∧ tileP.poisoned = [] ∧
    bitsOf (tileP.word 2) 32 20 = 0 ∧ bitsOf (errP.word 1) 25 19 = 1 ∧ mWait.runs.find? (fun x => x.num == 2) = some ⟨2, [4]⟩ ∧
    [4].filterMap mWait.want = [grantW] ∧ bitsOf (tabP.word 1) 14 7 = 1 ∧
    (wport id mWait []).planRec 0 0 0 = grantW.plan ∧ (grantW.plan.ds.filter (fun d => d.2.names grantW.tile)).length = 1 ∧
    base.copyRegion 0 (sramMla 300 0) = some (.sram 300 0) ∧ base.copyRegion 1 (sramMla 300 0) = some (.sram 300 0) ∧ base.copyRegion 0 (2 ^ 40 - 1) = none ∧
    base.waitsAt (.sram 300 0) = false ∧ base.regionOff 300 = false ∧ base.memoryOff (.sram 300 0) = false ∧
    (stands 1792 (wport id { mRun with copies := [cp 1 (sramMla 300 0)] } [])).legFor 1792 1 ≠ none ∧
    (wport id { mRun with copies := [cp 1 (sramMla 300 0)] } []).legFor 1792 1 = none ∧ (stands 1792 (wport id mRun [])).standing 1792 ≠ none ∧
    (coreOfWord credM.origin).getD 0 = 300 ∧ ({ wport id mRun [] with credits := [credM] }).ringDests 0 = [destW] ∧
    ((wport id mRun []).bank 0 0).valid = true ∧ ((wport id mRun []).bank 0 1).valid = false ∧ (wport id mWait []).weightPorts.head? = some 0 ∧
    (wport id mRun []).swapOk 1 = false ∧ follows 1 ((wport id mRun []).obj .pepoch) = true ∧ follows 0 ((wport id mRun []).obj .pepoch) = false ∧
    (wport id mRun []).epochBusy = false ∧ (wport id mWait []).epochBusy = true := by decide +kernel

theorem test_pgreq : after (.pgreqIssue p0) (wport id mRun []) (fun t => (t.mouth 0).runs.map (fun r => r.tiles) == [[0]] && (t.mouth 0).pairs.map (fun q => q.credits) == [0] &&
    ((aget [] (t.port 0).txq 5).map (fun k => (k.opc, k.word 0)) == [(0x10, 0x55)])) = true := by decide +kernel
theorem test_pgrant : after (.pgrantSend p0) (wport id mRun [(.ingressMode, 1)]) (fun t => (t.mouth 0).grantedSent == 1 && (aget [] (t.port 0).txq 5).map (fun k => k.opc) == [0x14]) = true := by
  decide +kernel
theorem test_pgtile : after (.pgtileReceive p0) (wport (fun p => { p with rxq := [tileP] }) mWait [])
    (fun t => (t.mouth 0).grants == [] && (t.mouth 0).copies.map (fun c => (c.slot, c.gen, c.failed)) == [(1, 1, false)] && t.obj .mpCounters 0 0 == 1) = true := by decide +kernel
theorem test_pgerr : after (.pgerrReceive p0) (wport (fun p => { p with rxq := [errP] }) mWait []) (fun t => (t.mouth 0).grants.map (fun g => g.second) == [true]) = true ∧
    after (.pgerrReceive p0) (wport (fun p => { p with rxq := [errP] }) { mWait with grants := [{ grantW with second := true }] } [])
      (fun t => (t.mouth 0).grants == [] && t.obj .mpCounters 0 3 == 1) = true := by decide +kernel
-- two symbols of length 1: their sum is 1
theorem test_ctab : after (.ctabReceive p0) (wport (fun p => { p with rxq := [tabP] }) mRun []) (fun t => ((t.mouth 0).table 1).valid && ((t.mouth 0).table 1).four) = true := by
  decide +kernel
theorem test_copy : after (.mouthpieceCopyWrite p0 7) (stands 1792 (wport id { mRun with copies := [cp 1 (sramMla 300 0)] } []))
    (fun t => memByte t.mem (sramMla 300 7) == 9 && (t.mouth 0).copies == []) = true := by decide +kernel
theorem test_mouth_credit : after (.mouthpieceCredit 7) (stands 1792 { wport id mRun [] with credits := [credM] }) (fun t => (t.mouth 0).pairs.map (fun q => q.credits) == [2] && t.credits == []) = true := by
  decide +kernel
theorem test_page_retry : after (.pageRetryTimeout p0 4) { wport id mWait [] with gtc := 2 ^ 50 } (fun t => (t.mouth 0).grants.map (fun g => g.second) == [true]) = true ∧
    after (.pageRetryTimeout p0 4) { wport id mWait [] with gtc := 0 } (fun t => (t.mouth 0).grants == [grantW]) = true := by decide +kernel
theorem test_tile_lasting : after (.tileLastingTimeout p0 4) { wport id mWait [] with gtc := 2 ^ 50 } (fun t => (t.mouth 0).grants == [] && (t.mouth 0).copies.map (fun c => c.failed) == [true]) = true := by
  decide +kernel
theorem test_plan_stop : after .planStop (wport id mWait []) (fun t => t.mouth 0 == { mWait with running := false }) = true := by decide +kernel
theorem test_epoch : after (.epochCmd 1) (wport id mRun []) (fun t => t.epochTo == some 1 && (t.mouth 0).stalled) = true ∧
    after (.epochCmd 0) (wport id mRun []) (fun t => t.epochTo == none) = true := by decide +kernel
theorem test_epoch_complete : after .epochAdvanceComplete { wport id mRun [] with epochTo := some 1 } (fun t => t.obj .pepoch == 1 && t.epochTo == none) = true ∧
    after .epochAdvanceComplete { wport id mWait [] with epochTo := some 1 } (fun t => t.obj .pepoch == 0) = true := by decide +kernel

/-! ### Gradients and chunks -/

/-- Queues of 16 entries in die 0's stacked tier; PI as memory holds it. -/
def eq0 (os : List (Obj × Nat)) (pi : BitVec 8) (b : Bell) : State :=
  { wport id mRun (os ++ [(.eqBase, 4096), (.eqSize, 16), (.cqBase, 8192), (.cqSize, 16), (.poolCount, 0)]) with
    bells := [(0, b)], mem := if pi = 0 then [] else [(4096, pi), (8192, pi)] }
def openE : BellEntry := ⟨0, List.replicate 8 0, 0, false, false, none⟩
def gackP (st : Nat) : Packet := { page 0x16 [0, 0, 0, 0] [] with vc := 5, status := st }
def acking (ref : TagRef) (k : Packet) : State :=
  { eq0 [] 0 { Bell.zero with gOpen := [openE], cOpen := [openE], gTaken := 1, cTaken := 1 } with
    ports := [(0, { Port.zero with st := 2, step := 5, tags := [⟨4, ref, 9⟩], rxq := [k] })] }
def chunkA (st : Nat) : Packet := { pk 4 9 [] with tag := 4, sendt := 9, status := st }
/-- The acknowledgement came by port 1 and has crossed the wafer. -/
def crossA : State :=
  let s := stands 2048 (acking (.chunk 0) (chunkA 0))
  { s with fab := { s.fab with inb := [⟨8, 1, 2, 0, 4, chunkA 0⟩] } }
def chunkP (e : Nat) : Packet :=
  { page 0x18 [0, BitVec.ofNat 64 (e * 2 ^ 48), 0, BitVec.ofNat 64 (sramMla 300 0)] [] with vc := 1, addr := sramMla 300 4096, valve := 63 }
def gotChunk (e : Nat) : State := wport (fun p => { p with rxq := [chunkP e] }) mRun [(.portRole, 2)]

theorem witness_GradientsAndChunks : (eq0 [] 1 Bell.zero).holding = false ∧ ((eq0 [] 1 Bell.zero).bell 0).stopped = false ∧ (eq0 [] 1 Bell.zero).epochTo = none ∧
    ((eq0 [] 1 Bell.zero).bellRead 4096 8).map (fun r => leNat r.2) = some 1 ∧ ((eq0 [] 0 Bell.zero).bellRead 8192 8).map (fun r => leNat r.2) = some 0 ∧
    ((eq0 [] 1 { Bell.zero with gPi := 1 }).takeEgress 0).isSome = true ∧ ((eq0 [(.portRole, 2)] 1 { Bell.zero with cPi := 1 }).takeChunk 0).isSome = true ∧
    (acking (.gpage 0) (gackP 0)).takePacket 0 (fun x => x.opc == 0x16) = some (gackP 0) ∧ (acking (.gpage 0) (gackP 0)).epochOk 0 (gackP 0) = none ∧
    (acking (.gpage 0) (gackP 0)).bell 0 = { Bell.zero with gOpen := [openE], cOpen := [openE], gTaken := 1, cTaken := 1 } ∧
    (acking (.chunk 0) (chunkA 0)).chunkTag (chunkA 0) = some (0, ⟨4, .chunk 0, 9⟩) ∧
    0 + 1000 * (eq0 [] 0 Bell.zero).obj .pageRetry < (eq0 [] 0 Bell.zero).tierTimeout 1 ∧
    ((acking (.gpage 0) (gackP 0)).sendGradient 0 0 openE.words).isSome = true ∧
    (acking (.chunk 0) (chunkA 0)).fab.inb = [] ∧ (chunkA 0).rport = 0 ∧ ({ chunkA 0 with rport := 1 } : Packet).rport ≠ 0 ∧
    (acking (.chunk 0) (chunkA 0)).takePacket 0 (fun x => x.opc == 9 && ((acking (.chunk 0) (chunkA 0)).chunkTag x).isSome) = some (chunkA 0) ∧
    crossA.fab.inb.find? (fun i => i.out == 0 && i.stage == 2 && i.pkt.opc == 9 && (crossA.inbStands i).isSome && (crossA.chunkTag i.pkt).isSome) =
      some ⟨8, 1, 2, 0, 4, chunkA 0⟩ ∧ crossA.chunkTag (chunkA 0) = some (0, ⟨4, .chunk 0, 9⟩) ∧
    (gotChunk 0).takePacket 0 (fun x => x.opc == 0x18) = some (chunkP 0) ∧ (gotChunk 0).chunkTarget (chunkP 0) = true ∧
    (gotChunk 0).chunkTarget { chunkP 0 with addr := 5 } = false ∧ (gotChunk 0).waitsAt ((gotChunk 0).region (chunkP 0).addr) = false ∧
    (gotChunk 0).memoryOff ((gotChunk 0).region (chunkP 0).addr) = false ∧
    ((gotChunk 0).poolAccess (chunkP 0).addr 4096 true true).2 = some (sramMla 300 4096) ∧ follows 1 0 = true ∧ follows 0 1 = false := by decide +kernel

-- an entry of zeros: 0 tiles, refused with 0x05
theorem test_egress_poll : after (.egressPoll p0) (eq0 [] 1 Bell.zero) (fun t => (t.bell 0).gTaken == 1 && (t.bell 0).gCi == 1 && memByte t.mem (4096 + 64 + 47) == 5) = true := by
  decide +kernel
theorem test_chunk_poll : after (.chunkQueuePoll p0) (eq0 [(.portRole, 2)] 1 Bell.zero) (fun t => t.obj .chunkTx 0 5 == 1 && t.obj .chunkTx 0 0 == 1 && (t.bell 0).cPi == 1) = true := by decide +kernel
theorem test_gack : after (.gackReceive p0) (acking (.gpage 0) (gackP 0)) (fun t => t.obj .bellCounters 0 0 == 1 && (t.bell 0).gCi == 1 && memByte t.mem (4096 + 64 + 47) == 1) = true ∧
    after (.gackReceive p0) (acking (.gpage 0) (gackP 2)) (fun t => t.obj .bellCounters 0 3 == 1 && memByte t.mem (4096 + 64 + 47) == 3) = true := by decide +kernel
theorem test_gradient_retry : after (.gradientRetryTimeout p0 0) { acking (.gpage 0) (gackP 0) with gtc := 2 ^ 50 } (fun t => t.obj .bellCounters 0 2 == 1 && (t.bell 0).gOpen == []) = true := by
  decide +kernel
theorem test_chunk_ack : after (.chunkAckReceive p0) (acking (.chunk 0) (chunkA 0)) (fun t => t.obj .chunkTx 0 1 == 1 && memByte t.mem (8192 + 64 + 55) == 1) = true ∧
    after (.chunkAckReceive p0) (acking (.chunk 0) (chunkA 3)) (fun t => t.obj .chunkTx 0 6 == 1 && memByte t.mem (8192 + 64 + 55) == 7) = true := by decide +kernel
theorem test_chunk_ack_crossed : after (.chunkAckReceive p0) crossA (fun t => t.obj .chunkTx 0 1 == 1 && t.fab.inb == []) = true := by decide +kernel
theorem test_chunk_timeout : after (.chunkAckTimeout p0 0) { acking (.chunk 0) (chunkA 0) with gtc := 2 ^ 50 } (fun t => t.obj .chunkTx 0 4 == 1 && (t.bell 0).cCi == 1) = true := by decide +kernel
theorem test_chunk_refused : after (.chunkLand p0) (gotChunk 1) (fun t => t.obj .chunkRx 0 8 == 1 && t.mem == []) = true ∧
    after (.chunkLand p0) (gotChunk 0xFFFF) (fun t => t.obj .chunkRx 0 7 == 1 && t.mem == []) = true := by decide +kernel

/-! ### Host accesses -/

def hl (l : Fin 2) (h : HostIf) (s : State) : State := { s with hst := { h with links := [(l.val, { PcieLink.zero with up := true })] } }
def bar2 (a : Nat) : BitVec 38 := BitVec.ofNat 38 a
def apr (w : ApWho) : ApRead := ⟨w, 0, 0, 8, 0⟩
def apw (ref : Nat) : ApWrite := ⟨ref, 0, false, 0, []⟩
def reading (w : ApWho) : State := hl 0 { HostIf.zero with apReads := [apr w] } (withReq (rq (.load 1 3 false) .away []))

theorem witness_HostAccesses : base.bar2Region (2 ^ 38 - 1) 1 = none ∧ base.bar2Region w300 8 = some (.sram 300 64) ∧ base.asleep 300 = false ∧
    base.memoryOff (.sram 300 64) = false ∧ base.bar2Region 0x30000000C0 8 = some (.ccb 0 0xC0) ∧ base.memoryOff (.ccb 0 0xC0) = false ∧
    (0x2000000 + 127 * 0x1000) % 8 = 0 ∧ 0x2000000 + 127 * 0x1000 < 2 ^ 28 ∧ (base.link 0).up = false ∧ ((reading (.req 7)).link 0).up = true ∧
    (reading (.req 7)).hst.apReads[0]? = some (apr (.req 7)) ∧ (reading (.bar2 8)).hst.apReads[0]? = some (apr (.bar2 8)) ∧
    (reading (.req 7)).findReq 7 = some (rq (.load 1 3 false) .away []) ∧ 0 < base.tierTimeout 2 ∧ base.tierTimeout 2 ≤ 2 ^ 50 ∧
    takeFirst (fun (x : ApWrite) => x.ref == 7) [apw 7, apw 7] = some (apw 7, [apw 7]) ∧ base.findTile 7 = none := by decide +kernel

theorem test_bar2_read : after (.bar2Read 0 (bar2 w300) 8) { base with mem := [(w300, 9)] } (fun t => t.hst.cpl == some ⟨0, leBytes 8 9, false⟩) = true ∧
    after (.bar2Read 0 (bar2 (2 ^ 38 - 1)) 1) base (fun t => t.hst.cpl == some ⟨1, [], false⟩ && t.obj .addrErrorsHost == 1) = true := by decide +kernel
theorem test_bar2_write : after (.bar2Write 0 (bar2 w300) [1, 2] false) base (fun t => t.mem == [(w300, 1), (w300 + 1, 2)]) = true ∧
    after (.bar2Write 0 (bar2 (2 ^ 38 - 1)) [1] false) base (fun t => t.obj .addrErrorsHost == 1 && t.mem == []) = true := by decide +kernel
theorem test_bar0 : after (.bar0Access 0 4 8 none) base (fun t => t.hst.cpl == some ⟨1, [], false⟩) = true ∧
    after (.bar0Access 0 0 4 (some 1)) base (fun t => t.obj .barRefused == 1) = true := by decide +kernel
theorem test_link_loss : after (.pcieLinkLoss 0) (reading (.req 7)) (fun t => !(t.link 0).up && t.hst.apReads == [] && t.obj .linkLosses 0 == 1) = true := by decide +kernel
theorem test_link_up : after (.pcieLinkUp 0 640 16 true) base (fun t => (t.link 0).up && (t.link 0).rate == 640 && (t.link 0).fmask && !(t.link 1).up) = true := by decide +kernel
theorem test_link_fail : after (.pcieLinkTrainFail 1) base (fun t => t.chb.events.map (fun e => e.code) == [0x0703]) = true := by decide +kernel
theorem test_function_reset : after (.pcieFunctionReset 0) (hl 0 { HostIf.zero with dmas := [(0, { Dma.zero 0 with en := true, st := 1 })] } base)
    (fun t => !(t.dma 0).en && (t.dma 0).st == 0 && !(t.link 0).up) = true := by decide +kernel
theorem test_ap_completion : after (.apertureCompletion 0 0 (leBytes 8 9) []) (reading (.req 7)) (fun t => t.reqs.map (fun r => r.stage) == [.answered 0 (leBytes 8 9) none] && t.hst.apReads == []) = true ∧
    after (.apertureCompletion 0 2 [] []) (reading (.bar2 8)) (fun t => t.obj .apertureErrs 0 1 == 1) = true := by decide +kernel
theorem test_ap_timeout : after (.apertureTimeout 0) (late (reading (.bar2 8))) (fun t => t.hst.apReads.length == 1) = true ∧
    after (.apertureTimeout 0) { reading (.bar2 8) with gtc := 2 ^ 50 } (fun t => t.hst.apReads == [] && t.obj .apertureErrs 0 3 == 1) = true := by decide +kernel
theorem test_ap_ack : after (.apertureWriteAck 7) (hl 0 { HostIf.zero with apWrites := [apw 7, apw 7] } (withReq (rq .store .away []))) (fun t => t.reqs.map (fun r => r.stage) == [.away] && t.hst.apWrites.length == 1) = true ∧
    after (.apertureWriteAck 7) (hl 0 { HostIf.zero with apWrites := [apw 7] } (withReq (rq .store .away []))) (fun t => t.reqs.map (fun r => r.stage) == [.answered 0 [] none]) = true := by
  decide +kernel

/-! ### Launch queues, DMA, MSI-X, mailboxes -/

/-- Queue 127: enabled on link 0, core 300, valve 47, 16 entries; its rings in die 0's stacked tier. -/
def lw0 : Word := BitVec.ofNat 64 (2 ^ 63 + 300 * 2 ^ 40 + 47 * 2 ^ 34 + 16)
def q127 : Fin 128 := ⟨127, by decide⟩
def lqS (x : LaunchQ) : State := hl 0 { HostIf.zero with queues := [(127, x)] } (((base.setObj .lqCfg lw0.toNat 127 0).setObj .lqCfg 4096 127 2).setObj .poolCount 0 0)
/-- Channel 15 on link 0 with a descriptor that is due; DIR 2 of 64 bytes from core 300's SRAM to its start. -/
def d15 : Fin 16 := 15
def dmaW : List Word := [BitVec.ofNat 64 (2 * 2 ^ 62 + 63 * 2 ^ 40), BitVec.ofNat 64 w300, BitVec.ofNat 64 (sramMla 300 0), 64, 0, 0, 0, 0]
def dm (desc : List Word) : Dma := { Dma.zero 15 with link := 0, en := true, st := 1, pi := 1, desc := desc }
def dmS (d : Dma) : State := hl 0 { HostIf.zero with dmas := [(15, d)] } { base with mem := [(w300, 9)] }
def mbS (b : Mailbox) : State := { base with chb := { base.chb with mailboxes := [(15, b)] } }
def k300 : CoreId := ⟨1, 44⟩

theorem witness_QueuesAndDma : (lqS LaunchQ.zero).lqEn 127 = true ∧ (lqS LaunchQ.zero).lqLink 127 = 0 ∧ (lqS LaunchQ.zero).lqSize 127 = 16 ∧
    (lqS LaunchQ.zero).lqValve 127 = 47 ∧ (lqS LaunchQ.zero).lqCore 127 = k300.key ∧ sub32 16 0 = 16 ∧ sub32 1 0xFFFFFFFF = 2 ∧ k0.key ≠ 300 ∧
    base.lqEn 0 = false ∧ base.jobRuns = false ∧ base.lqCfgOk lw0.toNat 4096 8192 0 = true ∧ base.lqCfgOk 15 4096 8192 0 = false ∧
    ((lqS LaunchQ.zero).link 0).up = true ∧ (((lqS LaunchQ.zero).setLq 127 { LaunchQ.zero with batch := 1 }).recordRead 4096).isSome = true ∧ (dmS (dm dmaW)).dmaHeld (dmaW.map (fun y => y.toNat)) = none ∧
    (((dmS (dm dmaW)).setObj .regionState 1 (regionOfCore 300)).dmaHeld (dmaW.map (fun y => y.toNat))).isSome = true ∧
    sub32 0 0 < 16 ∧ 16 ≤ sub32 16 0 ∧ dmaOk (dmaW.map (fun y => y.toNat)) = true ∧ dmaOk [] = false ∧ dmaW.length = 8 ∧ (dmS (dm [])).dma 15 = dm [] ∧
    ({ PcieLink.zero with up := true, table := [(511, 0)] }).canSend 255 = true ∧ PcieLink.zero.canSend 0 = false ∧ (mbS Mailbox.zero).mailbox 15 = Mailbox.zero ∧
    (4096 : BitVec 13).toNat = 4096 := by decide +kernel

theorem test_doorbell : after (.lqDoorbell 0 q127 16) (lqS LaunchQ.zero) (fun t => (t.lq 127).pi == 16 && ((t.core 300).valve 47).isOpen) = true ∧
    after (.lqDoorbell 0 q127 17) (lqS LaunchQ.zero) (fun t => (t.lq 127).pi == 0 && t.obj .doorbellRefused == 1) = true := by decide +kernel
theorem test_chead : after (.lqCheadWrite q127 9) (lqS LaunchQ.zero) (fun t => (t.lq 127).chead == 9) = true := by decide +kernel
theorem test_ci : after (.lqCiStore k300 q127 2) (lqS { LaunchQ.zero with pi := 2 }) (fun t => (t.lq 127).ci == 2) = true ∧
    after (.lqCiStore k300 q127 3) (lqS { LaunchQ.zero with pi := 2 }) (fun t => (t.lq 127).ci == 0 && t.obj .doorbellRefused == 1) = true := by decide +kernel
theorem test_cpi : after (.lqCpiStore k300 q127 3) (lqS LaunchQ.zero) (fun t => (t.lq 127).cpi == 3) = true ∧ after (.lqCpiStore k0 q127 3) (lqS LaunchQ.zero) (fun t => (t.lq 127).cpi == 0) = true := by
  decide +kernel
theorem test_lq_cfg : after (.lqCfgWrite q127 lw0 4096 8192 0) base (fun t => t.obj .lqCfg 127 1 == 4096) = true ∧ after (.lqCfgWrite q127 15 4096 8192 0) base (fun t => t.obj .lqCfg 127 1 == 0) = true := by
  decide +kernel
theorem test_copy_record : after (.completionCopy q127) (lqS { LaunchQ.zero with cpi := 1 }) (fun t => (t.lq 127).copied == 1 && t.hst.apWrites.map (fun w => w.data.length) == [32]) = true := by
  decide +kernel
theorem test_dma_doorbell : after (.dmaDoorbell d15 16) (dmS { dm [] with st := 2, pi := 0 }) (fun t => (t.dma 15).pi == 16 && (t.dma 15).st == 1) = true ∧
    after (.dmaDoorbell d15 17) (dmS (dm [])) (fun t => t.obj .doorbellRefused == 1) = true := by decide +kernel
theorem test_dma_enable : after (.dmaEnable d15) base (fun t => (t.dma 15).en && (t.dma 15).st == 2) = true := by decide +kernel
theorem test_dma_disable : after (.dmaDisable d15) (dmS (dm dmaW)) (fun t => !(t.dma 15).en && (t.dma 15).st == 1) = true := by decide +kernel
theorem test_dma_execute : after (.dmaDescriptorExecute d15 dmaW) (dmS (dm [])) (fun t => (t.dma 15).desc == dmaW) = true := by decide +kernel
theorem test_dma_complete : after (.dmaDescriptorComplete d15 [] [] [] false) (dmS (dm dmaW)) (fun t => memByte t.mem (sramMla 300 0) == 9 && (t.dma 15).ci == 1 &&
    t.hst.apWrites.map (fun w => w.data) == [leBytes 8 (2 ^ 56 + 64)]) = true := by decide +kernel
theorem test_msix : after (.msixSend 0 255) (base.setLink 0 { PcieLink.zero with up := true, table := [(511, 0)], pend := [255] }) (fun t => (t.link 0).pend == [] && (t.link 0).sent == [255]) = true := by
  decide +kernel
theorem test_mb_submit : after (.mbSubmit d15 15) (mbS Mailbox.zero) (fun t => t.obj .barRefused == 1) = true ∧ after (.mbSubmit d15 16) (mbS Mailbox.zero) (fun t => t.obj .barRefused == 0) = true := by
  decide +kernel
theorem test_mb_release : after (.mbRelease d15) (mbS { Mailbox.zero with ready := true, waiting := [[9]] }) (fun t => t.mailbox 15 == { Mailbox.zero with resp := [9], rlen := 1, ready := true }) = true := by
  decide +kernel

/-! ### The MMC's front and its services -/

/-- A PDU of a service for an object; in front of the queue; the request that it makes of client `c` with role 2. -/
def pdu (svc area entry sid : Nat) (body : List (BitVec 8)) : List (BitVec 8) :=
  leBytes 1 svc ++ [0] ++ leBytes 2 7 ++ leBytes 1 area ++ leBytes 2 entry ++ [0] ++ leBytes 2 0 ++ leBytes 2 sid ++ leBytes 2 body.length ++ [0, 0] ++ body
def m0 : Client := .pcie 15
def inb (p : List (BitVec 8)) : Inbound := ⟨m0, p, false⟩
def front (p : List (BitVec 8)) (s : State := base) : State := { s with chb := { s.chb with inbox := [inb p] } }
def rqq (svc area entry sid : Nat) (body : List (BitVec 8)) : Request := ⟨m0, sid, svc, 0, 7, (area, entry, 0), body, 2, false⟩
def sess (proven : Bool) : Session := ⟨9, m0, 0, 3, [], [], 0, 0, proven, 0, 0, [], 0, 1, [⟨7, 0, 0⟩]⟩
def inSess (proven : Bool) (s : State := base) : State := { s with chb := { s.chb with sessions := [sess proven] } }
def tr (write : Bool) : Transfer := ⟨7, 0, m0, write, (0, 0x23, 0), 1, 0, 2, 0, 0, [], 1019, 2, [], 0, false, 0⟩
def inTr (write : Bool) : State := { base with chb := { base.chb with transfers := [tr write] } }
def opens : State := base.setObj .mkeyRole 3 7
def openB : List (BitVec 8) := [7, 3, 0, 0] ++ List.replicate 16 1
def tune : Request := rqq 2 2 0x12 0 [100, 0, 0, 0]
def keptS : State := { base with chb := { base.chb with caches := [⟨0, m0, [⟨7, 1, (0, 0x23, 0), [], 0, [1, 0], 0⟩]⟩] } }
/-- The service, status and body of the newest message. -/
def said (svc st : Nat) (body : List (BitVec 8)) (t : State) : Bool :=
  match t.chb.sent with | m :: _ => m.svc == svc && m.status == st && m.body == body && m.client == m0 | [] => false

theorem witness_ChaboharFrontAndServices : (front (pdu 1 0 0x23 0 [])).chb.inbox = [inb (pdu 1 0 0x23 0 [])] ∧ pduFormed m0 (pdu 1 0 0x23 0 []) = true ∧
    base.plainRole m0 = (2, false) ∧ base.available (rqq 1 0 0x23 0 []) = true ∧ wantsAnswer 1 = true ∧ base.keptFor (rqq 1 0 0x23 0 []) = none ∧
    (keptS.keptFor (rqq 1 0 0x23 0 [])).map (fun k => k.sameAs (rqq 1 0 0x23 0 [])) = some true ∧ base.session 9 = none ∧
    ([(2, 0x70, 0x30), (4, 0x60, 0x10), (5, 0x60, 0x11)].all (fun e => (inb (pdu e.1 e.2.1 e.2.2 0 [])).obj == (e.2.1, e.2.2, 0))) = true ∧
    State.named (rqq 1 0 0x23 0 []) = .inl .chbVersion ∧ State.named (rqq 1 0 0x3000 0 []) = .inr 0x10 ∧ State.named (rqq 1 0x7F 0 0 []) = .inr 0x1D ∧
    readAccess (rqq 1 0 0x23 0 []) .chbVersion = 0 ∧ base.valueLen .chbVersion 0 = 2 ∧ accReadable Obj.jobCmd.info.acc = false ∧
    accWritable Obj.chbVersion.info.acc = false ∧ State.named tune = .inl .eventRetry ∧ writeAccess tune .eventRetry = 0 ∧ writeRole tune .powerCap = 3 ∧
    base.formStatus .eventRetry 0 tune.body = 0 ∧ base.ruleStatus .eventRetry 0 tune.body = 0 ∧ base.heldBy tune.obj = false ∧ (inTr true).heldBy (0, 0x23, 0) = true ∧
    (base.applyValue .eventRetry 0 tune.body).actsOn .eventRetry = false ∧ Obj.jobId.info.acc = .rwl ∧ (job []).jobRuns = true ∧
    base.lockedOut (carrierOf m0) = false ∧ openB.length = 20 ∧ base.obj .mkeyRole 7 < 3 ∧ opens.obj .mkeyRole 7 = 3 ∧ opens.obj .recovery ≠ 1 ∧
    (inSess false).chb.sessions.find? (fun y => y.sid == 9) = some (sess false) ∧ (sess false).client = m0 ∧ (inSess false).gtc ≤ 5000000000 ∧
    (inSess true).session 9 = some (sess true) ∧ (sess true).unacked.find? (fun f => f.seq % 65536 == 7) = some ⟨7, 0, 0⟩ ∧
    (inTr true).transferOf (rqq 5 0 0x23 0 []) = some (tr true) ∧ (inTr false).transferOf (rqq 6 0 0x23 0 []) = some (tr false) ∧
    base.transferOf (rqq 5 0 0x23 0 []) = none ∧ (tr true).isBundle = false ∧
    (leBytes 4 0 ++ [1, 2, 3, 4]).length % 4 = 0 ∧ 0 + 4 / 4 < (tr true).stop ∧ (tr true).stop < 0 + 12 / 4 := by decide +kernel

-- the proof that a client gives is the one that the session wants, whatever the cipher is
theorem witness_proof : ∃ q : Request, ∃ x, (inSess false).chb.sessions.find? (fun y => y.sid == q.sid) = some x ∧ x.client = q.client ∧
    x.proven = false ∧ x.proof ((inSess false).mkeyBytes x.kslot) "client" (inSess false).place = q.body :=
  ⟨{ rqq 0x11 0 0 9 [] with body := (sess false).proof ((inSess false).mkeyBytes 0) "client" (inSess false).place }, sess false, rfl, rfl, rfl, rfl⟩

theorem test_chb_read : after .chbRead (front (pdu 1 0 0x23 0 [])) (said 0x81 0 [1, 0]) = true ∧ after .chbRead (front (pdu 1 2 1 0 [])) (said 0x81 0x12 []) = true := by decide +kernel
theorem test_chb_write : after .chbWrite (front (pdu 2 2 0x12 0 [100, 0, 0, 0])) (fun t => said 0x82 0 [] t && t.obj .eventRetry == 100) = true ∧
    after .chbWrite (front (pdu 2 2 0x12 0 [9, 0, 0, 0])) (fun t => said 0x82 0x15 [] t && t.obj .eventRetry == 200) = true := by decide +kernel
-- U16 (code 0x02), read only, one value of 2 bytes
theorem test_describe : after .describe (front (pdu 3 0 0x23 0 [])) (fun t => match t.chb.sent with | m :: _ => m.svc == 0x83 && m.body.drop 2 == [0, 0, 2, 0, 0, 0] | [] => false) = true := by
  decide +kernel
theorem test_seg_init : after .segInit (front (pdu 4 0 0x23 0 ([0, 1] ++ List.replicate 14 0))) (fun t => (t.chb.sent.map (fun m => (m.svc, m.status))).drop 1 == [(0x84, 0)] &&
    t.chb.transfers.map (fun x => x.sentTo) == [1]) = true := by decide +kernel
theorem test_seg_block : after .segBlock (front (pdu 5 0 0x23 0 (leBytes 4 1 ++ [1, 2, 3, 4])) (inTr true)) (said 6 0 (leBytes 4 0)) = true ∧
    after .segBlock (front (pdu 5 0 0x23 0 (leBytes 4 0 ++ List.replicate 12 1)) (inTr true)) (fun t => said 8 0x1A [] t && t.chb.transfers == []) = true := by decide +kernel
-- the CRC-32C of no words moved is that of nothing
theorem test_seg_ack : after .segAck (front (pdu 6 0 0x23 0 (leBytes 4 2)) (inTr false)) (fun t => said 7 0 (leBytes 4 (crc32c (tr false).moved)) t && t.chb.transfers == []) = true := by
  decide +kernel
theorem test_seg_abort : after .segAbort (front (pdu 8 0 0x23 0 []) (inTr true)) (fun t => t.chb.transfers == [] && t.obj .chbCounters 0 9 == 1) = true := by decide +kernel
theorem test_subscribe : after .subscribe (front (pdu 9 0 0 0 (List.replicate 8 1))) (said 0x89 0x13 []) = true := by decide +kernel
theorem test_event_ack : ((inSess true).serveEventAck (rqq 0x8A 0 0 9 [])).chb.sessions.map (fun x => x.unacked) = [[]] := by decide +kernel
theorem test_open : after .openSession (front (pdu 0x10 0 0 0 openB) opens) (fun t => t.chb.sessions.map (fun x => (x.sid, x.role, x.kslot, x.proven)) == [(1, 3, 7, false)]) = true ∧
    after .openSession (front (pdu 0x10 0 0 0 openB)) (fun t => said 0x90 0x13 [] t && t.chb.sessions == []) = true := by decide +kernel
-- a proof 5 s late, whatever it says
theorem test_proof : after .proof (front (pdu 0x11 0 0 9 (List.replicate 16 0)) { inSess false with gtc := 5000000001 }) (fun t => said 0x91 0x13 [] t && t.chb.sessions == [] && t.obj .chbCounters 0 4 == 1) = true := by
  decide +kernel
theorem test_close : after .close (front (pdu 0x12 0 0 0 [])) (said 0x92 0 []) = true := by decide +kernel
theorem test_mkey : after .mkeyWrite (front (pdu 2 0x70 0x31 0 [3])) (said 0x82 0x13 []) = true ∧ after .mkeyWrite (front (pdu 2 2 0x12 0 [])) (fun t => t.chb.inbox.length == 1) = true := by
  decide +kernel
theorem test_bundle_upload : after .bundleUpload (front (pdu 4 0x60 0x10 0 ([1, 1] ++ List.replicate 14 0))) (said 0x84 0x13 []) = true := by decide +kernel
theorem test_bundle_chain : after .bundleChainReceive { base with chb := { base.chb with inbox := [⟨.felun 0, pdu 4 0x60 0x11 0 ([1, 1, 0, 0, 0, 0, 0, 0, 9] ++ List.replicate 7 0), false⟩] } }
    (fun t => t.chb.inbox == [] && t.fw.delivery.isNone) = true := by decide +kernel

/-! ### Timers and jobs -/

def ev7 : Event := ⟨7, 0x0806, 0, 0, 0, 0, 0, 0⟩
def waits (c : Chb → Chb) (g : Nat) : State := { base with chb := c base.chb, gtc := g }
def aged (g : Nat) : State := { inSess true with chb := { (inSess true).chb with events := [ev7], sessions := [{ sess true with last := g }] }, gtc := g }
def act1 : CmdAct := ⟨m0, 0, (2, 1, 0), 7, [1], 0, false⟩
def acts : Chb → Chb := fun c => { c with acts := [act1] }
def mod (n : Nat) (s : State := base) : State := s.setObj .moduleState n
/-- Every context is halted. -/
def calm : State := State.reset

theorem witness_TimersAndJobs : (inTr true).chb.transfers = [tr true] ∧ (∀ a < 3, ((inTr true).forward a).st ≠ 1) ∧ (tr true).again = [] ∧ (tr true).isBundle = false ∧ 0 < 4000000 * (inTr true).obj .segTimeout ∧
    4000000 * (inTr true).obj .segTimeout ≤ 2 ^ 40 ∧ (aged 0).chb.sessions = [sess true] ∧ (sess true).proven = true ∧ (sess true).unacked = [⟨7, 0, 0⟩] ∧
    (aged 0).gtc < 1000000 * (aged 0).obj .eventRetry ∧ 1000000 * (aged 200000000).obj .eventRetry ≤ 200000000 ∧
    (aged 0).chb.events.find? (fun w => w.seq == 7) = some ev7 ∧ (sess true).sendCtr + 2 < 2 ^ 64 ∧ base.obj .canEn 0 = 1 ∧ base.obj .canEn 1 = 1 ∧
    (waits id 990000000).obj .canEn 1 = 1 ∧ ((waits id 990000000).can 1).beat + 990000000 ≤ 990000000 ∧
    (waits acts 0).chb.acts = [act1] ∧ act1.sid = 0 ∧ Obj.find (2 * 65536 + 1) = some .jobCmd ∧ Obj.jobCmd.info.acc = .cmd ∧
    base.obj .moduleState = 1 ∧ base.holding = false ∧ (base.setObj .bhState 1).holding = true ∧
    (mod 2).obj .moduleState = 2 ∧ awf Core.zero base.cores = true ∧ (mod 3).obj .moduleState = 3 ∧ (mod 3 calm).obj .moduleState = 3 ∧
    ((mod 3).ctx 0 0).st = .running ∧ (mod 4).obj .moduleState = 4 ∧ (mod 5).obj .moduleState = 5 ∧ base.boot.due = none ∧ base.obj .recovery ≠ 1 ∧
    (mod 0).obj .moduleState = 0 := by decide +kernel

theorem test_seg_timeout : after .segTimeout { inTr true with gtc := 2 ^ 40 } (fun t => said 8 0x1B [] t && t.chb.transfers == []) = true := by decide +kernel
theorem test_event_retry : after .eventRetry (aged 200000000) (fun t => t.chb.sessions.map (fun x => (x.sendCtr, x.unacked)) == [(1, [⟨7, 1, 200000000⟩])]) = true ∧
    idle .eventRetry (aged 199999999) = true := by decide +kernel
theorem test_heartbeat : after .heartbeat (waits id 990000000) (fun t => t.chb.sent.map (fun m => (m.svc, m.client, m.body.take 1)) == [(0x0B, .can 1 0, [1]), (0x0B, .can 0 0, [1])] ||
    t.chb.sent.map (fun m => (m.svc, m.client, m.body.take 1)) == [(0x0B, .can 0 0, [1]), (0x0B, .can 1 0, [1])]) = true ∧ idle .heartbeat (waits id 989999999) = true := by decide +kernel
theorem test_proof_timeout : after .proofTimeout { inSess false with gtc := 5000000001 } (fun t => t.chb.sessions == []) = true ∧ idle .proofTimeout { inSess false with gtc := 5000000000 } = true := by
  decide +kernel
theorem test_session_idle : after .sessionIdleTimeout { inSess true with gtc := 2 ^ 50 } (fun t => t.chb.sessions == []) = true ∧ idle .sessionIdleTimeout (inSess true) = true := by decide +kernel
theorem test_lockout_end : after .sessionLockoutEnd ({ base with gtc := 10000000000 }.setLockout 5 ⟨3, some 0⟩) (fun t => t.lockout 5 == ⟨3, none⟩) = true ∧
    idle .sessionLockoutEnd ({ base with gtc := 9999999999 }.setLockout 5 ⟨3, some 0⟩) = true := by decide +kernel
theorem test_command_done : after .commandDoneTimer (waits acts 50000000) (fun t => said 0x82 1 [] t && t.chb.acts == [{ act1 with answered := true }]) = true ∧
    idle .commandDoneTimer (waits acts 49999999) = true := by decide +kernel
theorem test_job_start : after .jobStart { base with gtc := 9 } (fun t => t.obj .moduleState == 2 && t.obj .jobStartTime == 9) = true ∧ idle .jobStart (mod 4) = true := by decide +kernel
theorem test_job_stop : after .jobStop (mod 2) (fun t => t.obj .moduleState == 3 && (t.ctx 0 0).st == .halted) = true := by decide +kernel
theorem test_stopping_done : after .jobStoppingDone (mod 3 calm) (fun t => t.obj .moduleState == 1) = true ∧ idle .jobStoppingDone (mod 3) = true := by decide +kernel
theorem test_job_clear : after .jobClear (mod 4) (fun t => t.obj .moduleState == 1) = true := by decide +kernel
theorem test_reset_warm : after .resetWarmStart base (fun t => t.boot.due == some 1) = true ∧ idle .resetWarmStart (mod 5) = true := by decide +kernel
theorem test_reset_cold : after .resetColdStart (mod 5) (fun t => t.boot.due == some 2) = true ∧ idle .resetColdStart (mod 0) = true := by decide +kernel

/-! ### Feeds and breath-hold -/

def f7 : Fin 8 := 7
def feedS (x : Feed) (g : Nat) : State := { base with pwr := { base.pwr with feeds := [(7, x)] }, gtc := g }
def inF (st : Nat) : State := feedS ⟨st, 0, [], 0⟩ 10000000
def r191 : Fin 192 := ⟨191, by decide⟩
def pw (p : Pwr → Pwr) (s : State := base) : State := { s with pwr := p s.pwr }
/-- In breath-hold with 7 stable feeds and a cap that needs 8; then with a cap that needs 7. -/
def hold (c g : Nat) : State := { ((inF 0).setObj .bhState 1).setObj .feedsNeeded c with gtc := g }
def leaving : State := pw (fun p => { p with gated := [191], exitAt := some 0 }) { base with gtc := 10000 + 191 * 2000 }

theorem witness_FeedsAndBreathHold : ((inF 0).feed 7).st = 0 ∧ ((inF 3).feed 7).st = 3 ∧ ((inF 1).feed 7) = ⟨1, 0, [], 0⟩ ∧ 0 + 10000000 ≤ (inF 1).gtc ∧
    (feedS ⟨1, 0, [], 0⟩ 9999999).gtc < 10000000 ∧ (inF 1).obj .moduleState ≠ 0 ∧ (inF 1).pwr.limit20 = false ∧ (inF 1).obj .coolingState ≤ 1 ∧
    (base.feed 7).st = 2 ∧ base.obj .bhState = 0 ∧ ((inF 4).feed 7).st = 4 ∧ (feedS ⟨5, 0, [], 1⟩ 1000000000).feed 7 = ⟨5, 0, [], 1⟩ ∧
    1000 * base.obj .effCap < 2 ^ 40 ∧ base.pwr.excess = none ∧ base.holding = false ∧ (hold 7 0).obj .bhState = 1 ∧ (hold 7 0).stable = 7 ∧
    (hold 8 0).obj .feedsNeeded = 8 ∧ (hold 8 (2 ^ 50)).obj .bhLast 0 0 + 1000000 * (hold 8 (2 ^ 50)).obj .bhMax ≤ 2 ^ 50 ∧ leaving.pwr.exitAt = some 0 ∧
    191 ∈ leaving.pwr.gated ∧ 0 + 10000 + 191 * 2000 ≤ leaving.gtc := by decide +kernel

theorem test_qualify_begin : after (.feedQualifyBegin f7 47000) (inF 0) (fun t => (t.feed 7).st == 1) = true ∧ idle (.feedQualifyBegin f7 58001) (inF 0) = true := by decide +kernel
theorem test_qualify_timer : after (.feedQualifyTimer f7) (inF 1) (fun t => (t.feed 7).st == 2 && t.obj .feedState 7 == 0x82) = true ∧
    idle (.feedQualifyTimer f7) (feedS ⟨1, 0, [], 0⟩ 9999999) = true := by decide +kernel
theorem test_qualify_fail : after (.feedQualifyFail f7 58001 false) (inF 1) (fun t => (t.feed 7).st == 0 && t.obj .feedEvents 7 1 == 1) = true ∧
    after (.feedQualifyFail f7 50000 true) (inF 1) (fun t => (t.feed 7).st == 3 && t.obj .feedEvents 7 2 == 1) = true := by decide +kernel
theorem test_feed_low : idle (.feedVoltageLow f7 46000) base = true := by decide +kernel
theorem test_feed_reversed : after (.feedReversed f7) (inF 0) (fun t => (t.feed 7).st == 3 && t.chb.events.map (fun e => e.code) == [0x0801]) = true := by decide +kernel
theorem test_over_voltage : after (.feedOverVoltage f7 60001) base (fun t => (t.feed 7).st == 4) = true ∧ idle (.feedOverVoltage f7 60000) base = true := by decide +kernel
theorem test_over_clear : after (.feedOverVoltageClear f7 58000) (inF 4) (fun t => (t.feed 7).st == 1) = true ∧ idle (.feedOverVoltageClear f7 58001) (inF 4) = true := by decide +kernel
theorem test_feed_trip : after (.feedTrip f7) base (fun t => (t.feed 7).st == 5 && (t.feed 7).trips == 1 && t.obj .feedEvents 7 3 == 1) = true := by decide +kernel
theorem test_trip_retry : after (.feedTripRetry f7) (feedS ⟨5, 0, [], 1⟩ 1000000000) (fun t => (t.feed 7).st == 1) = true ∧ idle (.feedTripRetry f7) (feedS ⟨5, 0, [], 2⟩ 1000000000) = true := by decide +kernel
-- 20 W for 1 s is 20 J
theorem test_power_cap : after (.powerCapEnforce 20000 0) { base with gtc := 1000000000 } (fun t => t.obj .energy == 20 && t.pwr.excess == none) = true := by decide +kernel
theorem test_hold_exit : after (.breathHoldExit 11401) (hold 7 0) (fun t => t.obj .bhState == 0 && t.pwr.exitAt == some 0) = true ∧
    after (.breathHoldExit 11400) (hold 7 0) (fun t => t.obj .bhState == 1 && t.pwr.exitAt == none) = true := by decide +kernel
theorem test_bh_max : after .bhMaxExpiry (hold 8 (2 ^ 50)) (fun t => t.obj .bhState == 2) = true ∧ idle .bhMaxExpiry (hold 8 0) = true := by decide +kernel
theorem test_ungate : after (.regionUngate r191) leaving (fun t => t.pwr.gated == [] && t.pwr.exitAt == none && t.obj .regionFreq 191 == 1200) = true ∧
    idle (.regionUngate r191) { leaving with gtc := 391999 } = true := by decide +kernel
theorem test_power_loss : idle (.powerLossShutdown 10800) base = true := by decide +kernel

/-! ### Rails and clocks -/

def reg191 (x : Region16) (g : Nat) : State := pw (fun p => { p with regions := [(191, x)] }) { base with gtc := g }
def d47 : Fin 48 := ⟨47, by decide⟩
def clu (i : Nat) (x : Cluster) (g : Nat) : State := pw (fun p => { p with clusters := [(i, x)] }) { base with gtc := g }
def tm (f : TimeSt → TimeSt) : State := { base with time := f base.time, gtc := 100000000000 }
def ptp : State := (tm (fun t => { t with ptpSince := some 0 })).setObj .ptpEn 1

theorem witness_RailsAndClocks : ((reg191 { Region16.zero with lowSince := some 0 } 100000).region16 191).lowSince = some 0 ∧
    ((reg191 { Region16.zero with tripAt := some 0 } 100000).region16 191).tripAt = some 0 ∧ 0 + 4 * base.obj .droopMargin < vTarget (base.obj .regionFreq 191) ∧
    vTarget (base.obj .regionFreq 191) ≤ 4000 + 4 * base.obj .droopMargin ∧ ((clu 767 { Cluster.zero with stretch := true } 54).cluster 767).stretch = true ∧
    64000 ≤ (54 - ((clu 767 { Cluster.zero with stretch := true } 54).cluster 767).lastLow) * base.obj .regionFreq (regionOfCore (47 * 256 + 15 * 16)) ∧
    (∃ q ∈ (pw (fun p => { p with vminDue := [188] })).pwr.vminDue, q / 4 = 47) ∧ aget 0 base.hlth.vminSnap 47 = 0 ∧ railCount 6 ≤ 1 ∧ 191 < railCount 0 ∧
    47 < railCount 4 ∧ warnLevel 0 < 250001 ∧ 0 * 256 + 191 ∉ base.pwr.warned ∧ tripLevel 0 < 300001 ∧ (base.region16 191).trips = [] ∧
    ([0, 0].filter (fun (y : Nat) => decide (base.gtc < y + 1000000000))).length = 2 ∧ base.time.step = none ∧ -(10 : Int) ^ 12 ≤ base.time.rho ∧
    base.obj .moduleState ≤ 1 ∧ (mod 2).obj .moduleState = 2 ∧ (tm (fun t => { t with calSet := some 257 })).time.calSet = some 257 ∧
    base.time.calSet = none ∧ base.time.ticks < 32767 ∧ base.time.secs < 2 ^ 40 ∧ base.obj .calTrim = 0 ∧ base.time.trim = 0 ∧
    base.obj .ptpEn ≠ 1 ∧ ptp.obj .ptpEn = 1 ∧ (0 : BitVec 8).toNat = ptp.obj .ptpDomain ∧ ptp.time.ptpSince = some 0 ∧ 60000000000 ≤ ptp.gtc := by decide +kernel

-- 0.735 V + what the reading of 0.7125 V lacks of V_target(1.2 GHz) = 0.72 V and VGUARD
theorem test_regulator : after (.regulatorUpdate r191 0 2850 0) base (fun t => (t.region16 191).out == 2970 + 4 * base.obj .vguard) = true := by decide +kernel
theorem test_margin : after (.marginStepDown r191) (reg191 { Region16.zero with lowSince := some 0 } 100000) (fun t => t.obj .regionFreq 191 == 1150 && (t.region16 191).maxF == 1150) = true := by
  decide +kernel
theorem test_droop : after (.droopStretch r191 31 0) base (fun t => (t.cluster (sensorCluster 191 31)).stretch && t.obj .droopCount 191 == 1) = true ∧ idle (.droopStretch r191 31 4000) base = true := by
  decide +kernel
theorem test_stretch_end : after (.stretchEnd d47 15) (clu 767 { Cluster.zero with stretch := true } 54) (fun t => !(t.cluster 767).stretch) = true ∧
    idle (.stretchEnd d47 15) (clu 767 { Cluster.zero with stretch := true } 53) = true := by decide +kernel
theorem test_pll : after (.pllLockLoss d47) base (fun t => t.obj .clockFaults 47 0 == 1 && t.obj .moduleState == 5) = true := by decide +kernel
theorem test_dco : after (.dcoLockLoss d47 15) (mod 2) (fun t => t.obj .clockFaults 47 1 == 1 && t.obj .moduleState == 4 && (t.ctx (47 * 256 + 255) 1).st == .stopped) = true := by decide +kernel
theorem test_vmin_copy : after (.vminFlashCopy d47) (pw (fun p => { p with vminDue := [188, 3] })) (fun t => t.pwr.vminDue == [3] && aget 0 t.hlth.vminSnap 47 == 1) = true := by decide +kernel
theorem test_rail_warning : after (.railWarning 0 r191 250001) base (fun t => t.pwr.warned == [191] && t.obj .regionFreq 191 == 1150 && t.obj .ocCount 191 0 == 1) = true ∧
    idle (.railWarning 1 r191 90001) base = true := by decide +kernel
theorem test_rail_trip : after (.railTrip 0 r191 300001) base (fun t => (t.region16 191).tripAt == some 0 && t.obj .regionFreq 191 == 1150) = true ∧
    after (.railTrip 5 0 1001) base (fun t => t.obj .moduleState == 5) = true := by decide +kernel
theorem test_trip_resume : after (.railTripResume r191) (reg191 { Region16.zero with tripAt := some 0 } 100000) (fun t => (t.region16 191).tripAt == none) = true ∧
    idle (.railTripResume r191) (reg191 { Region16.zero with tripAt := some 0 } 99999) = true := by decide +kernel
theorem test_edge : after .gtcReferenceEdge base (fun t => t.gtc == 10 && t.time.frac == 0 && t.draws == base.draws + 48) = true := by decide +kernel
theorem test_gtc_step : after (.gtcStepWrite 9) base (fun t => t.time.step == some 9) = true ∧ after (.gtcStepWrite 9) (mod 2) (fun t => t.time.ignored == 1 && t.time.step == none) = true := by decide +kernel
theorem test_cal_write : after (.calWrite 257) base (fun t => t.time.calSet == some 257) = true := by decide +kernel
-- 1 s and 1/256 s
theorem test_tick : after .calendarTick (tm (fun t => { t with calSet := some 257 })) (fun t => t.obj .cal == 257 && t.time.secs == 1 && t.time.ticks == 128 && t.obj .calValid == 1) = true := by decide +kernel
theorem test_ptp : after (.ptpMessageReceive 0 10000 100000000007 37 none) ptp (fun t => t.obj .ptpGtcOffset == 7) = true ∧ after (.ptpMessageReceive 0 10001 0 37 none) ptp (fun t => t.time.ptpSince == none) = true := by
  decide +kernel

/-! ### Regions and heat -/

def rst (n : Nat) (os : List (Obj × Nat) := []) : State := { os.foldl (fun (s : State) (o : Obj × Nat) => s.setObj o.1 o.2) (base.setObj .regionState n 191) with gtc := 2 ^ 50 }
def hot (v : Option Nat) : State := clu 767 { Cluster.zero with hotSince := v, gated := true } 100000
def cool (on off : List (Option Nat)) (st : Nat) : State := pw (fun p => { p with coolOn := on, coolOff := off }) { base.setObj .coolingState st with gtc := 60000000000 }
def fine : List Int := [30000, 32000, 50000, 2000, 1000]

theorem witness_RegionsAndHeat : (rst 0).obj .regionState 191 = 0 ∧ (rst 0).holding = false ∧
    ((coresOfRegion 191).all (fun k => ((base.core k).c0.vecPend == []) && ((base.core k).c1.vecPend == []) && (List.range 4).all (fun e => (base.core k).run e == []))) = true ∧
    (rst 1).obj .regionState 191 = 1 ∧ (rst 3).obj .regionState 191 = 3 ∧ ((rst 3).region16 191).latched = false ∧ 1 ≤ (rst 1 [(.sleepDepth, 1)]).obj .sleepDepth ∧
    (rst 1).dozeCond 191 = true ∧ 1000 * (rst 1).obj .dozeAfter ≤ (rst 1).countedSince ((rst 1).dozeSince 191) ∧ (rst 2 [(.sleepDepth, 2)]).obj .sleepDepth = 2 ∧
    1000 * (rst 2).obj .retainAfter ≤ (rst 2).countedSince ((rst 2).region16 191).cond ∧ base.regionCmdOk 191 2 = true ∧ (mod 2).regionCmdOk 191 2 = false ∧
    191 ∉ (rst 1).pwr.wakes ∧ 191 ∈ (pw (fun p => { p with wakes := [191] })).pwr.wakes ∧ (rst 3).pwr.sigs = [] ∧
    (rst 4).regionCmdOk 191 1 = true ∧ base.regionCmdOk 191 1 = false ∧ base.pwr.gated = [] ∧ base.obj .boostEn ≤ 1 ∧ (base.setObj .boostEn 0).obj .boostEn = 0 ∧
    (base.region16 191).withdrawn = false ∧ 1200 < (base.setObj .regionFreq 1250 191).obj .regionFreq 191 ∧
    ((hot (some 0)).cluster 767).hotSince = some 0 ∧ 0 + 100000 ≤ (hot (some 0)).gtc ∧ base.pwr.coolBad = [] ∧ ((List.range 8).all (fun i => !coolCond i fine)) = true ∧
    (cool (List.replicate 8 (some 0)) [] 2).obj .coolingState ≤ 2 ∧ (cool (List.replicate 8 (some 0)) [] 2).pwr.coolOn.getD 6 none = some 0 ∧
    (cool [] [some 0] 1).pwr.coolOff.getD 0 none = some 0 ∧ (cool [] [some 0] 1).obj .coolingState = 1 ∧ base.obj .coolingState = 0 ∧ base.pwr.limit20 = false := by
  decide +kernel

theorem test_region_idle : after (.regionIdleEntry r191) (rst 0) (fun t => t.obj .regionState 191 == 1) = true ∧ idle (.regionIdleEntry r191) (rst 4) = true := by decide +kernel
theorem test_region_wake : after (.regionWake r191) (rst 3) (fun t => t.obj .regionState 191 == 0) = true ∧ idle (.regionWake r191) (rst 4) = true := by decide +kernel
theorem test_region_doze : after (.regionDozeEntry r191) (rst 1 [(.sleepDepth, 1)]) (fun t => t.obj .regionState 191 == 2) = true ∧ idle (.regionDozeEntry r191) (rst 1 [(.sleepDepth, 0)]) = true := by
  decide +kernel
theorem test_region_retain : after (.regionRetainEntry r191) (rst 2 [(.sleepDepth, 2)]) (fun t => t.obj .regionState 191 == 3) = true ∧
    idle (.regionRetainEntry r191) (rst 2 [(.sleepDepth, 1)]) = true := by decide +kernel
set_option maxRecDepth 20000 in
theorem test_region_off : after (.regionOff r191) base (fun t => t.obj .regionState 191 == 4) = true ∧ idle (.regionOff r191) (mod 2) = true := by decide +kernel
theorem test_region_on : idle (.regionOn r191) base = true := by decide +kernel
theorem test_grants : after (.lendingGrantUpdate d47) (base.setObj .regionFreq 1250 191) (fun t => t.obj .regionFreq 191 == 1200) = true := by decide +kernel
-- above T_LIMIT one step of 50 MHz down, 3 °C below it one step up
theorem test_throttle : after (.throttleUpdate d47 (List.replicate 64 150000)) base (fun t => (t.cluster 767).cap == 1400 && (t.cluster 767).temp == 150000) = true := by decide +kernel
theorem test_gate : after (.thermalCriticalGate d47 15 [115001, 0, 0, 0]) base (fun t => (t.cluster 767).gated) = true ∧ after (.thermalCriticalGate d47 15 [115000, 0, 0, 0]) base (fun t => !(t.cluster 767).gated) = true := by
  decide +kernel
theorem test_thermal_ungate : after (.thermalUngate d47 15 [104999, 0, 0, 0]) (hot none) (fun t => !(t.cluster 767).gated) = true ∧ after (.thermalUngate d47 15 [105000, 0, 0, 0]) (hot none) (fun t => (t.cluster 767).gated) = true := by
  decide +kernel
theorem test_thermal_shutdown : after (.thermalShutdown d47 15 [125001, 0, 0, 0]) { hot (some 0) with gtc := 99999 } (fun t => t.pwr.darkDies == [] && t.obj .moduleState == 1) = true := by decide +kernel
theorem test_coolant : after (.coolantSample [30000, 32000, 39999, 2000, 1000]) (cool [none, none, none, none, some 0] [] 0) (fun t => t.obj .coolingState == 2 && t.pwr.flow == 39999) = true ∧
    after (.coolantSample fine) base (fun t => t.obj .coolingState == 0) = true := by decide +kernel
theorem test_cooling_restored : after .coolingRestored (cool [] [some 0] 1) (fun t => t.obj .coolingState == 0) = true ∧ idle .coolingRestored (cool [] [some 1] 1) = true := by decide +kernel
theorem test_sensor_fault : after (.coolantSensorFault 1) (pw (fun p => { p with coolBad := [2] })) (fun t => t.pwr.coolBad == [1, 2] && t.pwr.limit20) = true := by decide +kernel

/-! ### Starts -/

/-- A start command up to phase `k`. -/
def sin (k : Fin 9) (power : Bool) : StartIn :=
  { last := k, power := power, returned := true, pins := [1, 1, 1], feeds := 0xFF, calKept := true, retained := true, pages := [0, 0]
    unblown := 0, dead := [], lanes := [], units := [], fails := [], margins := [], mapLost := [] }
def bt (b : Boot → Boot) (s : State := base) : State := { s with boot := b s.boot }
/-- A cold start stands before phase `k`. -/
def phase (k : Nat) : State := (((State.reset.setObj .moduleState 0).setObj .startPhase k).setObj .startKind 1)

theorem witness_StartsAndWatchdog : (∀ e ∈ base.hlth.snaps, e.1 < 49 ∧ ∀ y ∈ e.2, y.vmin.length ≤ 128) ∧ (sin 0 true).power = true ∧ (sin 0 true).last.val = 0 ∧
    (sin 0 true).retained = true ∧ (bt (fun b => { b with due := some 2 })).boot.due = some 2 ∧ (bt (fun b => { b with due := some 1 })).boot.due = some 1 ∧
    base.holding = false ∧ (sin 2 false).power = false ∧ base.boot.due = none ∧ 1 ≤ base.obj .moduleState ∧ (phase 2).obj .moduleState = 0 ∧ (phase 2).obj .recovery = 0 ∧
    (phase 2).boot.due = none ∧ (phase 2).obj .startPhase = 2 ∧ (phase 2).obj .startKind = 1 ∧ (sin 1 false).last.val < 2 ∧ (sin 8 false).last.val = 8 ∧
    (phase 8).obj .startPhase = 8 ∧ base.boot.expiries = [] ∧
    (([0, 1] : List Int).filter (fun t => decide ((base.gtc : Int) - t ≤ 600000000000))).length = 2 := by decide +kernel

theorem test_start_waits : idle (.coldStart (sin 8 false)) base = true ∧ idle (.warmStart (sin 8 false)) base = true := by decide +kernel
theorem test_phase : after (.coldStart (sin 2 false)) { phase 2 with gtc := 9 } (fun t => t.obj .startPhase == 3 && t.obj .startPhases 0 2 == 9) = true ∧ idle (.coldStart (sin 1 false)) (phase 2) = true := by
  decide +kernel
/-! ### Health -/

def hlt (h : Health → Health) (g : Nat := 0) : State := { base with hlth := h base.hlth, gtc := g }
def entry : ErrEntry := ⟨0, 1, [1, 0, 0, 0], 0, 0, true⟩
def recd : Rec := ⟨4, 0, 1, 0, 0, false, 0, [1, 2, 3], 0, false⟩
def unsaved : State := { base with chb := { base.chb with unsaved := [Obj.key .eventRetry 0 0] } }

theorem witness_HealthRecords : base.hlth.periodStart + base.hlth.periodLen * 1000000000 ≤ 2 ^ 50 ∧ base.gtc < base.hlth.periodStart + base.hlth.periodLen * 1000000000 ∧
    base.hlth.lastFlush + base.obj .flushS * 1000000000 ≤ 2 ^ 50 ∧ ¬ (base.hlth.lastFlush + base.obj .flushS * 1000000000 ≤ base.gtc) ∧
    (hlt (fun h => { h with due := [48] })).hlth.due = [48] ∧ (48 : Nat) < 49 ∧ base.obj .summarySlots 48 < 15360 ∧
    (base.liveLife 48).powered < base.lastPowered 48 + 24 * 3600000000000 ∧ base.lastPowered 48 + 24 * 3600000000000 ≤ (({ base with gtc := 2 ^ 50 } : State).liveLife 48).powered ∧
    base.hlth.queue = [] ∧ (hlt (fun h => { h with queue := [recd] })).hlth.queue = [recd] ∧ base.hlth.openUsed + 2 * recd.size ≤ 65408 ∧
    base.hlth.faults = [] ∧ (hlt (fun h => { h with faults := [ev7] })).hlth.faults = [ev7] ∧ base.chb.unsaved = [] ∧ unsaved.chb.unsaved ≠ [] := by decide +kernel

theorem test_errors_flush : after .errorsFlush (hlt (fun h => { h with due := [48], exact := [(48, [entry])] })) (fun t => t.hlth.queue.map (fun r => (r.kind, r.die)) == [(4, 48)] && t.hlth.due == [] &&
    (t.errTable 48).all (fun e => !e.changed)) = true := by decide +kernel
theorem test_period : idle .periodEnd base = true := by decide +kernel
theorem test_health_flush : idle (.healthFlush 2) base = true := by decide +kernel
theorem test_snapshot : after (.summarySnapshot 48) { base with gtc := 2 ^ 50 } (fun t => t.obj .summarySlots 48 == base.obj .summarySlots 48 + 1 && (aget [] t.hlth.snaps 48).getLast?.map (fun y => y.gtc) == some (2 ^ 50)) = true ∧
    idle (.summarySnapshot 48) base = true := by decide +kernel
theorem test_ring_write : after (.ringRecordWrite true true 0) (hlt (fun h => { h with queue := [recd] }) 9) (fun t => t.hlth.queue == [] && t.hlth.ring == [{ recd with gtc := 9 }] && t.hlth.openUsed == 80) = true ∧
    after (.ringRecordWrite false false 0) (hlt (fun h => { h with queue := [recd] })) (fun t => t.hlth.retired == [0] && t.hlth.ring == [] && t.chb.events.map (fun e => e.code) == [0x0A05]) = true := by decide +kernel
theorem test_fault_record : after .faultRecordWrite (hlt (fun h => { h with faults := [ev7] })) (fun t => t.hlth.faults == [] && t.hlth.queue.map (fun r => r.kind) == [9]) = true := by decide +kernel
theorem test_persist : after .rwpPersist unsaved (fun t => t.chb.unsaved == [] && t.fw.newest.map (fun c => c.vals) == some [(Obj.key .eventRetry 0 0, 200)]) = true := by decide +kernel

/-! ### Stops -/

theorem witness_StopsAndFence : eventClass 0x0902 = 5 ∧ eventClass 0x0901 = 6 ∧ (0x88 : BitVec 8).toNat % 128 = 8 ∧ (0x8C : BitVec 8).toNat % 128 = 12 ∧ eventClass 0x0301 ≠ 5 ∧
    (mod 2).obj .moduleState = 2 ∧ awf Core.zero (mod 2).cores = true ∧ (mod 4).obj .moduleState ≠ 2 ∧ eventClass 0x0902 ≠ 6 ∧ (mod 2).obj .moduleState ≠ 5 ∧
    awf Port.zero (inPort { Port.zero with st := 3 } base).ports = true ∧ (mod 0).obj .moduleState = 0 ∧ (mod 5).obj .moduleState = 5 ∧
    eventBodyOk 0x0301 0x88 0 0 = true ∧ eventBodyOk 0x0902 0 0 0 = false ∧ eventBodyOk 0x0902 0 0 (locator 4 0 0 2 63 1023 255) = true ∧
    eventBodyOk 0x0901 0 0 (dieUnit 0 15 1023) = true ∧ eventClass 0x0901 = 6 ∧ base.obj .clockFaults 47 0 = 0 ∧ base.hlth.lostLinks = [] ∧ d2dPeer 0 1 = some 1 ∧ (base.setObj .clockFaults 1 47 0).obj .clockFaults 47 0 ≠ 0 := by decide +kernel

theorem test_job_stopping : after (.jobStoppingEvent 0x0301 0x88 0 0) (mod 2) (fun t => t.obj .moduleState == 4 && (t.ctx 0 0).st == .halted) = true ∧ idle (.jobStoppingEvent 0x0301 0x87 0 0) (mod 2) = true := by
  decide +kernel
theorem test_module_removing : idle (.moduleRemovingEvent 0x0901 0 0 0) base = true ∧ after (.moduleRemovingEvent 0x0901 0 0 (dieUnit 0 15 1023)) (inPort { Port.zero with st := 3 } base) (fun t => t.obj .moduleState == 5 && (t.port 0).st == 5 && (t.ctx 0 0).st == .halted) = true := by
  decide +kernel
theorem test_fence_die : after (.fenceDieWrite 47) base (fun t => t.obj .fenceDie == 47) = true ∧ idle (.fenceDieWrite 0) base = true := by decide +kernel

/-! ### The chain and activation -/

def fw (f : Fw → Fw) (g : Nat := 0) : State := { base with fw := f base.fw, gtc := g }
def chain1 : Chain := ⟨0, 7, none, 2000, 0⟩
/-- A chain whose value is the stored 4,200 bytes; port 0 faces east and is up; the place is (0, 0) of pod 0. -/
def chained (f : Forward) (g : Nat := 0) : State :=
  (inPort { Port.zero with st := 2, step := 5 } { base with
    fw := { base.fw with chain := some chain1, stage := 2, slot0 := List.replicate 4200 0, recA := none, forwards := [f] }, gtc := g }).setObj .portRole 2
def fwd1 : Forward := { Forward.zero with st := 1, opened := true }
def fwdBusy : Forward := { Forward.zero with st := 1, busy := some 0 }

theorem witness_ChainAndActivation : base.obj .placeValid = 1 ∧ base.fw.stage = 0 ∧ (fw (fun f => { f with stage := 2 })).fw.stage ≠ 0 ∧ base.fw.chain = none ∧
    (chained Forward.zero).fw.chain = some chain1 ∧ (chained Forward.zero).covers chain1 0 = true ∧ (chained Forward.zero).covers { chain1 with origin := 1 } 0 = false ∧
    ((chained Forward.zero).forward 0).st = 0 ∧ (chained Forward.zero).roleGroup 2 6 = [0] ∧ base.roleGroup 2 6 = [] ∧ (chained fwd1).forward 0 = fwd1 ∧
    fwd1.sent + 1051 ≤ min chain1.nwords (fwd1.words + 16816) ∧ 0 + 16816 ≤ ({ fwd1 with sent := 16816 } : Forward).sent ∧
    ((chained fwdBusy 60000000000).forward 0).busy = some 0 ∧ 0 + 60000000000 ≤ (chained fwdBusy 60000000000).gtc ∧ (chained fwdBusy 1000000000).gtc < 60000000000 ∧
    base.fw.delivery = none ∧ base.fw.active = none ∧ base.obj .moduleState = 1 ∧ (mod 2).obj .moduleState ≠ 5 ∧
    (fw (fun f => { f with active := some 2 })).slotReason ((fw (fun f => { f with active := some 2 })).fw.slot base.fw.inactive) ≠ 0 ∧
    base.obj .startPhase = 9 ∧ base.fw.reread = false ∧ (fw (fun f => { f with reread := true })).fw.reread = true ∧ base.fw.slot base.fw.inactive = [] := by decide +kernel

-- the verified words of the value reach its block; a bundle that passes its check (reason 0) depends on the cipher, which no evaluation sees
set_option maxRecDepth 100000 in
theorem witness_chain_words : fwd1.sent + 1051 ≤ (chained fwd1).chainBytes.length / 4 := by decide +kernel

theorem test_chain_origin : after .chainOrigin (fw (fun f => { f with stage := 2 }) 9) (fun t => (t.fw.chain.map (fun c => (c.id, c.axis, c.nwords))) == some (9, none, 4)) = true ∧ idle .chainOrigin base = true := by
  decide +kernel
theorem test_chain_stop : after .chainStop (chained fwd1) (fun t => t.fw.chain == none && t.fw.forwards == []) = true := by decide +kernel
theorem test_chain_forward : after (.chainForward 0) (chained Forward.zero) (fun t => (t.forward 0).st == 1 && t.fab.inb.map (fun i => (i.out, i.vc)) == [(0, 6)]) = true ∧ idle (.chainForward 0) base = true := by decide +kernel
theorem test_chain_retry : after (.chainRetry 0) (chained fwdBusy 60000000000) (fun t => (t.forward 0).st == 3 && t.obj .fwCounters 0 4 == 1) = true ∧
    after (.chainRetry 0) (chained fwdBusy 1000000000) (fun t => (t.forward 0).triedAt == 1000000000) = true := by decide +kernel
theorem test_activate : after .activateCommit (fw (fun f => { f with stage := 2 })) (fun t => t.fw.active == some 1 && t.obj .activateState == 2 ^ 24) = true ∧ idle .activateCommit base = true := by decide +kernel
theorem test_activate_warm : after .activateCommitWarm (fw (fun f => { f with stage := 2 })) (fun t => t.fw.active == some 2) = true ∧ idle .activateCommitWarm base = true := by decide +kernel
-- no bundle in the slot: malformed, reason 0x01
theorem test_verify : after .activationVerifyDone (fw (fun f => { f with active := some 1 })) (fun t => t.fw.active == none && t.obj .activateState == 0x3010000) = true := by decide +kernel
theorem test_reread : after .stagedReread (fw (fun f => { f with stage := 2, blocks := 3 })) (fun t => t.fw.stage == 0 && t.fw.blocks == 0) = true := by decide +kernel

/-! ### The board's ports -/

def canS (b : Nat) (c : CanPort) : State := { base with bnd := { base.bnd with can := [(b, c)] } }
/-- An FD frame of a function for a node. -/
def cid (func node : Nat) : BitVec 11 := BitVec.ofNat 11 (func * 128 + node)

theorem witness_CanPorts : base.obj .canEn 1 = 1 ∧ (base.can 1).busOff = false ∧ (base.setObj .canEn 0 1).obj .canEn 1 ≠ 1 ∧ (cid 5 127).toNat / 128 = 5 ∧ (cid 5 127).toNat % 128 = 127 ∧
    (cid 5 (base.canNode 1)).toNat % 128 = base.canNode 1 ∧ base.canNode 1 ≠ 2 ∧ base.canNode 1 ≠ 127 ∧ (base.can 1).conflict = none ∧
    ((canS 1 { CanPort.zero with conflict := some 0 }).can 1).conflict = some 0 ∧ (canS 1 CanPort.zero).gtc < 0 + 1000000000 ∧
    ((canS 1 { CanPort.zero with busOff := true }).can 1).busOff = true ∧ ((canS 1 { CanPort.zero with ground := 2 }).can 1).ground = 2 ∧
    ((canS 1 { CanPort.zero with supply := 2 }).can 1).supply = 2 ∧ ((canS 1 { CanPort.zero with clean := 9 }).can 1).clean = 9 ∧
    ((canS 1 { CanPort.zero with term := 15 }).can 1).term = 15 ∧ ((canS 1 { CanPort.zero with edges := 7 }).can 1).edges = 7 ∧ (base.obj .canPhy 1).testBit 0 = false := by decide +kernel

theorem test_can_frame : after (.canFrameReceive 1 0 (cid 5 (base.canNode 1)) (pdu 1 0 0x23 0 [])) base (fun t => t.chb.inbox.map (fun x => x.pdu) == [pdu 1 0 0x23 0 []] && t.obj .canCounters 1 0 == 1) = true ∧
    after (.canFrameReceive 1 0 (cid 4 (base.canNode 1)) []) base (fun t => t.obj .canCounters 1 5 == 1 && t.chb.events.map (fun e => e.code) == [0x0705]) = true := by decide +kernel
theorem test_bus_off : after (.canBusOff 1) base (fun t => (t.can 1).busOff && t.obj .canCounters 1 3 == 1) = true := by decide +kernel
theorem test_bus_on : after (.canBusOffRecovery 1) (canS 1 { CanPort.zero with busOff := true }) (fun t => !(t.can 1).busOff) = true := by decide +kernel
theorem test_can_line : after (.canLineMeasure 1 (.levels 499 2500)) (canS 1 { CanPort.zero with ground := 2 }) (fun t => t.obj .canPhy 1 == 0x11 && t.obj .canPhyCounters 1 0 == 1) = true ∧
    after (.canLineMeasure 1 (.edge (-901) 900)) (canS 1 { CanPort.zero with edges := 7 }) (fun t => t.obj .canPhy 1 == 8 && (t.can 1).swapped) = true := by decide +kernel

def up (s : State := base) : State := s.setObj .ethState 3
def tapS (n : Nat) : State := { base with bnd := { base.bnd with tap := n, bypass := true } }
/-- Samples of a frame with value `v` and its stop bit high: each bit three times. -/
def frame (v : Nat) : BitVec 30 := BitVec.ofNat 30 (((List.range 10).map (fun k => if (512 + 2 * v).testBit k then 7 * 8 ^ k else 0)).sum)

theorem witness_EthernetUartTap : (up.obj .ethState).testBit 1 = true ∧ (base.setObj .ethState 0).obj .ethState = 0 ∧ (BitVec.ofNat 16 (up.obj .udpPort)).toNat = up.obj .udpPort ∧
    (List.replicate 1232 (0 : BitVec 8)).length ≤ 1232 ∧ 1232 < (List.replicate 1233 (0 : BitVec 8)).length ∧ (up (base.setObj .slaac 1)).obj .slaac = 1 ∧ (up (base.setObj .slaac 0)).obj .slaac ≠ 1 ∧
    majority3 ((frame 0x55).getLsbD 0) ((frame 0x55).getLsbD 1) ((frame 0x55).getLsbD 2) = false ∧ (0 : BitVec 30).getLsbD 29 = false ∧
    base.bnd.fifo.length < 256 ∧ (9600 : BitVec 32).toNat = 9600 ∧ (3000000 : BitVec 32).toNat ≤ 3000000 ∧ (9599 : BitVec 32).toNat < 9600 ∧
    (tapS 4).bnd.tap = 4 ∧ (tapS 11).bnd.tap = 11 := by decide +kernel

theorem test_udp : after (.udpDatagramReceive 1 2 (BitVec.ofNat 16 (base.obj .udpPort)) (pdu 1 0 0x23 0 [])) up (fun t => t.chb.inbox.map (fun x => x.client) == [.udp 1 2]) = true ∧
    idle (.udpDatagramReceive 1 2 0 (pdu 1 0 0x23 0 [])) up = true := by decide +kernel
theorem test_eth : after (.ethLinkChange true) base (fun t => t.obj .ethState == 3) = true := by decide +kernel
theorem test_slaac : after (.slaacAddressAcquire 0x20010DB800000000 false) (up (base.setObj .slaac 1)) (fun t => t.bnd.slaac.map (fun a => a.take 4) == [[0x20, 0x01, 0x0D, 0xB8]]) = true := by decide +kernel
theorem test_uart_rx : after (.uartFrameReceive (frame 0x55) false 0) base (fun t => t.bnd.fifo == [0x55] && t.obj .uartCounters 0 1 == 1) = true ∧
    after (.uartFrameReceive 0 false 0) base (fun t => t.obj .uartCounters 0 3 == 1 && t.obj .uartCounters 0 2 == 1) = true := by decide +kernel
theorem test_uart_tx : after (.uartFrameSend 0x41) base (fun t => t.bnd.console == [0x41] && t.obj .uartCounters 0 0 == 1) = true := by decide +kernel
theorem test_baud : after (.uartBaudWrite 3000000) base (fun t => t.obj .uartBaud == 3000000) = true ∧ idle (.uartBaudWrite 9599) base = true := by decide +kernel
-- Shift-DR with TMS 1 goes to Exit1-DR; TRST# goes to Test-Logic-Reset
theorem test_tap : after (.tapTckEdge true true false true) (tapS 4) (fun t => t.bnd.tap == 5 && !t.bnd.bypass) = true ∧ after (.tapTckEdge true true false false) (tapS 4) (fun t => t.bnd.tap == 0) = true := by
  decide +kernel

/-! ### Ill-formed commands -/

theorem test_wf : Instr.wf (.registerWrite (.supervisor 49) 0 0) = false ∧ Instr.wf (.registerWrite (.supervisor 48) 0 0) = true ∧ Instr.wf (.registerWrite (.prog c0) 0 0) = true ∧
    Instr.wf (.bar0Access 0 0 0 none) = false ∧ Instr.wf (.bar0Access 0 0 4097 none) = false ∧ Instr.wf (.bar2Read 0 0 0) = false ∧ Instr.wf (.bar2Read 0 0 4097) = false ∧
    Instr.wf (.bar2Write 0 0 [] false) = false ∧ Instr.wf (.dmaDescriptorExecute 0 []) = false ∧ Instr.wf (.throttleUpdate 0 []) = false ∧
    Instr.wf (.thermalCriticalGate 0 0 []) = false ∧ Instr.wf (.thermalUngate 0 0 [1]) = false ∧ Instr.wf (.thermalShutdown 0 0 [1, 2, 3, 4, 5]) = false ∧
    Instr.wf (.coolantSample [1]) = false ∧ Instr.wf (.canFrameReceive 0 0 0 (List.replicate 65 0)) = false ∧ Instr.wf (.poolMoveSwitch ⟨[0], []⟩) = false ∧
    Instr.wf (.poolMoveSwitch noData) = true ∧ Instr.wf (.markerRecognised 0 0 0 []) = false ∧ Instr.wf (.codewordReceive 0 [] []) = false := by decide +kernel
theorem test_wf_udp : Instr.wf (.udpDatagramReceive 0 0 0 (List.replicate 65536 0)) = false := by simp only [Instr.wf, List.length_replicate]; decide
theorem test_wf_start : Instr.wf (.coldStart (sin 8 true)) = true ∧ Instr.wf (.coldStart { sin 8 true with pins := [] }) = false ∧ Instr.wf (.warmStart { sin 8 true with pages := [0, 3] }) = false ∧
    Instr.wf (.warmStart { sin 8 true with dead := [(0, 256, 0, 0)] }) = false ∧ Instr.wf (.coldStart { sin 8 true with units := [⟨0, [], []⟩] }) = false ∧
    Instr.wf (.moduleRemovingEvent 0x0901 0 0 (BitVec.ofNat 64 (2 ^ 63 + 9 * 2 ^ 58))) = false := by decide +kernel

end Sys2Proof.Tests
end

section

/-!
# Every command completes and leaves the queue (O3)

`exec` never answers a fault or a refusal, and no command touches `State.pending`. The layer below says of each function of the
model that a command reaches, in the model's order, what it does to the queue: `f_pending` where its answer is a state,
`f_keeps` where it is one of the answers a state stands in, `f_completes` where it is a command's outcome. Each is a frame
equation that the next one rewrites with, so that no proof looks below the function it is about.

A proof by `(rfl)`, and not by `rfl`, keeps its equation out of `dsimp`: the kernel would otherwise have to run the function to
check the step.
-/

namespace Sys2Proof.Machine

/-! ### The queue under folds and branches -/

@[simp] theorem State.ite_pending {c : Prop} [Decidable c] (s t : State) :
    (if c then s else t).pending = if c then s.pending else t.pending := apply_ite ..

@[simp] theorem State.ite_fst_pending {β : Type} {c : Prop} [Decidable c] (p q : State × β) :
    (if c then p else q).1.pending = if c then p.1.pending else q.1.pending :=
  apply_ite (fun r : State × β => r.1.pending) ..

@[simp] theorem foldl_pending {α : Type} {f : State → α → State} (h : ∀ s a, (f s a).pending = s.pending) (l : List α)
    (s : State) : (l.foldl f s).pending = s.pending := by
  induction l generalizing s with
  | nil => rfl
  | cons a l ih => exact (ih _).trans (h s a)

@[simp] theorem foldl_setObj_pending {α : Type} (o : Obj) (v i j : State → α → Nat) (l : List α) (s : State) :
    (l.foldl (fun t a => t.setObj o (v t a) (i t a) (j t a)) s).pending = s.pending :=
  foldl_pending (fun t a => State.setObj_pending t o (v t a) (i t a) (j t a)) l s

theorem foldl_fst_pending {α β : Type} {f : State × β → α → State × β} (h : ∀ p a, (f p a).1.pending = p.1.pending)
    (l : List α) (p : State × β) : (l.foldl f p).1.pending = p.1.pending := by
  induction l generalizing p with
  | nil => rfl
  | cons a l ih => exact (ih _).trans (h p a)

/-! ### The answers a state stands in -/

/-- The state this answer carries, where it carries one, has the queue of `s`. -/
@[simp] def SendRes.Keeps (s : State) : SendRes → Prop
  | .sent t => t.pending = s.pending
  | _ => True

@[inherit_doc SendRes.Keeps, simp] def Handed.Keeps (s : State) : Handed → Prop
  | .sent t => t.pending = s.pending
  | .moved t => t.pending = s.pending
  | _ => True

theorem Handed.Keeps.of_eq {a : Handed} {s : State} (h : a.Keeps s) {b : Handed} (e : a = b) : b.Keeps s := e ▸ h

@[inherit_doc SendRes.Keeps, simp] def Served.Keeps (s : State) : Served → Prop
  | .done t _ _ _ => t.pending = s.pending
  | .host t _ => t.pending = s.pending

@[inherit_doc SendRes.Keeps, simp] def CopyRes.Keeps (s : State) : CopyRes → Prop
  | .written t => t.pending = s.pending
  | .host t => t.pending = s.pending
  | .refused t => t.pending = s.pending

@[inherit_doc SendRes.Keeps, simp] def BellAt.Keeps (s : State) : BellAt → Prop
  | .no => True
  | .here t _ => t.pending = s.pending
  | .host t _ _ _ => t.pending = s.pending

@[inherit_doc SendRes.Keeps, simp] def Delivered.Keeps (s : State) : Delivered → Prop
  | .more t _ => t.pending = s.pending
  | .abort t _ => t.pending = s.pending

/-- The state an instruction's body leaves, where it leaves one, has the queue of `s`. It is an inductive predicate and not a
match on the body: the kernel then has nothing to unfold when it compares two forms of a body. -/
inductive Body.Keeps (s : State) : Body → Prop
  | done {t : State} (h : t.pending = s.pending) : Body.Keeps s (.done t)
  | jump {t : State} (pc : Pc) (h : t.pending = s.pending) : Body.Keeps s (.jump t pc)
  | trap {t : State} (cause unit slot : Nat) (addr loc : Word) (h : t.pending = s.pending) :
      Body.Keeps s (.trap t cause unit slot addr loc)
  | stall : Body.Keeps s .stall
  | stalled {t : State} (h : t.pending = s.pending) : Body.Keeps s (.stalled t)
  | wait {t : State} (h : t.pending = s.pending) : Body.Keeps s (.wait t)
  | own {t : State} (h : t.pending = s.pending) : Body.Keeps s (.own t)

@[simp] theorem Body.keeps_done {s t : State} : (Body.done t).Keeps s ↔ t.pending = s.pending :=
  ⟨fun | .done h => h, .done⟩
@[simp] theorem Body.keeps_jump {s t : State} {pc : Pc} : (Body.jump t pc).Keeps s ↔ t.pending = s.pending :=
  ⟨fun | .jump _ h => h, .jump pc⟩
@[simp] theorem Body.keeps_trap {s t : State} {cause unit slot : Nat} {addr loc : Word} :
    (Body.trap t cause unit slot addr loc).Keeps s ↔ t.pending = s.pending :=
  ⟨fun | .trap _ _ _ _ _ h => h, .trap cause unit slot addr loc⟩
@[simp] theorem Body.keeps_stall {s : State} : Body.stall.Keeps s := .stall
@[simp] theorem Body.keeps_stalled {s t : State} : (Body.stalled t).Keeps s ↔ t.pending = s.pending :=
  ⟨fun | .stalled h => h, .stalled⟩
@[simp] theorem Body.keeps_wait {s t : State} : (Body.wait t).Keeps s ↔ t.pending = s.pending :=
  ⟨fun | .wait h => h, .wait⟩
@[simp] theorem Body.keeps_own {s t : State} : (Body.own t).Keeps s ↔ t.pending = s.pending :=
  ⟨fun | .own h => h, .own⟩

@[simp] theorem Body.keeps_ite {s : State} {c : Prop} [Decidable c] {a b : Body} :
    (if c then a else b : Body).Keeps s ↔ if c then a.Keeps s else b.Keeps s := by
  split <;> rfl

theorem Body.Keeps.trans {b : Body} {s t : State} (h : b.Keeps t) (e : t.pending = s.pending) : b.Keeps s := by
  cases h with
  | stall => exact .stall
  | _ => constructor; simp_all

/-- A command's outcome is a next state, with the queue of `s`. -/
def Completes (s : State) (o : Out) : Prop := ∃ t, o = .next t ∧ t.pending = s.pending

@[simp] theorem completes_next {s t : State} : Completes s (.next t) ↔ t.pending = s.pending :=
  ⟨fun ⟨_, e, h⟩ => by cases e; exact h, fun h => ⟨t, rfl, h⟩⟩

@[simp] theorem completes_ite {s : State} {c : Prop} [Decidable c] {a b : Out} :
    Completes s (if c then a else b) ↔ if c then Completes s a else Completes s b := by
  split <;> rfl

section

variable (c : CtxId) (w : Low56) (port : Fin 48) (s : State)

/-! ### `Machine/Access.lean` -/

@[simp] theorem State.setKeyVal_pending (k v : Nat) : (s.setKeyVal k v).pending = s.pending := by
  unfold State.setKeyVal; split <;> simp
@[simp] theorem State.addObj_pending (o : Obj) (n i j : Nat) : (s.addObj o n i j).pending = s.pending := (rfl)
@[simp] theorem State.incObj_pending (o : Obj) (i j : Nat) : (s.incObj o i j).pending = s.pending := (rfl)
@[simp] theorem State.updCore_pending (k : Nat) (f : Core → Core) : (s.updCore k f).pending = s.pending := (rfl)
@[simp] theorem State.updCtx_pending (k x : Nat) (f : Ctx → Ctx) : (s.updCtx k x f).pending = s.pending := (rfl)
@[simp] theorem State.updSlot_pending (k n : Nat) (f : Slot → Slot) : (s.updSlot k n f).pending = s.pending := (rfl)
@[simp] theorem State.updPort_pending (n : Nat) (f : Port → Port) : (s.updPort n f).pending = s.pending := (rfl)
@[simp] theorem State.fresh_pending : s.fresh.2.pending = s.pending := (rfl)
@[simp] theorem State.draw_pending : s.draw.2.pending = s.pending := (rfl)
@[simp] theorem State.requestWake_pending (k : Nat) : (s.requestWake k).pending = s.pending := by simp [State.requestWake]

/-! ### `Machine/Event.lean` -/

@[simp] theorem State.sendMsi_pending (l vec : Nat) : (s.sendMsi l vec).pending = s.pending := by simp [State.sendMsi]
@[simp] theorem State.sendSource_pending (j : Nat) : (s.sendSource j).pending = s.pending := by simp [State.sendSource]
@[simp] theorem State.sendEventMsi_pending : s.sendEventMsi.pending = s.pending := by simp [State.sendEventMsi]
@[simp] theorem State.sendPdu_pending (p : Sent) : (s.sendPdu p).pending = s.pending := (rfl)
@[simp] theorem State.closeSession_pending (sid : Nat) : (s.closeSession sid).pending = s.pending := (rfl)
@[simp] theorem State.closeWorn_pending (sid : Nat) : (s.closeWorn sid).pending = s.pending := by simp [State.closeWorn]
@[simp] theorem State.raiseAs_pending (code outcome arg8 arg16 : Nat) (data : Word) :
    (s.raiseAs code outcome arg8 arg16 data).pending = s.pending := by simp [State.raiseAs]
@[simp] theorem State.raiseEvent_pending (code arg8 arg16 : Nat) (data : Word) :
    (s.raiseEvent code arg8 arg16 data).pending = s.pending := by simp [State.raiseEvent]

@[simp] theorem State.addToTable_pending (loc : Word) (src k : Nat) : (s.addToTable loc src k).pending = s.pending := by
  unfold State.addToTable; dsimp only
  repeat' split
  all_goals simp

@[simp] theorem State.updLife_pending (d : Nat) (f : Life → Life) : (s.updLife d f).pending = s.pending := (rfl)
@[simp] theorem State.eccTrend_pending (d : Nat) : (s.eccTrend d).pending = s.pending := by simp [State.eccTrend]
@[simp] theorem State.countErr_pending (loc : Word) (src k : Nat) : (s.countErr loc src k).pending = s.pending := by
  simp [State.countErr]

/-! ### `Machine/Memory.lean` -/

@[simp] theorem State.countEcc_pending (a which bit : Nat) : (s.countEcc a which bit).pending = s.pending := by
  simp [State.countEcc]
@[simp] theorem State.setCellErr_pending (a : Nat) (e : CellErr) : (s.setCellErr a e).pending = s.pending := (rfl)
@[simp] theorem State.freshen_pending (cws : List Nat) : (s.freshen cws).pending = s.pending := by simp [State.freshen]
@[simp] theorem State.poisonGranule_pending (g : Nat) (loc : Word) : (s.poisonGranule g loc).pending = s.pending := by
  simp [State.poisonGranule]
@[simp] theorem State.flipData_pending (a m : Nat) : (s.flipData a m).pending = s.pending := by simp [State.flipData]

@[simp] theorem State.readCw_pending (a : Nat) : (s.readCw a).1.pending = s.pending := by
  unfold State.readCw; dsimp only
  repeat' split
  all_goals simp

@[simp] theorem State.readCws_pending (g : Nat) (cws : List Nat) : (s.readCws g cws).pending = s.pending := by
  have h := foldl_fst_pending (f := fun (acc : State × Option Word) c =>
    ((acc.1.readCw c).1, match acc.2 with | some l => some l | none => (acc.1.readCw c).2)) (fun p c => State.readCw_pending ..)
    cws (s, none)
  unfold State.readCws; dsimp only; split
  · exact (State.poisonGranule_pending ..).trans h
  · exact h

@[simp] theorem State.readPoison_pending (g : Nat) (cws : List Nat) : (s.readPoison g cws).1.pending = s.pending := by
  unfold State.readPoison; split <;> simp
@[simp] theorem State.countBanks_pending (a n : Nat) : (s.countBanks a n).pending = s.pending := by simp [State.countBanks]
@[simp] theorem State.touch_pending (a n : Nat) : (s.touch a n).1.pending = s.pending := (touch_spec s a n).1.pending
@[simp] theorem State.readMem_pending (a n : Nat) : (s.readMem a n).1.pending = s.pending := by simp [State.readMem]
@[simp] theorem State.pokeMem_pending (a : Nat) (bs : List (BitVec 8)) : (s.pokeMem a bs).pending = s.pending := (rfl)

@[simp] theorem State.writeGranule_pending (a : Nat) (bs : List (BitVec 8)) :
    (s.writeGranule a bs).pending = s.pending := by
  unfold State.writeGranule; dsimp only
  repeat' split
  all_goals simp

@[simp] theorem State.writeMem_pending (a : Nat) (bs : List (BitVec 8)) : (s.writeMem a bs).pending = s.pending := by
  simp [State.writeMem]
@[simp] theorem State.zeroFill_pending (lo hi : Nat) : (s.zeroFill lo hi).pending = s.pending := by simp [State.zeroFill]
@[simp] theorem State.zeroFillTier_pending (lo hi : Nat) : (s.zeroFillTier lo hi).pending = s.pending := (rfl)

@[simp] theorem State.writeGranules_pending (a : Nat) (bs : List (BitVec 8)) (loc : Nat → Option Word) :
    (s.writeGranules a bs loc).pending = s.pending := by
  unfold State.writeGranules
  rw [foldl_pending, State.countBanks_pending]
  intro t p; split <;> simp

/-! ### `Machine/Route.lean` -/

@[simp] theorem State.countPort_pending (n i : Nat) : (s.countPort n i).pending = s.pending := (rfl)
@[simp] theorem State.enqueueTx_pending (n vc : Nat) (p : Packet) : (s.enqueueTx n vc p).pending = s.pending := by
  simp [State.enqueueTx]

theorem State.sendTagged_keeps (ref : TagRef) (die : Nat) (p : Packet) : (s.sendTagged ref die p).Keeps s := by
  unfold State.sendTagged; dsimp only
  repeat' split
  all_goals simp

@[simp] theorem State.sendUntagged_pending (die : Nat) (p : Packet) : (s.sendUntagged die p).pending = s.pending := by
  unfold State.sendUntagged; dsimp only; split <;> simp

/-! ### `Machine/Grid.lean` -/

/-- A packet that enters the fabric leaves the queue. -/
theorem State.inject_pending (p : FabPkt) : ∀ t, s.inject p = some t → t.pending = s.pending := by
  unfold State.inject; dsimp only
  repeat' split
  all_goals simp

@[simp] theorem State.flushWait_pending : s.flushWait.pending = s.pending := by
  unfold State.flushWait; dsimp only
  refine (foldl_fst_pending (fun acc p => ?_) _ _).trans rfl
  have h := acc.1.inject_pending p
  repeat' split
  all_goals simp_all

@[simp] theorem State.emit_pending (ref cls len psn : Nat) (src dst : Endp) (posted : Bool) :
    (s.emit ref cls len psn src dst posted).pending = s.pending := by simp [State.emit]
@[simp] theorem State.sendOut_pending (e : Endp) (out vc : Nat) (p : Packet) :
    (s.sendOut e out vc p).pending = s.pending := by simp [State.sendOut]

@[simp] theorem State.answerFrom_pending (e : Endp) (req : Packet) (via status : Nat) (content : List (BitVec 8))
    (psn : Nat) :
    (s.answerFrom e req via status content psn).pending = s.pending := by
  unfold State.answerFrom; dsimp only; split <;> simp

@[simp] theorem State.answer_pending (req : Packet) (via status : Nat) : (s.answer req via status).pending = s.pending := by
  simp [State.answer]
@[simp] theorem State.post_pending (cls len : Nat) (src dst : Endp) : (s.post cls len src dst).pending = s.pending := by
  simp [State.post]
@[simp] theorem State.serveW4_pending : s.serveW4.pending = s.pending := by simp [State.serveW4]
@[simp] theorem State.consume_pending (ref : Nat) : (s.consume ref).pending = s.pending := (rfl)

/-! ### `Machine/StreamBase.lean` -/

@[simp] theorem State.sendCredits_pending (k slot : Nat) (dst : Word) (dslot gen n : Nat) :
    (s.sendCredits k slot dst dslot gen n).pending = s.pending := by
  induction n generalizing s with
  | zero => rfl
  | succ n ih =>
    rw [State.sendCredits, ih]; dsimp only
    repeat' split
    all_goals simp

@[simp] theorem State.topUpCredits_pending (k slot : Nat) : (s.topUpCredits k slot).pending = s.pending := by
  unfold State.topUpCredits; dsimp only
  repeat' split
  all_goals simp

@[simp] theorem State.progress_pending (k n : Nat) : (s.progress k n).pending = s.pending := (rfl)
@[simp] theorem State.noteStall_pending (k n : Nat) (before : Bool) : (s.noteStall k n before).pending = s.pending := by
  simp [State.noteStall]
@[simp] theorem State.startQueued_pending (k n : Nat) : (s.startQueued k n).pending = s.pending := by
  simp [State.startQueued]

@[simp] theorem State.returnTiles_pending (k slot first n : Nat) : (s.returnTiles k slot first n).pending = s.pending := by
  simp only [State.returnTiles, State.noteStall_pending, State.startQueued_pending, State.topUpCredits_pending,
    State.updSlot_pending]

@[simp] theorem State.resumeStreams_pending (k x : Nat) : (s.resumeStreams k x).pending = s.pending := by
  simp [State.resumeStreams]
@[simp] theorem State.noteFault_pending (k n r : Nat) : (s.noteFault k n r).pending = s.pending := by simp [State.noteFault]

/-! ### `Machine/Ops.lean` -/

@[simp] theorem State.endLend_pending (k : Nat) : (s.endLend k).pending = s.pending := by
  unfold State.endLend; split <;> simp

@[simp] theorem State.returnOpTiles_pending (k : Nat) (o : EngOp) : (s.returnOpTiles k o).pending = s.pending := by
  unfold State.returnOpTiles; dsimp only
  repeat' split
  all_goals simp

@[simp] theorem State.stopCtx_pending (k x : Nat) : (s.stopCtx k x).pending = s.pending := by simp [State.stopCtx]
@[simp] theorem State.haltCtx_pending (k x : Nat) : (s.haltCtx k x).pending = s.pending := by simp [State.haltCtx]
@[simp] theorem State.takeException_pending (k x : Nat) (e : Exc) : (s.takeException k x e).pending = s.pending := by
  simp [State.takeException]
@[simp] theorem State.takeCoreException_pending (k cause unit : Nat) (loc : Word) :
    (s.takeCoreException k cause unit loc).pending = s.pending := by simp [State.takeCoreException]
@[simp] theorem State.exceptionReturn_pending (k x : Nat) (pc : Pc) : (s.exceptionReturn k x pc).pending = s.pending :=
  (rfl)
@[simp] theorem State.settleStep_pending (k x : Nat) : (s.settleStep k x).pending = s.pending := by simp [State.settleStep]
@[simp] theorem State.finish_pending (k x : Nat) (pc : Pc) : (s.finish k x pc).pending = s.pending := by simp [State.finish]
@[simp] theorem State.enterWait_pending (k x : Nat) (f : WaitFor) (kind arg index : Nat) (thresh : Word) :
    (s.enterWait k x f kind arg index thresh).pending = s.pending := by simp [State.enterWait]
@[simp] theorem State.completeWait_pending (k x : Nat) : (s.completeWait k x).pending = s.pending := by
  simp [State.completeWait]
@[simp] theorem State.fetchLine_pending (k line : Nat) : (s.fetchLine k line).1.pending = s.pending := by
  unfold State.fetchLine; split <;> simp

theorem touchPair_pending {s : State} {a n : Nat} {r : State × Option Word}
    (e : r = ((s.touch a n).1, firstPoison (s.touch a n).2)) :
    r.1.pending = s.pending := by
  subst e; exact s.touch_pending a n

@[simp] theorem State.fetchDirect_pending (s : State) (k off : Nat) : (s.fetchDirect k off).1.pending = s.pending :=
  touchPair_pending (fetchDirect_eq s k off)

@[simp] theorem State.fetch_pending (k x : Nat) : (s.fetch k x).1.pending = s.pending := by
  unfold State.fetch; split <;> simp
@[simp] theorem State.noteStep_pending (k x : Nat) : (s.noteStep k x).pending = s.pending := (rfl)
@[simp] theorem State.countIssue_pending (k x : Nat) : (s.countIssue k x).pending = s.pending := by simp [State.countIssue]

/-- A body that keeps the queue of `s` lands in a state that has it. -/
theorem Body.land_pending {b : Body} {s : State} (h : b.Keeps s) (k x : Nat) (pc : Pc) :
    (b.land s k x pc).pending = s.pending := by
  cases b <;> simp_all [Body.land]

@[simp] theorem State.clearUpset_pending (u : Upset) : (s.clearUpset u).pending = s.pending := (rfl)

@[simp] theorem State.accCheck_pending (k : Nat) (hit : Nat → Nat → Bool) (mark : Nat → Nat → Core → Core) :
    (s.accCheck k hit mark).pending = s.pending := by
  refine foldl_pending (fun t u => ?_) _ _
  repeat' split
  all_goals simp

@[simp] theorem State.accRead_pending (k : Nat) (tiles : List Nat) : (s.accRead k tiles).pending = s.pending := by
  simp [State.accRead]
@[simp] theorem State.accReadBlock_pending (k n : Nat) : (s.accReadBlock k n).pending = s.pending := by
  simp [State.accReadBlock]
@[simp] theorem State.accWritten_pending (k n lo hi : Nat) : (s.accWritten k n lo hi).pending = s.pending := by
  simp [State.accWritten]

theorem issue_completes {c : CtxId} {w : Low56} {v : Bool} {legal hazard : State → Bool} {body : State → Body}
    (h : ∀ t, (body t).Keeps t) {s : State} :
    Completes s (issue c w v legal hazard body s) := by
  have hl (t : State) (pc : Pc) : ((body t).land t c.key c.ctx.val pc).pending = t.pending := Body.land_pending (h t) ..
  unfold issue; dsimp only
  repeat' split
  all_goals simp [hl]

/-! ### `Machine/Operands.lean` -/

@[simp] theorem State.setG_pending (c : CtxId) (r : Nat) (v : GReg) : (s.setG c r v).pending = s.pending := (rfl)
@[simp] theorem State.setP_pending (c : CtxId) (r : Nat) (v : Word) : (s.setP c r v).pending = s.pending := (rfl)
@[simp] theorem poisonUse_keeps (c : CtxId) (unit : Nat) : (poisonUse s c unit).Keeps s := by simp [poisonUse]

/-! ### `Machine/Flags.lean` -/

@[simp] theorem State.raise_pending (k x : Nat) (f : Flags) : (s.raise k x f).pending = s.pending := (rfl)

/-! ### `Machine/Ccb.lean` -/

@[simp] theorem State.refuseCmd_pending (k : Nat) : (s.refuseCmd k).pending = s.pending := (rfl)
@[simp] theorem ccbStart_pending (k x : Nat) (s : State) : (ccbStart k x s).pending = s.pending := by simp [ccbStart]
@[simp] theorem execCcbStart_completes (c : CtxId) (s : State) : Completes s (execCcbStart c s) := by simp [execCcbStart]
@[simp] theorem ccbHalt_pending (k x : Nat) (s : State) : (ccbHalt k x s).pending = s.pending := by simp [ccbHalt]
@[simp] theorem execCcbHalt_completes (c : CtxId) (s : State) : Completes s (execCcbHalt c s) := by simp [execCcbHalt]
@[simp] theorem ccbStep_pending (k x : Nat) (s : State) : (ccbStep k x s).pending = s.pending := by simp [ccbStep]
@[simp] theorem execCcbStep_completes (c : CtxId) (s : State) : Completes s (execCcbStep c s) := by simp [execCcbStep]
@[simp] theorem ccbClear_pending (k x : Nat) (s : State) : (ccbClear k x s).pending = s.pending := by simp [ccbClear]
@[simp] theorem execCcbClearException_completes (c : CtxId) (s : State) : Completes s (execCcbClearException c s) := by
  simp [execCcbClearException]
@[simp] theorem resetCtx_pending (k x : Nat) (s : State) : (resetCtx k x s).pending = s.pending := by simp [resetCtx]
@[simp] theorem ccbContextReset_pending (k x : Nat) (s : State) : (ccbContextReset k x s).pending = s.pending := by
  simp [ccbContextReset]
@[simp] theorem execCcbContextReset_completes (c : CtxId) (s : State) : Completes s (execCcbContextReset c s) := by
  simp [execCcbContextReset]
@[simp] theorem resetCore_pending (k : Nat) (s : State) : (resetCore k s).pending = s.pending := by simp [resetCore]
@[simp] theorem ccbCoreReset_pending (fill : Bool) (k : Nat) (s : State) : (ccbCoreReset fill k s).pending = s.pending := by
  simp [ccbCoreReset]
@[simp] theorem execCcbCoreReset_completes (k : CoreId) (s : State) : Completes s (execCcbCoreReset k s) := by
  simp [execCcbCoreReset]
@[simp] theorem execCcbCoreResetZeroFill_completes (k : CoreId) (s : State) :
    Completes s (execCcbCoreResetZeroFill k s) := by simp [execCcbCoreResetZeroFill]
@[simp] theorem ctxSplitWrite_pending (k : Nat) (v : Word) (s : State) : (ctxSplitWrite k v s).pending = s.pending := by
  simp [ctxSplitWrite]
@[simp] theorem execCtxSplitWrite_completes (k : CoreId) (v : Word) (s : State) :
    Completes s (execCtxSplitWrite k v s) := by simp [execCtxSplitWrite]
@[simp] theorem ccbCmd_pending (k : Nat) (v : Word) (s : State) : (ccbCmd k v s).pending = s.pending := by
  unfold ccbCmd; split <;> simp

/-! ### `Machine/LoadStore.lean` -/

@[simp] theorem memTrap_keeps (c : CtxId) (unit cause : Nat) (a : Word) : (memTrap s c unit cause a).Keeps s := by
  simp [memTrap]
@[simp] theorem State.updReq_pending (id : Nat) (f : Req → Req) : (s.updReq id f).pending = s.pending := by
  simp [State.updReq]
@[simp] theorem State.launch_pending (r : Req) : (s.launch r).pending = s.pending := by
  unfold State.launch; dsimp only; split <;> simp

@[simp] theorem State.addReq_pending (c : CtxId) (kind : ReqKind) (addr : Word) (size : Nat) (data : List (BitVec 8))
    (poison : Option Word) (stage : ReqStage) (covers : List Nat) :
    (s.addReq c kind addr size data poison stage covers).pending = s.pending := by simp [State.addReq]

@[simp] theorem execLd_completes : Completes s (execLd c w s) := by
  unfold execLd
  extract_lets +onlyGivenNames n
  refine issue_completes fun s => ?_
  extract_lets +onlyGivenNames b
  split
  · simp
  extract_lets +onlyGivenNames a
  split
  · simp
  · simp
  · split <;> simp

@[simp] theorem State.storeNear_pending (c : CtxId) (off : Nat) (bs : List (BitVec 8)) (poison : Bool) :
    (s.storeNear c off bs poison).pending = s.pending := by simp [State.storeNear]

@[simp] theorem execSt_completes : Completes s (execSt c w s) := by
  unfold execSt
  refine issue_completes fun s => ?_
  dsimp only
  repeat' split
  all_goals simp

@[simp] theorem execLdp_completes : Completes s (execLdp c w s) := by
  -- `readMem` as a variable: the kernel must not run it to see which branch is taken
  obtain ⟨f, hf, hk⟩ : ∃ f, State.readMem = f ∧ ∀ s a n, (f s a n).1.pending = s.pending :=
    ⟨_, rfl, State.readMem_pending⟩
  unfold execLdp
  rw [hf]
  refine issue_completes fun s => ?_
  extract_lets +onlyGivenNames b
  split
  · simp
  extract_lets +onlyGivenNames a
  split
  · extract_lets +onlyGivenNames r
    split <;> simp [r, hk]
  all_goals simp

@[simp] theorem execStp_completes : Completes s (execStp c w s) := by
  unfold execStp
  refine issue_completes fun s => ?_
  dsimp only
  repeat' split
  all_goals simp

@[simp] theorem State.pend_pending (c : CtxId) (p : VecPend) : (s.pend c p).pending = s.pending := (rfl)

@[simp] theorem execVld_completes : Completes s (execVld c w s) := by
  unfold execVld
  refine issue_completes fun s => ?_
  extract_lets +onlyGivenNames b
  split
  · simp
  extract_lets +onlyGivenNames a
  split
  · extract_lets +onlyGivenNames m base
    split <;> simp
  all_goals simp

@[simp] theorem storeGroup_pending (c : CtxId) (off : Nat) (m : Word) (v : VReg) (s : State) (q : Nat) :
    (storeGroup c off m v s q).pending = s.pending := by simp [storeGroup]

@[simp] theorem execVst_completes : Completes s (execVst c w s) := by
  unfold execVst
  refine issue_completes fun s => ?_
  extract_lets +onlyGivenNames b
  split
  · simp
  extract_lets +onlyGivenNames a
  split <;> simp

/-! ### `Machine/Valve.lean` -/

@[simp] theorem State.wakeValve_pending (k v : Nat) : (s.wakeValve k v).pending = s.pending := by
  unfold State.wakeValve; dsimp only; split <;> simp
@[simp] theorem State.countSigErr_pending (k : Nat) (err : Bool) : (s.countSigErr k err).pending = s.pending := by
  simp [State.countSigErr]
@[simp] theorem State.openValve_pending (k v : Nat) (src : Word) (time : Nat) (err : Bool) :
    (s.openValve k v src time err).pending = s.pending := by simp [State.openValve]
@[simp] theorem State.closeValve_pending (k v : Nat) : (s.closeValve k v).pending = s.pending := (rfl)

@[simp] theorem State.wakeTally_pending (k t : Nat) : (s.wakeTally k t).pending = s.pending := by
  unfold State.wakeTally; dsimp only
  repeat' split
  all_goals simp

@[simp] theorem State.addTally_pending (k t : Nat) (amount src : Word) (time : Nat) (err : Bool) :
    (s.addTally k t amount src time err).1.pending = s.pending := by
  unfold State.addTally; dsimp only; split <;> simp

@[simp] theorem State.openHostValve_pending (h : Nat) (src : Word) (time : Nat) (byCore : Bool) :
    (s.openHostValve h src time byCore).pending = s.pending := by simp [State.openHostValve]
@[simp] theorem State.closeHostValve_pending (h : Nat) : (s.closeHostValve h).pending = s.pending := (rfl)
@[simp] theorem State.coreOpensHost_pending (h k x : Nat) (pc : Pc) (time : Nat) :
    (s.coreOpensHost h k x pc time).pending = s.pending := by simp [State.coreOpensHost]
@[simp] theorem State.releaseHostValves_pending (ref : Nat) (posted : Option Nat) :
    (s.releaseHostValves ref posted).pending = s.pending := by simp [State.releaseHostValves]

/-! ### `Machine/Stop.lean` -/

@[simp] theorem State.copyRecords_pending (fromStop : Bool) : (s.copyRecords fromStop).pending = s.pending := by
  simp [State.copyRecords]
@[simp] theorem State.haltAll_pending : s.haltAll.pending = s.pending := by simp [State.haltAll]
@[simp] theorem State.setMouth_pending (n : Nat) (m : Mouth) : (s.setMouth n m).pending = s.pending := (rfl)
@[simp] theorem State.updMouth_pending (n : Nat) (f : Mouth → Mouth) : (s.updMouth n f).pending = s.pending := (rfl)
@[simp] theorem State.setBell_pending (n : Nat) (b : Bell) : (s.setBell n b).pending = s.pending := (rfl)
@[simp] theorem State.updBell_pending (n : Nat) (f : Bell → Bell) : (s.updBell n f).pending = s.pending := (rfl)
@[simp] theorem State.stopWalks_pending : s.stopWalks.pending = s.pending := by simp [State.stopWalks]
@[simp] theorem State.stopBells_pending : s.stopBells.pending = s.pending := by simp [State.stopBells]
@[simp] theorem State.setLastStop_pending (e : Event) : (s.setLastStop e).pending = s.pending := foldl_setObj_pending ..
@[simp] theorem State.stopJob_pending (e : Event) (why : Nat) (data : Word) :
    (s.stopJob e why data).pending = s.pending := by simp [State.stopJob]
@[simp] theorem State.removeModule_pending (e : Event) : (s.removeModule e).pending = s.pending := by
  simp [State.removeModule]

@[simp] theorem State.raiseActAs_pending (code outcome a8 a16 : Nat) (data : Word) :
    (s.raiseActAs code outcome a8 a16 data).pending = s.pending := by
  unfold State.raiseActAs; dsimp only; split <;> simp

@[simp] theorem State.raiseAct_pending (code a8 a16 : Nat) (data : Word) :
    (s.raiseAct code a8 a16 data).pending = s.pending := by simp [State.raiseAct]
@[simp] theorem execSupervisorStopReport_completes (c : CtxId) (s : State) :
    Completes s (execSupervisorStopReport c s) := by simp [execSupervisorStopReport]

@[simp] theorem execJobStoppingEvent_completes (code : BitVec 16) (a8 : BitVec 8) (a16 : BitVec 16) (data : Word)
    (s : State) :
    Completes s (execJobStoppingEvent code a8 a16 data s) := by simp [execJobStoppingEvent]

@[simp] theorem execModuleRemovingEvent_completes (code : BitVec 16) (a8 : BitVec 8) (a16 : BitVec 16) (data : Word)
    (s : State) :
    Completes s (execModuleRemovingEvent code a8 a16 data s) := by simp [execModuleRemovingEvent]

/-! ### `Machine/SyncInstr.lean` -/

@[simp] theorem execVopen_completes : Completes s (execVopen c w s) := issue_completes fun s => by simp
@[simp] theorem execVclose_completes : Completes s (execVclose c w s) := issue_completes fun s => by simp
@[simp] theorem execVwait_completes : Completes s (execVwait c w s) := issue_completes fun s => by simp
@[simp] theorem execVtest_completes : Completes s (execVtest c w s) := issue_completes fun s => by simp
@[simp] theorem execHvset_completes : Completes s (execHvset c w s) := issue_completes fun s => by simp
@[simp] theorem execHvclr_completes : Completes s (execHvclr c w s) := issue_completes fun s => by simp
@[simp] theorem execHvwait_completes : Completes s (execHvwait c w s) := issue_completes fun s => by simp
@[simp] theorem execHvtest_completes : Completes s (execHvtest c w s) := issue_completes fun s => by simp
@[simp] theorem execTcadd_completes : Completes s (execTcadd c w s) := issue_completes fun s => by simp
@[simp] theorem execTcwait_completes : Completes s (execTcwait c w s) := issue_completes fun s => by simp
@[simp] theorem execTcrd_completes : Completes s (execTcrd c w s) := issue_completes fun s => by simp

@[simp] theorem State.addSignal_pending (c : CtxId) (kind : ReqKind) (a : Word) (size : Nat) (data : List (BitVec 8))
    (poison : Option Word) :
    (s.addSignal c kind a size data poison).pending = s.pending := by simp [State.addSignal]

@[simp] theorem execVsetr_completes : Completes s (execVsetr c w s) := issue_completes fun s => by simp
@[simp] theorem execTcaddr_completes : Completes s (execTcaddr c w s) := issue_completes fun s => by simp
@[simp] theorem State.addFipple_pending (c : CtxId) (a : Word) (v : Nat) (bs : List (BitVec 8)) (poison : Option Word) :
    (s.addFipple c a v bs poison).pending = s.pending := by simp [State.addFipple]

theorem fippleDest_keeps {s : State} {body : Body} (h : body.Keeps s) (c : CtxId) (a : Word) (n : Nat) :
    (fippleDest s c a n body).Keeps s := by
  unfold fippleDest
  repeat' split
  all_goals simp [h]

@[simp] theorem execFsend_completes : Completes s (execFsend c w s) := by
  unfold execFsend
  refine issue_completes fun s => ?_
  extract_lets +onlyGivenNames a b n
  split
  · simp
  split
  · split
    · simp
    · exact fippleDest_keeps (by simp) ..
  all_goals simp

@[simp] theorem execFsendr_completes : Completes s (execFsendr c w s) := by
  unfold execFsendr
  refine issue_completes fun s => ?_
  extract_lets +onlyGivenNames a b
  split
  · simp
  · exact fippleDest_keeps (by simp) ..

/-! ### `Machine/PoolAccess.lean` -/

@[simp] theorem State.noteDirty_pending (h mla n : Nat) : (s.noteDirty h mla n).pending = s.pending := by
  unfold State.noteDirty; split <;> simp

@[simp] theorem State.poolAccess_pending (mla n : Nat) (write stamp : Bool) :
    (s.poolAccess mla n write stamp).1.pending = s.pending := by
  unfold State.poolAccess; dsimp only
  repeat' split
  all_goals simp

/-! ### `Machine/HostBase.lean` -/

@[simp] theorem State.setLq_pending (q : Nat) (v : LaunchQ) : (s.setLq q v).pending = s.pending := (rfl)
@[simp] theorem State.lqCiStore_pending (q v : Nat) : (s.lqCiStore q v).pending = s.pending := by simp [State.lqCiStore]
@[simp] theorem State.lqCpiStore_pending (q v : Nat) : (s.lqCpiStore q v).pending = s.pending := (rfl)
@[simp] theorem State.hvProgWrite_pending (h k x : Nat) (pc : Pc) (time v : Nat) :
    (s.hvProgWrite h k x pc time v).pending = s.pending := by simp [State.hvProgWrite]
@[simp] theorem State.hvHubWrite_pending (h kind v : Nat) : (s.hvHubWrite h kind v).pending = s.pending := by
  simp [State.hvHubWrite]
@[simp] theorem State.addApRead_pending (w : ApWho) (l addr size : Nat) : (s.addApRead w l addr size).pending = s.pending :=
  (rfl)
@[simp] theorem State.addApWrite_pending (ref l addr : Nat) (bs : List (BitVec 8)) :
    (s.addApWrite ref l addr bs).pending = s.pending := by simp [State.addApWrite]
@[simp] theorem State.addApTile_pending (ref l ha off : Nat) (payload scales : List (BitVec 8)) :
    (s.addApTile ref l ha off payload scales).pending = s.pending := by simp [State.addApTile]

@[simp] theorem State.postToHost_pending (mla : Nat) (bs : List (BitVec 8)) :
    (s.postToHost mla bs).pending = s.pending := by
  unfold State.postToHost; split <;> simp

theorem State.serveRead_keeps (mla n : Nat) (stamp : Bool) : (s.serveRead mla n stamp).Keeps s := by
  have h := s.poolAccess_pending mla n false stamp
  unfold State.serveRead; dsimp only
  repeat' split
  all_goals simp_all

@[simp] theorem State.writeTier_pending (a : Nat) (bs : List (BitVec 8)) (poison : Option Word) :
    (s.writeTier a bs poison).pending = s.pending := by
  unfold State.writeTier; split <;> simp

theorem State.serveWrite_keeps (mla : Nat) (bs : List (BitVec 8)) (poison : Option Word) (stamp : Bool) :
    (s.serveWrite mla bs poison stamp).Keeps s := by
  have h := s.poolAccess_pending mla bs.length true stamp
  unfold State.serveWrite; dsimp only
  repeat' split
  all_goals simp_all

/-! ### `Machine/Requests.lean` -/

@[simp] theorem State.dropReq_pending (id : Nat) : (s.dropReq id).pending = s.pending := (rfl)

@[simp] theorem State.answerReq_pending (id status : Nat) (data : List (BitVec 8)) (poison : Option Word) (e : Endp) :
    (s.answerReq id status data poison e).pending = s.pending := by
  unfold State.answerReq; split <;> simp

@[simp] theorem State.replyReq_pending (id status : Nat) (data : List (BitVec 8)) (poison : Option Word) (e : Endp) :
    (s.replyReq id status data poison e).pending = s.pending := by simp [State.replyReq]
@[simp] theorem State.countTier_pending (a : Word) (kind : Nat) : (s.countTier a kind).pending = s.pending := (rfl)

theorem State.handOver_keeps (ref : Nat) (leg : FabPkt) (tag : TagRef) (p : Packet) :
    (s.handOver ref leg tag p).Keeps s := by
  -- the function and `wayTo` as variables: the kernel must not search the fabric to see which branch is taken
  obtain ⟨w, hw⟩ : ∃ w, w = State.wayTo := ⟨_, rfl⟩
  obtain ⟨f, hf⟩ : ∃ f, f = State.handOver := ⟨_, rfl⟩
  rw [← hf]
  delta State.handOver at hf
  rw [← hw] at hf
  clear hw
  subst hf
  have h := s.sendTagged_keeps tag p.sdie p
  dsimp only
  split
  · trivial
  split
  · split <;> simp
  · split
    case h_1 e => rw [e] at h; simpa using h
    all_goals trivial

/-- `handOver` as a variable: a proof that rewrites with it keeps the kernel from running the function, which searches the
fabric, to see which answer a caller's match takes. -/
theorem exists_handOver_keeps : ∃ f, State.handOver = f ∧ ∀ s ref leg tag p, (f s ref leg tag p).Keeps s :=
  ⟨_, rfl, State.handOver_keeps⟩

@[simp] theorem State.reqAway_pending (r : Req) (leg : FabPkt) : (s.reqAway r leg).pending = s.pending := by
  -- as in `handOver_keeps`
  obtain ⟨g, hg, hk⟩ := exists_handOver_keeps
  obtain ⟨f, hf⟩ : ∃ f, f = State.reqAway := ⟨_, rfl⟩
  rw [← hf]
  delta State.reqAway at hf
  rw [hg] at hf
  clear hg
  subst hf
  have h := hk s (r.id * 256) leg (.req r.id) r.packet
  dsimp only
  split
  case h_1 e => simpa using h.of_eq e
  case h_2 e => exact h.of_eq e
  case h_3 => rfl
  case h_4 => simp

@[simp] theorem State.sendReq_pending (r : Req) : (s.sendReq r).pending = s.pending := by simp [State.sendReq]
@[simp] theorem execRemoteSignalSend_completes (id : Nat) (s : State) : Completes s (execRemoteSignalSend id s) := by
  unfold execRemoteSignalSend; split <;> simp
@[simp] theorem execFippleQueueSend_completes (k : CoreId) (s : State) : Completes s (execFippleQueueSend k s) := by
  unfold execFippleQueueSend; split <;> simp
@[simp] theorem State.holdForWake_pending (k id : Nat) : (s.holdForWake k id).pending = s.pending := by
  simp [State.holdForWake]
@[simp] theorem State.signalCore_pending (k v : Nat) (src : Word) (time : Nat) :
    (s.signalCore k v src time).pending = s.pending := by simp [State.signalCore]
@[simp] theorem State.releaseSignals_pending (r : Nat) : (s.releaseSignals r).pending = s.pending := by
  simp [State.releaseSignals]

@[simp] theorem State.deliver_pending (k : Nat) (kind : ReqKind) (off : Nat) (bs : List (BitVec 8)) (poison : Option Word)
    (src : Word) (time : Nat) (err : Bool) :
    (s.deliver k kind off bs poison src time err).1.pending = s.pending := by
  unfold State.deliver; dsimp only
  repeat' split
  all_goals simp

@[simp] theorem State.arriveSignal_pending (r : Req) (kind : Nat) : (s.arriveSignal r kind).pending = s.pending := by
  unfold State.arriveSignal; dsimp only
  repeat' split
  all_goals simp

@[simp] theorem execFippleDelivery_completes (id : Nat) (s : State) : Completes s (execFippleDelivery id s) := by
  unfold execFippleDelivery; split <;> simp
@[simp] theorem execValveOpenArrive_completes (id : Nat) (s : State) : Completes s (execValveOpenArrive id s) := by
  unfold execValveOpenArrive; split <;> simp
@[simp] theorem execTallyAddArrive_completes (id : Nat) (s : State) : Completes s (execTallyAddArrive id s) := by
  unfold execTallyAddArrive; split <;> simp

@[simp] theorem State.reqToHost_pending (r : Req) (mla : Nat) (e : Endp) : (s.reqToHost r mla e).pending = s.pending := by
  unfold State.reqToHost
  repeat' split
  all_goals simp

@[simp] theorem State.progRegWrite_pending (r : Req) (reg : Region) : (s.progRegWrite r reg).pending = s.pending := by
  unfold State.progRegWrite; split <;> simp

@[simp] theorem State.arriveScalar_pending (r : Req) : (s.arriveScalar r).pending = s.pending := by
  have hr := s.serveRead_keeps (mlaOf r.addr) r.size true
  have hw := s.serveWrite_keeps (mlaOf r.addr) r.data r.poison true
  unfold State.arriveScalar; dsimp only
  repeat' split
  all_goals simp_all

@[simp] theorem State.endLoad_pending (r : Req) (status : Nat) (data : List (BitVec 8)) (poison : Option Word) :
    (s.endLoad r status data poison).pending = s.pending := by
  unfold State.endLoad; split <;> simp

@[simp] theorem State.failWrite_pending (r : Req) : (s.failWrite r).pending = s.pending := by
  unfold State.failWrite; dsimp only; split <;> simp

@[simp] theorem execFarLoadResponse_completes (id : Nat) (s : State) : Completes s (execFarLoadResponse id s) := by
  unfold execFarLoadResponse; dsimp only
  repeat' split
  all_goals simp

@[simp] theorem execRemoteWriteAck_completes (id : Nat) (s : State) : Completes s (execRemoteWriteAck id s) := by
  unfold execRemoteWriteAck; dsimp only
  repeat' split
  all_goals simp

@[simp] theorem execRequestTimeout_completes (id : Nat) (s : State) : Completes s (execRequestTimeout id s) := by
  unfold execRequestTimeout; dsimp only
  repeat' split
  all_goals simp

theorem syncWrite_completes {go : State → State} (h : ∀ t, (go t).pending = t.pending) (k : Nat) (host : Bool) (s : State) :
    Completes s (syncWrite k host s go) := by
  unfold syncWrite
  repeat' split
  all_goals simp [h]

@[simp] theorem execSyncOpenValve_completes (k : CoreId) (host : Bool) (v : BitVec 6) (s : State) :
    Completes s (execSyncOpenValve k host v s) := syncWrite_completes (fun t => by split <;> simp) ..
@[simp] theorem execSyncCloseValve_completes (k : CoreId) (v : BitVec 6) (s : State) :
    Completes s (execSyncCloseValve k v s) := syncWrite_completes (fun t => by split <;> simp) ..

@[simp] theorem execSyncAddCounter_completes (k : CoreId) (host : Bool) (t : BitVec 6) (s : State) :
    Completes s (execSyncAddCounter k host t s) := syncWrite_completes (fun t => by
    dsimp only
    repeat' split
    all_goals simp) ..

@[simp] theorem execHvOpenWrite_completes (h : Fin 256) (s : State) : Completes s (execHvOpenWrite h s) := by
  simp [execHvOpenWrite]
@[simp] theorem execHvCloseWrite_completes (h : Fin 256) (s : State) : Completes s (execHvCloseWrite h s) := by
  simp [execHvCloseWrite]
@[simp] theorem execLendingStart_completes (k : CoreId) (s : State) : Completes s (execLendingStart k s) := by
  simp [execLendingStart]

/-! ### `Machine/StreamTile.lean` -/

@[simp] theorem State.readTile_pending (a n : Nat) : (s.readTile a n).1.pending = s.pending := by
  unfold State.readTile; split <;> simp
@[simp] theorem State.readPayload_pending (a n : Nat) : (s.readPayload a n).1.pending = s.pending := by
  simp [State.readPayload]
@[simp] theorem State.readUsed_pending (a f : Nat) : (s.readUsed a f).1.pending = s.pending := by
  unfold State.readUsed; split <;> simp

@[simp] theorem State.writeTile_pending (a : Nat) (t : TileData) : (s.writeTile a t).pending = s.pending := by
  unfold State.writeTile; dsimp only
  repeat' split
  all_goals simp

@[simp] theorem State.failTile_pending (k n q : Nat) (loc : Word) : (s.failTile k n q loc).pending = s.pending := by
  simp [State.failTile]
@[simp] theorem State.dropArrival_pending (k n : Nat) : (s.dropArrival k n).pending = s.pending := (rfl)
@[simp] theorem State.endPass_pending (k n : Nat) : (s.endPass k n).pending = s.pending := by simp [State.endPass]
@[simp] theorem State.raiseTile_pending (k n t : Nat) : (s.raiseTile k n t).pending = s.pending := by
  unfold State.raiseTile; dsimp only; split <;> simp

@[simp] theorem presentTiles_pending (fuel k n : Nat) (s : State) : (presentTiles fuel k n s).pending = s.pending := by
  induction fuel generalizing s with
  | zero => rfl
  | succ fuel ih => simp [presentTiles, ih]

@[simp] theorem completeTiles_pending (fuel k n : Nat) (s : State) : (completeTiles fuel k n s).pending = s.pending := by
  induction fuel generalizing s with
  | zero => rfl
  | succ fuel ih => simp [completeTiles, ih]

@[simp] theorem State.raiseTiles_pending (k n g : Nat) (there : Slot → List Nat) :
    (s.raiseTiles k n g there).pending = s.pending := by simp [State.raiseTiles]
@[simp] theorem State.presentAll_pending (k n : Nat) : (s.presentAll k n).pending = s.pending := by
  simp [State.presentAll]
@[simp] theorem State.completeAll_pending (k n : Nat) : (s.completeAll k n).pending = s.pending := by
  simp [State.completeAll]
@[simp] theorem State.convLoc_pending (k n : Nat) (t : TileData) : (s.convLoc k n t).1.pending = s.pending := (rfl)

@[simp] theorem State.landPart_pending (k n g i : Nat) (t : TileData) (loc : Word) :
    (s.landPart k n g i t loc).pending = s.pending := by
  simp only [State.landPart, State.ite_pending, State.updSlot_pending, State.writeMem_pending, State.writeGranules_pending,
    ite_self]

@[simp] theorem State.landTile_pending (k n g : Nat) (t : TileData) : (s.landTile k n g t).pending = s.pending := by
  simp [State.landTile]

@[simp] theorem State.storeTile_pending (k n g : Nat) : (s.storeTile k n g).1.pending = s.pending := by
  unfold State.storeTile; dsimp only
  split
  · rw [State.convLoc_pending]
    exact foldl_fst_pending (fun acc i => by simp) _ _
  · exact State.readTile_pending ..

/-! ### `Machine/Stream.lean` -/

@[simp] theorem State.streamFault_pending (k n r : Nat) : (s.streamFault k n r).pending = s.pending := by
  simp [State.streamFault]
@[simp] theorem faultBody_keeps (k n r : Nat) : (faultBody s k n r).Keeps s := by simp [faultBody]

theorem slotBody_keeps {body : State → Slot → Body} (h : ∀ s x, (body s x).Keeps s) (c : CtxId) (w : Low56) (s : State) :
    (slotBody c w body s).Keeps s := by
  unfold slotBody; split <;> simp [h]

@[simp] theorem execSarm_completes : Completes s (execSarm c w s) := by
  unfold execSarm
  refine issue_completes (slotBody_keeps (fun s x => ?_) c w)
  extract_lets +onlyGivenNames n k a
  split
  · simp
  split
  · split
    · simp
    extract_lets +onlyGivenNames r ws y
    have hr : r.1.pending = s.pending := State.readMem_pending ..
    split
    · exact (faultBody_keeps ..).trans hr
    extract_lets +onlyGivenNames origin z1 z t
    have ht : t.pending = s.pending := (State.updSlot_pending ..).trans hr
    split
    · exact (faultBody_keeps ..).trans ((State.incObj_pending ..).trans ht)
    · exact Body.keeps_done.2 ((State.topUpCredits_pending ..).trans ht)
  all_goals simp

@[simp] theorem execSrarm_completes : Completes s (execSrarm c w s) := by
  unfold execSrarm
  refine issue_completes (slotBody_keeps (fun s x => ?_) c w)
  dsimp only
  repeat' split
  all_goals simp

@[simp] theorem execSclose_completes : Completes s (execSclose c w s) :=
  issue_completes (slotBody_keeps (fun s x => by simp) c w)
@[simp] theorem execShead_completes : Completes s (execShead c w s) :=
  issue_completes (slotBody_keeps (fun s x => by split <;> simp) c w)

@[simp] theorem execSrel_completes : Completes s (execSrel c w s) := by
  unfold execSrel
  refine issue_completes (slotBody_keeps (fun s x => ?_) c w)
  dsimp only
  repeat' split
  all_goals simp

@[simp] theorem execSstat_completes : Completes s (execSstat c w s) :=
  issue_completes (slotBody_keeps (fun s x => by simp) c w)

@[simp] theorem execSwait_completes : Completes s (execSwait c w s) := by
  unfold execSwait
  refine issue_completes (slotBody_keeps (fun s x => ?_) c w)
  extract_lets +onlyGivenNames mark note
  have hn (m : Option (Nat × Nat × Nat)) : (note s m).pending = s.pending := State.updCtx_pending ..
  split <;> simp [hn]

@[simp] theorem State.ownIndex_pending (k n : Nat) : (s.ownIndex k n).pending = s.pending := by
  unfold State.ownIndex; dsimp only
  repeat' split
  all_goals simp

@[simp] theorem State.raiseOrphan_pending (k : Nat) (o : Orphan) : (s.raiseOrphan k o).pending = s.pending := by
  simp [State.raiseOrphan]
@[simp] theorem State.finishTile_pending (k n : Nat) (t : TileReq) : (s.finishTile k n t).pending = s.pending := by
  unfold State.finishTile; dsimp only; split <;> simp
@[simp] theorem State.updTile_pending (k id : Nat) (f : TileReq → TileReq) : (s.updTile k id f).pending = s.pending := by
  simp [State.updTile]

@[simp] theorem State.landPiece_pending (k id q : Nat) (a : PieceAns) (status : Nat) :
    (s.landPiece k id q a status).pending = s.pending := by
  unfold State.landPiece; dsimp only
  repeat' split
  all_goals simp

@[simp] theorem State.answerPiece_pending (k id q : Nat) (a : PieceAns) (status : Nat) (e : Endp) :
    (s.answerPiece k id q a status e).pending = s.pending := by
  unfold State.answerPiece; dsimp only
  repeat' split
  all_goals simp

@[simp] theorem State.replyPiece_pending (k id q : Nat) (a : PieceAns) (status : Nat) (e : Endp) :
    (s.replyPiece k id q a status e).pending = s.pending := by simp [State.replyPiece]

@[simp] theorem State.emitParts_pending (k : Nat) (t : TileReq) : (s.emitParts k t).pending = s.pending := by
  refine foldl_pending (fun u p => ?_) _ _
  split
  · rfl
  · rename_i a _
    dsimp only
    cases u.wayTo (u.coreEndp k) (k / 256) a (if t.write then 1 else 3) <;> simp

@[simp] theorem State.markAway_pending (k id q : Nat) : (s.markAway k id q).pending = s.pending := (rfl)

@[simp] theorem State.pieceToHost_pending (k id q slot : Nat) (p : Piece) (n mla : Nat) (e : Endp) :
    (s.pieceToHost k id q slot p n mla e).pending = s.pending := by
  unfold State.pieceToHost; dsimp only
  repeat' split
  all_goals simp

@[simp] theorem State.servePiece_pending (k id q : Nat) (slot : Option Nat) (t : TileReq) :
    (s.servePiece k id q slot t).pending = s.pending := by
  obtain ⟨f, hf, hk⟩ := exists_handOver_keeps
  unfold State.servePiece
  rw [hf]
  dsimp only
  split
  case h_2 => rfl
  case h_1 p leg _ _ =>
  split
  · rfl
  rename_i a _
  split
  · have h := hk s (id * 256 + 2 * q) leg (.tile k (slot.getD 16) id q) (tilePacket k t p a t.pieceBytes)
    split
    case h_1 e => simpa using h.of_eq e
    case h_2 e => exact h.of_eq e
    case h_3 => rfl
    case h_4 => simp
  · have h := s.poolAccess_pending (mlaOf a) t.pieceBytes t.write true
    repeat' split
    all_goals simp_all

@[simp] theorem State.pushAway_pending (p : Push) (packet : Packet) : (s.pushAway p packet).pending = s.pending := by
  obtain ⟨f, hf, hk⟩ := exists_handOver_keeps
  unfold State.pushAway
  rw [hf]
  dsimp only
  split
  · rfl
  rename_i leg _
  have h := hk s leg.ref leg (.push (p.srcDie * 256 + p.srcCore) p.srcSlot p.id) packet
  split
  case h_1 e => exact h.of_eq e
  case h_2 e => exact h.of_eq e
  case h_3 => rfl
  case h_4 => simp

@[simp] theorem State.issuePlan_pending (k x n : Nat) : (s.issuePlan k x n).pending = s.pending := by
  unfold State.issuePlan; dsimp only
  repeat' split
  all_goals simp

@[simp] theorem execStreamRequestIssue_completes (k : CoreId) (s : State) : Completes s (execStreamRequestIssue k s) := by
  unfold execStreamRequestIssue; dsimp only
  repeat' split
  all_goals simp

@[simp] theorem execEndpointRequestArrive_completes (id piece : Nat) (s : State) :
    Completes s (execEndpointRequestArrive id piece s) := by
  unfold execEndpointRequestArrive
  split
  · repeat' split
    all_goals simp
  split
  · split <;> simp
  split
  · split <;> simp
  · simp

@[simp] theorem execStoreWrite_completes (id piece : Nat) (s : State) : Completes s (execStoreWrite id piece s) := by
  unfold execStoreWrite; split <;> simp
@[simp] theorem State.settleOrphan_pending (k : Nat) (o : Orphan) : (s.settleOrphan k o).pending = s.pending := by
  simp [State.settleOrphan]

@[simp] theorem State.settleTile_pending (id : Nat) (write : Bool) : (s.settleTile id write).pending = s.pending := by
  unfold State.settleTile
  repeat' split
  all_goals simp

@[simp] theorem State.landAnswers_pending (id : Nat) (write : Bool) : (s.landAnswers id write).pending = s.pending := by
  unfold State.landAnswers; dsimp only
  repeat' split
  · rfl
  · rfl
  · refine foldl_pending (fun u p => ?_) _ _
    split <;> simp

@[simp] theorem execStreamResponseLand_completes (id : Nat) (s : State) : Completes s (execStreamResponseLand id s) := by
  simp [execStreamResponseLand]

@[simp] theorem execTileRequestTimeout_completes (id : Nat) (s : State) : Completes s (execTileRequestTimeout id s) := by
  unfold execTileRequestTimeout; dsimp only
  repeat' split
  all_goals simp

@[simp] theorem execStreamWatchdogExpiry_completes (k : CoreId) (n : Fin 16) (s : State) :
    Completes s (execStreamWatchdogExpiry k n s) := by simp [execStreamWatchdogExpiry]

/-! ### `Machine/Push.lean` -/

@[simp] theorem State.takeCredit_pending (k n : Nat) (key : Word) (gen : Nat) :
    (s.takeCredit k n key gen).pending = s.pending := by simp [State.takeCredit]
@[simp] theorem State.mouthCredit_pending (port core slot gen : Nat) :
    (s.mouthCredit port core slot gen).pending = s.pending := by simp [State.mouthCredit]
@[simp] theorem State.creditGone_pending (id : Nat) : (s.creditGone id).pending = s.pending := (rfl)

@[simp] theorem execPushCreditArrive_completes (id : Nat) (s : State) : Completes s (execPushCreditArrive id s) := by
  unfold execPushCreditArrive; dsimp only
  repeat' split
  all_goals simp

@[simp] theorem execMouthpieceCredit_completes (id : Nat) (s : State) : Completes s (execMouthpieceCredit id s) := by
  unfold execMouthpieceCredit; split <;> simp

@[simp] theorem State.emitPush_pending (p : Push) : (s.emitPush p).pending = s.pending := by
  unfold State.emitPush; dsimp only
  repeat' split
  all_goals simp

@[simp] theorem execPushTileSend_completes (c : CoreId) (n : Fin 16) (s : State) :
    Completes s (execPushTileSend c n s) := by
  unfold execPushTileSend; dsimp only
  repeat' split
  all_goals simp

@[simp] theorem State.landPush_pending (k n child gen seq : Nat) (key : Word) (t : TileData) (failed : Bool) :
    (s.landPush k n child gen seq key t failed).1.pending = s.pending := by
  unfold State.landPush; dsimp only
  repeat' split
  all_goals simp

@[simp] theorem execPushedTileArrive_completes (id : Nat) (s : State) : Completes s (execPushedTileArrive id s) := by
  unfold execPushedTileArrive; dsimp only
  repeat' split
  all_goals simp

@[simp] theorem execStoreWriteAck_completes (id : Nat) (s : State) : Completes s (execStoreWriteAck id s) := by
  simp [execStoreWriteAck]
@[simp] theorem execReduceSum_completes (c : CoreId) (n : Fin 16) (s : State) : Completes s (execReduceSum c n s) := by
  simp [execReduceSum]

@[simp] theorem State.rotateCopy_pending (k n : Nat) : (s.rotateCopy k n).pending = s.pending := by
  unfold State.rotateCopy; dsimp only
  repeat' split
  all_goals simp

@[simp] theorem execRotateForward_completes (c : CoreId) (s : State) : Completes s (execRotateForward c s) := by
  unfold execRotateForward; dsimp only; split <;> simp
@[simp] theorem execRotateTileArrive_completes (id : Nat) (s : State) : Completes s (execRotateTileArrive id s) := by
  unfold execRotateTileArrive; split <;> simp

/-! ### `Machine/Rx.lean` -/

@[simp] theorem State.rxDrop_pending (port vc : Nat) : (s.rxDrop port vc).pending = s.pending := by simp [State.rxDrop]

/-! ### `Machine/Census.lean` -/

@[simp] theorem State.areaWrite_pending (off : Nat) (ws : List Word) : (s.areaWrite off ws).pending = s.pending := by
  simp [State.areaWrite]

@[simp] theorem State.sendCensus_pending (place : Nat) (bs : List (BitVec 8)) :
    (s.sendCensus place bs).pending = s.pending := by
  unfold State.sendCensus; dsimp only; split <;> simp

@[simp] theorem State.probeDone_pending (origin : Word) (cycle : Option (Nat × Nat × List Word)) :
    (s.probeDone origin cycle).pending = s.pending := by
  unfold State.probeDone; split <;> simp

@[simp] theorem State.endProbe_pending (p : Probe) (outcome : Nat) : (s.endProbe p outcome).pending = s.pending := by
  simp [State.endProbe]

@[simp] theorem probeStep_pending (msgs : Bool) (fuel : Nat) (p : Probe) (s : State) :
    (probeStep msgs fuel p s).pending = s.pending := by
  induction fuel generalizing p s with
  | zero => simp [probeStep]
  | succ fuel ih =>
    unfold probeStep; dsimp only
    repeat' split
    all_goals simp [ih]

@[simp] theorem State.startCensus_pending (trigger id : Nat) : (s.startCensus trigger id).pending = s.pending := by
  unfold State.startCensus; dsimp only; split <;> simp
@[simp] theorem State.fireWatchdog_pending (k x : Nat) : (s.fireWatchdog k x).pending = s.pending := by
  simp [State.fireWatchdog]
@[simp] theorem execValveWatchdogScan_completes (d : Fin 48) (s : State) : Completes s (execValveWatchdogScan d s) := by
  simp [execValveWatchdogScan]
@[simp] theorem execCensusCmd_completes (v : BitVec 8) (s : State) : Completes s (execCensusCmd v s) := by
  simp [execCensusCmd]

theorem takeCensus_completes {act : List (BitVec 8) → State → State} (h : ∀ bs t, (act bs t).pending = t.pending)
    (kind port : Nat) (s : State) :
    Completes s (takeCensus kind port s act) := by
  unfold takeCensus
  repeat' split
  all_goals simp [h]

@[simp] theorem execCensusRequestReceive_completes : Completes s (execCensusRequestReceive port s) :=
  takeCensus_completes (fun bs t => by
    dsimp only
    repeat' split
    all_goals simp) ..

@[simp] theorem State.stopForCensus_pending : s.stopForCensus.pending = s.pending := by
  unfold State.stopForCensus; dsimp only
  repeat' split
  all_goals simp

@[simp] theorem execCensusSnapshot_completes : Completes s (execCensusSnapshot s) := by simp [execCensusSnapshot]
@[simp] theorem execCensusRecordsWrite_completes : Completes s (execCensusRecordsWrite s) := by
  simp [execCensusRecordsWrite]

@[simp] theorem execCensusProbeReceive_completes : Completes s (execCensusProbeReceive port s) := by
  unfold execCensusProbeReceive
  split
  · simp
  · exact takeCensus_completes (fun bs t => by dsimp only; split <;> simp) ..

@[simp] theorem execCensusReportReceive_completes : Completes s (execCensusReportReceive port s) :=
  takeCensus_completes (fun bs t => by simp) ..
@[simp] theorem execCensusComplete_completes : Completes s (execCensusComplete s) := by simp [execCensusComplete]

/-! ### `Machine/Reply.lean` -/

@[simp] theorem State.updSession_pending (sid : Nat) (f : Session → Session) :
    (s.updSession sid f).pending = s.pending := by simp [State.updSession]
@[simp] theorem State.updMailbox_pending (m : Nat) (f : Mailbox → Mailbox) : (s.updMailbox m f).pending = s.pending := (rfl)
@[simp] theorem State.countChb_pending (k : Nat) : (s.countChb k).pending = s.pending := (rfl)
@[simp] theorem State.sendMgmt_pending (n : Nat) (pdu : List (BitVec 8)) : (s.sendMgmt n pdu).pending = s.pending := by
  simp [State.sendMgmt]

@[simp] theorem State.sendMsg_pending (c : Client) (sid svc status tid : Nat) (obj : Nat × Nat × Nat)
    (body : List (BitVec 8)) (plain retx : Bool) :
    (s.sendMsg c sid svc status tid obj body plain retx).pending = s.pending := by
  unfold State.sendMsg; dsimp only
  repeat' split
  all_goals simp

@[simp] theorem State.keepAnswer_pending (c : Client) (sid : Nat) (k : Kept) :
    (s.keepAnswer c sid k).pending = s.pending := by simp [State.keepAnswer]
@[simp] theorem State.respond_pending (c : Client) (sid : Nat) (k : Kept) : (s.respond c sid k).pending = s.pending := by
  simp [State.respond]
@[simp] theorem State.receivePdu_pending (c : Client) (pdu : List (BitVec 8)) : (s.receivePdu c pdu).pending = s.pending :=
  (rfl)

@[simp] theorem State.endAct_pending (o : Obj) (i status : Nat) : (s.endAct o i status).pending = s.pending := by
  unfold State.endAct; dsimp only
  repeat' split
  all_goals simp

/-! ### `Machine/Pool.lean` -/

@[simp] theorem State.setResult_pending (status op count : Nat) (data : List Nat) :
    (s.setResult status op count data).pending = s.pending := foldl_setObj_pending ..
@[simp] theorem State.startMove_pending (src dst : Nat) : (s.startMove src dst).pending = s.pending := (rfl)

@[simp] theorem State.hostPut_pending (mla : Nat) (t : TileData) : (s.hostPut mla t).1.pending = s.pending := by
  unfold State.hostPut; dsimp only
  repeat' split
  all_goals simp

@[simp] theorem moveRead_pending (data : HostPage) (src off n : Nat) (s : State) :
    (moveRead data src off n s).1.pending = s.pending := by
  unfold moveRead; split <;> simp

@[simp] theorem moveCopy_pending (data : HostPage) (src dst n : Nat) (s : State) (off : Nat) :
    (moveCopy data src dst n s off).pending = s.pending := by simp [moveCopy]
@[simp] theorem State.copyAll_pending (m : Move) (data : HostPage) : (s.copyAll m data).pending = s.pending := by
  simp [State.copyAll]
@[simp] theorem State.copyDirty_pending (m : Move) (data : HostPage) : (s.copyDirty m data).pending = s.pending := by
  simp [State.copyDirty]
@[simp] theorem State.switchMove_pending (m : Move) : (s.switchMove m).pending = s.pending := (rfl)
@[simp] theorem State.undoMove_pending (m : Move) : (s.undoMove m).pending = s.pending := by simp [State.undoMove]
@[simp] theorem State.settlePoolCmd_pending : s.settlePoolCmd.pending = s.pending := by simp [State.settlePoolCmd]
@[simp] theorem State.endPoolOp_pending (o : PoolOp) (status : Nat) : (s.endPoolOp o status).pending = s.pending := by
  simp [State.endPoolOp]

@[simp] theorem State.nextMove_pending (o : PoolOp) : (s.nextMove o).pending = s.pending := by
  unfold State.nextMove; dsimp only
  repeat' split
  all_goals simp

@[simp] theorem State.resumeAuto_pending (l : Option (List Nat)) : (s.resumeAuto l).pending = s.pending := by
  unfold State.resumeAuto; split <;> simp

@[simp] theorem State.poolAlloc_pending (r : PoolRec) : (s.poolAlloc r).pending = s.pending := by
  simp only [State.poolAlloc, State.ite_pending, State.setResult_pending, State.hostPut_pending, State.setPage_pending,
    State.zeroFillTier_pending, foldl_pending, ite_self, implies_true]

@[simp] theorem State.poolFree_pending (r : PoolRec) : (s.poolFree r).pending = s.pending := by
  unfold State.poolFree; dsimp only
  repeat' split
  all_goals simp

@[simp] theorem State.poolSetfl_pending (r : PoolRec) : (s.poolSetfl r).pending = s.pending := by simp [State.poolSetfl]

@[simp] theorem State.poolMove_pending (r : PoolRec) : (s.poolMove r).pending = s.pending := by
  unfold State.poolMove; dsimp only
  repeat' split
  all_goals simp

@[simp] theorem State.poolEvict_pending (r : PoolRec) : (s.poolEvict r).pending = s.pending := by simp [State.poolEvict]
@[simp] theorem State.poolRead_pending (r : PoolRec) : (s.poolRead r).pending = s.pending := by simp [State.poolRead]
@[simp] theorem State.poolOldest_pending (r : PoolRec) : (s.poolOldest r).pending = s.pending := by simp [State.poolOldest]
@[simp] theorem State.poolRun_pending (op : Nat) (r : PoolRec) : (s.poolRun op r).pending = s.pending := by
  unfold State.poolRun; split <;> simp

@[simp] theorem State.poolCommand_pending (op : Nat) (w0 : Low56) (w1 w2 w3 : Word) :
    (s.poolCommand op w0 w1 w2 w3).pending = s.pending := by
  unfold State.poolCommand; split <;> simp

@[simp] theorem execPoolAlloc_completes (w0 : Low56) (w1 w2 w3 : Word) (s : State) :
    Completes s (execPoolAlloc w0 w1 w2 w3 s) := by simp [execPoolAlloc]
@[simp] theorem execPoolFree_completes (w0 : Low56) (w1 w2 w3 : Word) (s : State) :
    Completes s (execPoolFree w0 w1 w2 w3 s) := by simp [execPoolFree]
@[simp] theorem execPoolSetfl_completes (w0 : Low56) (w1 w2 w3 : Word) (s : State) :
    Completes s (execPoolSetfl w0 w1 w2 w3 s) := by simp [execPoolSetfl]
@[simp] theorem execPoolMove_completes (w0 : Low56) (w1 w2 w3 : Word) (s : State) :
    Completes s (execPoolMove w0 w1 w2 w3 s) := by simp [execPoolMove]
@[simp] theorem execPoolEvict_completes (w0 : Low56) (w1 w2 w3 : Word) (s : State) :
    Completes s (execPoolEvict w0 w1 w2 w3 s) := by simp [execPoolEvict]
@[simp] theorem execPoolRead_completes (w0 : Low56) (w1 w2 w3 : Word) (s : State) :
    Completes s (execPoolRead w0 w1 w2 w3 s) := by simp [execPoolRead]
@[simp] theorem execPoolOldest_completes (w0 : Low56) (w1 w2 w3 : Word) (s : State) :
    Completes s (execPoolOldest w0 w1 w2 w3 s) := by simp [execPoolOldest]

@[simp] theorem State.afterMove_pending (pair : Nat × Nat) (ok : Bool) : (s.afterMove pair ok).pending = s.pending := by
  unfold State.afterMove; dsimp only
  repeat' split
  all_goals simp

@[simp] theorem State.abandonPoolOp_pending : s.abandonPoolOp.pending = s.pending := by
  unfold State.abandonPoolOp; dsimp only
  repeat' split
  all_goals simp

@[simp] theorem State.failMove_pending (m : Move) : (s.failMove m).pending = s.pending := by simp [State.failMove]
@[simp] theorem execPoolMoveSwitch_completes (data : HostPage) (s : State) : Completes s (execPoolMoveSwitch data s) := by
  unfold execPoolMoveSwitch; split <;> simp
@[simp] theorem execPoolMoveFail_completes : Completes s (execPoolMoveFail s) := by
  unfold execPoolMoveFail; split <;> simp
@[simp] theorem State.moveWriteDone_pending (ref : Nat) (ok : Bool) : (s.moveWriteDone ref ok).pending = s.pending := by
  unfold State.moveWriteDone; split <;> simp
@[simp] theorem execPoolAutoEvict_completes (d : Fin 48) (s : State) : Completes s (execPoolAutoEvict d s) := by
  simp [execPoolAutoEvict]
@[simp] theorem execPoolRangeWrite_completes (which : Fin 4) (d : Fin 48) (v : BitVec 32) (s : State) :
    Completes s (execPoolRangeWrite which d v s) := by simp [execPoolRangeWrite]

/-! ### `Machine/Place.lean` -/

@[simp] theorem State.setRwp_pending (o : Obj) (v i j : Nat) : (s.setRwp o v i j).pending = s.pending := by
  simp [State.setRwp]
@[simp] theorem execPlaceOverrideWrite_completes (v : BitVec 24) (s : State) :
    Completes s (execPlaceOverrideWrite v s) := by simp [execPlaceOverrideWrite]
@[simp] theorem execPlacePinSample_completes (pins : BitVec 20) (s : State) : Completes s (execPlacePinSample pins s) := by
  simp [execPlacePinSample]
@[simp] theorem execHashSeedWrite_completes (v : Word) (s : State) : Completes s (execHashSeedWrite v s) := by
  simp [execHashSeedWrite]
@[simp] theorem execHashSeedFillDone_completes : Completes s (execHashSeedFillDone s) := by simp [execHashSeedFillDone]
@[simp] theorem execHotBankWindow_completes (d : Fin 48) (s : State) : Completes s (execHotBankWindow d s) := by
  simp [execHotBankWindow]

/-! ### `Machine/Fabric.lean` -/

@[simp] theorem State.setLane_pending (d port lane : Nat) (x : D2dLane) : (s.setLane d port lane x).pending = s.pending :=
  (rfl)
@[simp] theorem State.laneEndDown_pending (d port lane : Nat) : (s.laneEndDown d port lane).pending = s.pending := by
  simp [State.laneEndDown]
@[simp] theorem State.laneDown_pending (d port lane : Nat) : (s.laneDown d port lane).pending = s.pending := by
  unfold State.laneDown; split <;> simp
@[simp] theorem execD2dFlitReceive_completes (d : Fin 49) (port lane : Fin 4) (ok : Bool) (s : State) :
    Completes s (execD2dFlitReceive d port lane ok s) := by simp [execD2dFlitReceive]

@[simp] theorem State.poisonLeg_pending (ref : Nat) (loc : Word) (g : Nat) :
    (s.poisonLeg ref loc g).pending = s.pending := by
  unfold State.poisonLeg; dsimp only; split <;> simp

@[simp] theorem State.loseLeg_pending (ref : Nat) : (s.loseLeg ref).pending = s.pending := by
  unfold State.loseLeg; dsimp only; split <;> simp

@[simp] theorem State.deliverPkt_pending (p : FabPkt) : (s.deliverPkt p).pending = s.pending := by
  unfold State.deliverPkt; dsimp only
  repeat' split
  all_goals simp

@[simp] theorem execRouterForward_completes (gx gy : Fin 28) (out : Fin 5) (parity : List (Fin 34 × BitVec 4)) (s : State) :
    Completes s (execRouterForward gx gy out parity s) := by
  unfold execRouterForward; dsimp only
  repeat' split
  all_goals simp

@[simp] theorem execHeadUrgent_completes (gx gy : Fin 28) (input : Fin 5) (cls : Fin 6) (part : Fin 2) (s : State) :
    Completes s (execHeadUrgent gx gy input cls part s) := by
  unfold execHeadUrgent; split <;> simp

@[simp] theorem execFabricCreditReturn_completes (gx gy : Fin 28) (input : Fin 32) (cls : Fin 6) (part : Fin 2)
    (s : State) :
    Completes s (execFabricCreditReturn gx gy input cls part s) := by simp [execFabricCreditReturn]

@[simp] theorem execFabricWeightsWrite_completes (v : Word) (s : State) : Completes s (execFabricWeightsWrite v s) := by
  simp [execFabricWeightsWrite]

/-! ### `Machine/Train.lean` -/

@[simp] theorem State.excludeLane_pending (n l : Nat) : (s.excludeLane n l).pending = s.pending := by
  simp [State.excludeLane]
@[simp] theorem State.excludeAll_pending (n : Nat) (ls : List Nat) : (s.excludeAll n ls).pending = s.pending := by
  simp [State.excludeAll]
@[simp] theorem State.retrain_pending (n step : Nat) : (s.retrain n step).pending = s.pending := by simp [State.retrain]
@[simp] theorem State.portEvent_pending (n code : Nat) (loc : Word) : (s.portEvent n code loc).pending = s.pending := by
  simp [State.portEvent]
@[simp] theorem State.loseLock_pending (n step : Nat) : (s.loseLock n step).pending = s.pending := by simp [State.loseLock]
@[simp] theorem State.failPort_pending (n : Nat) : (s.failPort n).pending = s.pending := by simp [State.failPort]
@[simp] theorem State.beginAlign_pending (n : Nat) : (s.beginAlign n).pending = s.pending := by
  unfold State.beginAlign; dsimp only; split <;> simp
@[simp] theorem execSignalDetectHeld_completes (port : Fin 48) (lanes : BitVec 16) (s : State) :
    Completes s (execSignalDetectHeld port lanes s) := by simp [execSignalDetectHeld]
@[simp] theorem execReceiverConverged_completes : Completes s (execReceiverConverged port s) := by
  simp [execReceiverConverged]

@[simp] theorem execReceiverStepTimeout_completes (port : Fin 48) (locked : BitVec 16) (s : State) :
    Completes s (execReceiverStepTimeout port locked s) := by
  unfold execReceiverStepTimeout; dsimp only
  repeat' split
  all_goals simp

@[simp] theorem execAlignmentTimeout_completes : Completes s (execAlignmentTimeout port s) := by simp [execAlignmentTimeout]
@[simp] theorem execHandshakeTimeout_completes : Completes s (execHandshakeTimeout port s) := by simp [execHandshakeTimeout]
@[simp] theorem execPortFailedTimeout_completes : Completes s (execPortFailedTimeout port s) := by
  unfold execPortFailedTimeout; dsimp only; split <;> simp
@[simp] theorem execFailedPortRestart_completes : Completes s (execFailedPortRestart port s) := by
  simp [execFailedPortRestart]

@[simp] theorem State.searchDone_pending (n : Nat) : (s.searchDone n).pending = s.pending := by
  unfold State.searchDone; dsimp only
  repeat' split
  all_goals simp

@[simp] theorem State.locked_pending (n : Nat) : (s.locked n).pending = s.pending := by simp [State.locked]
@[simp] theorem State.startDegrade_pending (n : Nat) : (s.startDegrade n).pending = s.pending := by
  simp [State.startDegrade]
@[simp] theorem State.stampPair_pending (n l m tx : Nat) : (s.stampPair n l m tx).pending = s.pending := (rfl)

@[simp] theorem execMarkerRecognised_completes (port : Fin 48) (l : Fin 16) (pos : Nat) (bytes : List (BitVec 8))
    (s : State) :
    Completes s (execMarkerRecognised port l pos bytes s) := by
  unfold execMarkerRecognised; dsimp only
  repeat' split
  all_goals simp

@[simp] theorem execMarkerMissed_completes (port : Fin 48) (l : Fin 16) (s : State) :
    Completes s (execMarkerMissed port l s) := by simp [execMarkerMissed]

@[simp] theorem execLaneBad_completes (port : Fin 48) (l : Fin 16) (lost : Fin 3) (s : State) :
    Completes s (execLaneBad port l lost s) := by
  unfold execLaneBad; dsimp only
  repeat' split
  all_goals simp

@[simp] theorem execDegradeSend_completes : Completes s (execDegradeSend port s) := by simp [execDegradeSend]
@[simp] theorem State.dropFrame_pending (n : Nat) : (s.dropFrame n).pending = s.pending := (rfl)

@[simp] theorem execDegradeReceive_completes : Completes s (execDegradeReceive port s) := by
  unfold execDegradeReceive; dsimp only
  repeat' split
  all_goals simp

@[simp] theorem execLinkInitSend_completes : Completes s (execLinkInitSend port s) := by simp [execLinkInitSend]
@[simp] theorem State.dropTables_pending (n : Nat) : (s.dropTables n).pending = s.pending := by
  simp [State.dropTables]
@[simp] theorem State.resumeOrReset_pending (n : Nat) (resume : Bool) (next : Nat) (credits : List (Nat × Nat)) :
    (s.resumeOrReset n resume next credits).pending = s.pending := by simp [State.resumeOrReset]
@[simp] theorem execLinkInitReceive_completes : Completes s (execLinkInitReceive port s) := by
  unfold execLinkInitReceive; dsimp only; split <;> simp
@[simp] theorem State.retrain16_pending (n : Nat) : (s.retrain16 n).pending = s.pending := by simp [State.retrain16]
@[simp] theorem State.setTxoff_pending (n : Nat) (off : Bool) : (s.setTxoff n off).pending = s.pending := by
  simp [State.setTxoff]
@[simp] theorem State.portCmd_pending (n : Nat) (off : Bool) : (s.portCmd n off).pending = s.pending := by
  simp [State.portCmd]
@[simp] theorem execPortRetrain_completes : Completes s (execPortRetrain port s) := by simp [execPortRetrain]
@[simp] theorem execPortDisable_completes : Completes s (execPortDisable port s) := by simp [execPortDisable]
@[simp] theorem execPortEnable_completes : Completes s (execPortEnable port s) := by simp [execPortEnable]
@[simp] theorem execFpRetrain_completes : Completes s (execFpRetrain port s) := by simp [execFpRetrain]
@[simp] theorem execFpTxoff_completes (port : Fin 48) (off : Bool) (s : State) : Completes s (execFpTxoff port off s) := by
  simp [execFpTxoff]
@[simp] theorem execPortRoleWrite_completes (port : Fin 48) (role : BitVec 8) (s : State) :
    Completes s (execPortRoleWrite port role s) := by simp [execPortRoleWrite]
@[simp] theorem execFelunWeightsWrite_completes (v : Word) (s : State) : Completes s (execFelunWeightsWrite v s) := by
  simp [execFelunWeightsWrite]
@[simp] theorem execZmapNzWrite_completes (nz : BitVec 16) (s : State) : Completes s (execZmapNzWrite nz s) := by
  simp [execZmapNzWrite]

/-! ### `Machine/Flit.lean` -/

@[simp] theorem State.applyFields_pending (n : Nat) (f : Frame) : (s.applyFields n f).pending = s.pending := by
  simp [State.applyFields]
@[simp] theorem State.flitFailed_pending (n : Nat) : (s.flitFailed n).pending = s.pending := by simp [State.flitFailed]
@[simp] theorem State.frameIn_pending (n : Nat) (bs : List (BitVec 8)) : (s.frameIn n bs).pending = s.pending := by
  simp [State.frameIn]
@[simp] theorem State.correct_pending (n : Nat) (errs : List Nat) : (s.correct n errs).pending = s.pending := by
  simp [State.correct]
@[simp] theorem State.badWord_pending (n : Nat) : (s.badWord n).pending = s.pending := by simp [State.badWord]

@[simp] theorem execCodewordReceive_completes (port : Fin 48) (lanes : List (List (Fin 4))) (errs : List Nat) (s : State) :
    Completes s (execCodewordReceive port lanes errs s) := by
  unfold execCodewordReceive
  extract_lets +onlyGivenNames n p
  split
  · simp
  extract_lets +onlyGivenNames r t
  have ht : t.pending = s.pending := State.setPort_pending ..
  clear_value t r
  split
  · simp [ht]
  extract_lets +onlyGivenNames a b
  clear_value a b
  dsimp only
  repeat' split
  all_goals simp [ht]

@[simp] theorem State.countReplay_pending (n : Nat) : (s.countReplay n).1.pending = s.pending := by
  unfold State.countReplay; dsimp only
  repeat' split
  all_goals simp

@[simp] theorem State.packetIn_pending (n vc psn : Nat) (bs : List (BitVec 8)) :
    (s.packetIn n vc psn bs).pending = s.pending := by simp [State.packetIn]
@[simp] theorem State.storeFlit_pending (n : Nat) (f : Frame) : (s.storeFlit n f).pending = s.pending := by
  simp [State.storeFlit]
@[simp] theorem execDataFlitReceive_completes : Completes s (execDataFlitReceive port s) := by
  unfold execDataFlitReceive; dsimp only; split <;> simp
@[simp] theorem execNakReceive_completes : Completes s (execNakReceive port s) := by
  unfold execNakReceive; dsimp only; split <;> simp
@[simp] theorem execNakRetryTimeout_completes : Completes s (execNakRetryTimeout port s) := by
  unfold execNakRetryTimeout; dsimp only; split <;> simp

@[simp] theorem State.nextFrame_pending (n : Nat) : (s.nextFrame n).1.pending = s.pending := by
  unfold State.nextFrame; dsimp only
  repeat' split
  all_goals simp

@[simp] theorem State.markerSlot_pending (n : Nat) : (s.markerSlot n).pending = s.pending :=
  (State.startDegrade_pending ..).trans (State.updPort_pending ..)
@[simp] theorem execFlitTransmit_completes : Completes s (execFlitTransmit port s) := by simp [execFlitTransmit]

/-! ### `Machine/FelunPkt.lean` -/

@[simp] theorem State.addrErrorAnswer_pending (n : Nat) (p : Packet) : (s.addrErrorAnswer n p).pending = s.pending := by
  simp [State.addrErrorAnswer]
@[simp] theorem State.wakeFor_pending (r : Region) (ref : Nat) : (s.wakeFor r ref).pending = s.pending := by
  unfold State.wakeFor; split <;> simp
@[simp] theorem State.dropInb_pending (id : Nat) : (s.dropInb id).pending = s.pending := (rfl)
@[simp] theorem State.enterWafer_pending (n : Nat) (p : Packet) (stage out : Nat) (dst : Endp) :
    (s.enterWafer n p stage out dst).pending = s.pending := by simp [State.enterWafer]
@[simp] theorem State.replyInb_pending (i : Inb) (e : Endp) (status : Nat) (content : List (BitVec 8)) (psn : Nat) :
    (s.replyInb i e status content psn).pending = s.pending := by simp [State.replyInb]

theorem felunRequest_completes {serve : State → Inb → FabPkt → Region → State}
    (h : ∀ t i leg r, (serve t i leg r).pending = t.pending) (n opc : Nat) (reg : State → Packet → Option Region)
    (s : State) :
    Completes s (felunRequest n opc reg serve s) := by
  unfold felunRequest
  repeat' split
  all_goals simp [h]

@[simp] theorem State.readContent_pending (mla n : Nat) : (s.readContent mla n).1.pending = s.pending := by
  unfold State.readContent; split <;> simp

theorem State.remoteMemory_pending {go : State → Nat → State} {host : State → Nat → Nat → Nat → State} (s : State)
    (hg : ∀ t a, t.pending = s.pending → (go t a).pending = s.pending)
    (hh : ∀ t l ha off, t.pending = s.pending → (host t l ha off).pending = s.pending) (i : Inb) (leg : FabPkt) (r : Region)
    (len : Nat) (write : Bool) :
    (s.remoteMemory i leg r len write go host).pending = s.pending := by
  have h := s.poolAccess_pending i.pkt.addr len write true
  unfold State.remoteMemory
  repeat' split
  all_goals simp_all

@[simp] theorem State.toHost_pending (i : Inb) : (s.toHost i).pending = s.pending := (rfl)

@[simp] theorem execFelunRead_completes : Completes s (execFelunRead port s) :=
  felunRequest_completes (fun t i leg r => State.remoteMemory_pending t (fun u a h => by simp [h])
    (fun u l ha off h => by split <;> simp [h]) ..) ..

@[simp] theorem State.writeContent_pending (a : Nat) (p : Packet) : (s.writeContent a p).pending = s.pending := by
  unfold State.writeContent; split <;> simp

@[simp] theorem execFelunWrite_completes : Completes s (execFelunWrite port s) :=
  felunRequest_completes (fun t i leg r => State.remoteMemory_pending t (fun u a h => by simp [h])
    (fun u l ha off h => by simp [h]) ..) ..

@[simp] theorem execFelunPush_completes : Completes s (execFelunPush port s) :=
  felunRequest_completes (fun t i leg r => by dsimp only; split <;> simp) ..

@[simp] theorem felunSignal_completes (n opc : Nat) (len : Packet → Nat) (ok : Packet → Bool) (kind : Packet → ReqKind)
    (src : Nat) (s : State) :
    Completes s (felunSignal n opc len ok kind src s) := felunRequest_completes (fun t i leg r => by simp) ..

@[simp] theorem execFelunFipple_completes : Completes s (execFelunFipple port s) := by simp [execFelunFipple]
@[simp] theorem execFelunVset_completes : Completes s (execFelunVset port s) := by simp [execFelunVset]
@[simp] theorem execFelunTadd_completes : Completes s (execFelunTadd port s) := by simp [execFelunTadd]

@[simp] theorem execFelunCredit_completes : Completes s (execFelunCredit port s) := by
  unfold execFelunCredit; dsimp only
  repeat' split
  all_goals simp

@[simp] theorem State.answerTo_pending (r : TagRef) (p : Packet) (e : Endp) : (s.answerTo r p e).pending = s.pending := by
  unfold State.answerTo; dsimp only
  repeat' split
  all_goals simp

theorem State.matchAnswer_pending {gone : State → State} (hg : ∀ t, (gone t).pending = t.pending) (s : State) (n : Nat)
    (p : Packet) :
    (s.matchAnswer n p gone).pending = s.pending := by
  unfold State.matchAnswer; dsimp only
  repeat' split
  all_goals simp [hg]

@[simp] theorem takeAnswer_completes (opc n : Nat) (s : State) : Completes s (takeAnswer opc n s) := by
  unfold takeAnswer
  repeat' split
  all_goals simp [State.matchAnswer_pending]

@[simp] theorem execFelunRdata_completes : Completes s (execFelunRdata port s) := by simp [execFelunRdata]
@[simp] theorem execFelunAck_completes : Completes s (execFelunAck port s) := by simp [execFelunAck]

@[simp] theorem execTagTimeout_completes (port : Fin 48) (tag : BitVec 12) (s : State) :
    Completes s (execTagTimeout port tag s) := by
  unfold execTagTimeout; dsimp only
  repeat' split
  all_goals simp

@[simp] theorem execFelunCensus_completes : Completes s (execFelunCensus port s) := by
  unfold execFelunCensus; split <;> simp

@[simp] theorem execPacketForward_completes (port : Fin 48) (vc : Fin 7) (s : State) :
    Completes s (execPacketForward port vc s) := by
  unfold execPacketForward; dsimp only
  repeat' split
  all_goals simp

@[simp] theorem execPortImbalanceWindow_completes : Completes s (execPortImbalanceWindow s) := by
  simp [execPortImbalanceWindow]

/-! ### `Machine/FelunTime.lean` -/

@[simp] theorem State.setTimeSync_pending (v : Nat) : (s.setTimeSync v).pending = s.pending := by simp [State.setTimeSync]
@[simp] theorem execTsyncSend_completes : Completes s (execTsyncSend port s) := by
  unfold execTsyncSend; dsimp only; split <;> simp
@[simp] theorem execTsyncReceive_completes : Completes s (execTsyncReceive port s) := by
  unfold execTsyncReceive; dsimp only; split <;> simp
@[simp] theorem State.stepGtc_pending (d : Int) : (s.stepGtc d).pending = s.pending := (rfl)
@[simp] theorem State.useMean_pending (m : Int) : (s.useMean m).pending = s.pending := by simp [State.useMean]

@[simp] theorem execTimeLoopUpdate_completes : Completes s (execTimeLoopUpdate s) := by
  unfold execTimeLoopUpdate; dsimp only
  repeat' split
  all_goals simp

/-! ### `Machine/Weights.lean` -/

theorem State.sendPage_pending (n : Nat) (ref : TagRef) (p : Packet) :
    ∀ t, s.sendPage n ref p = some t → t.pending = s.pending := by
  unfold State.sendPage; dsimp only; split <;> simp

theorem State.askRun_pending (n : Nat) (ps : List Nat) (second : Bool) :
    ∀ t, s.askRun n ps second = some t → t.pending = s.pending := by
  unfold State.askRun; dsimp only
  split
  · simp
  · split
    · simp
    · rename_i h
      simp [State.sendPage_pending _ _ _ _ _ h]

@[simp] theorem State.swapDone_pending : s.swapDone.pending = s.pending := by simp [State.swapDone]

@[simp] theorem execPgreqIssue_completes : Completes s (execPgreqIssue port s) := by
  unfold execPgreqIssue
  extract_lets +onlyGivenNames n
  split
  · simp
  split
  · split
    · simp
    split
    · simp
    next t ht => simp [State.askRun_pending _ _ _ _ t ht]
  · simp

@[simp] theorem reserveAll_pending (fuel n : Nat) (s : State) : (reserveAll fuel n s).pending = s.pending := by
  induction fuel generalizing s with
  | zero => rfl
  | succ fuel ih =>
    unfold reserveAll
    repeat' split
    all_goals simp [ih]

@[simp] theorem execPgrantSend_completes : Completes s (execPgrantSend port s) := by simp [execPgrantSend]
@[simp] theorem State.tileDone_pending (n pseq : Nat) : (s.tileDone n pseq).pending = s.pending := by simp [State.tileDone]
@[simp] theorem State.sendCopy_pending (n : Nat) (c : Copy) : (s.sendCopy n c).pending = s.pending := by
  unfold State.sendCopy; dsimp only; split <;> simp
@[simp] theorem State.deliverTile_pending (n : Nat) (g : Granted) (t : TileData) (failed : Bool) :
    (s.deliverTile n g t failed).pending = s.pending := by simp [State.deliverTile]
@[simp] theorem State.lastingTile_pending (n : Nat) (g : Granted) : (s.lastingTile n g).pending = s.pending := by
  simp [State.lastingTile]

@[simp] theorem State.askAgain_pending (n : Nat) (g : Granted) : (s.askAgain n g).pending = s.pending := by
  have h := s.askRun_pending n [g.pseq] true
  unfold State.askAgain
  cases hr : s.askRun n [g.pseq] true <;> simp_all

theorem State.epochOk_pending (n : Nat) (p : Packet) : ∀ t, s.epochOk n p = some t → t.pending = s.pending := by
  simp [State.epochOk]

@[simp] theorem askGaps_pending (fuel n p : Nat) (s : State) : (askGaps fuel n p s).pending = s.pending := by
  induction fuel generalizing s with
  | zero => rfl
  | succ fuel ih =>
    unfold askGaps; dsimp only
    split
    · rfl
    · split
      · rename_i h
        rw [ih, State.askRun_pending _ _ _ _ _ h]
      · rfl

@[simp] theorem execPgtileReceive_completes : Completes s (execPgtileReceive port s) := by
  unfold execPgtileReceive
  extract_lets +onlyGivenNames n
  split
  · simp
  split
  next t ht => simp [State.epochOk_pending _ _ _ t ht]
  extract_lets +onlyGivenNames t m push tile pseq
  have ht : t.pending = s.pending := State.rxDrop_pending ..
  clear_value t
  split
  · simp [ht]
  split
  · simp [ht]
  split
  · simp [ht]
  extract_lets +onlyGivenNames e t1
  have h1 : t1.pending = s.pending := by unfold t1; split <;> simp [ht]
  clear_value t1
  split
  · simp [h1]
  dsimp only
  split <;> simp [h1]

@[simp] theorem execPgerrReceive_completes : Completes s (execPgerrReceive port s) := by
  unfold execPgerrReceive
  extract_lets +onlyGivenNames n
  split
  · simp
  split
  next t ht => simp [State.epochOk_pending _ _ _ t ht]
  extract_lets +onlyGivenNames t
  have ht : t.pending = s.pending := State.rxDrop_pending ..
  clear_value t
  split
  · simp [ht]
  extract_lets +onlyGivenNames first count m gs
  clear_value gs
  simp [ht]

@[simp] theorem execCtabReceive_completes : Completes s (execCtabReceive port s) := by
  unfold execCtabReceive
  extract_lets +onlyGivenNames n
  split
  · simp
  split
  next t ht => simp [State.epochOk_pending _ _ _ t ht]
  dsimp only
  split <;> simp

@[simp] theorem execPageRetryTimeout_completes (port : Fin 48) (pseq : Nat) (s : State) :
    Completes s (execPageRetryTimeout port pseq s) := by
  unfold execPageRetryTimeout; dsimp only
  repeat' split
  all_goals simp

@[simp] theorem execTileLastingTimeout_completes (port : Fin 48) (pseq : Nat) (s : State) :
    Completes s (execTileLastingTimeout port pseq s) := by
  unfold execTileLastingTimeout; dsimp only
  repeat' split
  all_goals simp

theorem State.writeCopy_keeps (n : Nat) (c : Copy) : (s.writeCopy n c).Keeps s := by
  have h := s.poolAccess_pending c.addr 4096 true true
  unfold State.writeCopy
  repeat' split
  all_goals simp_all

@[simp] theorem State.copyDone_pending (n : Nat) (c : Copy) (ok : Bool) : (s.copyDone n c ok).pending = s.pending := by
  simp [State.copyDone]

@[simp] theorem State.landCopy_pending (n : Nat) (c : Copy) : (s.landCopy n c).pending = s.pending := by
  have h := s.writeCopy_keeps n c
  unfold State.landCopy
  repeat' split
  all_goals simp_all

@[simp] theorem execMouthpieceCopyWrite_completes (port : Fin 48) (id : Nat) (s : State) :
    Completes s (execMouthpieceCopyWrite port id s) := by
  unfold execMouthpieceCopyWrite; dsimp only
  repeat' split
  all_goals simp

@[simp] theorem execPlanStart_completes : Completes s (execPlanStart s) := by
  unfold execPlanStart; dsimp only
  repeat' split
  all_goals simp

@[simp] theorem execPlanStop_completes : Completes s (execPlanStop s) := by simp [execPlanStop]
@[simp] theorem execSwapCmd_completes (p : BitVec 16) (s : State) : Completes s (execSwapCmd p s) := by simp [execSwapCmd]
@[simp] theorem execEpochCmd_completes (e : BitVec 16) (s : State) : Completes s (execEpochCmd e s) := by
  simp [execEpochCmd]
@[simp] theorem execEpochAdvanceComplete_completes : Completes s (execEpochAdvanceComplete s) := by
  unfold execEpochAdvanceComplete; split <;> simp

/-! ### `Machine/Bells.lean` -/

theorem State.bellAt_keeps (mla n : Nat) (write : Bool) : (s.bellAt mla n write).Keeps s := by
  have h := s.poolAccess_pending mla n write true
  unfold State.bellAt; dsimp only
  repeat' split
  all_goals simp_all

@[simp] theorem State.bellFail_pending (die mla n : Nat) (write : Bool) :
    (s.bellFail die mla n write).pending = s.pending := by
  have h := s.poolAccess_pending mla n write true
  unfold State.bellFail; dsimp only
  split
  · repeat' split
    all_goals simp_all
  · rfl

@[simp] theorem State.freeBytes_pending (n : Nat) : (s.freeBytes n).1.pending = s.pending := (rfl)

theorem State.bellRead_pending (mla n : Nat) : ∀ r, s.bellRead mla n = some r → r.1.pending = s.pending := by
  have h := s.bellAt_keeps mla n false
  unfold State.bellRead; dsimp only
  repeat' split
  all_goals simp_all

@[simp] theorem State.bellWrite_pending (die mla : Nat) (bs : List (BitVec 8)) :
    (s.bellWrite die mla bs).pending = s.pending := by
  have h := s.bellAt_keeps mla bs.length true
  unfold State.bellWrite; dsimp only
  split <;> simp_all

@[simp] theorem State.bellTile_pending (n mla : Nat) (sidecar : Bool) :
    (s.bellTile n mla sidecar).1.pending = s.pending := by
  have h := s.bellAt_keeps mla 4096 false
  unfold State.bellTile; dsimp only
  repeat' split
  all_goals simp_all

@[simp] theorem State.doneSignal_pending (addr valve : Nat) : (s.doneSignal addr valve).pending = s.pending := by
  unfold State.doneSignal; split <;> simp
@[simp] theorem State.writeStatus_pending (die base size idx at_ status : Nat) :
    (s.writeStatus die base size idx at_ status).pending = s.pending := by simp [State.writeStatus]
@[simp] theorem State.endPage_pending (n idx status : Nat) (w : List Nat) :
    (s.endPage n idx status w).pending = s.pending := by simp [State.endPage]
@[simp] theorem State.sendPages_pending (n tag : Nat) (w : List Nat) : (s.sendPages n tag w).1.pending = s.pending :=
  foldl_fst_pending (fun _ _ => by simp) _ _

theorem State.sendGradient_pending (n idx : Nat) (w : List Nat) :
    ∀ r, s.sendGradient n idx w = some r → r.1.pending = s.pending := by
  unfold State.sendGradient; split <;> simp

theorem State.takeEgress_pending (n : Nat) : ∀ t, s.takeEgress n = some t → t.pending = s.pending := by
  unfold State.takeEgress; dsimp only
  split
  · simp
  split
  · simp
  rename_i t bs hb
  have h := State.bellRead_pending _ _ _ _ hb
  split
  · simp_all
  split
  · simp_all
  split
  · simp
  · rename_i hg
    have h' := State.sendGradient_pending _ _ _ _ _ hg
    simp_all

@[simp] theorem State.entryFail_pending (n pi ci taken base size : Nat) :
    (s.entryFail n pi ci taken base size).pending = s.pending := by simp [State.entryFail]

@[simp] theorem takeEgresses_pending (fuel n : Nat) (s : State) : (takeEgresses fuel n s).pending = s.pending := by
  induction fuel generalizing s with
  | zero => rfl
  | succ fuel ih =>
    unfold takeEgresses
    split
    · rename_i h
      rw [ih, State.takeEgress_pending _ _ _ h]
    · simp

@[simp] theorem execEgressPoll_completes : Completes s (execEgressPoll port s) := by
  unfold execEgressPoll
  extract_lets +onlyGivenNames n
  split
  · simp
  split
  · simp
  next t bs hb =>
    have h : t.pending = s.pending := State.bellRead_pending _ _ _ _ hb
    simp [h]

@[simp] theorem State.finishPage_pending (n idx status : Nat) : (s.finishPage n idx status).pending = s.pending := by
  simp [State.finishPage]

@[simp] theorem execGackReceive_completes : Completes s (execGackReceive port s) := by
  unfold execGackReceive
  extract_lets +onlyGivenNames n
  split
  · simp
  split
  next t ht => simp [State.epochOk_pending _ _ _ t ht]
  dsimp only
  repeat' split
  all_goals simp

@[simp] theorem execGradientRetryTimeout_completes (port : Fin 48) (idx : Nat) (s : State) :
    Completes s (execGradientRetryTimeout port idx s) := by
  unfold execGradientRetryTimeout
  extract_lets +onlyGivenNames n
  split
  · simp
  split
  · simp
  split
  · split
    · simp
    next t bad hg =>
      have h : t.pending = s.pending := State.sendGradient_pending _ _ _ _ _ hg
      simp [h]
  · simp

@[simp] theorem State.endChunk_pending (n idx status : Nat) (w : List Nat) :
    (s.endChunk n idx status w).pending = s.pending := by simp [State.endChunk]
@[simp] theorem State.chunkPacket_pending (n vc tag : Nat) (w : List Nat) :
    (s.chunkPacket n vc tag w).1.pending = s.pending := by simp [State.chunkPacket]

theorem State.takeChunk_pending (n : Nat) : ∀ t, s.takeChunk n = some t → t.pending = s.pending := by
  unfold State.takeChunk; dsimp only
  split
  · simp
  · split
    · simp
    · rename_i t bs hb
      have h := State.bellRead_pending _ _ _ _ hb
      repeat' split
      all_goals simp_all

@[simp] theorem takeChunks_pending (fuel n : Nat) (s : State) : (takeChunks fuel n s).pending = s.pending := by
  induction fuel generalizing s with
  | zero => rfl
  | succ fuel ih =>
    unfold takeChunks
    split
    · rename_i h
      rw [ih, State.takeChunk_pending _ _ _ h]
    · simp

@[simp] theorem State.showQueue_pending (n : Nat) : (s.showQueue n).pending = s.pending := State.setObj_pending ..

@[simp] theorem execChunkQueuePoll_completes : Completes s (execChunkQueuePoll port s) := by
  unfold execChunkQueuePoll
  extract_lets +onlyGivenNames n role
  split
  · simp
  split
  · simp
  next t bs hb =>
    have h : t.pending = s.pending := State.bellRead_pending _ _ _ _ hb
    simp [h]

@[simp] theorem State.finishChunk_pending (n idx status : Nat) : (s.finishChunk n idx status).pending = s.pending := by
  simp [State.finishChunk]

theorem State.chunkAcked_pending {gone : State → State} (hg : ∀ t, (gone t).pending = t.pending) (s : State) (n : Nat)
    (p : Packet) :
    (s.chunkAcked n p gone).pending = s.pending := by
  unfold State.chunkAcked; dsimp only
  repeat' split
  all_goals simp [hg]

@[simp] theorem execChunkAckReceive_completes : Completes s (execChunkAckReceive port s) := by
  unfold execChunkAckReceive; dsimp only
  repeat' split
  all_goals simp [State.chunkAcked_pending]

@[simp] theorem execChunkAckTimeout_completes (port : Fin 48) (idx : Nat) (s : State) :
    Completes s (execChunkAckTimeout port idx s) := by
  unfold execChunkAckTimeout; dsimp only; split <;> simp

@[simp] theorem State.chunkLanded_pending (n : Nat) (p : Packet) (e : Endp) :
    (s.chunkLanded n p e).pending = s.pending := by
  unfold State.chunkLanded; dsimp only; split <;> simp

@[simp] theorem State.landChunk_pending (n : Nat) (p : Packet) (a : Nat) : (s.landChunk n p a).pending = s.pending := by
  unfold State.landChunk; dsimp only
  repeat' split
  all_goals simp

@[simp] theorem execChunkLand_completes : Completes s (execChunkLand port s) := by
  unfold execChunkLand
  extract_lets +onlyGivenNames n
  split
  · simp
  next p _ =>
    have ha := s.poolAccess_pending p.addr 4096 true true
    extract_lets +onlyGivenNames e own refuse
    have hr (t : State) (i st : Nat) (h : t.pending = s.pending) : Completes s (refuse t i st) := by simp [refuse, h]
    clear_value refuse
    repeat' split
    all_goals simp_all

/-! ### `Machine/Host.lean` -/

@[simp] theorem State.syncCmd_pending (k kind : Nat) (v : Word) : (s.syncCmd k kind v).pending = s.pending := by
  unfold State.syncCmd; dsimp only
  repeat' split
  all_goals simp

@[simp] theorem State.ccbWrite_pending (k off kind : Nat) (v : Word) : (s.ccbWrite k off kind v).pending = s.pending := by
  simp [State.ccbWrite]
@[simp] theorem State.complete_pending (status : Nat) (data : List (BitVec 8)) (ep : Bool) :
    (s.complete status data ep).pending = s.pending := (rfl)
@[simp] theorem State.postHost_pending (l : Nat) (r : Region) (there back : Nat) :
    (s.postHost l r there back).pending = s.pending := by simp [State.postHost]
@[simp] theorem State.bar2Wait_pending (x : Nat) : (s.bar2Wait x).pending = s.pending := by
  unfold State.bar2Wait; split <;> simp

@[simp] theorem execBar2Serve_pending (l x n : Nat) (r : Region) (s : State) :
    (execBar2Serve l x n r s).pending = s.pending := by
  have h := ({ s with hst := { s.hst with rdWait := none } } : State).serveRead_keeps x n true
  unfold execBar2Serve; dsimp only
  repeat' split
  all_goals simp_all

@[simp] theorem execBar2Read_completes (link : Fin 2) (x : BitVec 38) (n : Nat) (s : State) :
    Completes s (execBar2Read link x n s) := by
  unfold execBar2Read; split <;> simp

@[simp] theorem execBar2Write_completes (link : Fin 2) (x : BitVec 38) (data : List (BitVec 8)) (ep : Bool) (s : State) :
    Completes s (execBar2Write link x data ep s) := by
  unfold execBar2Write
  split
  · simp
  extract_lets +onlyGivenNames core
  split
  · simp
  split
  · simp
  split
  · simp
  extract_lets +onlyGivenNames t
  have ht : t.pending = s.pending := State.postHost_pending ..
  clear_value t
  split
  · split <;> simp [ht]
  have hw := t.serveWrite_keeps x.toNat data (if ep then some (hubUnit (1 + link.val)) else none) true
  split
  · simp_all
  · split <;> simp_all

@[simp] theorem State.apDone_pending (r : ApRead) (data : List (BitVec 8)) (bad : List Nat) (status : Nat) :
    (s.apDone r data bad status).pending = s.pending := by
  unfold State.apDone; dsimp only
  repeat' split
  all_goals simp

@[simp] theorem execApertureCompletion_completes (i : Nat) (outcome : Fin 4) (data : List (BitVec 8)) (bad : List Nat)
    (s : State) :
    Completes s (execApertureCompletion i outcome data bad s) := by
  unfold execApertureCompletion; split <;> simp

@[simp] theorem execApertureTimeout_completes (i : Nat) (s : State) : Completes s (execApertureTimeout i s) := by
  unfold execApertureTimeout; split <;> simp
@[simp] theorem State.ackCopy_pending (q ref : Nat) : (s.ackCopy q ref).pending = s.pending := by simp [State.ackCopy]
@[simp] theorem State.inbWritten_pending (i : Inb) (status : Nat) (e : Endp) :
    (s.inbWritten i status e).pending = s.pending := by simp [State.inbWritten]

@[simp] theorem State.apWriteDone_pending (l ref status : Nat) : (s.apWriteDone l ref status).pending = s.pending := by
  unfold State.apWriteDone; dsimp only
  repeat' split
  all_goals simp

@[simp] theorem execApertureWriteAck_completes (ref : Nat) (s : State) : Completes s (execApertureWriteAck ref s) := by
  unfold execApertureWriteAck; dsimp only
  repeat' split
  all_goals simp

@[simp] theorem State.setDma_pending (c : Nat) (d : Dma) : (s.setDma c d).pending = s.pending := (rfl)
@[simp] theorem State.failAperture_pending (l : Nat) : (s.failAperture l).pending = s.pending := by
  simp [State.failAperture]
@[simp] theorem State.stopCopies_pending (l : Nat) : (s.stopCopies l).pending = s.pending := by simp [State.stopCopies]
@[simp] theorem execPcieLinkLoss_completes (link : Fin 2) (s : State) : Completes s (execPcieLinkLoss link s) := by
  simp [execPcieLinkLoss]
@[simp] theorem execPcieLinkUp_completes (link : Fin 2) (rate : BitVec 16) (width : BitVec 8) (fmask : Bool) (s : State) :
    Completes s (execPcieLinkUp link rate width fmask s) := by simp [execPcieLinkUp]
@[simp] theorem execPcieLinkTrainFail_completes (link : Fin 2) (s : State) :
    Completes s (execPcieLinkTrainFail link s) := by simp [execPcieLinkTrainFail]
@[simp] theorem execPcieFunctionReset_completes (link : Fin 2) (s : State) :
    Completes s (execPcieFunctionReset link s) := by simp [execPcieFunctionReset]
@[simp] theorem execLqCfgWrite_completes (q : Fin 128) (w0 w1 w2 w3 : Word) (s : State) :
    Completes s (execLqCfgWrite q w0 w1 w2 w3 s) := by simp [execLqCfgWrite]
@[simp] theorem State.lqDoorbell_pending (l q v : Nat) : (s.lqDoorbell l q v).pending = s.pending := by
  simp [State.lqDoorbell]
@[simp] theorem execLqDoorbell_completes (link : Fin 2) (q : Fin 128) (v : BitVec 32) (s : State) :
    Completes s (execLqDoorbell link q v s) := by simp [execLqDoorbell]
@[simp] theorem execLqCheadWrite_completes (q : Fin 128) (v : BitVec 32) (s : State) :
    Completes s (execLqCheadWrite q v s) := by simp [execLqCheadWrite]
@[simp] theorem execLqCiStore_completes (k : CoreId) (q : Fin 128) (v : BitVec 32) (s : State) :
    Completes s (execLqCiStore k q v s) := by simp [execLqCiStore]
@[simp] theorem execLqCpiStore_completes (k : CoreId) (q : Fin 128) (v : BitVec 32) (s : State) :
    Completes s (execLqCpiStore k q v s) := by simp [execLqCpiStore]

theorem State.recordRead_pending (mla : Nat) : ∀ r, s.recordRead mla = some r → r.1.pending = s.pending := by
  have h := s.bellAt_keeps mla 32 false
  unfold State.recordRead; dsimp only
  repeat' split
  all_goals simp_all

@[simp] theorem copyOn_pending (fuel q : Nat) (s : State) : (copyOn fuel q s).pending = s.pending := by
  induction fuel generalizing s with
  | zero => rfl
  | succ fuel ih =>
    unfold copyOn; dsimp only
    repeat' split
    · rfl
    · rfl
    · rfl
    · rename_i h
      have h' := State.recordRead_pending _ _ _ h
      simpa [ih] using h'

@[simp] theorem execCompletionCopy_completes (q : Fin 128) (s : State) : Completes s (execCompletionCopy q s) := by
  simp [execCompletionCopy]
@[simp] theorem execDmaDoorbell_completes (c : Fin 16) (v : BitVec 32) (s : State) :
    Completes s (execDmaDoorbell c v s) := by simp [execDmaDoorbell]
@[simp] theorem execDmaEnable_completes (c : Fin 16) (s : State) : Completes s (execDmaEnable c s) := by
  simp [execDmaEnable]
@[simp] theorem execDmaDisable_completes (c : Fin 16) (s : State) : Completes s (execDmaDisable c s) := by
  simp [execDmaDisable]
@[simp] theorem execDmaDescriptorExecute_completes (c : Fin 16) (words : List Word) (s : State) :
    Completes s (execDmaDescriptorExecute c words s) := by simp [execDmaDescriptorExecute]

@[simp] theorem State.dmaRead_pending (l mla u : Nat) (sc : Bool) (host : TileData) :
    (s.dmaRead l mla u sc host).1.pending = s.pending := by
  have h := s.poolAccess_pending mla u false true
  unfold State.dmaRead; dsimp only
  repeat' split
  all_goals simp_all

@[simp] theorem State.dmaWrite_pending (l mla : Nat) (t : TileData) : (s.dmaWrite l mla t).1.pending = s.pending := by
  have h := s.poolAccess_pending mla t.payload.length true true
  unfold State.dmaWrite; dsimp only
  repeat' split
  all_goals simp_all

@[simp] theorem dmaMove_pending (w : List Nat) (link : Nat) (data scales : List (BitVec 8)) (bad : List Nat) (fuel i : Nat)
    (s : State) (p : Bool) :
    (dmaMove w link data scales bad fuel i s p).1.pending = s.pending := by
  induction fuel generalizing i s p with
  | zero => rfl
  | succ fuel ih =>
    unfold dmaMove; dsimp only
    split
    · rename_i h
      replace h := congrArg (fun r => r.1.pending) h
      simpa using h.symm
    · rename_i t d h
      replace h : t.pending = s.pending := by simpa using (congrArg (fun r => r.1.pending) h).symm
      split
      · simp [ih, h]
      · have hw := t.dmaWrite_pending link (w.getD 2 0 + i * if (w.getD 0 0).testBit 61 then 4096 else 64) d
        split <;> rename_i hv <;> rw [hv] at hw
        · exact hw.trans h
        · rw [ih]; exact hw.trans h

theorem State.dmaHeld_pending (w : List Nat) : ∀ t, s.dmaHeld w = some t → t.pending = s.pending := by
  unfold State.dmaHeld; dsimp only
  repeat' split
  all_goals simp

@[simp] theorem State.dmaEnd_pending (c status done : Nat) (w : List Nat) :
    (s.dmaEnd c status done w).pending = s.pending := by
  unfold State.dmaEnd; dsimp only
  repeat' split
  all_goals simp

@[simp] theorem execDmaDescriptorComplete_completes (c : Fin 16) (data scales : List (BitVec 8)) (bad : List Nat)
    (refused : Bool) (s : State) :
    Completes s (execDmaDescriptorComplete c data scales bad refused s) := by
  unfold execDmaDescriptorComplete
  extract_lets +onlyGivenNames d w
  split
  · simp
  split
  · simp
  split
  · simp
  split
  next t ht => simp [State.dmaHeld_pending _ _ t ht]
  · simp

@[simp] theorem execMsixSend_completes (link : Fin 2) (vec : BitVec 8) (s : State) :
    Completes s (execMsixSend link vec s) := by simp [execMsixSend]

/-! ### `Machine/Power.lean` -/

@[simp] theorem State.updRegion_pending (r : Nat) (f : Region16 → Region16) : (s.updRegion r f).pending = s.pending := (rfl)
@[simp] theorem State.updCluster_pending (c : Nat) (f : Cluster → Cluster) : (s.updCluster c f).pending = s.pending := (rfl)
@[simp] theorem State.settleThrottle_pending (c : Nat) : (s.settleThrottle c).pending = s.pending := by
  unfold State.settleThrottle; dsimp only; split <;> simp
@[simp] theorem State.setFreq_pending (r f : Nat) : (s.setFreq r f).pending = s.pending := by
  unfold State.setFreq; split <;> simp
@[simp] theorem State.setRegionState_pending (r st : Nat) : (s.setRegionState r st).pending = s.pending := (rfl)
@[simp] theorem State.settleTimes_pending : s.settleTimes.pending = s.pending := by simp [State.settleTimes]
@[simp] theorem State.updCaps_pending : s.updCaps.pending = s.pending := by simp [State.updCaps]
@[simp] theorem State.powerRestored_pending : s.powerRestored.pending = s.pending := by simp [State.powerRestored]
@[simp] theorem State.setFeed_pending (f st : Nat) (g : Feed → Feed) : (s.setFeed f st g).pending = s.pending := by
  simp [State.setFeed]
@[simp] theorem State.countFeed_pending (f k : Nat) : (s.countFeed f k).pending = s.pending := (rfl)
@[simp] theorem State.reverseFeed_pending (f : Nat) : (s.reverseFeed f).pending = s.pending := by simp [State.reverseFeed]
@[simp] theorem State.enterHold_pending : s.enterHold.pending = s.pending := by simp [State.enterHold]
@[simp] theorem execFeedQualifyBegin_completes (f : Fin 8) (mv : Nat) (s : State) :
    Completes s (execFeedQualifyBegin f mv s) := by simp [execFeedQualifyBegin]
@[simp] theorem execFeedQualifyTimer_completes (f : Fin 8) (s : State) : Completes s (execFeedQualifyTimer f s) := by
  simp [execFeedQualifyTimer]
@[simp] theorem execFeedQualifyFail_completes (f : Fin 8) (mv : Nat) (reversed : Bool) (s : State) :
    Completes s (execFeedQualifyFail f mv reversed s) := by simp [execFeedQualifyFail]
@[simp] theorem execFeedVoltageLow_completes (f : Fin 8) (mv : Nat) (s : State) :
    Completes s (execFeedVoltageLow f mv s) := by simp [execFeedVoltageLow]
@[simp] theorem execFeedReversed_completes (f : Fin 8) (s : State) : Completes s (execFeedReversed f s) := by
  simp [execFeedReversed]
@[simp] theorem execFeedOverVoltage_completes (f : Fin 8) (mv : Nat) (s : State) :
    Completes s (execFeedOverVoltage f mv s) := by simp [execFeedOverVoltage]
@[simp] theorem execFeedOverVoltageClear_completes (f : Fin 8) (mv : Nat) (s : State) :
    Completes s (execFeedOverVoltageClear f mv s) := by simp [execFeedOverVoltageClear]
@[simp] theorem execFeedTrip_completes (f : Fin 8) (s : State) : Completes s (execFeedTrip f s) := by simp [execFeedTrip]
@[simp] theorem execFeedTripRetry_completes (f : Fin 8) (s : State) : Completes s (execFeedTripRetry f s) := by
  simp [execFeedTripRetry]

@[simp] theorem execPowerCapEnforce_completes (mw : Nat) (top : Fin 192) (s : State) :
    Completes s (execPowerCapEnforce mw top s) := by
  unfold execPowerCapEnforce; dsimp only; split <;> simp

@[simp] theorem State.noteBus_pending (mv : Nat) : (s.noteBus mv).pending = s.pending := by simp [State.noteBus]
@[simp] theorem State.leaveHold_pending (next : Nat) : (s.leaveHold next).pending = s.pending := (rfl)
@[simp] theorem execBreathHoldExit_completes (bus : Nat) (s : State) : Completes s (execBreathHoldExit bus s) := by
  simp [execBreathHoldExit]
@[simp] theorem execBhMaxExpiry_completes : Completes s (execBhMaxExpiry s) := by simp [execBhMaxExpiry]
@[simp] theorem execRegionUngate_completes (r : Fin 192) (s : State) : Completes s (execRegionUngate r s) := by
  unfold execRegionUngate; split <;> simp
@[simp] theorem State.darken_pending (ds : List Nat) : (s.darken ds).pending = s.pending := (rfl)
@[simp] theorem State.railsOff_pending : s.railsOff.pending = s.pending := by simp [State.railsOff]
@[simp] theorem execPowerLossShutdown_completes (bus : Nat) (s : State) : Completes s (execPowerLossShutdown bus s) := by
  simp [execPowerLossShutdown]
@[simp] theorem State.countRail_pending (rail i k : Nat) : (s.countRail rail i k).pending = s.pending := by
  simp [State.countRail]
@[simp] theorem execRailWarning_completes (rail : Fin 7) (i : Fin 192) (ma : Nat) (s : State) :
    Completes s (execRailWarning rail i ma s) := by simp [execRailWarning]
@[simp] theorem execRailTrip_completes (rail : Fin 7) (i : Fin 192) (ma : Nat) (s : State) :
    Completes s (execRailTrip rail i ma s) := by simp [execRailTrip]
@[simp] theorem execRailTripResume_completes (r : Fin 192) (s : State) : Completes s (execRailTripResume r s) := by
  unfold execRailTripResume; split <;> simp
@[simp] theorem State.setVminRec_pending (o : Obj) (r : Nat) (ws : List Nat) : (s.setVminRec o r ws).pending = s.pending :=
  foldl_setObj_pending ..
@[simp] theorem State.noteVmin_pending (r sensor v : Nat) : (s.noteVmin r sensor v).pending = s.pending := by
  simp [State.noteVmin]
@[simp] theorem execRegulatorUpdate_completes (r : Fin 192) (sensor : Fin 32) (v ma : Nat) (s : State) :
    Completes s (execRegulatorUpdate r sensor v ma s) := by simp [execRegulatorUpdate]
@[simp] theorem State.marginStep_pending (r : Nat) : (s.marginStep r).pending = s.pending := by simp [State.marginStep]
@[simp] theorem execMarginStepDown_completes (r : Fin 192) (s : State) : Completes s (execMarginStepDown r s) := by
  unfold execMarginStepDown; split <;> simp
@[simp] theorem execDroopStretch_completes (r : Fin 192) (sensor : Fin 32) (v : Nat) (s : State) :
    Completes s (execDroopStretch r sensor v s) := by simp [execDroopStretch]
@[simp] theorem execStretchEnd_completes (d : Fin 48) (cluster : Fin 16) (s : State) :
    Completes s (execStretchEnd d cluster s) := by simp [execStretchEnd]

/-! ### `Machine/Thermal.lean` -/

@[simp] theorem execRegionIdleEntry_completes (r : Fin 192) (s : State) : Completes s (execRegionIdleEntry r s) := by
  simp [execRegionIdleEntry]
@[simp] theorem execRegionWake_completes (r : Fin 192) (s : State) : Completes s (execRegionWake r s) := by
  simp [execRegionWake]
@[simp] theorem execRegionDozeEntry_completes (r : Fin 192) (s : State) : Completes s (execRegionDozeEntry r s) := by
  simp [execRegionDozeEntry]
@[simp] theorem execRegionRetainEntry_completes (r : Fin 192) (s : State) : Completes s (execRegionRetainEntry r s) := by
  simp [execRegionRetainEntry]
@[simp] theorem execRegionOff_completes (r : Fin 192) (s : State) : Completes s (execRegionOff r s) := by
  simp [execRegionOff]
@[simp] theorem execRegionOn_completes (r : Fin 192) (s : State) : Completes s (execRegionOn r s) := by simp [execRegionOn]
@[simp] theorem execLendingGrantUpdate_completes (d : Fin 48) (s : State) : Completes s (execLendingGrantUpdate d s) := by
  simp [execLendingGrantUpdate]
@[simp] theorem State.readTemps_pending (d c : Nat) (rs : List Int) : (s.readTemps d c rs).pending = s.pending := by
  unfold State.readTemps; split <;> simp
@[simp] theorem State.throttle_pending (i : Nat) : (s.throttle i).pending = s.pending := by simp [State.throttle]
@[simp] theorem execThrottleUpdate_completes (d : Fin 48) (readings : List Int) (s : State) :
    Completes s (execThrottleUpdate d readings s) := by simp [execThrottleUpdate]

@[simp] theorem execThermalCriticalGate_completes (d : Fin 48) (c : Fin 16) (readings : List Int) (s : State) :
    Completes s (execThermalCriticalGate d c readings s) := by
  unfold execThermalCriticalGate; split <;> simp

@[simp] theorem execThermalUngate_completes (d : Fin 48) (c : Fin 16) (readings : List Int) (s : State) :
    Completes s (execThermalUngate d c readings s) := by simp [execThermalUngate]

@[simp] theorem execThermalShutdown_completes (d : Fin 48) (c : Fin 16) (readings : List Int) (s : State) :
    Completes s (execThermalShutdown d c readings s) := by
  unfold execThermalShutdown; dsimp only; split <;> simp

@[simp] theorem State.coolRise_pending (st : Nat) (flow : Word) : (s.coolRise st flow).pending = s.pending := by
  unfold State.coolRise; dsimp only; split <;> simp
@[simp] theorem execCoolantSample_completes (v : List Int) (s : State) : Completes s (execCoolantSample v s) := by
  simp [execCoolantSample]
@[simp] theorem execCoolingRestored_completes : Completes s (execCoolingRestored s) := by simp [execCoolingRestored]
@[simp] theorem execCoolantSensorFault_completes (k : Fin 5) (s : State) : Completes s (execCoolantSensorFault k s) := by
  simp [execCoolantSensorFault]

/-! ### `Machine/Clock.lean` -/

@[simp] theorem execPllLockLoss_completes (d : Fin 48) (s : State) : Completes s (execPllLockLoss d s) := by
  simp [execPllLockLoss]
@[simp] theorem execDcoLockLoss_completes (d : Fin 48) (c : Fin 16) (s : State) : Completes s (execDcoLockLoss d c s) := by
  simp [execDcoLockLoss]
@[simp] theorem execGtcReferenceEdge_completes : Completes s (execGtcReferenceEdge s) := by
  unfold execGtcReferenceEdge; dsimp only; split <;> simp
@[simp] theorem State.gtcStepWrite_pending (v : Nat) : (s.gtcStepWrite v).pending = s.pending := by
  simp [State.gtcStepWrite]
@[simp] theorem execGtcStepWrite_completes (v : Word) (s : State) : Completes s (execGtcStepWrite v s) := by
  simp [execGtcStepWrite]
@[simp] theorem State.setCal_pending (n : Nat) : (s.setCal n).pending = s.pending := (rfl)
@[simp] theorem execCalendarTick_completes : Completes s (execCalendarTick s) := by
  unfold execCalendarTick; split <;> simp
@[simp] theorem execCalWrite_completes (v : BitVec 48) (s : State) : Completes s (execCalWrite v s) := by
  simp [execCalWrite]

@[simp] theorem execPtpMessageReceive_completes (domain : BitVec 8) (offset : Int) (tai utc : Nat) (drift : Option Int)
    (s : State) :
    Completes s (execPtpMessageReceive domain offset tai utc drift s) := by
  unfold execPtpMessageReceive
  split
  · simp
  extract_lets +onlyGivenNames since _ t
  have ht : t.pending = s.pending := rfl
  clear_value t since
  split
  · exact completes_next.2 ht
  split
  · exact completes_next.2 ht
  extract_lets +onlyGivenNames t1
  have h1 : t1.pending = s.pending := (State.setObj_pending ..).trans ht
  clear_value t1
  extract_lets +onlyGivenNames want diff t2
  have h2 : t2.pending = s.pending := by
    unfold t2; split
    · exact (State.setObj_pending ..).trans ((State.setCal_pending ..).trans h1)
    · exact h1
  clear_value t2
  split
  · exact completes_next.2 ((State.setRwp_pending ..).trans h2)
  · exact completes_next.2 h2

/-! ### `Machine/Boundary.lean` -/

@[simp] theorem State.updCan_pending (b : Nat) (f : CanPort → CanPort) : (s.updCan b f).pending = s.pending := (rfl)
@[simp] theorem canCounter_pending (b k : Nat) : (canCounter s b k).pending = s.pending := (rfl)

@[simp] theorem execCanFrameReceive_completes (bus : Fin 2) (kind : Fin 4) (id : BitVec 11) (data : List (BitVec 8))
    (s : State) :
    Completes s (execCanFrameReceive bus kind id data s) := by simp [execCanFrameReceive]

@[simp] theorem execCanBusOff_completes (bus : Fin 2) (s : State) : Completes s (execCanBusOff bus s) := by
  simp [execCanBusOff]
@[simp] theorem execCanBusOffRecovery_completes (bus : Fin 2) (s : State) : Completes s (execCanBusOffRecovery bus s) := by
  simp [execCanBusOffRecovery]
@[simp] theorem State.phyBit_pending (b i : Nat) (v : Bool) : (s.phyBit b i v).pending = s.pending := (rfl)
@[simp] theorem State.phyFound_pending (b i : Nat) : (s.phyFound b i).pending = s.pending := by simp [State.phyFound]

@[simp] theorem execCanLineMeasure_completes (bus : Fin 2) (m : CanMeasure) (s : State) :
    Completes s (execCanLineMeasure bus m s) := by
  unfold execCanLineMeasure; split <;> simp

@[simp] theorem execUdpDatagramReceive_completes (addr : BitVec 128) (sport dport : BitVec 16) (data : List (BitVec 8))
    (s : State) :
    Completes s (execUdpDatagramReceive addr sport dport data s) := by simp [execUdpDatagramReceive]

@[simp] theorem execEthLinkChange_completes (up : Bool) (s : State) : Completes s (execEthLinkChange up s) := by
  simp [execEthLinkChange]
@[simp] theorem execSlaacAddressAcquire_completes (pfx : BitVec 64) (drop : Bool) (s : State) :
    Completes s (execSlaacAddressAcquire pfx drop s) := by simp [execSlaacAddressAcquire]

@[simp] theorem State.uartRxPush_pending (b : BitVec 8) : (s.uartRxPush b).pending = s.pending := by
  unfold State.uartRxPush; extract_lets old t
  have h : t.pending = s.pending := foldl_setObj_pending ..
  rw [State.setObj_pending, h]

@[simp] theorem State.uartTake_pending (n : Nat) : (s.uartTake n).pending = s.pending := by simp [State.uartTake]
@[simp] theorem execUartFrameReceive_completes (samples : BitVec 30) (early : Bool) (taken : Nat) (s : State) :
    Completes s (execUartFrameReceive samples early taken s) := by simp [execUartFrameReceive]
@[simp] theorem execUartFrameSend_completes (b : BitVec 8) (s : State) : Completes s (execUartFrameSend b s) := by
  simp [execUartFrameSend]
@[simp] theorem execUartBaudWrite_completes (v : BitVec 32) (s : State) : Completes s (execUartBaudWrite v s) := by
  simp [execUartBaudWrite]
@[simp] theorem execTapTckEdge_completes (rising tms tdi trst : Bool) (s : State) :
    Completes s (execTapTckEdge rising tms tdi trst s) := by simp [execTapTckEdge]

/-! ### `Machine/Branch.lean` -/

@[simp] theorem execJ_completes : Completes s (execJ c w s) := issue_completes fun s => by simp
@[simp] theorem execJal_completes : Completes s (execJal c w s) := issue_completes fun s => by simp

theorem regTarget_keeps {s : State} {go : Pc → Body} (h : ∀ pc, (go pc).Keeps s) (c : CtxId) (r : Nat) :
    (regTarget c s r go).Keeps s := by
  unfold regTarget; dsimp only
  repeat' split
  all_goals simp [h]

@[simp] theorem execJr_completes : Completes s (execJr c w s) :=
  issue_completes (fun s => regTarget_keeps (fun pc => by simp) ..)
@[simp] theorem execJalr_completes : Completes s (execJalr c w s) :=
  issue_completes (fun s => regTarget_keeps (fun pc => by simp) ..)
@[simp] theorem execBc_completes : Completes s (execBc c w s) := issue_completes fun s => by simp

/-! ### `Machine/Health.lean` -/

@[simp] theorem State.queueRec_pending (kind die : Nat) (body : List Nat) :
    (s.queueRec kind die body).pending = s.pending := (rfl)
@[simp] theorem State.settleLives_pending : s.settleLives.pending = s.pending := by simp [State.settleLives]
@[simp] theorem State.flushErrors_pending (d : Nat) : (s.flushErrors d).pending = s.pending := by simp [State.flushErrors]
@[simp] theorem execErrorsFlush_completes : Completes s (execErrorsFlush s) := by simp [execErrorsFlush]
@[simp] theorem State.measure_pending (o : Obj) (i : Nat) : (s.measure o i).2.pending = s.pending := (rfl)
@[simp] theorem State.beginPeriod_pending : s.beginPeriod.pending = s.pending := (rfl)
@[simp] theorem State.closePeriod_pending : s.closePeriod.pending = s.pending := by simp [State.closePeriod]
@[simp] theorem execPeriodEnd_completes : Completes s (execPeriodEnd s) := by simp [execPeriodEnd]
@[simp] theorem execHealthFlush_completes (v : BitVec 8) (s : State) : Completes s (execHealthFlush v s) := by
  simp [execHealthFlush]
@[simp] theorem State.snapshot_pending (d : Nat) : (s.snapshot d).pending = s.pending := by simp [State.snapshot]
@[simp] theorem execSummarySnapshot_completes (d : Fin 49) (s : State) : Completes s (execSummarySnapshot d s) := by
  simp [execSummarySnapshot]
@[simp] theorem execVminFlashCopy_completes (d : Fin 48) (s : State) : Completes s (execVminFlashCopy d s) := by
  simp [execVminFlashCopy]
@[simp] theorem State.retireBlock_pending (b : Nat) : (s.retireBlock b).pending = s.pending := by simp [State.retireBlock]
@[simp] theorem State.openNext_pending (erases : Nat) : (s.openNext erases).pending = s.pending := by simp [State.openNext]
@[simp] theorem State.roomFor_pending (n erases : Nat) : (s.roomFor n erases).pending = s.pending := by simp [State.roomFor]

@[simp] theorem execRingRecordWrite_completes (ok1 ok2 : Bool) (erases : Nat) (s : State) :
    Completes s (execRingRecordWrite ok1 ok2 erases s) := by
  unfold execRingRecordWrite; split <;> simp

@[simp] theorem execFaultRecordWrite_completes : Completes s (execFaultRecordWrite s) := by
  unfold execFaultRecordWrite; split <;> simp
@[simp] theorem execFenceDieWrite_completes (v : BitVec 8) (s : State) : Completes s (execFenceDieWrite v s) := by
  simp [execFenceDieWrite]

/-! ### `Machine/Firmware.lean` -/

@[simp] theorem State.persist_pending : s.persist.pending = s.pending := by simp [State.persist]
@[simp] theorem execRwpPersist_completes : Completes s (execRwpPersist s) := by simp [execRwpPersist]
@[simp] theorem State.countFw_pending (k : Nat) : (s.countFw k).pending = s.pending := (rfl)
@[simp] theorem State.refuseBundle_pending (version reason : Nat) :
    (s.refuseBundle version reason).pending = s.pending := by simp [State.refuseBundle]
@[simp] theorem State.dropDelivery_pending (reason : Nat) : (s.dropDelivery reason).pending = s.pending := by
  simp [State.dropDelivery]

theorem State.takeUnit_keeps (d : Delivery) : (s.takeUnit d).Keeps s := by
  unfold State.takeUnit; dsimp only
  repeat' split
  all_goals simp

theorem deliverUnits_keeps (fuel next : Nat) (s : State) : (deliverUnits fuel next s).Keeps s := by
  induction fuel generalizing next s with
  | zero => rfl
  | succ fuel ih =>
    unfold deliverUnits
    split
    · rfl
    rename_i d _
    have h := s.takeUnit_keeps d
    dsimp only
    generalize (if d.passed = true then 65536 else 65536 + if d.chain = true then 16 else 0) = want
    split
    · split
      · rename_i t n heq
        rw [heq] at h
        have h' := ih n t
        cases hr : deliverUnits fuel n t <;> simp_all
      · exact h
    · rfl

theorem State.deliverBytes_keeps (bs : List (BitVec 8)) : (s.deliverBytes bs).Keeps s := by
  unfold State.deliverBytes
  split
  · rfl
  · exact deliverUnits_keeps ..

@[simp] theorem State.stageDelivery_pending (crc : Nat) : (s.stageDelivery crc).1.pending = s.pending := by
  unfold State.stageDelivery; dsimp only
  repeat' split
  all_goals simp

@[simp] theorem execStagedReread_completes : Completes s (execStagedReread s) := by simp [execStagedReread]
@[simp] theorem State.chainOrigin_pending : s.chainOrigin.pending = s.pending := by simp [State.chainOrigin]
@[simp] theorem execChainOrigin_completes : Completes s (execChainOrigin s) := by simp [execChainOrigin]
@[simp] theorem State.chainStop_pending : s.chainStop.pending = s.pending := (rfl)
@[simp] theorem execChainStop_completes : Completes s (execChainStop s) := by simp [execChainStop]
@[simp] theorem State.setForward_pending (axis : Nat) (f : Forward) : (s.setForward axis f).pending = s.pending := (rfl)
@[simp] theorem State.chainInit_pending (c : Chain) (n tid : Nat) : (s.chainInit c n tid).pending = s.pending := by
  simp [State.chainInit]

@[simp] theorem execChainForward_completes (axis : Fin 3) (s : State) : Completes s (execChainForward axis s) := by
  unfold execChainForward; dsimp only
  repeat' split
  all_goals simp

@[simp] theorem State.chainFail_pending (axis : Nat) : (s.chainFail axis).pending = s.pending := by simp [State.chainFail]
@[simp] theorem execChainRetry_completes (axis : Fin 3) (s : State) : Completes s (execChainRetry axis s) := by
  unfold execChainRetry; dsimp only; split <;> simp
@[simp] theorem State.chainEnd_pending (axis status : Nat) : (s.chainEnd axis status).pending = s.pending := by
  unfold State.chainEnd; split <;> simp

theorem State.chainAnswer_pending (n : Nat) (pdu : List (BitVec 8)) :
    ∀ t, s.chainAnswer n pdu = some t → t.pending = s.pending := by
  unfold State.chainAnswer; dsimp only
  repeat' split
  all_goals simp

@[simp] theorem State.forwardTimer_pending (axis : Nat) : (s.forwardTimer axis).pending = s.pending := by
  simp [State.forwardTimer]
@[simp] theorem State.activate_pending (v : Nat) : (s.activate v).pending = s.pending := by simp [State.activate]
@[simp] theorem execActivateCommit_completes : Completes s (execActivateCommit s) := by simp [execActivateCommit]
@[simp] theorem execActivateCommitWarm_completes : Completes s (execActivateCommitWarm s) := by
  simp [execActivateCommitWarm]
@[simp] theorem execActivationVerifyDone_completes : Completes s (execActivationVerifyDone s) := by
  unfold execActivationVerifyDone; split <;> simp
@[simp] theorem State.bootSvn_pending (svn fails : Nat) : (s.bootSvn svn fails).pending = s.pending := by
  simp [State.bootSvn]
@[simp] theorem State.bootRoots_pending (b : List (BitVec 8)) : (s.bootRoots b).pending = s.pending := by
  simp [State.bootRoots]

/-! ### `Machine/Start.lean` -/

@[simp] theorem State.addDefect_pending (d : Nat) (loc : Word) (kind source spare : Nat) :
    (s.addDefect d loc kind source spare).pending = s.pending := by simp [State.addDefect]
@[simp] theorem State.badDie_pending (d reason : Nat) (loc : Word) (phase : Nat) :
    (s.badDie d reason loc phase).pending = s.pending := by simp [State.badDie]
@[simp] theorem State.fencePcore_pending (d p : Nat) (loc : Word) (source : Nat) :
    (s.fencePcore d p loc source).pending = s.pending := by simp [State.fencePcore]

@[simp] theorem State.spareColumn_pending (l : Word) (source : Nat) : (s.spareColumn l source).pending = s.pending := by
  unfold State.spareColumn; dsimp only
  repeat' split
  all_goals simp

@[simp] theorem State.spareSubarray_pending (l : Word) (source phase : Nat) :
    (s.spareSubarray l source phase).pending = s.pending := by simp [State.spareSubarray]
@[simp] theorem State.badLane_pending (l : Word) (phase : Nat) : (s.badLane l phase).pending = s.pending := by
  unfold State.badLane; dsimp only; split <;> simp
@[simp] theorem State.repair_pending (source phase : Nat) (l : Word) : (s.repair source phase l).pending = s.pending := by
  unfold State.repair; dsimp only; split <;> simp
@[simp] theorem State.buildMap_pending : s.buildMap.pending = s.pending := by
  simp [State.buildMap]
@[simp] theorem State.dropSpared_pending : s.dropSpared.pending = s.pending := (rfl)
@[simp] theorem State.setVerdict_pending (j : Judged) : (s.setVerdict j).pending = s.pending := by simp [State.setVerdict]
@[simp] theorem State.takeJudged_pending (d : Nat) (j : Judged) : (s.takeJudged d j).pending = s.pending := by
  simp [State.takeJudged]

@[simp] theorem State.dissents_pending (d : Nat) (js : List Judged) : (s.dissents d js).1.pending = s.pending := by
  refine foldl_fst_pending (fun p k => ?_) _ _
  split
  · simp only [State.ite_fst_pending, State.raiseAct_pending, State.incObj_pending, ite_self]
  · rfl

@[simp] theorem State.neighbourTest_pending (x : StartIn) : (s.neighbourTest x).pending = s.pending := by
  unfold State.neighbourTest; dsimp only
  rw [foldl_pending (fun t d => by simp)]
  exact foldl_fst_pending (fun p d => by simp) _ _

@[simp] theorem State.hubTest_pending (x : StartIn) : (s.hubTest x).pending = s.pending := by
  refine foldl_pending (fun t u => ?_) _ _
  split <;> simp

@[simp] theorem State.retestCores_pending (fails : List (Nat × Nat)) : (s.retestCores fails).pending = s.pending := by
  simp [State.retestCores]

@[simp] theorem State.takeMargin_pending (m : Margin) : (s.takeMargin m).pending = s.pending := by
  simp only [State.takeMargin, State.ite_pending, State.raiseAct_pending, State.marginStep_pending, State.updLife_pending,
    State.updRegion_pending, ite_self]
  rw [State.setObj_pending]

@[simp] theorem State.finalRecords_pending : s.finalRecords.pending = s.pending := by simp [State.finalRecords]
@[simp] theorem State.loadSettings_pending : s.loadSettings.pending = s.pending := by
  unfold State.loadSettings; split <;> simp

@[simp] theorem State.migrate_pending (setv from_ : Nat) : (s.migrate setv from_).pending = s.pending := by
  unfold State.migrate; dsimp only
  repeat' split
  all_goals simp

@[simp] theorem State.countPages_pending (x : StartIn) (slot : Nat) : (s.countPages x slot).pending = s.pending := by
  unfold State.countPages; split <;> simp
@[simp] theorem State.enterRecovery_pending (why : Nat) : (s.enterRecovery why).pending = s.pending := by
  simp [State.enterRecovery]
@[simp] theorem State.runBundle_pending (x : StartIn) (c : Commit) : (s.runBundle x c).pending = s.pending := by
  simp [State.runBundle]

@[simp] theorem State.boot1_pending (x : StartIn) : (s.boot1 x).pending = s.pending := by
  unfold State.boot1; dsimp only
  repeat' split
  all_goals simp

@[simp] theorem State.samplePlace_pending (pins : List (BitVec 20)) : (s.samplePlace pins).pending = s.pending := by
  simp [State.samplePlace]
@[simp] theorem State.livesFromFlash_pending : s.livesFromFlash.pending = s.pending := by simp [State.livesFromFlash]

@[simp] theorem State.loadVmin_pending : s.loadVmin.pending = s.pending := by
  refine foldl_pending (fun t e => ?_) _ _
  split
  · exact foldl_setObj_pending ..
  · rfl

@[simp] theorem State.clearUnits_pending : s.clearUnits.pending = s.pending := by simp [State.clearUnits]
@[simp] theorem State.clearWarm_pending : s.clearWarm.pending = s.pending := by
  simp [State.clearWarm]
@[simp] theorem State.clearCold_pending : s.clearCold.pending = s.pending := (rfl)

@[simp] theorem State.beginStart_pending (kind cause : Nat) (aon valid : Bool) :
    (s.beginStart kind cause aon valid).pending = s.pending := by
  unfold State.beginStart; extract_lets no _ s0 s1 _ s2 s3 s4 s5 _ _ s6 _ s7 s8 s9
  have h0 : s0.pending = s.pending := State.setObj_pending ..
  have h1 : s1.pending = s.pending := by rw [← h0]; simp [s1]
  have h2 : s2.pending = s.pending := by rw [← h1]; simp [s2]
  have h3 : s3.pending = s.pending := by rw [← h2]; simp [s3]
  have h5 : s5.pending = s.pending := by rw [← h3]; simp [s5, s4]
  have h6 : s6.pending = s.pending := by rw [← h5]; simp [s6]
  have h8 : s8.pending = s.pending := by rw [← h6]; simp [s8, s7]
  rw [State.loadVmin_pending, State.setObj_pending, ← h8]
  exact foldl_pending (fun _ _ => State.setObj_pending ..) _ _

@[simp] theorem State.phase0_pending (x : StartIn) : (s.phase0 x).pending = s.pending := by simp [State.phase0]
@[simp] theorem State.phase1_pending (x : StartIn) : (s.phase1 x).pending = s.pending := by simp [State.phase1]

@[simp] theorem State.phase2_pending (x : StartIn) : (s.phase2 x).pending = s.pending := by
  unfold State.phase2; dsimp only
  split <;> simp

@[simp] theorem State.phase3_pending (x : StartIn) : (s.phase3 x).pending = s.pending := by
  unfold State.phase3; extract_lets off up t
  have h : t.pending = s.pending := foldl_pending (fun _ _ => by rw [State.setObj_pending]) _ _
  rw [← h]
  exact foldl_pending (fun _ _ => by rw [State.badLane_pending]) _ _

@[simp] theorem State.phase4_pending (x : StartIn) : (s.phase4 x).pending = s.pending := by
  refine foldl_pending (fun t p => ?_) _ _
  split <;> simp

@[simp] theorem State.phase5_pending (x : StartIn) : (s.phase5 x).pending = s.pending := by
  simp [State.phase5]

@[simp] theorem State.phase6_pending (x : StartIn) : (s.phase6 x).pending = s.pending := by
  unfold State.phase6; extract_lets s1 s2 s3 s4 s5 fenced s6 s7 s8 s9
  have h1 : s1.pending = s.pending := foldl_pending (fun t d => by simp) _ _
  have h2 : s2.pending = s1.pending := foldl_pending (fun t l => by simp) _ _
  have h3 : s3.pending = s2.pending := foldl_pending (fun t d => by simp) _ _
  have h4 : s4.pending = s3.pending := foldl_pending (fun t d => by split; rfl; split <;> simp) _ _
  have h5 : s5.pending = s4.pending := by simp [s5]
  have h6 : s6.pending = s5.pending := by simp [s6]
  have h7 : s7.pending = s6.pending := foldl_pending (fun t d => by simp) _ _
  simp [s9, s8, h1, h2, h3, h4, h5, h6, h7]

@[simp] theorem State.phase7_pending : s.phase7.pending = s.pending := by simp [State.phase7]

@[simp] theorem State.phase8_pending : s.phase8.pending = s.pending := by
  unfold State.phase8; dsimp only
  repeat' split
  all_goals simp

@[simp] theorem State.endPhase_pending (k : Nat) : (s.endPhase k).pending = s.pending := (rfl)

@[simp] theorem State.runPhase_pending (x : StartIn) (s : State) (k : Nat) :
    (State.runPhase x s k).pending = s.pending := by
  unfold State.runPhase; dsimp only
  split
  · rfl
  · split <;> simp

@[simp] theorem State.runPhases_pending (x : StartIn) : (s.runPhases x).pending = s.pending := by simp [State.runPhases]
@[simp] theorem execColdStart_completes (x : StartIn) (s : State) : Completes s (execColdStart x s) := by
  simp [execColdStart]
@[simp] theorem execWarmStart_completes (x : StartIn) (s : State) : Completes s (execWarmStart x s) := by
  simp [execWarmStart]
@[simp] theorem execMmcWatchdogExpiry_completes : Completes s (execMmcWatchdogExpiry s) := by
  unfold execMmcWatchdogExpiry; dsimp only; split <;> simp

/-! ### `Machine/Job.lean` -/

@[simp] theorem State.splitAll_pending : s.splitAll.pending = s.pending := by simp [State.splitAll]
@[simp] theorem State.jobStart_pending : s.jobStart.pending = s.pending := by simp [State.jobStart]
@[simp] theorem State.jobStop_pending : s.jobStop.pending = s.pending := by simp [State.jobStop]
@[simp] theorem State.jobClear_pending : s.jobClear.pending = s.pending := (rfl)
@[simp] theorem execJobStart_completes : Completes s (execJobStart s) := by simp [execJobStart]
@[simp] theorem execJobStop_completes : Completes s (execJobStop s) := by simp [execJobStop]
@[simp] theorem execJobStoppingDone_completes : Completes s (execJobStoppingDone s) := by simp [execJobStoppingDone]
@[simp] theorem execJobClear_completes : Completes s (execJobClear s) := by simp [execJobClear]
@[simp] theorem State.resetCmd_pending (v : Nat) : (s.resetCmd v).pending = s.pending := by simp [State.resetCmd]
@[simp] theorem execResetWarmStart_completes : Completes s (execResetWarmStart s) := by simp [execResetWarmStart]
@[simp] theorem execResetColdStart_completes : Completes s (execResetColdStart s) := by simp [execResetColdStart]

/-! ### `Machine/Window.lean` -/

@[simp] theorem State.mbSubmit_pending (m len : Nat) : (s.mbSubmit m len).pending = s.pending := by simp [State.mbSubmit]
@[simp] theorem State.mbRelease_pending (m : Nat) : (s.mbRelease m).pending = s.pending := by simp [State.mbRelease]
@[simp] theorem execMbSubmit_completes (m : Fin 16) (len : BitVec 13) (s : State) : Completes s (execMbSubmit m len s) := by
  simp [execMbSubmit]
@[simp] theorem execMbRelease_completes (m : Fin 16) (s : State) : Completes s (execMbRelease m s) := by
  simp [execMbRelease]

theorem State.windowWrite_pending (off v : Nat) : ∀ t, s.windowWrite off v = some t → t.pending = s.pending := by
  unfold State.windowWrite; dsimp only
  repeat' split
  all_goals simp

@[simp] theorem State.hvWordWrite_pending (off kind v : Nat) : (s.hvWordWrite off kind v).pending = s.pending := by
  simp [State.hvWordWrite]
@[simp] theorem State.gtcWrite_pending (off v : Nat) : (s.gtcWrite off v).pending = s.pending := by
  unfold State.gtcWrite; split <;> simp
@[simp] theorem State.dmaCtl_pending (c v : Nat) : (s.dmaCtl c v).pending = s.pending := by simp [State.dmaCtl]

theorem State.dmaRegWrite_pending (c off v : Nat) : ∀ t, s.dmaRegWrite c off v = some t → t.pending = s.pending := by
  unfold State.dmaRegWrite; dsimp only
  split <;> simp

theorem State.bar0Write_pending (l off v : Nat) : ∀ t, s.bar0Write l off v = some t → t.pending = s.pending := by
  have hw := s.windowWrite_pending off v
  have hd := s.dmaRegWrite_pending ((off - 0x3100000) / 0x100) (off % 0x100) v
  unfold State.bar0Write; dsimp only
  repeat' split
  all_goals simp_all

@[simp] theorem execBar0Access_completes (link : Fin 2) (off : BitVec 28) (size : Nat) (wr : Option Word) (s : State) :
    Completes s (execBar0Access link off size wr s) := by
  unfold execBar0Access
  extract_lets +onlyGivenNames o ok t
  have ht : t.pending = s.pending := by simp [t]
  clear_value t
  split
  · split <;> simp [ht]
  next v =>
    split
    · cases h : t.bar0Write link.val o v.toNat with
      | none => simp [ht]
      | some u => simp [State.bar0Write_pending _ _ _ _ u h, ht]
    · simp [ht]

@[simp] theorem State.portWrite_pending (n off v : Nat) : (s.portWrite n off v).pending = s.pending := by
  simp [State.portWrite]
@[simp] theorem State.hubAddrError_pending (d : Nat) : (s.hubAddrError d).pending = s.pending := by
  simp [State.hubAddrError]

@[simp] theorem State.hubStore_pending (d a v : Nat) : (s.hubStore d a v).pending = s.pending := by
  have hw := s.serveWrite_keeps a (leBytes 8 v) none false
  have hd (off : Nat) : ((s.windowWrite off v).getD (s.incObj .barRefused)).pending = s.pending := by
    cases h : s.windowWrite off v
    · simp
    · exact s.windowWrite_pending off v _ h
  unfold State.hubStore; dsimp only
  repeat' split
  all_goals simp_all

@[simp] theorem State.progStore_pending (c : CtxId) (a v : Nat) : (s.progStore c a v).pending = s.pending := by
  unfold State.progStore; dsimp only
  repeat' split
  all_goals simp

@[simp] theorem execRegisterWrite_completes (who : Requester) (addr : BitVec 40) (v : Word) (s : State) :
    Completes s (execRegisterWrite who addr v s) := by
  unfold execRegisterWrite; dsimp only
  repeat' split
  all_goals simp

/-! ### `Machine/Dictionary.lean` -/

@[simp] theorem State.value_pending (o : Obj) (i : Nat) : (s.value o i).2.pending = s.pending := by
  unfold State.value; split <;> simp
@[simp] theorem State.storeValue_pending (o : Obj) (i : Nat) (bs : List (BitVec 8)) :
    (s.storeValue o i bs).pending = s.pending := by simp [State.storeValue]
@[simp] theorem State.storeText_pending (o : Obj) (bs : List (BitVec 8)) : (s.storeText o bs).pending = s.pending := (rfl)
@[simp] theorem State.loadBank_pending (n b : Nat) (bs : List (BitVec 8)) : (s.loadBank n b bs).pending = s.pending := by
  simp [State.loadBank]
@[simp] theorem State.beginAct_pending (a : CmdAct) : (s.beginAct a).pending = s.pending := (rfl)

@[simp] theorem State.applyValue_pending (o : Obj) (i : Nat) (bs : List (BitVec 8)) :
    (s.applyValue o i bs).pending = s.pending := by
  unfold State.applyValue
  extract_lets +onlyGivenNames v w32 run
  have hrun (f : State → Out) (h : Completes s (f s)) : (run f).pending = s.pending := by
    obtain ⟨t, e, ht⟩ := h
    simp [run, e, ht]
  clear_value run
  repeat' split
  all_goals simp [hrun]

/-! ### `Machine/Chabohar.lean` -/

@[simp] theorem State.reply_pending (q : Request) (status : Nat) (body : List (BitVec 8)) :
    (s.reply q status body).pending = s.pending := by simp [State.reply]
@[simp] theorem State.refuse_pending (q : Request) (status : Nat) (plain : Bool) :
    (s.refuse q status plain).pending = s.pending := by simp [State.refuse]
@[simp] theorem State.serveReadReq_pending (q : Request) : (s.serveReadReq q).pending = s.pending := by
  unfold State.serveReadReq; split <;> simp
@[simp] theorem State.serveDescribe_pending (q : Request) : (s.serveDescribe q).pending = s.pending := by
  unfold State.serveDescribe; split <;> simp
@[simp] theorem State.closeSlot_pending (k : Nat) : (s.closeSlot k).pending = s.pending := by simp [State.closeSlot]
@[simp] theorem State.afterKeyWrite_pending (o : Obj) (i : Nat) : (s.afterKeyWrite o i).pending = s.pending := by
  simp [State.afterKeyWrite]
@[simp] theorem State.serveWriteOf_pending (q : Request) (o : Obj) : (s.serveWriteOf q o).pending = s.pending := by
  simp [State.serveWriteOf]
@[simp] theorem State.serveWriteReq_pending (q : Request) : (s.serveWriteReq q).pending = s.pending := by
  unfold State.serveWriteReq; split <;> simp
@[simp] theorem State.putTransfer_pending (u : Transfer) : (s.putTransfer u).pending = s.pending := by
  simp [State.putTransfer]
@[simp] theorem State.dropTransfer_pending (u : Transfer) : (s.dropTransfer u).pending = s.pending := (rfl)
@[simp] theorem State.sendSeg_pending (t : Transfer) (svc status : Nat) (body : List (BitVec 8)) (retx : Bool) :
    (s.sendSeg t svc status body retx).pending = s.pending := by simp [State.sendSeg]
@[simp] theorem State.abandon_pending (t : Transfer) : (s.abandon t).pending = s.pending := by simp [State.abandon]
@[simp] theorem State.abortSeg_pending (t : Transfer) (status : Nat) : (s.abortSeg t status).pending = s.pending := by
  simp [State.abortSeg]

@[simp] theorem sendBlocks_pending (retx : Bool) (fuel : Nat) (t : Transfer) (s : State) :
    (sendBlocks retx fuel t s).pending = s.pending := by
  induction fuel generalizing t s with
  | zero => rfl
  | succ fuel ih => simp [sendBlocks, ih]

@[simp] theorem State.countResent_pending (resends : Nat) : (s.countResent resends).pending = s.pending := by
  simp [State.countResent]
@[simp] theorem State.ackRead_pending (t : Transfer) (next : Nat) : (s.ackRead t next).pending = s.pending := by
  simp [State.ackRead]

@[simp] theorem State.finishWrite_pending (q : Request) (t : Transfer) : (s.finishWrite q t).pending = s.pending := by
  unfold State.finishWrite; dsimp only
  repeat' split
  all_goals simp

@[simp] theorem State.noteChain_pending (t : Transfer) : (s.noteChain t).pending = s.pending := by
  unfold State.noteChain; split <;> simp

@[simp] theorem State.deliverBlock_pending (t : Transfer) (bs : List (BitVec 8)) :
    (s.deliverBlock t bs).pending = s.pending := by
  have h := s.deliverBytes_keeps bs
  unfold State.deliverBlock; dsimp only
  repeat' split
  all_goals simp_all

@[simp] theorem State.serveBlock_pending (q : Request) : (s.serveBlock q).pending = s.pending := by
  unfold State.serveBlock; split <;> simp
@[simp] theorem State.serveAck_pending (q : Request) : (s.serveAck q).pending = s.pending := by
  unfold State.serveAck; split <;> simp
@[simp] theorem State.serveAbort_pending (q : Request) : (s.serveAbort q).pending = s.pending := by
  unfold State.serveAbort; split <;> simp
@[simp] theorem State.beginDelivery_pending (q : Request) (nwords : Nat) :
    (s.beginDelivery q nwords).pending = s.pending := by simp [State.beginDelivery]
@[simp] theorem State.addTransfer_pending (t : Transfer) : (s.addTransfer t).pending = s.pending := (rfl)

@[simp] theorem State.initRead_pending (q : Request) (o : Obj) : (s.initRead q o).pending = s.pending := by
  unfold State.initRead; dsimp only
  repeat' split
  all_goals simp

@[simp] theorem State.initWrite_pending (q : Request) (o : Obj) : (s.initWrite q o).pending = s.pending := by
  simp [State.initWrite]
@[simp] theorem State.serveInit_pending (q : Request) : (s.serveInit q).pending = s.pending := by
  unfold State.serveInit; split <;> simp
@[simp] theorem State.segTimer_pending (t : Transfer) : (s.segTimer t).pending = s.pending := by
  simp [State.segTimer]
@[simp] theorem State.serveSubscribe_pending (q : Request) : (s.serveSubscribe q).pending = s.pending := by
  simp [State.serveSubscribe]
@[simp] theorem State.countEventResent_pending (transient : Bool) : (s.countEventResent transient).pending = s.pending := by
  simp [State.countEventResent]

@[simp] theorem State.serveEventAck_pending (q : Request) : (s.serveEventAck q).pending = s.pending := by
  unfold State.serveEventAck; dsimp only
  repeat' split
  all_goals simp

@[simp] theorem State.retryEvent_pending (sid : Nat) (e : Unacked) : (s.retryEvent sid e).pending = s.pending := by
  unfold State.retryEvent; dsimp only
  repeat' split
  all_goals simp

@[simp] theorem State.setLockout_pending (carrier : Nat) (l : Lockout) : (s.setLockout carrier l).pending = s.pending :=
  (rfl)
@[simp] theorem State.serveOpen_pending (q : Request) : (s.serveOpen q).pending = s.pending := by simp [State.serveOpen]
@[simp] theorem State.refuseProof_pending (q : Request) : (s.refuseProof q).pending = s.pending := by
  simp [State.refuseProof]

@[simp] theorem State.serveProof_pending (q : Request) : (s.serveProof q).pending = s.pending := by
  unfold State.serveProof; dsimp only
  repeat' split
  all_goals simp

@[simp] theorem State.serveClose_pending (q : Request) : (s.serveClose q).pending = s.pending := by simp [State.serveClose]
@[simp] theorem State.dispatch_pending (q : Request) : (s.dispatch q).pending = s.pending := by
  unfold State.dispatch; split <;> simp
@[simp] theorem State.serve_pending (q : Request) : (s.serve q).pending = s.pending := by
  unfold State.serve; dsimp only; split <;> simp
@[simp] theorem State.serveInbound_pending (x : Inbound) (q : Request) : (s.serveInbound x q).pending = s.pending := by
  simp [State.serveInbound]

@[simp] theorem State.handle_pending (x : Inbound) : (s.handle x).pending = s.pending := by
  unfold State.handle; extract_lets
  repeat' split
  all_goals simp

@[simp] theorem State.freeBox_pending (c : Client) : (s.freeBox c).pending = s.pending := by
  unfold State.freeBox; split <;> simp
@[simp] theorem State.takeFront_pending (mine : Inbound → Bool) : (s.takeFront mine).pending = s.pending := by
  unfold State.takeFront; split <;> simp
@[simp] theorem execChbRead_completes : Completes s (execChbRead s) := by simp [execChbRead]
@[simp] theorem execChbWrite_completes : Completes s (execChbWrite s) := by simp [execChbWrite]
@[simp] theorem execDescribe_completes : Completes s (execDescribe s) := by simp [execDescribe]
@[simp] theorem execSegInit_completes : Completes s (execSegInit s) := by simp [execSegInit]
@[simp] theorem execSegBlock_completes : Completes s (execSegBlock s) := by simp [execSegBlock]
@[simp] theorem execSegAck_completes : Completes s (execSegAck s) := by simp [execSegAck]
@[simp] theorem execSegAbort_completes : Completes s (execSegAbort s) := by simp [execSegAbort]
@[simp] theorem execSegTimeout_completes : Completes s (execSegTimeout s) := by simp [execSegTimeout]
@[simp] theorem execSubscribe_completes : Completes s (execSubscribe s) := by simp [execSubscribe]
@[simp] theorem execEventAck_completes : Completes s (execEventAck s) := by simp [execEventAck]
@[simp] theorem execEventRetry_completes : Completes s (execEventRetry s) := by simp [execEventRetry]
@[simp] theorem State.beatOn_pending (b : Nat) : (s.beatOn b).pending = s.pending := by simp [State.beatOn]
@[simp] theorem execHeartbeat_completes : Completes s (execHeartbeat s) := by simp [execHeartbeat]
@[simp] theorem execOpenSession_completes : Completes s (execOpenSession s) := by simp [execOpenSession]
@[simp] theorem execProof_completes : Completes s (execProof s) := by simp [execProof]
@[simp] theorem execClose_completes : Completes s (execClose s) := by simp [execClose]
@[simp] theorem execProofTimeout_completes : Completes s (execProofTimeout s) := by simp [execProofTimeout]
@[simp] theorem execSessionIdleTimeout_completes : Completes s (execSessionIdleTimeout s) := by
  simp [execSessionIdleTimeout]
@[simp] theorem execSessionLockoutEnd_completes : Completes s (execSessionLockoutEnd s) := by simp [execSessionLockoutEnd]
@[simp] theorem State.actTimer_pending (a : CmdAct) : (s.actTimer a).pending = s.pending := by simp [State.actTimer]
@[simp] theorem execCommandDoneTimer_completes : Completes s (execCommandDoneTimer s) := by simp [execCommandDoneTimer]
@[simp] theorem execMkeyWrite_completes : Completes s (execMkeyWrite s) := by simp [execMkeyWrite]
@[simp] theorem execBundleUpload_completes : Completes s (execBundleUpload s) := by simp [execBundleUpload]
@[simp] theorem execBundleChainReceive_completes : Completes s (execBundleChainReceive s) := by
  simp [execBundleChainReceive]

@[simp] theorem execFelunMgmt_completes : Completes s (execFelunMgmt port s) := by
  unfold execFelunMgmt
  extract_lets +onlyGivenNames n
  split
  · simp
  split
  · simp
  extract_lets +onlyGivenNames t
  have ht : t.pending = s.pending := by simp [t]
  split
  next u hu => simp [State.chainAnswer_pending _ _ _ u hu, ht]
  · simp [ht]

/-! ### `Machine/Engine.lean` -/

@[simp] theorem takeForEngine_pending (k slot n : Nat) (s : State) : (takeForEngine k slot n s).pending = s.pending := by
  simp [takeForEngine]

@[simp] theorem issueMac_keeps (kind : EngKind) (c : CtxId) (w : Low56) (s : State) : (issueMac kind c w s).Keeps s := by
  unfold issueMac; dsimp only
  repeat' split
  all_goals simp

@[simp] theorem execMma_completes : Completes s (execMma c w s) := issue_completes fun s => by simp
@[simp] theorem execMmx_completes : Completes s (execMmx c w s) := issue_completes fun s => by simp

@[simp] theorem issueTileOp_keeps (kind : EngKind) (tiles : List Nat) (c : CtxId) (w : Low56) (s : State) :
    (issueTileOp kind tiles c w s).Keeps s := by
  unfold issueTileOp; dsimp only
  repeat' split
  all_goals simp

@[simp] theorem execLbm_completes : Completes s (execLbm c w s) := issue_completes fun s => by simp
@[simp] theorem execLbr_completes : Completes s (execLbr c w s) := issue_completes fun s => by simp
@[simp] theorem execTz_completes : Completes s (execTz c w s) := issue_completes fun s => by simp
@[simp] theorem execLbtr_completes : Completes s (execLbtr c w s) := issue_completes fun s => by simp
@[simp] theorem execLbtw_completes : Completes s (execLbtw c w s) := issue_completes fun s => by simp
@[simp] theorem State.readOpTile_pending (mla f : Nat) : (s.readOpTile mla f).1.pending = s.pending := by
  unfold State.readOpTile; split <;> simp

@[simp] theorem State.readOpTiles_pending (f : Nat) (mlas : List Nat) : (s.readOpTiles f mlas).1.pending = s.pending := by
  unfold State.readOpTiles
  exact foldl_fst_pending (fun acc m => by exact State.readOpTile_pending ..) _ _

@[simp] theorem startOp_pending (k e x : Nat) (o : EngOp) (s : State) : (startOp k e x o s).pending = s.pending := by
  unfold startOp; dsimp only
  repeat' split
  all_goals simp

@[simp] theorem discardOp_pending (k e x : Nat) (o : EngOp) (slot reason : Nat) (s : State) :
    (discardOp k e x o slot reason s).pending = s.pending := by simp [discardOp]

@[simp] theorem execEngineOpStart_completes (c : CoreId) (e : Fin 4) (s : State) :
    Completes s (execEngineOpStart c e s) := by
  unfold execEngineOpStart; dsimp only
  repeat' split
  all_goals simp

@[simp] theorem writeOp_pending (k e : Nat) (r : EngRun) (s : State) : (writeOp k e r s).pending = s.pending := by
  unfold writeOp; dsimp only
  repeat' split
  all_goals simp

@[simp] theorem execEngineOpWrite_completes (c : CoreId) (e : Fin 4) (s : State) :
    Completes s (execEngineOpWrite c e s) := by
  unfold execEngineOpWrite
  repeat' split
  all_goals simp

/-! ### `Machine/Predicate.lean` -/

@[simp] theorem comparePd_keeps (c : CtxId) (w : Low56) (s : State) (a b : GReg) : (comparePd c w s a b).Keeps s := by
  simp [comparePd]
@[simp] theorem execPcmp_completes : Completes s (execPcmp c w s) := issue_completes fun s => by simp
@[simp] theorem execPcmpi_completes : Completes s (execPcmpi c w s) := issue_completes fun s => by simp
@[simp] theorem pred2_completes (f : Word → Word → Word) (c : CtxId) (w : Low56) (s : State) :
    Completes s (pred2 f c w s) := issue_completes fun s => by simp
@[simp] theorem execPand_completes : Completes s (execPand c w s) := by simp [execPand]
@[simp] theorem execPor_completes : Completes s (execPor c w s) := by simp [execPor]
@[simp] theorem execPxor_completes : Completes s (execPxor c w s) := by simp [execPxor]
@[simp] theorem execPandn_completes : Completes s (execPandn c w s) := by simp [execPandn]
@[simp] theorem execPfromg_completes : Completes s (execPfromg c w s) := issue_completes fun s => by simp
@[simp] theorem predToG_completes (f : Word → Word) (c : CtxId) (w : Low56) (s : State) : Completes s (predToG f c w s) :=
  issue_completes fun s => by simp
@[simp] theorem execPtog_completes : Completes s (execPtog c w s) := by simp [execPtog]
@[simp] theorem execPcnt_completes : Completes s (execPcnt c w s) := by simp [execPcnt]
@[simp] theorem execPfirst_completes : Completes s (execPfirst c w s) := by simp [execPfirst]

/-! ### `Machine/Scalar.lean` -/

@[simp] theorem alu2_completes (f : Word → Word → Word) (c : CtxId) (w : Low56) (s : State) : Completes s (alu2 f c w s) :=
  issue_completes fun s => by simp
@[simp] theorem aluImm_completes (f : Word → Word → Word) (extra : Low56 → Bool) (c : CtxId) (w : Low56) (s : State) :
    Completes s (aluImm f extra c w s) := issue_completes fun s => by simp
@[simp] theorem alu1_completes (f : Word → Word) (c : CtxId) (w : Low56) (s : State) : Completes s (alu1 f c w s) :=
  issue_completes fun s => by simp
@[simp] theorem execAdd_completes : Completes s (execAdd c w s) := by simp [execAdd]
@[simp] theorem execSub_completes : Completes s (execSub c w s) := by simp [execSub]
@[simp] theorem execMul_completes : Completes s (execMul c w s) := by simp [execMul]
@[simp] theorem execMulhu_completes : Completes s (execMulhu c w s) := by simp [execMulhu]
@[simp] theorem execDivu_completes : Completes s (execDivu c w s) := by simp [execDivu]
@[simp] theorem execDivs_completes : Completes s (execDivs c w s) := by simp [execDivs]
@[simp] theorem execRemu_completes : Completes s (execRemu c w s) := by simp [execRemu]
@[simp] theorem execRems_completes : Completes s (execRems c w s) := by simp [execRems]
@[simp] theorem execAnd_completes : Completes s (execAnd c w s) := by simp [execAnd]
@[simp] theorem execOr_completes : Completes s (execOr c w s) := by simp [execOr]
@[simp] theorem execXor_completes : Completes s (execXor c w s) := by simp [execXor]
@[simp] theorem execShl_completes : Completes s (execShl c w s) := by simp [execShl]
@[simp] theorem execShr_completes : Completes s (execShr c w s) := by simp [execShr]
@[simp] theorem execSra_completes : Completes s (execSra c w s) := by simp [execSra]
@[simp] theorem execMin_completes : Completes s (execMin c w s) := by simp [execMin]
@[simp] theorem execMax_completes : Completes s (execMax c w s) := by simp [execMax]
@[simp] theorem execMinu_completes : Completes s (execMinu c w s) := by simp [execMinu]
@[simp] theorem execMaxu_completes : Completes s (execMaxu c w s) := by simp [execMaxu]
@[simp] theorem execAddi_completes : Completes s (execAddi c w s) := by simp [execAddi]
@[simp] theorem execAndi_completes : Completes s (execAndi c w s) := by simp [execAndi]
@[simp] theorem execOri_completes : Completes s (execOri c w s) := by simp [execOri]
@[simp] theorem execXori_completes : Completes s (execXori c w s) := by simp [execXori]
@[simp] theorem execShli_completes : Completes s (execShli c w s) := by simp [execShli]
@[simp] theorem execShri_completes : Completes s (execShri c w s) := by simp [execShri]
@[simp] theorem execSrai_completes : Completes s (execSrai c w s) := by simp [execSrai]
@[simp] theorem execLip_completes : Completes s (execLip c w s) := by simp [execLip]
@[simp] theorem execClz_completes : Completes s (execClz c w s) := by simp [execClz]
@[simp] theorem execPopc_completes : Completes s (execPopc c w s) := by simp [execPopc]
@[simp] theorem execLiw_completes : Completes s (execLiw c w s) := issue_completes fun s => by simp
@[simp] theorem execSel_completes : Completes s (execSel c w s) := issue_completes fun s => by simp

/-! ### `Machine/System.lean` -/

@[simp] theorem execNop_completes : Completes s (execNop c w s) := issue_completes fun s => by simp
@[simp] theorem State.fenceEffect_pending (c : CtxId) (mask rd : Nat) : (s.fenceEffect c mask rd).pending = s.pending := by
  simp [State.fenceEffect]
@[simp] theorem execFence_completes : Completes s (execFence c w s) := issue_completes fun s => by simp
@[simp] theorem execFenceComplete_completes (c : CtxId) (s : State) : Completes s (execFenceComplete c s) := by
  unfold execFenceComplete; dsimp only; split <;> simp
@[simp] theorem execIsync_completes : Completes s (execIsync c w s) := issue_completes fun s => by simp
@[simp] theorem execTrap_completes : Completes s (execTrap c w s) := issue_completes fun s => by simp
@[simp] theorem execEret_completes : Completes s (execEret c w s) := issue_completes fun s => by simp
@[simp] theorem execHalt_completes : Completes s (execHalt c w s) := issue_completes fun s => by simp
@[simp] theorem execRdgtc_completes : Completes s (execRdgtc c w s) := issue_completes fun s => by simp
@[simp] theorem execRdid_completes : Completes s (execRdid c w s) := issue_completes fun s => by simp

/-! ### `Machine/VectorBase.lean` -/

theorem tileTrap_keeps : ∀ b, tileTrap c w s = some b → b.Keeps s := by
  unfold tileTrap; split <;> simp

theorem withTiles_keeps {f : State → Body} {s : State} (h : ∀ t, t.pending = s.pending → (f t).Keeps s) (c : CtxId)
    (w : Low56) :
    (withTiles c w s f).Keeps s := by
  unfold withTiles; split
  next b hb => exact tileTrap_keeps c w s b hb
  next => exact h _ (State.accRead_pending ..)

@[simp] theorem execElem_completes (o : ElemOp) (c : CtxId) (w : Low56) (s : State) : Completes s (execElem o c w s) :=
  issue_completes fun s => withTiles_keeps (fun t h => by simp [h]) ..

/-! ### `Machine/VectorArith.lean` -/

@[simp] theorem execVadd_completes : Completes s (execVadd c w s) := by simp [execVadd]
@[simp] theorem execVsub_completes : Completes s (execVsub c w s) := by simp [execVsub]
@[simp] theorem execVmul_completes : Completes s (execVmul c w s) := by simp [execVmul]
@[simp] theorem execVfma_completes : Completes s (execVfma c w s) := by simp [execVfma]
@[simp] theorem execVmin_completes : Completes s (execVmin c w s) := by simp [execVmin]
@[simp] theorem execVmax_completes : Completes s (execVmax c w s) := by simp [execVmax]
@[simp] theorem execViadd_completes : Completes s (execViadd c w s) := by simp [execViadd]
@[simp] theorem execVisub_completes : Completes s (execVisub c w s) := by simp [execVisub]
@[simp] theorem execVand_completes : Completes s (execVand c w s) := by simp [execVand]
@[simp] theorem execVor_completes : Completes s (execVor c w s) := by simp [execVor]
@[simp] theorem execVxor_completes : Completes s (execVxor c w s) := by simp [execVxor]
@[simp] theorem execVshl_completes : Completes s (execVshl c w s) := by simp [execVshl]
@[simp] theorem execVshr_completes : Completes s (execVshr c w s) := by simp [execVshr]
@[simp] theorem execVsra_completes : Completes s (execVsra c w s) := by simp [execVsra]
@[simp] theorem execVbadd_completes : Completes s (execVbadd c w s) := by simp [execVbadd]
@[simp] theorem execVsel_completes : Completes s (execVsel c w s) := by simp [execVsel]
@[simp] theorem execVmov_completes : Completes s (execVmov c w s) := by simp [execVmov]
@[simp] theorem execVexp2_completes : Completes s (execVexp2 c w s) := by simp [execVexp2]
@[simp] theorem execVlog2_completes : Completes s (execVlog2 c w s) := by simp [execVlog2]
@[simp] theorem execVrcp_completes : Completes s (execVrcp c w s) := by simp [execVrcp]
@[simp] theorem execVrsq_completes : Completes s (execVrsq c w s) := by simp [execVrsq]

@[simp] theorem execVcmp_completes (legalCond : Nat → Bool) (f : Nat → Nat → Nat → Bool) (c : CtxId) (w : Low56)
    (s : State) :
    Completes s (execVcmp legalCond f c w s) :=
  issue_completes fun s => withTiles_keeps (fun t h => by dsimp only; split <;> simp [poisonUse, h]) ..

@[simp] theorem execVfcmp_completes : Completes s (execVfcmp c w s) := by simp [execVfcmp]
@[simp] theorem execVicmp_completes : Completes s (execVicmp c w s) := by simp [execVicmp]
@[simp] theorem execRandom_completes (f : Nat → Nat) (purpose pl : Nat) (c : CtxId) (w : Low56) (s : State) :
    Completes s (execRandom f purpose pl c w s) := issue_completes fun s => by simp
@[simp] theorem execVrndu_completes : Completes s (execVrndu c w s) := by simp [execVrndu]
@[simp] theorem execVrndf_completes : Completes s (execVrndf c w s) := by simp [execVrndf]
@[simp] theorem execVrndm_completes : Completes s (execVrndm c w s) := issue_completes fun s => by simp

@[simp] theorem execVectorComplete_completes (c : CtxId) (n : Nat) (s : State) :
    Completes s (execVectorComplete c n s) := by
  unfold execVectorComplete
  split
  · simp
  split
  · simp
  extract_lets +onlyGivenNames t t'
  have h : t'.pending = t.pending := by
    refine foldl_pending (fun u w => ?_) _ _
    split <;> simp
  rw [completes_next, State.settleStep_pending, State.updCore_pending, h]
  exact State.updCtx_pending ..

/-! ### `Machine/VectorCross.lean` -/

@[simp] theorem crossMove_keeps (c : CtxId) (s : State) (vd : Nat) (bad : Bool) (lanes : List Nat) :
    (crossMove c s vd bad lanes).Keeps s := by simp [crossMove]
@[simp] theorem execVbcast_completes : Completes s (execVbcast c w s) := issue_completes fun s => by simp
@[simp] theorem execVsplat_completes : Completes s (execVsplat c w s) := issue_completes fun s => by simp
@[simp] theorem execVsegb_completes : Completes s (execVsegb c w s) := issue_completes fun s => by simp
@[simp] theorem execVperm_completes : Completes s (execVperm c w s) := issue_completes fun s => by simp
@[simp] theorem execVext_completes : Completes s (execVext c w s) := issue_completes fun s => by simp
@[simp] theorem execVins_completes : Completes s (execVins c w s) := issue_completes fun s => by simp

@[simp] theorem execVcvt_completes : Completes s (execVcvt c w s) := by
  unfold execVcvt
  extract_lets +onlyGivenNames fs fd vc
  exact issue_completes fun s => withTiles_keeps (fun t h => Body.keeps_done.2 ((State.pend_pending ..).trans h)) ..

@[simp] theorem execVpack_completes : Completes s (execVpack c w s) :=
  issue_completes fun s => withTiles_keeps (fun t h => by simp [h]) ..
@[simp] theorem execVbexp_completes : Completes s (execVbexp c w s) := issue_completes fun s => by simp

@[simp] theorem execReduce_completes (ff fi : Nat → Nat → Nat × Flags) (c : CtxId) (w : Low56) (s : State) :
    Completes s (execReduce ff fi c w s) := by
  unfold execReduce
  refine issue_completes fun s => ?_
  dsimp only; split <;> simp

@[simp] theorem execVrsum_completes : Completes s (execVrsum c w s) := by simp [execVrsum]
@[simp] theorem execVrmax_completes : Completes s (execVrmax c w s) := by simp [execVrmax]
@[simp] theorem execVrmin_completes : Completes s (execVrmin c w s) := by simp [execVrmin]
@[simp] theorem execVsegmax_completes : Completes s (execVsegmax c w s) :=
  issue_completes fun s => withTiles_keeps (fun t h => by simp [h]) ..
@[simp] theorem execVosmc_completes : Completes s (execVosmc c w s) := issue_completes fun s => by simp
@[simp] theorem execVosm_completes : Completes s (execVosm c w s) :=
  issue_completes fun s => withTiles_keeps (fun t h => by simp [h]) ..
@[simp] theorem execVtopk_completes : Completes s (execVtopk c w s) := issue_completes fun s => by simp
@[simp] theorem execVtopkm_completes : Completes s (execVtopkm c w s) := issue_completes fun s => by simp
@[simp] theorem execVsmpl_completes : Completes s (execVsmpl c w s) := issue_completes fun s => by simp

/-! ### Every command -/

theorem exec_completes (i : Instr) : Completes s (exec i s) := by
  cases i
  all_goals dsimp only [exec]
  all_goals simp

end

/-- Settles O3: the outcome of each command is a next state with the queue as it was. -/
theorem everyCommandCompletes : Obligations.EveryCommandCompletes := fun i s => exec_completes s i

end Sys2Proof.Machine
end


section

/-!
# Register writes (O35)

A program's write is judged by `State.reach` (Table 3-7); the host's and a supervisor's come to the word of the CCB itself. Only
the supervisor's crosses the fabric first, and its packet changes nothing that the write then looks at.
-/

namespace Sys2Proof.Machine

/-! ### A one-way packet reaches the fabric alone -/

/-- `t` is `s` but for the fabric, fresh ids, and the flit counters of its regions. -/
structure FabricOnly (s t : State) : Prop where
  cores : t.cores = s.cores
  mem : t.mem = s.mem
  pwr : t.pwr = s.pwr
  obj {o : Obj} {i : Nat} : o.info.code ≠ Obj.regionFlits.info.code → i < 1024 → t.obj o i = s.obj o i

theorem FabricOnly.refl (s : State) : FabricOnly s s := ⟨rfl, rfl, rfl, fun _ _ => rfl⟩

theorem FabricOnly.trans {s t u : State} (h : FabricOnly s t) (h' : FabricOnly t u) : FabricOnly s u :=
  ⟨h'.cores.trans h.cores, h'.mem.trans h.mem, h'.pwr.trans h.pwr, fun ho hi => (h'.obj ho hi).trans (h.obj ho hi)⟩

theorem FabricOnly.core {s t : State} (h : FabricOnly s t) (k : Nat) : t.core k = s.core k := by
  simp only [State.core, h.cores]

theorem fabricOnly_fab (s : State) (f : Fabric) : FabricOnly s { s with fab := f } := ⟨rfl, rfl, rfl, fun _ _ => rfl⟩

theorem fabricOnly_fresh (s : State) : FabricOnly s s.fresh.2 := ⟨rfl, rfl, rfl, fun _ _ => rfl⟩

theorem Endp.region_lt (e : Endp) : e.region < 4 := by
  unfold Endp.region; split <;> omega

/-- The flit counters of a die's regions share no key with another object. -/
theorem fabricOnly_regionFlits (s : State) (n : Nat) {d r : Nat} (hd : d < 48) (hr : r < 4) :
    FabricOnly s (s.addObj .regionFlits n d r) :=
  ⟨rfl, rfl, rfl, fun {o i} ho hi => State.obj_setObj_other _ _ _ _ _ _ _ _ (by unfold Obj.key; omega)⟩

theorem inject_fabricOnly {s t : State} {p : FabPkt} (h : s.inject p = some t) : FabricOnly s t := by
  unfold State.inject at h
  extract_lets key q d u at h
  split at h
  · simp at h
  split at h
  · simp at h
  obtain rfl := Option.some.inj h
  split
  next hd => exact (fabricOnly_fab s _).trans (fabricOnly_regionFlits _ _ hd (Endp.region_lt _))
  · exact fabricOnly_fab s _

theorem flushWait_fabricOnly (s : State) : FabricOnly s s.flushWait := by
  unfold State.flushWait
  refine FabricOnly.trans ?_ (fabricOnly_fab _ _)
  refine List.foldlRecOn (motive := fun acc : State × List FabPkt => FabricOnly s acc.1) _ _ (fabricOnly_fab s _) ?_
  intro acc h p _
  split
  · exact h
  split
  next t ht => exact h.trans (inject_fabricOnly ht)
  · exact h

theorem post_fabricOnly (s : State) (cls len : Nat) (src dst : Endp) : FabricOnly s (s.post cls len src dst) :=
  ((fabricOnly_fresh s).trans (fabricOnly_fab _ _)).trans (flushWait_fabricOnly _)

theorem FabricOnly.region {s t : State} (h : FabricOnly s t) (a : Nat) : t.region a = s.region a := by
  have hd : t.obj .detour = s.obj .detour := h.obj (by decide) (by decide)
  simp only [State.region, State.fencedDie, hd]

theorem regionOfCore_key_lt (k : CoreId) : regionOfCore k.key < 1024 := by
  unfold regionOfCore CoreId.key; omega

theorem FabricOnly.regionState {s t : State} (h : FabricOnly s t) (k : CoreId) :
    t.obj .regionState (regionOfCore k.key) = s.obj .regionState (regionOfCore k.key) :=
  h.obj (by decide) (regionOfCore_key_lt k)

theorem FabricOnly.asleep {s t : State} (h : FabricOnly s t) (k : CoreId) : t.asleep k.key = s.asleep k.key := by
  simp only [State.asleep, h.regionState]

theorem FabricOnly.memoryOff_ccb {s t : State} (h : FabricOnly s t) (k : CoreId) (off : Nat) :
    t.memoryOff (.ccb k.key off) = s.memoryOff (.ccb k.key off) := by
  simp only [State.memoryOff, State.regionOff, h.regionState, h.pwr]

/-! ### The words of a CCB -/

theorem ofNat_bitsOf_pc (v : Word) : BitVec.ofNat 19 (bitsOf v.toNat 21 3) = BitVec.ofNat 19 (v.toNat / 8) := by
  apply BitVec.eq_of_toNat_eq
  simp [bitsOf]

theorem plainWrite_ctl {off : Nat} (h : off = 0x0008) (c : Core) (v : Word) : c.plainWrite off v =
    { c with brkEn := v.getLsbD 3, ibufEn := v.getLsbD 2, perfEn := v.getLsbD 1, haltBoth := v.getLsbD 0 } := by
  unfold Core.plainWrite
  rw [if_pos h]; rfl

theorem plainWrite_brkPc {off : Nat} (h : off = 0x0028) (c : Core) (v : Word) :
    c.plainWrite off v = { c with brkPc := BitVec.ofNat 19 (v.toNat / 8) } := by
  unfold Core.plainWrite
  rw [if_neg (by omega), if_neg (by omega), if_pos h, ofNat_bitsOf_pc]

theorem plainWrite_ctx {off o : Nat} {x : Fin 2} (h : off = 0x100 + x.val * 0x80 + o) (ho : o < 0x80) (c : Core) (v : Word) :
    c.plainWrite off v = c.ctxWrite x.val o v := by
  have hx := x.isLt
  have h1 : (off - 0x100) / 0x80 = x.val := by omega
  have h2 : (off - 0x100) % 0x80 = o := by omega
  unfold Core.plainWrite
  rw [if_neg (by omega), if_neg (by omega), if_neg (by omega), if_pos (by omega), h1, h2]

theorem ctxWrite_hen (c : Core) (x : Nat) (v : Word) :
    c.ctxWrite x 0 v = c.setCtx x { c.ctx x with hen := v.getLsbD 0 } := rfl

theorem ctxWrite_handler (c : Core) (x : Nat) (v : Word) :
    c.ctxWrite x 0x18 v = c.setCtx x { c.ctx x with handler := BitVec.ofNat 19 (v.toNat / 8) } := by
  rw [← ofNat_bitsOf_pc]; rfl

theorem ctxWrite_flags (c : Core) (x : Nat) (v : Word) : c.ctxWrite x 0x40 v = c.setCtx x ((c.ctx x).clearFlags v) := rfl

theorem clearFlags_getLsbD (d : Ctx) (v : Word) {i : Nat} (hi : i < 12) :
    (d.clearFlags v).flags.getLsbD i = (d.flags.getLsbD i && !v.getLsbD i) := by
  simp [Ctx.clearFlags, hi]

theorem plainWrite_greg {off r : Nat} {x : Fin 2} (h : off = 0x1000 + x.val * 0x100 + 8 * r) (hr : r < 32) (c : Core)
    (v : Word) : c.plainWrite off v = c.windowWrite x.val (fun d => d.setG r ⟨v, (d.greg r).poison⟩) := by
  have hx := x.isLt
  have h1 : (off - 0x1000) / 0x100 = x.val := by omega
  have h2 : (off - 0x1000) % 0x100 / 8 = r := by omega
  unfold Core.plainWrite
  rw [if_neg (by omega), if_neg (by omega), if_neg (by omega), if_neg (by omega), if_pos (by omega), h1, h2]

theorem windowWrite_quiet {c : Core} {x : Nat} (h : (c.ctx x).st = .halted ∨ (c.ctx x).st = .stopped) (f : Ctx → Ctx) :
    c.windowWrite x f = c.setCtx x (f (c.ctx x)) := by
  refine if_pos ?_
  unfold Core.windowOpen Core.stNum Ctx.stNum
  rcases h with h | h <;> cases c.fenced <;> simp [h]

theorem windowWrite_busy {c : Core} {x : Nat} (hf : c.fenced = none) (h : (c.ctx x).st = .running ∨ (c.ctx x).st = .waiting)
    (f : Ctx → Ctx) : c.windowWrite x f = { c with cmdRefused := true } := by
  refine if_neg ?_
  unfold Core.windowOpen Core.stNum Ctx.stNum
  rcases h with h | h <;> simp [h, hf]

theorem ccbWrite_plain {off : Nat} (h18 : off ≠ 0x18) (h20 : off ≠ 0x20) (h8F : off ≠ 0x8F00) (s : State) (k kind : Nat)
    (v : Word) : s.ccbWrite k off kind v = s.setCore k ((s.core k).plainWrite off v) := by
  unfold State.ccbWrite
  rw [if_neg h18, if_neg h20, if_neg h8F]; rfl

/-! ### The three writers -/

theorem registerWrite_misaligned {addr : BitVec 40} (h : addr.toNat % 8 ≠ 0) (who : Requester) (v : Word) (s : State) :
    Idles (.registerWrite who addr v) s := if_pos h

theorem registerWrite_host_beyond {addr : BitVec 40} (ha : addr.toNat % 8 = 0) (h : 2 ^ 38 ≤ addr.toNat) (v : Word)
    (s : State) : exec (.registerWrite .host addr v) s = .next (s.incObj .addrErrorsHost) := by
  have hn : s.bar2Region addr.toNat 8 = none := by
    simp only [State.bar2Region, decide_eq_false (Nat.not_lt.2 h)]
    simp
  change execRegisterWrite .host addr v s = _
  simp [execRegisterWrite, ha, hn]

theorem bar2Region_ccb {s : State} {a k off : Nat} (hr : s.region a = .ccb k off) (ha : a < 2 ^ 38) (ho : off + 8 ≤ 2 ^ 16)
    (h8 : off % 8 = 0) : s.bar2Region a 8 = some (.ccb k off) := by
  simp only [State.bar2Region, hr, Region.hostReach, Region.fits, Region.off, Region.size]
  simp [h8]
  omega

theorem registerWrite_host {s : State} {addr : BitVec 40} {k off : Nat} (h8 : addr.toNat % 8 = 0)
    (hr : s.region addr.toNat = .ccb k off) (ha : s.asleep k = false) (hm : s.memoryOff (.ccb k off) = false)
    (h38 : addr.toNat < 2 ^ 38) (ho : off + 8 ≤ 2 ^ 16) (ho8 : off % 8 = 0) (v : Word) :
    exec (.registerWrite .host addr v) s = .next (s.ccbWrite k off 5 v) := by
  change execRegisterWrite .host addr v s = _
  simp [execRegisterWrite, h8, bar2Region_ccb hr h38 ho ho8, ha, hm]

theorem hubStore_ccb {s : State} {a k off : Nat} (hr : s.region a = .ccb k off) (ha : s.asleep k = false)
    (hm : s.memoryOff (.ccb k off) = false) (ho : off % 8 = 0) (d v : Nat) :
    s.hubStore d a v = s.ccbWrite k off 6 (BitVec.ofNat 64 v) := by
  have h : off / 8 * 8 = off := by omega
  have hw : s.fillWaits (.ccb k off) = false := by
    simp [State.fillWaits, State.moveHolds]
  simp [State.hubStore, hr, ha, hm, h, hw]

/-- A supervisor's write comes to the CCB over the fabric, in a state that differs from `s` in the fabric alone. -/
theorem registerWrite_supervisor {s : State} {addr : BitVec 40} {k : CoreId} {off : Nat} (h8 : addr.toNat % 8 = 0)
    (hr : s.region addr.toNat = .ccb k.key off) (ha : s.asleep k.key = false) (hm : s.memoryOff (.ccb k.key off) = false)
    (ho8 : off % 8 = 0) (sup : Nat) (v : Word) :
    ∃ t, FabricOnly s t ∧ exec (.registerWrite (.supervisor sup) addr v) s = .next (t.ccbWrite k.key off 6 v) := by
  have hf := post_fabricOnly s 5 1 (if sup < 48 then supEndp sup else mmcEndp) (s.endpOf (s.region addr.toNat))
  refine ⟨_, hf, ?_⟩
  change execRegisterWrite (.supervisor sup) addr v s = _
  simp [execRegisterWrite, h8, hubStore_ccb ((hf.region _).trans hr) ((hf.asleep k).trans ha)
    ((hf.memoryOff_ccb k off).trans hm) ho8]


/-! ### A program's write -/

theorem CoreId.key_inj {j k : CoreId} (h : j.key = k.key) : j = k := by
  obtain ⟨d, c⟩ := j
  obtain ⟨d', c'⟩ := k
  simp only [CoreId.key] at h
  have hd : d.val = d'.val := by omega
  have hc : c.val = c'.val := by omega
  rw [Fin.ext hd, Fin.ext hc]

theorem globalHere_toNat {a : Nat} (ha : a < 2 ^ 40) : (globalHere a).toNat = 0xFFFFFF * 2 ^ 40 + a := by
  rw [globalHere, BitVec.toNat_ofNat]; omega

/-- The checks of a program's store to a CCB word: the store goes where Table 3-7 lets it, and takes cause 0x04 elsewhere. -/
theorem reach_ccb {s : State} {a k off : Nat} (hr : s.region a = .ccb k off) (h8 : a % 8 = 0) (ha : a < 2 ^ 40) (c : CtxId) :
    s.reach c (globalHere a) 8 true = if progCcbWrite (k == c.key) c.ctx.val off then .far else .bad 4 := by
  have hp : placeOf (globalHere a) = 0xFFFFFF := by rw [placeOf, globalHere_toNat ha]; omega
  have hm : mlaOf (globalHere a) = a := by rw [mlaOf, globalHere_toNat ha]; omega
  have h8' : (globalHere a).toNat % 8 = 0 := by rw [globalHere_toNat ha]; omega
  simp [State.reach, hp, hm, hr, h8', placeMalformed, State.isHere]

theorem registerWrite_prog_own {s : State} {addr : BitVec 40} {c : CtxId} {off : Nat} (h8 : addr.toNat % 8 = 0)
    (hr : s.region addr.toNat = .ccb c.key off) (hw : progCcbWrite true c.ctx.val off = true) (v : Word) :
    exec (.registerWrite (.prog c) addr v) s = .next (s.setCore c.key ((s.core c.key).plainWrite off v)) := by
  have hreach := reach_ccb hr h8 addr.isLt c
  rw [beq_self_eq_true, hw, if_pos rfl] at hreach
  change execRegisterWrite (.prog c) addr v s = _
  simp [execRegisterWrite, h8, State.progStore, hreach, hr, State.updCore]

theorem registerWrite_prog_other {s : State} {addr : BitVec 40} {k off : Nat} (h8 : addr.toNat % 8 = 0)
    (hr : s.region addr.toNat = .ccb k off) {c : CtxId} (hw : progCcbWrite (k == c.key) c.ctx.val off = false) (v : Word) :
    exec (.registerWrite (.prog c) addr v) s = .next
      (if (s.core c.key).canIssue c.ctx.val && !s.gatedCore c.key then
        s.takeException c.key c.ctx.val ⟨4, 0, 0, (s.cx c).pc, globalHere addr.toNat, 0⟩ else s) := by
  have hreach := reach_ccb hr h8 addr.isLt c
  rw [hw, if_neg (by decide)] at hreach
  change execRegisterWrite (.prog c) addr v s = _
  simp only [execRegisterWrite, h8, State.progStore, hreach]
  rfl

/-! ### The obligation -/

/-- The host and a supervisor change the core alone, as `plainWrite` does. -/
theorem registerWrite_hub {s : State} {addr : BitVec 40} {k : CoreId} {off : Nat} (h8 : addr.toNat % 8 = 0)
    (hr : s.region addr.toNat = .ccb k.key off) (ha : s.asleep k.key = false) (hm : s.memoryOff (.ccb k.key off) = false)
    (h38 : addr.toNat < 2 ^ 38) (ho : off + 8 ≤ 2 ^ 16) (ho8 : off % 8 = 0) {v : Word} (h18 : off ≠ 0x18) (h20 : off ≠ 0x20)
    (h8F : off ≠ 0x8F00) {e : Core → Core} (he : (s.core k.key).plainWrite off v = e (s.core k.key)) :
    exec (.registerWrite .host addr v) s = .next (s.setCore k.key (e (s.core k.key))) ∧
    ∀ sup, Does (.registerWrite (.supervisor sup) addr v) s fun t =>
      t.core k.key = e (s.core k.key) ∧ (∀ j, j ≠ k.key → t.core j = s.core j) ∧ t.mem = s.mem := by
  refine ⟨?_, fun sup => ?_⟩
  · rw [registerWrite_host h8 hr ha hm h38 ho ho8, ccbWrite_plain h18 h20 h8F, he]
  · obtain ⟨t, hf, ht⟩ := registerWrite_supervisor h8 hr ha hm ho8 sup v
    rw [ccbWrite_plain h18 h20 h8F, hf.core, he] at ht
    refine ⟨_, ht, State.core_setCore_same .., fun j hj => ?_, hf.mem⟩
    rw [State.core_setCore, if_neg hj, hf.core]

/-- The words that Table 3-7 lets a program write are its own context's HEN, HANDLER and flags. -/
theorem progCcbWrite_eq_false {k : CoreId} {c : CtxId} {off : Nat}
    (h : ∀ y : Fin 2, c = ⟨k.die, k.core, y⟩ →
      off ≠ 0x100 + y.val * 0x80 ∧ off ≠ 0x100 + y.val * 0x80 + 0x18 ∧ off ≠ 0x100 + y.val * 0x80 + 0x40) :
    progCcbWrite (k.key == c.key) c.ctx.val off = false := by
  by_cases hk : k.key = c.key
  · obtain rfl : k = ⟨c.die, c.core⟩ := CoreId.key_inj hk
    simpa [progCcbWrite, and_assoc] using fun _ => h c.ctx rfl
  · simp [progCcbWrite, hk]

/-- Settles O35: a program's store by the access codes of Table 3-7, the host's and a supervisor's by the word of the CCB they
name, and the two addresses that name no register. -/
theorem registerWrites : Obligations.RegisterWrites := by
  refine ⟨fun s k x off addr v h8 hr => ?_, fun s addr v =>
    ⟨fun ha h => registerWrite_host_beyond ha h v s, fun h who => registerWrite_misaligned h who v s⟩⟩
  intro core d base own puts written
  have hown {o : Nat} (h : off = base + o) (ho : o = 0 ∨ o = 0x18 ∨ o = 0x40) :
      puts (.prog own) (core.ctxWrite x.val o v) := by
    rw [← plainWrite_ctx h (by omega)]
    refine registerWrite_prog_own (c := own) h8 hr ?_ v
    subst h
    rcases ho with rfl | rfl | rfl <;> simp [progCcbWrite, base, own]
  refine ⟨fun h => hown h (.inl rfl), fun h => ?_, fun h i hi => ?_, fun c _ hc => ?_, fun ha hm h38 ho ho8 => ?_⟩
  · have hp := hown h (.inr (.inl rfl))
    rwa [ctxWrite_handler] at hp
  · refine ⟨_, hown h (.inr (.inr rfl)), ?_, fun j hj => ?_⟩
    · rw [ctxWrite_flags, State.ctx, State.core_setCore_same, Core.ctx_setCtx_same, clearFlags_getLsbD _ _ hi]; rfl
    · rw [State.core_setCore, if_neg hj]
  · have he := registerWrite_prog_other h8 hr (progCcbWrite_eq_false hc) v
    refine ⟨fun hi hg => ?_, fun hn => ?_⟩
    · rw [he, hi, hg]; rfl
    · rw [Idles, he]
      rcases hn with hn | hn <;> simp [hn]
  · have hub {e : Core → Core} :
        off ≠ 0x18 ∧ off ≠ 0x20 ∧ off ≠ 0x8F00 → core.plainWrite off v = e core → written e :=
      fun ⟨h18, h20, h8F⟩ he => registerWrite_hub h8 hr ha hm h38 ho ho8 h18 h20 h8F he
    refine ⟨fun h => ?_, fun h => ?_, fun r hr' h => ⟨fun hq => ?_, fun hf hq => ?_⟩⟩
    · exact hub (e := fun _ => _) (by omega) (plainWrite_ctl h core v)
    · exact hub (e := fun _ => _) (by omega) (plainWrite_brkPc h core v)
    · exact hub (e := fun _ => _) (by omega) ((plainWrite_greg h hr' core v).trans (windowWrite_quiet hq _))
    · exact hub (e := fun _ => _) (by omega) ((plainWrite_greg h hr' core v).trans (windowWrite_busy hf hq _))

end Sys2Proof.Machine
end


section

/-!
# The pool and the place (O40)

The statement fails at its clause about the switch of a move. POOL_RESULT's first word is the sum of STATUS * 2^56, OP * 2^48 and
the count, so an OP of 256 or more carries into the byte that holds the status; and the statement asks for `o.status % 256` there
for every operation `o` that a state can hold, with no bound on `o.op`.
-/

namespace Sys2Proof.Machine

/-! ### The bytes of POOL_RESULT (08 R267) -/

/-- Bytes written to consecutive elements of an object are what these elements read. -/
theorem obj_foldl_setObj_zipIdx (o : Obj) (j : Nat) (bs : List (BitVec 8)) (k : Nat) (s : State) :
    ((bs.zipIdx k).foldl (fun t p => t.setObj o p.1.toNat 0 p.2) s).obj o 0 j =
      if k ≤ j ∧ j < k + bs.length then (bs.getD (j - k) 0).toNat else s.obj o 0 j := by
  induction bs generalizing k s with
  | nil => exact (if_neg fun h => absurd h.1 (Nat.not_le.2 h.2)).symm
  | cons b bs ih =>
    rw [List.zipIdx_cons, List.foldl_cons, ih, List.length_cons]
    rcases Nat.lt_trichotomy j k with h | rfl | h
    · rw [if_neg (by omega), if_neg (by omega), State.obj_setObj_other]
      unfold Obj.key; omega
    · rw [if_neg (by omega), if_pos (by omega), State.obj_setObj, Nat.sub_self, List.getD_cons_zero]
    · have hj : j - k = j - (k + 1) + 1 := by omega
      rw [hj, List.getD_cons_succ, State.obj_setObj_other _ _ _ _ _ _ _ _ (by unfold Obj.key; omega)]
      congr 1
      simp only [eq_iff_iff]; omega

/-- The status byte holds the status and what the OP carries into it. -/
theorem setResult_status (s : State) (status op count : Nat) (data : List Nat) :
    (s.setResult status op count data).obj .poolResult 0 7 = (status + op / 256) % 256 := by
  unfold State.setResult
  rw [obj_foldl_setObj_zipIdx, if_pos (by simp [fitTo]; omega)]
  simp [fitTo, leBytes]
  omega

/-- The write of a result leaves the Chabohar unit alone. -/
@[simp] theorem setResult_chb (s : State) (status op count : Nat) (data : List Nat) :
    (s.setResult status op count data).chb = s.chb :=
  List.foldlRecOn (motive := fun t : State => t.chb = s.chb) _ _ rfl fun _ h _ _ => h

/-! ### The end of an operation -/

/-- With no commanded action open there is none to answer. -/
theorem settlePoolCmd_of_no_acts {s : State} (h : s.chb.acts = []) : s.settlePoolCmd = s := by
  unfold State.settlePoolCmd State.endAct
  rw [h]
  exact ite_self s

/-- The status byte that a command leaves when it ends. -/
theorem endPoolOp_status {s : State} {o : PoolOp} (ha : o.auto = false) (h : s.chb.acts = []) (status : Nat) :
    (s.endPoolOp o status).obj .poolResult 0 7 = (status + o.op / 256) % 256 := by
  unfold State.endPoolOp
  rw [ha, if_neg (by decide), settlePoolCmd_of_no_acts (by rw [setResult_chb]; exact h), setResult_status]

@[simp] theorem resumeAuto_none (s : State) : s.resumeAuto none = s := by
  unfold State.resumeAuto
  split
  · contradiction
  · rfl

/-- The last move of an operation that nothing waits for, and that no eviction waits for, ends it. -/
theorem afterMove_last {s : State} {o : PoolOp} (ho : s.poolOp = some o) (hw : o.waiting = none) (hr : o.resume = none)
    (ht : o.todo = []) (pair : Nat × Nat) :
    s.afterMove pair true = s.endPoolOp { o with done := o.done ++ [pair] } o.status := by
  simp [State.afterMove, State.nextMove, ho, hw, hr, ht]

/-- A move with nothing left to copy and nothing to wait for switches (R268). -/
theorem poolMoveSwitch_switches {s : State} {m : Move} (hm : s.move = some m) (hs : s.hostReady m.src = true)
    (hd : s.hostReady m.dst = true) (hc : m.copied ≠ 0) (hy : m.dirty = []) (hw : m.writes = []) (data : HostPage) :
    exec (.poolMoveSwitch data) s = .next ((s.switchMove m).afterMove (m.src, m.dst) true) := by
  change execPoolMoveSwitch data s = _
  simp [execPoolMoveSwitch, hm, hs, hd, hc, hy, hw]

/-! ### The obligation -/

/-- A move of page 1 to page 0 that has copied every granule. -/
def copiedMove : Move := { Move.start 1 0 with copied := 1056 }

/-- That move, for an operation whose OP is 256. -/
def movedForOp256 : State := { State.reset with move := some copiedMove, poolOp := some (PoolOp.start 256 [] 0 false) }

/-- The switch leaves status 1 for that operation, which ends with status 0. -/
theorem poolMoveSwitch_movedForOp256 (data : HostPage) :
    Does (.poolMoveSwitch data) movedForOp256 fun t => t.obj .poolResult 0 7 = 1 := by
  refine ⟨_, poolMoveSwitch_switches (m := copiedMove) rfl rfl rfl (by decide) rfl rfl data, ?_⟩
  rw [afterMove_last (o := PoolOp.start 256 [] 0 false) rfl rfl rfl rfl]
  exact endPoolOp_status rfl rfl 0

/-- Refutes O40: of an operation whose OP is 256, which no command starts but a state can hold, a successful move leaves status 1
in POOL_RESULT where the statement asks for the operation's own, 0. -/
theorem not_poolPagesAndPlace : ¬ Obligations.PoolPagesAndPlace := by
  intro ⟨_, _, h⟩
  obtain ⟨-, hmoved, -⟩ := h movedForOp256 0
  obtain ⟨hswitch, -⟩ := hmoved copiedMove (PoolOp.start 256 [] 0 false) rfl (by decide) rfl rfl rfl
  obtain ⟨t, ht, -, -, -, -, -, hstatus, -⟩ := hswitch ⟨[], []⟩ rfl rfl (by decide) rfl rfl rfl
  obtain ⟨u, hu, hone⟩ := poolMoveSwitch_movedForOp256 ⟨[], []⟩
  obtain rfl : t = u := by simpa using ht.symm.trans hu
  exact absurd ((hstatus rfl).symm.trans hone) (by decide)

end Sys2Proof.Machine
end


section

/-!
# Vector number formats (O18, O23)

A vector instruction reads the fetched state, and a fetch changes no register, tile or standing error, so that what it reads is
what stood before. Each shape of instruction then has one rule: an elementwise one with clean sources leaves the lanes that its
`ElemOp` computes (`CleanElem.lanes`), a conversion leaves what `convertReg` makes of its source (`pends_vcvt`).
-/

namespace Sys2Proof.Machine

/-! ### Lanes, groups and clean registers -/

@[simp] theorem length_tabulate {α : Type} (n : Nat) (f : Nat → α) : (tabulate n f).length = n := by simp [tabulate]

@[simp] theorem map_tabulate {α β : Type} (n : Nat) (f : Nat → α) (g : α → β) :
    (tabulate n f).map g = tabulate n (fun i => g (f i)) := by simp [tabulate]

theorem getD_tabulate {α : Type} {n i : Nat} (h : i < n) (f : Nat → α) (d : α) : (tabulate n f).getD i d = f i := by
  simp [tabulate, h]

/-- A bit vector as wide as the fields packed into it holds them all. -/
theorem toNat_ofNat_packFields {w n : Nat} {l : List Nat} (h : w * l.length = n) :
    (BitVec.ofNat n (packFields w l)).toNat = packFields w l := by
  subst h
  exact Nat.mod_eq_of_lt (packFields_lt w l)

/-- A lane of a register put together from 64 lanes. -/
theorem lane_ofLanes_tabulate {i : Nat} (h : i < 64) (f : Nat → Nat) : lane (ofLanes (tabulate 64 f)) i = f i % 2 ^ 32 := by
  unfold lane ofLanes
  rw [toNat_ofNat_packFields (by rw [length_tabulate]), fieldAt_packFields 32 _ i (by simpa using h), getD_tabulate h]

theorem groups_false : groups (fun _ => false) = 0 := by decide

theorem VReg.bad_of_clean {v : VReg} (h : v.poison = 0) (q : Nat) : v.bad q = false := by simp [VReg.bad, h]

theorem VReg.anyBad_of_clean {v : VReg} (h : v.poison = 0) : v.anyBad = false := by simp [VReg.anyBad, h]

/-! ### What a vector instruction reads after its fetch -/

/-- Accumulators without a failing word are read as they stand. -/
theorem accRead_of_sane {s : State} {k : Nat} (h : ∀ n i, .acc k n i ∉ s.upsets) (tiles : List Nat) :
    s.accRead k tiles = s := by
  refine List.foldlRecOn (motive := fun t => t = s) _ _ rfl fun t ht u hu => ?_
  split
  · split
    next hk => exact absurd (hk.1 ▸ hu) (h _ _)
    next => exact ht
  · exact ht

section Reads
variable {v : Bool} {s : State} {c : CtxId} {w : Low56} (h : Ready v s c w)
include h

theorem fetched_ctx : (s.fetched c).ctx c.key c.ctx.val = s.ctx c.key c.ctx.val := fetched_cx h

theorem fetched_upsets : (s.fetched c).upsets = s.upsets := by
  have hout := (fetch_spec s c.key c.ctx.val h.clean).outside
  unfold State.fetched
  rw [hout]

theorem fetched_tile (n : Nat) : ((s.fetched c).core c.key).tile n = (s.core c.key).tile n := by
  obtain ⟨b, hb, hcore⟩ := (fetch_spec s c.key c.ctx.val h.clean).one.core
  unfold Bookkept at hb
  unfold State.fetched Core.tile
  rw [hcore, Core.setCtx_tiles, hb]

theorem fetched_rowPair : (s.fetched c).rowPair c w = s.rowPair c w := by
  unfold State.rowPair
  rw [fetched_g h]
  rfl

theorem fetched_vsrc (flag : Bool) (n : Nat) : (s.fetched c).vsrc c w flag n = s.vsrc c w flag n := by
  unfold State.vsrc
  rw [fetched_tile h, fetched_rowPair h, fetched_ctx h]

theorem fetched_vdest (m : Word) (r : VReg) : vdest (s.fetched c) c w m r = vdest s c w m r := by
  unfold vdest
  rw [fetched_tile h, fetched_rowPair h, fetched_ctx h]

theorem fetched_rmodes : (s.fetched c).rmodes c w = s.rmodes c w := by
  unfold State.rmodes
  rw [fetched_g h, fetched_g h]
  rfl

theorem fetched_srPoison : (s.fetched c).srPoison c w = s.srPoison c w := by
  unfold State.srPoison
  rw [fetched_g h, fetched_g h]
  rfl

/-- Where every tile is open, the rest of the issue acts on the fetched state. -/
theorem withTiles_open (ht : TilesOpen s c w) (f : State → Body) : withTiles c w (s.fetched c) f = f (s.fetched c) := by
  have hsane : ∀ n i, .acc c.key n i ∉ (s.fetched c).upsets := by simpa only [fetched_upsets h] using ht.sane
  unfold withTiles
  rw [ht.own, accRead_of_sane hsane]

end Reads

/-! ### Elementwise instructions -/

/-- The elementwise instruction `o` issues with the word `w`, and no poison reaches its result: it is legal, its registers are
free and its tiles open, and every source it uses is clean. -/
structure CleanElem (o : ElemOp) (s : State) (c : CtxId) (w : Low56) : Prop where
  ready : Ready true s c w
  tiles : TilesOpen s c w
  free : FreeElem s c w o.useB o.useC
  legal : vLegal o.named o.usesRm o.ok false (o.extra w) w = true
  modes : s.srPoison c w = false
  a : (s.vsrc c w (fTA w) (fVa w)).poison = 0
  b : o.useB = true → (s.vsrc c w (fTB w) (fVb w)).poison = 0
  d : o.useC = true → ((s.cx c).vreg (fVc w)).poison = 0

/-- With clean sources every lane is what the instruction computes of the lanes of its sources, and no group is poisoned. -/
theorem elemResult_clean {o : ElemOp} {w : Low56} {a b d : VReg} (m sel : Word) (rm : Nat → RMode) (ha : a.poison = 0)
    (hb : o.useB = true → b.poison = 0) (hd : o.useC = true → d.poison = 0) :
    (elemResult o w m sel rm false a b d).1 =
      ⟨ofLanes (tabulate 64 fun i => (o.lane w rm sel i (lane a.val i) (lane b.val i) (lane d.val i)).1), 0⟩ := by
  have hbad (q : Nat) : (false || a.bad q || (o.useB && b.bad q) || (o.useC && d.bad q)) = false := by
    have hb' : (o.useB && b.bad q) = false := by simpa using fun u => VReg.bad_of_clean (hb u) q
    have hd' : (o.useC && d.bad q) = false := by simpa using fun u => VReg.bad_of_clean (hd u) q
    rw [VReg.bad_of_clean ha, hb', hd']; rfl
  simp only [elemResult, hbad, groups_false, map_tabulate, Bool.false_eq_true, if_false, apply_ite Prod.fst, ite_self]

/-- An elementwise instruction puts its result in flight for the destination under M. -/
theorem CleanElem.pends {i : Instr} {o : ElemOp} {s : State} {c : CtxId} {w : Low56} (h : CleanElem o s c w)
    (hi : exec i s = execElem o c w s) :
    let m := (s.cx c).mask w
    let r := elemResult o w m ((s.cx c).preg (fVc w % 8)) (s.rmodes c w) false (s.vsrc c w (fTA w) (fVa w))
      (s.vsrc c w (fTB w) (fVb w)) ((s.cx c).vreg (fVc w))
    Pends i s c ⟨[vdest s c w m r.1], r.2⟩ := by
  refine pends_of hi h.ready h.legal h.free ?_
  rw [withTiles_open h.ready h.tiles]
  simp only [fetched_ctx h.ready, fetched_vsrc h.ready, fetched_vdest h.ready, fetched_rmodes h.ready,
    fetched_srPoison h.ready, fetched_pr h.ready, h.modes]
  rfl

/-- An elementwise instruction with clean sources leaves its lanes. -/
theorem CleanElem.lanes {i : Instr} {o : ElemOp} {s : State} {c : CtxId} {w : Low56} (h : CleanElem o s c w)
    (hi : exec i s = execElem o c w s) :
    Lanes i s c w fun n => (o.lane w (s.rmodes c w) ((s.cx c).preg (fVc w % 8)) n (lane (s.vsrc c w (fTA w) (fVa w)).val n)
      (lane (s.vsrc c w (fTB w) (fVb w)).val n) (lane ((s.cx c).vreg (fVc w)).val n)).1 % 2 ^ 32 := by
  refine ⟨_, _, h.pends hi, ?_, fun n hn => ?_⟩
  · rw [elemResult_clean _ _ _ h.a h.b h.d]
  · rw [elemResult_clean _ _ _ h.a h.b h.d, lane_ofLanes_tabulate hn]

/-! ### FP elements of a lane (R108, R148) -/

/-- An FP form of arithmetic, with the field rm or without it. -/
def floatOp (usesRm useC : Bool) (f : FloatFmt → RMode → Nat → Nat → Nat → Nat × Flags) : ElemOp :=
  { fpOp useC f with usesRm := usesRm }

section Floats
variable {i : Instr} {s : State} {c : CtxId} {w : Low56} {usesRm useC : Bool}
  {f : FloatFmt → RMode → Nat → Nat → Nat → Nat × Flags} (h : CleanElem (floatOp usesRm useC f) s c w)
  (hi : exec i s = execElem (floatOp usesRm useC f) c w s)
include h hi

/-- With FS 0 a lane is one FP32 element. -/
theorem CleanElem.lanes_fp32 (hs : fFs w = 0) :
    Lanes i s c w fun n => (f fmtFP32 (s.rmodes c w n) (lane (s.vsrc c w (fTA w) (fVa w)).val n)
      (lane (s.vsrc c w (fTB w) (fVb w)).val n) (lane ((s.cx c).vreg (fVc w)).val n)).1 % 2 ^ 32 := by
  simpa [floatOp, fpOp, fpLane, hs] using h.lanes hi

/-- With FS 1 a lane is two BF16 elements, each in its own mode. -/
theorem CleanElem.lanes_bf16 (hs : fFs w = 1) :
    let x (n : Nat) : Nat := lane (s.vsrc c w (fTA w) (fVa w)).val n
    let y (n : Nat) : Nat := lane (s.vsrc c w (fTB w) (fVb w)).val n
    let z (n : Nat) : Nat := lane ((s.cx c).vreg (fVc w)).val n
    Lanes i s c w fun n =>
      ((f fmtBF16 (s.rmodes c w (2 * n)) (x n % 65536) (y n % 65536) (z n % 65536)).1 +
        (f fmtBF16 (s.rmodes c w (2 * n + 1)) (x n / 65536) (y n / 65536) (z n / 65536)).1 * 65536) % 2 ^ 32 := by
  simpa only [floatOp, fpOp, fpLane, hs, if_true] using h.lanes hi

end Floats

/-- Settles O18: each instruction is elementwise, and its lane function is FP arithmetic on the elements of the lane. -/
theorem vectorFloatLanes : Obligations.VectorFloatLanes := by
  intro s c w hr ht a b d rm x y z two ha
  refine ⟨fun hfree hb => ?_, fun hfree hb hd hsr hl => ?_, fun hfree hsr hl => ?_⟩
  · have elem {usesRm : Bool} (f) (hl : vLegal [(51, 37), (29, 26)] usesRm tilesABD false (fsFloat w) w = true)
        (hsr : s.srPoison c w = false) : CleanElem (floatOp usesRm false f) s c w :=
      ⟨hr, ht, hfree, hl, hsr, ha, fun _ => hb, nofun⟩
    have minMax (f : FloatFmt → Nat → Nat → Nat) := elem (usesRm := false) fun g _ p q _ => (f g p q, flNone)
    refine ⟨fun hsr hl => ?_, fun hl hsr hs => ?_, fun hl hsr hs => ?_⟩
    · have add := elem (fun g m p q _ => fpAdd g m p q) hl hsr
      have sub := elem (fun g m p q _ => fpSub g m p q) hl hsr
      have mul := elem (fun g m p q _ => fpMul g m p q) hl hsr
      exact ⟨fun hs => ⟨add.lanes_fp32 rfl hs, sub.lanes_fp32 rfl hs, mul.lanes_fp32 rfl hs⟩,
        fun hs => ⟨add.lanes_bf16 rfl hs, sub.lanes_bf16 rfl hs, mul.lanes_bf16 rfl hs⟩⟩
    · exact ⟨(minMax fpMin hl hsr).lanes_fp32 rfl hs, (minMax fpMax hl hsr).lanes_fp32 rfl hs⟩
    · exact ⟨(minMax fpMin hl hsr).lanes_bf16 rfl hs, (minMax fpMax hl hsr).lanes_bf16 rfl hs⟩
  · have clean : CleanElem (floatOp true true fpFma) s c w := ⟨hr, ht, hfree, hl, hsr, ha, fun _ => hb, fun _ => hd⟩
    exact ⟨clean.lanes_fp32 rfl, clean.lanes_bf16 rfl⟩
  · have clean (f) : CleanElem (transOp f) s c w := ⟨hr, ht, hfree, hl, hsr, ha, nofun, nofun⟩
    exact ⟨(clean _).lanes rfl, (clean _).lanes rfl, (clean _).lanes rfl, (clean _).lanes rfl⟩

/-! ### Conversions -/

/-- What a conversion with scale bytes `o` writes of g[vc]: a format without scales writes nothing (R184). -/
def scaleWrites (vc : Nat) (o : Option Nat) : List VWrite := o.toList.map fun v => .g vc ⟨BitVec.ofNat 64 v, false⟩

/-- A conversion has scale bytes exactly where its destination is an MX format. -/
theorem convertReg_scales_isSome (fs fd : Nat) (sat : Bool) (rm : Nat → RMode) (src : VReg) (gvc : Nat) (bad : Bool)
    (m : Word) : (convertReg fs fd sat rm src gvc bad m).2.1.isSome = isMx fd := by
  unfold convertReg
  cases isMx fd <;> rfl

/-- A clean VCVT puts the converted register in flight, and the scale bytes that there are. -/
theorem pends_vcvt {s : State} {c : CtxId} {w : Low56} (hr : Ready true s c w) (ht : TilesOpen s c w)
    (hl : vLegal ([(51, 42), (29, 21)] ++ (if usesVc (fFs w) || usesVc (fFd w) then [(36, 32)] else [])) true
      ⟨false, true, false⟩ (cvtCross (fFs w) (fFd w)) (isConvFmt (fFs w) && isConvFmt (fFd w)) w = true)
    (hfree : Free s c ([.v (fVd w), vref (fTA w) (fVa w), .g (fGs w), .g (fGt w)] ++
      (if usesVc (fFs w) || usesVc (fFd w) then [.g (fVc w)] else [])))
    (ha : (s.vsrc c w (fTA w) (fVa w)).poison = 0) (hsr : s.srPoison c w = false)
    (hg : ((s.cx c).greg (fVc w)).poison = false) {m : Word}
    (hm : m = if cvtCross (fFs w) (fFd w) then allLanes else (s.cx c).mask w) {r : VReg × Option Nat × Flags}
    (hconv : r = convertReg (fFs w) (fFd w) (fSat w) (s.rmodes c w) (s.vsrc c w (fTA w) (fVa w))
      ((s.cx c).greg (fVc w)).val.toNat false m) :
    Pends (.vcvt c w) s c ⟨[.v (fVd w) (mergeLanes m ((s.cx c).vreg (fVd w)) r.1)] ++ scaleWrites (fVc w) r.2.1, r.2.2⟩ := by
  have hi : exec (.vcvt c w) s = execVcvt c w s := rfl
  dsimp only [execVcvt] at hi
  refine pends_of hi hr hl hfree ?_
  rw [withTiles_open hr ht]
  simp only [fetched_ctx hr, fetched_vsrc hr, fetched_rmodes hr, fetched_srPoison hr, fetched_g hr, hsr, hg,
    VReg.anyBad_of_clean ha, Bool.and_false, Bool.or_false]
  unfold State.cx at hm hconv ⊢
  rw [← hm, ← hconv]
  rcases r with ⟨_, _ | _, _⟩ <;> rfl

/-- Element `k` of VPACK's 128: 32 lanes of `a` and 32 of `b` in turn, twice (R153). -/
def packElem (a b : VReg) (k : Nat) : Elem :=
  let v := if k / 32 % 2 = 0 then lane a.val (k / 64 * 32 + k % 32) else lane b.val (k / 64 * 32 + k % 32)
  ⟨f32 v, false, v⟩

/-- An element of VPACK as the model orders them, the sources clean. -/
theorem packElem_eq (a b : VReg) (k : Nat) :
    (let p := if k / 32 % 2 = 0 then (lane a.val (k / 64 * 32 + k % 32), false)
      else (lane b.val (k / 64 * 32 + k % 32), false)
    (⟨f32 p.1, p.2, p.1⟩ : Elem)) = packElem a b k := by
  unfold packElem
  split <;> rfl

/-- A clean VPACK puts the 128 converted elements in flight. -/
theorem pends_vpack {s : State} {c : CtxId} {w : Low56} (hr : Ready true s c w) (ht : TilesOpen s c w)
    (hl : vLegal [(51, 37), (25, 22)] true ⟨false, true, true⟩ true (fFd w == 1 || fFd w == 2) w = true)
    (hfree : Free s c [.v (fVd w), vref (fTA w) (fVa w), vref (fTB w) (fVb w), .g (fGs w), .g (fGt w)])
    (ha : (s.vsrc c w (fTA w) (fVa w)).poison = 0) (hb : (s.vsrc c w (fTB w) (fVb w)).poison = 0)
    (hsr : s.srPoison c w = false) :
    let r := convertElems (fFd w) (s.rmodes c w) false []
      (tabulate 128 (packElem (s.vsrc c w (fTA w) (fVa w)) (s.vsrc c w (fTB w) (fVb w))))
    Pends (.vpack c w) s c ⟨[.v (fVd w) ⟨BitVec.ofNat 2048 (packFields 16 r.elems), 0⟩], r.flags⟩ := by
  refine pends_of (show exec (.vpack c w) s = execVpack c w s from rfl) hr hl hfree ?_
  rw [withTiles_open hr ht]
  simp only [fetched_vsrc hr, fetched_rmodes hr, fetched_srPoison hr, hsr, VReg.bad_of_clean ha, VReg.bad_of_clean hb,
    VReg.anyBad_of_clean ha, VReg.anyBad_of_clean hb, Bool.or_false, groups_false, map_tabulate, packElem_eq]

/-- The exponent bytes that VBEXP takes from register `v`: of four blocks of BF16, or of two of FP32 (R124). -/
def exponentBytes (fs : Nat) (v : VReg) : List Nat :=
  tabulate (if fs = 1 then 4 else 2) fun b => boreByte (tabulate 32 fun i =>
    (if fs = 1 then fmtBF16 else fmtFP32).decode (fieldAt (if fs = 1 then 16 else 32) v.val.toNat (32 * b + i)))

/-- VBEXP puts the exponent bytes in flight, or a poisoned 0. -/
theorem pends_vbexp {s : State} {c : CtxId} {w : Low56} (hr : Ready true s c w)
    (hl : vLegal [(46, 42), (29, 26), (4, 0)] false noTiles true (decide (fFs w ≤ 1)) w = true)
    (hfree : Free s c [.v (fVa w), .g (fGt w)]) :
    let v := (s.cx c).vreg (fVa w)
    Pends (.vbexp c w) s c ⟨[.g (fGt w) ⟨BitVec.ofNat 64
      (if v.poison = 0 then packFields 8 (exponentBytes (fFs w) v) else 0), v.poison != 0⟩], 0⟩ := by
  refine pends_of (show exec (.vbexp c w) s = execVbexp c w s from rfl) hr hl hfree ?_
  simp only [fetched_vsrc hr]
  change Body.done ((s.fetched c).pend c ⟨[.g (fGt w) ⟨BitVec.ofNat 64 (packFields 8
    (if ((s.cx c).vreg (fVa w)).poison != 0 then [] else exponentBytes (fFs w) ((s.cx c).vreg (fVa w)))),
    ((s.cx c).vreg (fVa w)).poison != 0⟩], 0⟩) = _
  simp only [apply_ite (packFields 8), bne_iff_ne, ne_eq, ite_not]
  rfl

/-- Two fields. -/
theorem packFields_tabulate_two (n : Nat) (f : Nat → Nat) :
    packFields n (tabulate 2 f) = f 0 % 2 ^ n + 2 ^ n * (f 1 % 2 ^ n) := rfl

/-- Settles O23: VCVT writes scale bytes exactly for an MX destination; VPACK and VBEXP have one result each. -/
theorem vectorConversions : Obligations.VectorConversions := by
  intro s c w hr ht a b g vc cross
  refine ⟨fun hl hfree ha hsr hg => ?_, pends_vpack hr ht, fun hl hfree => ?_⟩
  · intro m r
    have hp : Pends (.vcvt c w) s c
        ⟨[.v (fVd w) (mergeLanes m ((s.cx c).vreg (fVd w)) r.1)] ++ scaleWrites (fVc w) r.2.1, r.2.2⟩ :=
      pends_vcvt hr ht hl hfree ha hsr hg rfl rfl
    have hscales : r.2.1.isSome = isMx (fFd w) := convertReg_scales_isSome ..
    cases ho : r.2.1 with
    | none =>
      rw [ho] at hp hscales
      exact ⟨fun _ => hp, fun hmx => absurd (hscales.trans hmx) (by decide)⟩
    | some v =>
      rw [ho] at hp hscales
      exact ⟨fun hmx => absurd (hscales.trans hmx) (by simp), fun _ => ⟨v, rfl, hp⟩⟩
  · have hp := pends_vbexp hr hl hfree
    refine ⟨fun hs => ?_, fun hs => ?_⟩
    · simpa [exponentBytes, hs, packFields_tabulate_two, f32, lane] using hp
    · simpa [exponentBytes, hs] using hp

end Sys2Proof.Machine
end


section

/-!
# Host accesses (O48)

The statement fails at its clause about a lost link, which asks that LINK_LOSSES advance by 1 in every state. The object store keeps
each element under one number, its object's code, index and element joined (`Obj.key`), and the wake of a core that lends adds
its lending time to LEND_TIME at the index of the core's die. A core's number has no bound in a state: one that names a die far beyond
the 48 of the module makes that number the one of LINK_LOSSES of link 0. The failed write of the lost link releases a host valve, the
valve wakes such a core, and its lending time adds to the losses.
-/

namespace Sys2Proof.Machine

/-- The number of a core on the die at whose index LEND_TIME takes the place of LINK_LOSSES of link 0. -/
def aliasedCore : Nat := (Obj.linkLosses.info.code - Obj.lendTime.info.code) * 1024 * 256

/-- A core that lends since time 0 while its context 0 waits on host valve 0 (09 R295). -/
def lendingCore : Core :=
  { Core.zero with lendSince := some 0, c0 := { Ctx.zero with st := .waiting, wait := some (.hostValve 0) } }

/-- At time 1 that core lends; the opening of host valve 0 waits for aperture write 7, which link 0 carries (09 R288). -/
def openingAwaitsWrite : State :=
  { State.reset with
    gtc := 1
    cores := [(aliasedCore, lendingCore)]
    hst := { HostIf.zero with
      links := [(0, { PcieLink.zero with up := true })]
      apWrites := [⟨7, 0, true, 0, []⟩]
      hvPend := [⟨0, 0, 0, [7]⟩] } }

/-- The loss of link 0 counts itself and the core's lending time of 1 in LINK_LOSSES. -/
theorem pcieLinkLoss_openingAwaitsWrite :
    Does (.pcieLinkLoss 0) openingAwaitsWrite fun t => t.obj .linkLosses 0 = 2 :=
  ⟨_, rfl, by decide +kernel⟩

/-- Refutes O48: with a lending core whose number is beyond the module's 12,288, which no command names but a state can hold, the
loss of a link leaves 2 in LINK_LOSSES where the statement asks for 1. -/
theorem not_hostAccesses : ¬ Obligations.HostAccesses := by
  intro h
  obtain ⟨-, -, -, -, hloss, -⟩ := h openingAwaitsWrite 0
  obtain ⟨t, ht, -, -, hone, -⟩ := hloss rfl
  obtain ⟨u, hu, htwo⟩ := pcieLinkLoss_openingAwaitsWrite
  obtain rfl : t = u := by simpa using ht.symm.trans hu
  exact absurd (hone.symm.trans htwo) (by decide)

end Sys2Proof.Machine
end
